-- ==== Sys2Proof/Word.lean ====
section
/-! DEFINITION. The word types of the block and the plain sparse table the state is built from.

A register word is 32 bits (R379); memory is byte addressed. `Tab` is the one sparse map of the model: a list of
(key, value) pairs whose keys strictly rise, so that equal tables are equal data. -/

namespace Sys2Proof

/-- A register word (R379). -/
abbrev Word := BitVec 32

/-- One byte of memory. -/
abbrev Byte := BitVec 8

/-- A 32-bit word from a natural number, taken modulo `2^32`. -/
def w32 (n : Nat) : Word := BitVec.ofNat 32 n

/-- A 32-bit word from an integer, two's complement. -/
def wInt (i : Int) : Word := BitVec.ofInt 32 i

/-- A sparse table: keys strictly rise. -/
abbrev Tab (α : Type) := List (Nat × α)

namespace Tab

variable {α : Type}

/-- The entry of a key, if there is one. -/
def find? : Tab α → Nat → Option α
  | [], _ => none
  | (k, v) :: r, i => if k = i then some v else find? r i

/-- Write an entry, keeping the keys in rising order. -/
def set : Tab α → Nat → α → Tab α
  | [], i, v => [(i, v)]
  | (k, u) :: r, i, v =>
    if i < k then (i, v) :: (k, u) :: r
    else if i = k then (i, v) :: r
    else (k, u) :: set r i v

/-- Remove an entry. -/
def erase : Tab α → Nat → Tab α
  | [], _ => []
  | (k, u) :: r, i => if k = i then erase r i else (k, u) :: erase r i

/-- The entry of a key, or the value an absent entry stands for. -/
def get (t : Tab α) (d : α) (i : Nat) : α := (t.find? i).getD d

/-- Write an entry; writing the value an absent entry stands for removes it. -/
def put [DecidableEq α] (t : Tab α) (d : α) (i : Nat) (v : α) : Tab α :=
  if v = d then t.erase i else t.set i v

/-- Remove every entry whose key the test names. -/
def drop (t : Tab α) (p : Nat → Bool) : Tab α := t.filter fun e => !p e.1

/-- The keys strictly rise. -/
def wf : Tab α → Bool
  | [] => true
  | [_] => true
  | (k, _) :: (k', v') :: r => decide (k < k') && wf ((k', v') :: r)

/-- The first free key below a limit. -/
def firstFree (t : Tab α) (limit : Nat) : Option Nat :=
  (List.range limit).find? fun i => (t.find? i).isNone

end Tab

/-- Signed difference `a - b` at width `w` (R21): positive means `a` is later. -/
def sdiff (w : Nat) (a b : Nat) : Int :=
  (BitVec.ofNat w a - BitVec.ofNat w b).toInt

/-- Round a quotient to the nearest integer, a half upward. `d` is positive. -/
def divRound (n : Int) (d : Int) : Int := (2 * n + d) / (2 * d)

/-- The bits `[lo + n - 1 : lo]` of a natural number. -/
def bitsOf (x lo n : Nat) : Nat := x / 2 ^ lo % 2 ^ n

/-- One bit of a natural number. -/
def bitOf (x i : Nat) : Bool := x.testBit i

/-- A truth value as a bit. -/
def b2n (b : Bool) : Nat := if b then 1 else 0

/-- A count that stops at a limit. -/
def satAdd (limit x k : Nat) : Nat := min limit (x + k)

end Sys2Proof
end

