-- ==== Sys2Proof/Machine/Crc.lean ====
section
/-! DEFINITION. The cyclic redundancy checks of the spec over byte lists, and the little-endian packing of words and numbers. -/

namespace Sys2Proof.Machine

/-- One shift of the reflected CRC-32 (R188). -/
def crc32Bit (c : Word) : Word := if c.getLsbD 0 then (c >>> 1) ^^^ 0xEDB88320#32 else c >>> 1

/-- The CRC-32 register after one byte. -/
def crc32Byte (c : Word) (b : Nat) : Word :=
  crc32Bit (crc32Bit (crc32Bit (crc32Bit (crc32Bit (crc32Bit (crc32Bit (crc32Bit (c ^^^ w32 (b % 256)))))))))

/-- CRC-32 of R188: polynomial 0x04C1_1DB7 reflected, initial value and final XOR 0xFFFF_FFFF. -/
def crc32 (bs : List Nat) : Word := (bs.foldl crc32Byte 0xFFFFFFFF#32) ^^^ 0xFFFFFFFF#32

/-- One shift of the CRC-16 register (R50, R183). -/
def crc16Bit (c : Nat) : Nat := if c ≥ 2 ^ 15 then (c * 2 % 2 ^ 16) ^^^ 0x1021 else c * 2

/-- The CRC-16 register after one byte. -/
def crc16Byte (c b : Nat) : Nat :=
  crc16Bit (crc16Bit (crc16Bit (crc16Bit (crc16Bit (crc16Bit (crc16Bit (crc16Bit (c ^^^ (b % 256 * 256)))))))))

/-- CRC-16: polynomial 0x1021, initial value 0xFFFF, no reflection, no final XOR. -/
def crc16 (bs : List Nat) : Nat := bs.foldl crc16Byte 0xFFFF

/-- `n` bytes of a number, least significant first. -/
def leBytes : Nat → Nat → List Nat
  | 0, _ => []
  | n + 1, x => x % 256 :: leBytes n (x / 256)

/-- Bytes of a two's-complement number, little-endian. -/
def leInt (n : Nat) (i : Int) : List Nat := leBytes n (i % ((256 ^ n : Nat) : Int)).toNat

/-- `n` bytes of a number, most significant first. -/
def beBytes (n x : Nat) : List Nat := (leBytes n x).reverse

/-- The number of a byte list, least significant first. -/
def leNat : List Nat → Nat
  | [] => 0
  | b :: r => b % 256 + 256 * leNat r

/-- The number of a byte list, most significant first. -/
def beNat (bs : List Nat) : Nat := leNat bs.reverse

/-- The `n`-byte little-endian number at an offset of a byte list. -/
def leAt (bs : List Nat) (off n : Nat) : Nat := leNat ((bs.drop off).take n)

/-- The `n`-byte big-endian number at an offset of a byte list. -/
def beAt (bs : List Nat) (off n : Nat) : Nat := beNat ((bs.drop off).take n)

/-- The `n`-byte little-endian two's-complement number at an offset. -/
def leIntAt (bs : List Nat) (off n : Nat) : Int := (BitVec.ofNat (8 * n) (leAt bs off n)).toInt

/-- The bytes of a word, least significant first. -/
def wordBytes (w : Word) : List Nat := leBytes 4 w.toNat

/-- Replace bytes at an offset. -/
def putBytes (bs : List Nat) (off : Nat) (new : List Nat) : List Nat :=
  bs.take off ++ new ++ bs.drop (off + new.length)

end Sys2Proof.Machine
end

