-- ==== Sys2Proof/Machine/RegMap.lean ====
section
/-! DEFINITION. The register map: every block register of the spec's register tables, with its access code (R5),
the value of its Reset column (R6) and the bits a write reaches (R7), page by page (R378), and a name for each address.

An address here is the offset from `0x4000_0000`: page `n` begins at `n * 0x1000` (R378). The pages of one block that has two
instances (LNK, CAN) share one layout and take the instance as an argument. A register whose Reset column names a source
(fuse, strap, NV, random) has 0 here and its home elsewhere in the state or in `Config`. -/

namespace Sys2Proof.Machine

/-- The access codes of R5. -/
inductive Acc where
  | rw | ro | wo | w1c | w1s | rc | rwl
  deriving DecidableEq, Repr

/-- One row of a register table: `count` words `stride` bytes apart from offset `off` of the page. -/
structure RegRow where
  off    : Nat
  stride : Nat
  count  : Nat
  acc    : Acc
  reset  : Word
  mask   : Word
  deriving DecidableEq, Repr

/-- The row covers the offset. -/
def RegRow.covers (r : RegRow) (o : Nat) : Bool :=
  decide (r.off ≤ o) && decide (o < r.off + r.stride * r.count) && (o - r.off) % r.stride == 0

/-- `TIM.ODO_LO`. -/
abbrev Reg.TIM_ODO_LO : Nat := 0x6040
/-- `TIM.ODO_HI`. -/
abbrev Reg.TIM_ODO_HI : Nat := 0x6044
/-- `TIM.SNAP_ODO_LO`. -/
abbrev Reg.TIM_SNAP_ODO_LO : Nat := 0x6048
/-- `TIM.SNAP_ODO_HI`. -/
abbrev Reg.TIM_SNAP_ODO_HI : Nat := 0x604c
/-- `TIM.SNAP_PT_SECL`. -/
abbrev Reg.TIM_SNAP_PT_SECL : Nat := 0x6050
/-- `TIM.SNAP_PT_SECH`. -/
abbrev Reg.TIM_SNAP_PT_SECH : Nat := 0x6054
/-- `TIM.SNAP_PT_NS`. -/
abbrev Reg.TIM_SNAP_PT_NS : Nat := 0x6058
/-- `TIM.SNAP_CLKD0_SECL`. -/
abbrev Reg.TIM_SNAP_CLKD0_SECL : Nat := 0x605c
/-- `TIM.SNAP_CLKD0_SECH`. -/
abbrev Reg.TIM_SNAP_CLKD0_SECH : Nat := 0x6060
/-- `TIM.SNAP_CLKD0_NS`. -/
abbrev Reg.TIM_SNAP_CLKD0_NS : Nat := 0x6064
/-- `TIM.SNAP_CLKD1_SECL`. -/
abbrev Reg.TIM_SNAP_CLKD1_SECL : Nat := 0x6068
/-- `TIM.SNAP_CLKD1_SECH`. -/
abbrev Reg.TIM_SNAP_CLKD1_SECH : Nat := 0x606c
/-- `TIM.SNAP_CLKD1_NS`. -/
abbrev Reg.TIM_SNAP_CLKD1_NS : Nat := 0x6070
/-- `TIM.SNAP_CLKD2_SECL`. -/
abbrev Reg.TIM_SNAP_CLKD2_SECL : Nat := 0x6074
/-- `TIM.SNAP_CLKD2_SECH`. -/
abbrev Reg.TIM_SNAP_CLKD2_SECH : Nat := 0x6078
/-- `TIM.SNAP_CLKD2_NS`. -/
abbrev Reg.TIM_SNAP_CLKD2_NS : Nat := 0x607c
/-- `TIM.SNAP_CYCLE`. -/
abbrev Reg.TIM_SNAP_CYCLE : Nat := 0x6080
/-- `TIM.SNAP_ANGLE`. -/
abbrev Reg.TIM_SNAP_ANGLE : Nat := 0x6084
/-- `TIM.PLANT_CFG`. -/
abbrev Reg.TIM_PLANT_CFG : Nat := 0x6090
/-- `TIM.PLANT_SLEW_LIM`. -/
abbrev Reg.TIM_PLANT_SLEW_LIM : Nat := 0x6094
/-- `TIM.PLANT_RESID`. -/
abbrev Reg.TIM_PLANT_RESID : Nat := 0x6098
/-- `TIM.PPS_IN_CFG`. -/
abbrev Reg.TIM_PPS_IN_CFG : Nat := 0x60a0
/-- `TIM.PPS_IN_SEQ`. -/
abbrev Reg.TIM_PPS_IN_SEQ : Nat := 0x60a4
/-- `TIM.PPS_IN_ODO_LO`. -/
abbrev Reg.TIM_PPS_IN_ODO_LO : Nat := 0x60a8
/-- `TIM.PPS_IN_ODO_HI`. -/
abbrev Reg.TIM_PPS_IN_ODO_HI : Nat := 0x60ac
/-- `TIM.PPS_IN_PT_NS`. -/
abbrev Reg.TIM_PPS_IN_PT_NS : Nat := 0x60b0
/-- `TIM.PPS_OUT_CFG`. -/
abbrev Reg.TIM_PPS_OUT_CFG : Nat := 0x60c0
/-- `TIM.PPS_OUT_WIDTH`. -/
abbrev Reg.TIM_PPS_OUT_WIDTH : Nat := 0x60c4
/-- `TIM.PPS_OUT_OFS`. -/
abbrev Reg.TIM_PPS_OUT_OFS : Nat := 0x60c8
/-- `GAU.GAU_CFG`. -/
abbrev Reg.GAU_GAU_CFG : Nat := 0x7040
/-- `GAU.GAU_STAT`. -/
abbrev Reg.GAU_GAU_STAT : Nat := 0x7044
/-- `GAU.FREQ`. -/
abbrev Reg.GAU_FREQ : Nat := 0x7048
/-- `GAU.ANGLE`. -/
abbrev Reg.GAU_ANGLE : Nat := 0x704c
/-- `GAU.CYCLE`. -/
abbrev Reg.GAU_CYCLE : Nat := 0x7050
/-- `GAU.SNAP_ANGLE`. -/
abbrev Reg.GAU_SNAP_ANGLE : Nat := 0x7054
/-- `GAU.SNAP_CYCLE`. -/
abbrev Reg.GAU_SNAP_CYCLE : Nat := 0x7058
/-- `GAU.SNAP_FREQ`. -/
abbrev Reg.GAU_SNAP_FREQ : Nat := 0x705c
/-- `GAU.SNAP_ODO_LO`. -/
abbrev Reg.GAU_SNAP_ODO_LO : Nat := 0x7060
/-- `GAU.SNAP_ODO_HI`. -/
abbrev Reg.GAU_SNAP_ODO_HI : Nat := 0x7064
/-- `GAU.PHASE_ERR`. -/
abbrev Reg.GAU_PHASE_ERR : Nat := 0x7068
/-- `GAU.XING_ODO_LO`. -/
abbrev Reg.GAU_XING_ODO_LO : Nat := 0x706c
/-- `GAU.XING_ODO_HI`. -/
abbrev Reg.GAU_XING_ODO_HI : Nat := 0x7070
/-- `GAU.CYC_ORIGIN_L`. -/
abbrev Reg.GAU_CYC_ORIGIN_L : Nat := 0x7074
/-- `GAU.CYC_ORIGIN_H`. -/
abbrev Reg.GAU_CYC_ORIGIN_H : Nat := 0x7078
/-- `GAU.CYC_BIAS`. -/
abbrev Reg.GAU_CYC_BIAS : Nat := 0x707c
/-- `GAU.CYC_BIAS_NEXT`. -/
abbrev Reg.GAU_CYC_BIAS_NEXT : Nat := 0x7080
/-- `GAU.CYC_BIAS_AT`. -/
abbrev Reg.GAU_CYC_BIAS_AT : Nat := 0x7084
/-- `GAU.CYC_OFFSET`. -/
abbrev Reg.GAU_CYC_OFFSET : Nat := 0x7088
/-- `GAU.SLEW_TH`. -/
abbrev Reg.GAU_SLEW_TH : Nat := 0x708c
/-- `GAU.HOLDOVER`. -/
abbrev Reg.GAU_HOLDOVER : Nat := 0x7090
/-- `GAU.SWEEP_ANGLE`. -/
abbrev Reg.GAU_SWEEP_ANGLE : Nat := 0x7094
/-- `GAU.SWEEP_NEXT`. -/
abbrev Reg.GAU_SWEEP_NEXT : Nat := 0x7098
/-- `GAU.WM_TGT_CYCLE`. -/
abbrev Reg.GAU_WM_TGT_CYCLE : Nat := 0x70a0
/-- `GAU.WM_TGT_ANGLE`. -/
abbrev Reg.GAU_WM_TGT_ANGLE : Nat := 0x70a4
/-- `GAU.WM_CTRL`. -/
abbrev Reg.GAU_WM_CTRL : Nat := 0x70a8
/-- `GAU.WM_CMD`. -/
abbrev Reg.GAU_WM_CMD : Nat := 0x70ac
/-- `GAU.WM_HANDLE`. -/
abbrev Reg.GAU_WM_HANDLE : Nat := 0x70b0
/-- `GAU.WM_COUNT`. -/
abbrev Reg.GAU_WM_COUNT : Nat := 0x70b4
/-- `GAU.WM_FIFO`. -/
abbrev Reg.GAU_WM_FIFO : Nat := 0x70b8
/-- `GAU.WM_FIFO_INFO`. -/
abbrev Reg.GAU_WM_FIFO_INFO : Nat := 0x70bc
/-- `GAU.WM_GPIO`. -/
abbrev Reg.GAU_WM_GPIO : Nat := 0x70c0
/-- `GAU.CYC_ERA`. -/
abbrev Reg.GAU_CYC_ERA : Nat := 0x70c4
/-- `LNK.LNK_CFG` of instance `l`. -/
abbrev Reg.LNK_LNK_CFG (l : Nat) : Nat := (8 + l) * 0x1000 + 0x40
/-- `LNK.LNK_STAT` of instance `l`. -/
abbrev Reg.LNK_LNK_STAT (l : Nat) : Nat := (8 + l) * 0x1000 + 0x44
/-- `LNK.SF_CYCLE` of instance `l`. -/
abbrev Reg.LNK_SF_CYCLE (l : Nat) : Nat := (8 + l) * 0x1000 + 0x48
/-- `LNK.CH_CUR` of instance `l`. -/
abbrev Reg.LNK_CH_CUR (l : Nat) : Nat := (8 + l) * 0x1000 + 0x4c
/-- `LNK.BCN_ODO_LO` of instance `l`. -/
abbrev Reg.LNK_BCN_ODO_LO (l : Nat) : Nat := (8 + l) * 0x1000 + 0x50
/-- `LNK.BCN_ODO_HI` of instance `l`. -/
abbrev Reg.LNK_BCN_ODO_HI (l : Nat) : Nat := (8 + l) * 0x1000 + 0x54
/-- `LNK.SMP_ODO_LO` of instance `l`. -/
abbrev Reg.LNK_SMP_ODO_LO (l : Nat) : Nat := (8 + l) * 0x1000 + 0x58
/-- `LNK.SMP_ODO_HI` of instance `l`. -/
abbrev Reg.LNK_SMP_ODO_HI (l : Nat) : Nat := (8 + l) * 0x1000 + 0x5c
/-- `LNK.TX_FRAMES` of instance `l`. -/
abbrev Reg.LNK_TX_FRAMES (l : Nat) : Nat := (8 + l) * 0x1000 + 0x60
/-- `LNK.RX_OK` of instance `l`. -/
abbrev Reg.LNK_RX_OK (l : Nat) : Nat := (8 + l) * 0x1000 + 0x64
/-- `LNK.RX_CRC` of instance `l`. -/
abbrev Reg.LNK_RX_CRC (l : Nat) : Nat := (8 + l) * 0x1000 + 0x68
/-- `LNK.RX_MIC` of instance `l`. -/
abbrev Reg.LNK_RX_MIC (l : Nat) : Nat := (8 + l) * 0x1000 + 0x6c
/-- `LNK.RX_REJECT` of instance `l`. -/
abbrev Reg.LNK_RX_REJECT (l : Nat) : Nat := (8 + l) * 0x1000 + 0x70
/-- `LNK.TX_CAL` of instance `l`. -/
abbrev Reg.LNK_TX_CAL (l : Nat) : Nat := (8 + l) * 0x1000 + 0x74
/-- `LNK.LANE_Q` of instance `l`. -/
abbrev Reg.LNK_LANE_Q (l i : Nat) : Nat := (8 + l) * 0x1000 + 0x80 + 4 * i
/-- `NOD.NOD_CFG`. -/
abbrev Reg.NOD_NOD_CFG : Nat := 0xa040
/-- `NOD.NODE_FORGET`. -/
abbrev Reg.NOD_NODE_FORGET : Nat := 0xa044
/-- `NOD.CAP_MAXAGE`. -/
abbrev Reg.NOD_CAP_MAXAGE : Nat := 0xa048
/-- `NOD.LANE_LOSS_TH`. -/
abbrev Reg.NOD_LANE_LOSS_TH : Nat := 0xa04c
/-- `NOD.PLAN_CMD`. -/
abbrev Reg.NOD_PLAN_CMD : Nat := 0xa050
/-- `NOD.PLAN_ADDR`. -/
abbrev Reg.NOD_PLAN_ADDR : Nat := 0xa054
/-- `NOD.PLAN_VER`. -/
abbrev Reg.NOD_PLAN_VER : Nat := 0xa058
/-- `NOD.NOD_HANDLE`. -/
abbrev Reg.NOD_NOD_HANDLE : Nat := 0xa05c
/-- `NOD.NOD_INDEX`. -/
abbrev Reg.NOD_NOD_INDEX : Nat := 0xa060
/-- `NOD.JOINED_MASK`. -/
abbrev Reg.NOD_JOINED_MASK : Nat := 0xa064
/-- `NOD.PRESENT_MASK`. -/
abbrev Reg.NOD_PRESENT_MASK : Nat := 0xa068
/-- `NOD.STALE_MASK`. -/
abbrev Reg.NOD_STALE_MASK : Nat := 0xa06c
/-- `NOD.LOST_MASK`. -/
abbrev Reg.NOD_LOST_MASK : Nat := 0xa070
/-- `NOD.CH_MASK_LO`. -/
abbrev Reg.NOD_CH_MASK_LO : Nat := 0xa074
/-- `NOD.CH_MASK_HI`. -/
abbrev Reg.NOD_CH_MASK_HI : Nat := 0xa078
/-- `NOD.EPOCH`. -/
abbrev Reg.NOD_EPOCH : Nat := 0xa07c
/-- `NOD.CAP_DONE`. -/
abbrev Reg.NOD_CAP_DONE : Nat := 0xa080
/-- `NOD.CAP_ABANDON`. -/
abbrev Reg.NOD_CAP_ABANDON : Nat := 0xa084
/-- `NOD.CAP_REFUSED`. -/
abbrev Reg.NOD_CAP_REFUSED : Nat := 0xa088
/-- `NOD.DISC_HI`. -/
abbrev Reg.NOD_DISC_HI : Nat := 0xa08c
/-- `NOD.DISC_LO`. -/
abbrev Reg.NOD_DISC_LO : Nat := 0xa090
/-- `NOD.NODE_STAT`, element `i`. -/
abbrev Reg.NOD_NODE_STAT (i : Nat) : Nat := 0xa100 + 4 * i
/-- `NOD.NODE_DET`, element `i`. -/
abbrev Reg.NOD_NODE_DET (i : Nat) : Nat := 0xa180 + 4 * i
/-- `SWP.SWP_CFG`. -/
abbrev Reg.SWP_SWP_CFG : Nat := 0xb040
/-- `SWP.SWP_STAT`. -/
abbrev Reg.SWP_SWP_STAT : Nat := 0xb044
/-- `SWP.REC_CYCLE`. -/
abbrev Reg.SWP_REC_CYCLE : Nat := 0xb048
/-- `SWP.REC_BASE`. -/
abbrev Reg.SWP_REC_BASE : Nat := 0xb04c
/-- `SWP.V_LO`. -/
abbrev Reg.SWP_V_LO : Nat := 0xb050
/-- `SWP.V_HI`. -/
abbrev Reg.SWP_V_HI : Nat := 0xb054
/-- `SWP.JUMP_TH`. -/
abbrev Reg.SWP_JUMP_TH : Nat := 0xb058
/-- `SWP.STUCK_N`. -/
abbrev Reg.SWP_STUCK_N : Nat := 0xb05c
/-- `SWP.STUCK_DI`. -/
abbrev Reg.SWP_STUCK_DI : Nat := 0xb060
/-- `SWP.FREE_DI`. -/
abbrev Reg.SWP_FREE_DI : Nat := 0xb064
/-- `SWP.T_LIM`. -/
abbrev Reg.SWP_T_LIM : Nat := 0xb068
/-- `SWP.T_STEP_DEV`. -/
abbrev Reg.SWP_T_STEP_DEV : Nat := 0xb06c
/-- `SWP.SUM_TH`. -/
abbrev Reg.SWP_SUM_TH : Nat := 0xb070
/-- `SWP.R_LINK`. -/
abbrev Reg.SWP_R_LINK : Nat := 0xb074
/-- `SWP.WIRE_CFG`. -/
abbrev Reg.SWP_WIRE_CFG : Nat := 0xb078
/-- `SWP.WIRE_DI`. -/
abbrev Reg.SWP_WIRE_DI : Nat := 0xb07c
/-- `SWP.OWT_CFG`. -/
abbrev Reg.SWP_OWT_CFG : Nat := 0xb080
/-- `SWP.OWT_ROUTINE`. -/
abbrev Reg.SWP_OWT_ROUTINE : Nat := 0xb084
/-- `SWP.WIRE_HOLDOFF`. -/
abbrev Reg.SWP_WIRE_HOLDOFF : Nat := 0xb088
/-- `SWP.WIRE_Q_NODE`. -/
abbrev Reg.SWP_WIRE_Q_NODE : Nat := 0xb08c
/-- `SWP.WIRE_SUS`. -/
abbrev Reg.SWP_WIRE_SUS : Nat := 0xb090
/-- `SWP.WIRE_CONF`. -/
abbrev Reg.SWP_WIRE_CONF : Nat := 0xb094
/-- `SWP.WIRE_CMD`. -/
abbrev Reg.SWP_WIRE_CMD : Nat := 0xb098
/-- `SWP.WIRE_NODES`. -/
abbrev Reg.SWP_WIRE_NODES : Nat := 0xb09c
/-- `SWP.BF_LATE`. -/
abbrev Reg.SWP_BF_LATE : Nat := 0xb0a0
/-- `SWP.BF_HIST`. -/
abbrev Reg.SWP_BF_HIST : Nat := 0xb0a4
/-- `SWP.BF_DROP`. -/
abbrev Reg.SWP_BF_DROP : Nat := 0xb0a8
/-- `SWP.DUP_MISMATCH`. -/
abbrev Reg.SWP_DUP_MISMATCH : Nat := 0xb0ac
/-- `SWP.OWT_RUN`. -/
abbrev Reg.SWP_OWT_RUN : Nat := 0xb0b0
/-- `SNS.SNS_CFG`. -/
abbrev Reg.SNS_SNS_CFG : Nat := 0xc040
/-- `SNS.GAIN_A`. -/
abbrev Reg.SNS_GAIN_A : Nat := 0xc044
/-- `SNS.OFS_A`. -/
abbrev Reg.SNS_OFS_A : Nat := 0xc048
/-- `SNS.DLY_A`. -/
abbrev Reg.SNS_DLY_A : Nat := 0xc04c
/-- `SNS.GAIN_B`. -/
abbrev Reg.SNS_GAIN_B : Nat := 0xc050
/-- `SNS.OFS_B`. -/
abbrev Reg.SNS_OFS_B : Nat := 0xc054
/-- `SNS.DLY_B`. -/
abbrev Reg.SNS_DLY_B : Nat := 0xc058
/-- `SNS.GAIN_V`. -/
abbrev Reg.SNS_GAIN_V : Nat := 0xc05c
/-- `SNS.OFS_V`. -/
abbrev Reg.SNS_OFS_V : Nat := 0xc060
/-- `SNS.DLY_V`. -/
abbrev Reg.SNS_DLY_V : Nat := 0xc064
/-- `SNS.OVR_TH`. -/
abbrev Reg.SNS_OVR_TH : Nat := 0xc068
/-- `SNS.I_DIFF`. -/
abbrev Reg.SNS_I_DIFF : Nat := 0xc06c
/-- `SNS.SNS_STAT`. -/
abbrev Reg.SNS_SNS_STAT : Nat := 0xc070
/-- `SNS.I_A_LIVE`. -/
abbrev Reg.SNS_I_A_LIVE : Nat := 0xc074
/-- `SNS.I_B_LIVE`. -/
abbrev Reg.SNS_I_B_LIVE : Nat := 0xc078
/-- `SNS.V_LIVE`. -/
abbrev Reg.SNS_V_LIVE : Nat := 0xc07c
/-- `SNS.LIVE_ODO`. -/
abbrev Reg.SNS_LIVE_ODO : Nat := 0xc080
/-- `SNS.RAW_A`. -/
abbrev Reg.SNS_RAW_A : Nat := 0xc084
/-- `SNS.RAW_B`. -/
abbrev Reg.SNS_RAW_B : Nat := 0xc088
/-- `SNS.RAW_V`. -/
abbrev Reg.SNS_RAW_V : Nat := 0xc08c
/-- `BAL.BAL_CFG`. -/
abbrev Reg.BAL_BAL_CFG : Nat := 0xf040
/-- `BAL.BAL_DEAD`. -/
abbrev Reg.BAL_BAL_DEAD : Nat := 0xf044
/-- `BAL.BAL_HORIZON`. -/
abbrev Reg.BAL_BAL_HORIZON : Nat := 0xf048
/-- `BAL.BAL_R`. -/
abbrev Reg.BAL_BAL_R : Nat := 0xf04c
/-- `BAL.BAL_VMIN`. -/
abbrev Reg.BAL_BAL_VMIN : Nat := 0xf050
/-- `BAL.BAL_TBP0`. -/
abbrev Reg.BAL_BAL_TBP0 : Nat := 0xf054
/-- `BAL.BAL_TBP1`. -/
abbrev Reg.BAL_BAL_TBP1 : Nat := 0xf058
/-- `BAL.BAL_INHIBIT`. -/
abbrev Reg.BAL_BAL_INHIBIT : Nat := 0xf05c
/-- `BAL.BAL_ACTIVE`. -/
abbrev Reg.BAL_BAL_ACTIVE : Nat := 0xf060
/-- `BAL.BAL_FAULT`. -/
abbrev Reg.BAL_BAL_FAULT : Nat := 0xf064
/-- `BAL.BAL_Q_NODE`. -/
abbrev Reg.BAL_BAL_Q_NODE : Nat := 0xf068
/-- `BAL.BAL_Q`. -/
abbrev Reg.BAL_BAL_Q : Nat := 0xf06c
/-- `BAL.BAL_PLANS`. -/
abbrev Reg.BAL_BAL_PLANS : Nat := 0xf070
/-- `BAL.BAL_REPLACED`. -/
abbrev Reg.BAL_BAL_REPLACED : Nat := 0xf074
/-- `EST.EST_CFG`. -/
abbrev Reg.EST_EST_CFG : Nat := 0xd040
/-- `EST.EST_STAT`. -/
abbrev Reg.EST_EST_STAT : Nat := 0xd044
/-- `EST.PIPE_CYCLE`. -/
abbrev Reg.EST_PIPE_CYCLE : Nat := 0xd048
/-- `EST.PIPE_TIME`. -/
abbrev Reg.EST_PIPE_TIME : Nat := 0xd04c
/-- `EST.C_RATE`. -/
abbrev Reg.EST_C_RATE : Nat := 0xd050
/-- `EST.STEP_CFG`. -/
abbrev Reg.EST_STEP_CFG : Nat := 0xd054
/-- `EST.STEP_MAXGAP`. -/
abbrev Reg.EST_STEP_MAXGAP : Nat := 0xd058
/-- `EST.DITHER_AMP`. -/
abbrev Reg.EST_DITHER_AMP : Nat := 0xd05c
/-- `EST.DITHER_STAT`. -/
abbrev Reg.EST_DITHER_STAT : Nat := 0xd060
/-- `EST.Q_S`. -/
abbrev Reg.EST_Q_S : Nat := 0xd064
/-- `EST.Q_V`. -/
abbrev Reg.EST_Q_V : Nat := 0xd068
/-- `EST.R_MEAS`. -/
abbrev Reg.EST_R_MEAS : Nat := 0xd06c
/-- `EST.P_INIT`. -/
abbrev Reg.EST_P_INIT : Nat := 0xd070
/-- `EST.GATE_CFG`. -/
abbrev Reg.EST_GATE_CFG : Nat := 0xd074
/-- `EST.FIT_CFG`. -/
abbrev Reg.EST_FIT_CFG : Nat := 0xd078
/-- `EST.CUR_EPS`. -/
abbrev Reg.EST_CUR_EPS : Nat := 0xd07c
/-- `EST.CKPT_PERIOD`. -/
abbrev Reg.EST_CKPT_PERIOD : Nat := 0xd080
/-- `EST.CHEM_ADDR`. -/
abbrev Reg.EST_CHEM_ADDR : Nat := 0xd084
/-- `EST.CHEM_CMD`. -/
abbrev Reg.EST_CHEM_CMD : Nat := 0xd088
/-- `EST.CHEM_HANDLE`. -/
abbrev Reg.EST_CHEM_HANDLE : Nat := 0xd08c
/-- `EST.CHEM_RANGE`. -/
abbrev Reg.EST_CHEM_RANGE : Nat := 0xd090
/-- `EST.CHEM_MAP`. -/
abbrev Reg.EST_CHEM_MAP : Nat := 0xd094
/-- `EST.STEP_COUNT`. -/
abbrev Reg.EST_STEP_COUNT : Nat := 0xd098
/-- `EST.STEP_LAST_ODO_LO`. -/
abbrev Reg.EST_STEP_LAST_ODO_LO : Nat := 0xd09c
/-- `EST.STEP_LAST_ODO_HI`. -/
abbrev Reg.EST_STEP_LAST_ODO_HI : Nat := 0xd0a0
/-- `EST.CAP_PEND`. -/
abbrev Reg.EST_CAP_PEND : Nat := 0xd0a4
/-- `EST.CAP_SKIP`. -/
abbrev Reg.EST_CAP_SKIP : Nat := 0xd0a8
/-- `EST.FIT_OK`. -/
abbrev Reg.EST_FIT_OK : Nat := 0xd0ac
/-- `EST.FIT_REJ`. -/
abbrev Reg.EST_FIT_REJ : Nat := 0xd0b0
/-- `EST.GATE_REJ`. -/
abbrev Reg.EST_GATE_REJ : Nat := 0xd0b4
/-- `EST.LATE_USED`. -/
abbrev Reg.EST_LATE_USED : Nat := 0xd0b8
/-- `EST.CELL_Q`. -/
abbrev Reg.EST_CELL_Q : Nat := 0xd0bc
/-- `EST.CELL_STATE`, element `i`. -/
abbrev Reg.EST_CELL_STATE (i : Nat) : Nat := 0xd100 + 4 * i
/-- `FUS.FUSE_CFG`. -/
abbrev Reg.FUS_FUSE_CFG : Nat := 0xe040
/-- `FUS.FUSE_SLOPE`. -/
abbrev Reg.FUS_FUSE_SLOPE : Nat := 0xe044
/-- `FUS.CONF_CFG`. -/
abbrev Reg.FUS_CONF_CFG : Nat := 0xe048
/-- `FUS.ANCHOR_MAX`. -/
abbrev Reg.FUS_ANCHOR_MAX : Nat := 0xe04c
/-- `FUS.TAPER_CFG`. -/
abbrev Reg.FUS_TAPER_CFG : Nat := 0xe050
/-- `FUS.TAPER_V`. -/
abbrev Reg.FUS_TAPER_V : Nat := 0xe054
/-- `FUS.TAPER_DV`. -/
abbrev Reg.FUS_TAPER_DV : Nat := 0xe058
/-- `FUS.SHUT_V`. -/
abbrev Reg.FUS_SHUT_V : Nat := 0xe05c
/-- `FUS.ZP_TAU`. -/
abbrev Reg.FUS_ZP_TAU : Nat := 0xe060
/-- `FUS.RATCHET_CFG`. -/
abbrev Reg.FUS_RATCHET_CFG : Nat := 0xe064
/-- `FUS.CAP_CFG`. -/
abbrev Reg.FUS_CAP_CFG : Nat := 0xe068
/-- `FUS.PLIM_IMAX`. -/
abbrev Reg.FUS_PLIM_IMAX : Nat := 0xe06c
/-- `FUS.PLIM_TCHG`. -/
abbrev Reg.FUS_PLIM_TCHG : Nat := 0xe070
/-- `FUS.PLIM_FALLBACK`. -/
abbrev Reg.FUS_PLIM_FALLBACK : Nat := 0xe074
/-- `FUS.PLIM_HOLD`. -/
abbrev Reg.FUS_PLIM_HOLD : Nat := 0xe078
/-- `FUS.STR_CYCLE`. -/
abbrev Reg.FUS_STR_CYCLE : Nat := 0xe080
/-- `FUS.SOC_REP`. -/
abbrev Reg.FUS_SOC_REP : Nat := 0xe084
/-- `FUS.SOC_RANGE`. -/
abbrev Reg.FUS_SOC_RANGE : Nat := 0xe088
/-- `FUS.CELL_IDX`. -/
abbrev Reg.FUS_CELL_IDX : Nat := 0xe08c
/-- `FUS.V_RANGE`. -/
abbrev Reg.FUS_V_RANGE : Nat := 0xe090
/-- `FUS.CONF_MAX`. -/
abbrev Reg.FUS_CONF_MAX : Nat := 0xe094
/-- `FUS.A_MIN`. -/
abbrev Reg.FUS_A_MIN : Nat := 0xe098
/-- `FUS.B_MIN`. -/
abbrev Reg.FUS_B_MIN : Nat := 0xe09c
/-- `FUS.E_DIS`. -/
abbrev Reg.FUS_E_DIS : Nat := 0xe0a0
/-- `FUS.E_CHG`. -/
abbrev Reg.FUS_E_CHG : Nat := 0xe0a4
/-- `FUS.P_DIS_2S`. -/
abbrev Reg.FUS_P_DIS_2S : Nat := 0xe0a8
/-- `FUS.P_DIS_10S`. -/
abbrev Reg.FUS_P_DIS_10S : Nat := 0xe0ac
/-- `FUS.P_DIS_60S`. -/
abbrev Reg.FUS_P_DIS_60S : Nat := 0xe0b0
/-- `FUS.P_CHG_2S`. -/
abbrev Reg.FUS_P_CHG_2S : Nat := 0xe0b4
/-- `FUS.P_CHG_10S`. -/
abbrev Reg.FUS_P_CHG_10S : Nat := 0xe0b8
/-- `FUS.P_CHG_60S`. -/
abbrev Reg.FUS_P_CHG_60S : Nat := 0xe0bc
/-- `FUS.PF_DIS`. -/
abbrev Reg.FUS_PF_DIS : Nat := 0xe0c0
/-- `FUS.PF_CHG`. -/
abbrev Reg.FUS_PF_CHG : Nat := 0xe0c4
/-- `FUS.SOH`. -/
abbrev Reg.FUS_SOH : Nat := 0xe0c8
/-- `FUS.RGROW`. -/
abbrev Reg.FUS_RGROW : Nat := 0xe0cc
/-- `FUS.FUSE_COUNT`. -/
abbrev Reg.FUS_FUSE_COUNT : Nat := 0xe0d0
/-- `FUS.CONFLICTS`. -/
abbrev Reg.FUS_CONFLICTS : Nat := 0xe0d4
/-- `FUS.REANCHORS`. -/
abbrev Reg.FUS_REANCHORS : Nat := 0xe0d8
/-- `FUS.CAP_SAMPLES`. -/
abbrev Reg.FUS_CAP_SAMPLES : Nat := 0xe0dc
/-- `FUS.CAP_REJ`. -/
abbrev Reg.FUS_CAP_REJ : Nat := 0xe0e0
/-- `FUS.STR_FLAGS`. -/
abbrev Reg.FUS_STR_FLAGS : Nat := 0xe0e4
/-- `FUS.PUB_SEQ`. -/
abbrev Reg.FUS_PUB_SEQ : Nat := 0xe0e8
/-- `FUS.TAP_CMD`. -/
abbrev Reg.FUS_TAP_CMD : Nat := 0xe100
/-- `FUS.TAP_HANDLE`. -/
abbrev Reg.FUS_TAP_HANDLE : Nat := 0xe104
/-- `FUS.TAP_CFG`. -/
abbrev Reg.FUS_TAP_CFG : Nat := 0xe108
/-- `FUS.TAP_RANGE`. -/
abbrev Reg.FUS_TAP_RANGE : Nat := 0xe10c
/-- `FUS.TAP_BASE`. -/
abbrev Reg.FUS_TAP_BASE : Nat := 0xe110
/-- `FUS.TAP_DEPTH`. -/
abbrev Reg.FUS_TAP_DEPTH : Nat := 0xe114
/-- `FUS.TAP_ESIZE`. -/
abbrev Reg.FUS_TAP_ESIZE : Nat := 0xe118
/-- `FUS.TAP_SPACE`. -/
abbrev Reg.FUS_TAP_SPACE : Nat := 0xe11c
/-- `FUS.TAP_DROPS`. -/
abbrev Reg.FUS_TAP_DROPS : Nat := 0xe120
/-- `FUS.TAP_COUNT`. -/
abbrev Reg.FUS_TAP_COUNT : Nat := 0xe124
/-- `CTL.CTL_CFG`. -/
abbrev Reg.CTL_CTL_CFG : Nat := 0x10040
/-- `CTL.CTL_STAT`. -/
abbrev Reg.CTL_CTL_STAT : Nat := 0x10044
/-- `CTL.CTL_CMD`. -/
abbrev Reg.CTL_CTL_CMD : Nat := 0x10048
/-- `CTL.I_LIM_CHG`. -/
abbrev Reg.CTL_I_LIM_CHG : Nat := 0x1004c
/-- `CTL.I_LIM_DIS`. -/
abbrev Reg.CTL_I_LIM_DIS : Nat := 0x10050
/-- `CTL.V_STR_MAX`. -/
abbrev Reg.CTL_V_STR_MAX : Nat := 0x10054
/-- `CTL.V_STR_MIN`. -/
abbrev Reg.CTL_V_STR_MIN : Nat := 0x10058
/-- `CTL.V_FLOOR`. -/
abbrev Reg.CTL_V_FLOOR : Nat := 0x1005c
/-- `CTL.RAMP_I`. -/
abbrev Reg.CTL_RAMP_I : Nat := 0x10060
/-- `CTL.RAMP_P`. -/
abbrev Reg.CTL_RAMP_P : Nat := 0x10064
/-- `CTL.CTL_HOLD`. -/
abbrev Reg.CTL_CTL_HOLD : Nat := 0x10068
/-- `CTL.DIS_CFG`. -/
abbrev Reg.CTL_DIS_CFG : Nat := 0x1006c
/-- `CTL.OSC_CFG`. -/
abbrev Reg.CTL_OSC_CFG : Nat := 0x10070
/-- `CTL.OSC_AMP`. -/
abbrev Reg.CTL_OSC_AMP : Nat := 0x10074
/-- `CTL.LAT_TH`. -/
abbrev Reg.CTL_LAT_TH : Nat := 0x10078
/-- `CTL.CUR_KP`. -/
abbrev Reg.CTL_CUR_KP : Nat := 0x10080
/-- `CTL.CUR_KI`. -/
abbrev Reg.CTL_CUR_KI : Nat := 0x10084
/-- `CTL.CUR_KD`. -/
abbrev Reg.CTL_CUR_KD : Nat := 0x10088
/-- `CTL.CUR_TF`. -/
abbrev Reg.CTL_CUR_TF : Nat := 0x1008c
/-- `CTL.CUR_UMAX`. -/
abbrev Reg.CTL_CUR_UMAX : Nat := 0x10090
/-- `CTL.CUR_UMIN`. -/
abbrev Reg.CTL_CUR_UMIN : Nat := 0x10094
/-- `CTL.VOL_KP`. -/
abbrev Reg.CTL_VOL_KP : Nat := 0x100a0
/-- `CTL.VOL_KI`. -/
abbrev Reg.CTL_VOL_KI : Nat := 0x100a4
/-- `CTL.VOL_KD`. -/
abbrev Reg.CTL_VOL_KD : Nat := 0x100a8
/-- `CTL.VOL_TF`. -/
abbrev Reg.CTL_VOL_TF : Nat := 0x100ac
/-- `CTL.PWR_KP`. -/
abbrev Reg.CTL_PWR_KP : Nat := 0x100b0
/-- `CTL.PWR_KI`. -/
abbrev Reg.CTL_PWR_KI : Nat := 0x100b4
/-- `CTL.PWR_KD`. -/
abbrev Reg.CTL_PWR_KD : Nat := 0x100b8
/-- `CTL.PWR_TF`. -/
abbrev Reg.CTL_PWR_TF : Nat := 0x100bc
/-- `CTL.SP_KIND`. -/
abbrev Reg.CTL_SP_KIND : Nat := 0x100c0
/-- `CTL.SP_VALUE`. -/
abbrev Reg.CTL_SP_VALUE : Nat := 0x100c4
/-- `CTL.SP_LIMIT`. -/
abbrev Reg.CTL_SP_LIMIT : Nat := 0x100c8
/-- `CTL.SP_HANDLE`. -/
abbrev Reg.CTL_SP_HANDLE : Nat := 0x100cc
/-- `CTL.SP_CMD`. -/
abbrev Reg.CTL_SP_CMD : Nat := 0x100d0
/-- `CTL.SP_STAT`. -/
abbrev Reg.CTL_SP_STAT : Nat := 0x100d4
/-- `CTL.SP_NOW_KIND`. -/
abbrev Reg.CTL_SP_NOW_KIND : Nat := 0x100d8
/-- `CTL.SP_NOW_VALUE`. -/
abbrev Reg.CTL_SP_NOW_VALUE : Nat := 0x100dc
/-- `CTL.SP_NOW_LIMIT`. -/
abbrev Reg.CTL_SP_NOW_LIMIT : Nat := 0x100e0
/-- `CTL.SP_NOW_CYCLE`. -/
abbrev Reg.CTL_SP_NOW_CYCLE : Nat := 0x100e4
/-- `CTL.SP_DROPPED`. -/
abbrev Reg.CTL_SP_DROPPED : Nat := 0x100e8
/-- `CTL.SP_MISSING`. -/
abbrev Reg.CTL_SP_MISSING : Nat := 0x100ec
/-- `CTL.I_REF`. -/
abbrev Reg.CTL_I_REF : Nat := 0x10100
/-- `CTL.U_OUT`. -/
abbrev Reg.CTL_U_OUT : Nat := 0x10104
/-- `CTL.I_MEAS`. -/
abbrev Reg.CTL_I_MEAS : Nat := 0x10108
/-- `CTL.V_MEAS`. -/
abbrev Reg.CTL_V_MEAS : Nat := 0x1010c
/-- `CTL.P_MEAS`. -/
abbrev Reg.CTL_P_MEAS : Nat := 0x10110
/-- `CTL.I_HI`. -/
abbrev Reg.CTL_I_HI : Nat := 0x10114
/-- `CTL.I_LO`. -/
abbrev Reg.CTL_I_LO : Nat := 0x10118
/-- `CTL.L_CHG`. -/
abbrev Reg.CTL_L_CHG : Nat := 0x1011c
/-- `CTL.L_DIS`. -/
abbrev Reg.CTL_L_DIS : Nat := 0x10120
/-- `CTL.BUD_CHG`. -/
abbrev Reg.CTL_BUD_CHG : Nat := 0x10124
/-- `CTL.BUD_DIS`. -/
abbrev Reg.CTL_BUD_DIS : Nat := 0x10128
/-- `CTL.CTL_LAT`. -/
abbrev Reg.CTL_CTL_LAT : Nat := 0x1012c
/-- `CTL.LAT_MIN`. -/
abbrev Reg.CTL_LAT_MIN : Nat := 0x10130
/-- `CTL.FALL_CNT`. -/
abbrev Reg.CTL_FALL_CNT : Nat := 0x10134
/-- `CTL.DIS_CNT`. -/
abbrev Reg.CTL_DIS_CNT : Nat := 0x10138
/-- `CTL.OSC_FREQ`. -/
abbrev Reg.CTL_OSC_FREQ : Nat := 0x1013c
/-- `CTL.OSC_COUNT`. -/
abbrev Reg.CTL_OSC_COUNT : Nat := 0x10140
/-- `CTL.STEPS`. -/
abbrev Reg.CTL_STEPS : Nat := 0x10144
/-- `CVL.CVL_CFG`. -/
abbrev Reg.CVL_CVL_CFG : Nat := 0x11040
/-- `CVL.CVL_STAT`. -/
abbrev Reg.CVL_CVL_STAT : Nat := 0x11044
/-- `CVL.CVL_U0`. -/
abbrev Reg.CVL_CVL_U0 : Nat := 0x11048
/-- `CVL.CVL_LAST_LO`. -/
abbrev Reg.CVL_CVL_LAST_LO : Nat := 0x1104c
/-- `CVL.CVL_LAST_HI`. -/
abbrev Reg.CVL_CVL_LAST_HI : Nat := 0x11050
/-- `CVL.CVL_FRAMES`. -/
abbrev Reg.CVL_CVL_FRAMES : Nat := 0x11054
/-- `CVL.CVL_REPEATS`. -/
abbrev Reg.CVL_CVL_REPEATS : Nat := 0x11058
/-- `CVL.CVL_STOPS`. -/
abbrev Reg.CVL_CVL_STOPS : Nat := 0x1105c
/-- `CVL.CVL_GAP`. -/
abbrev Reg.CVL_CVL_GAP : Nat := 0x11060
/-- `FRM.FRM_CMD`. -/
abbrev Reg.FRM_FRM_CMD : Nat := 0x12040
/-- `FRM.FRM_ADDR`. -/
abbrev Reg.FRM_FRM_ADDR : Nat := 0x12044
/-- `FRM.FRM_HANDLE`. -/
abbrev Reg.FRM_FRM_HANDLE : Nat := 0x12048
/-- `FRM.FRM_STAT`. -/
abbrev Reg.FRM_FRM_STAT : Nat := 0x1204c
/-- `FRM.FRM_RUN`. -/
abbrev Reg.FRM_FRM_RUN : Nat := 0x12050
/-- `FRM.FRM_T_STEP`. -/
abbrev Reg.FRM_FRM_T_STEP : Nat := 0x12054
/-- `FRM.FRM_Q_STEP`. -/
abbrev Reg.FRM_FRM_Q_STEP : Nat := 0x12058
/-- `FRM.FRM_RES_BASE`. -/
abbrev Reg.FRM_FRM_RES_BASE : Nat := 0x1205c
/-- `FRM.FRM_RES_SIZE`. -/
abbrev Reg.FRM_FRM_RES_SIZE : Nat := 0x12060
/-- `FRM.FRM_RES_WOFS`. -/
abbrev Reg.FRM_FRM_RES_WOFS : Nat := 0x12064
/-- `FRM.FRM_COUNT`. -/
abbrev Reg.FRM_FRM_COUNT : Nat := 0x12068
/-- `FRM.FRM_RES_DROP`. -/
abbrev Reg.FRM_FRM_RES_DROP : Nat := 0x1206c
/-- `SAF.SAF_STAT`. -/
abbrev Reg.SAF_SAF_STAT : Nat := 0x13040
/-- `SAF.DEMAND`. -/
abbrev Reg.SAF_DEMAND : Nat := 0x13044
/-- `SAF.DEMAND_LATCH`. -/
abbrev Reg.SAF_DEMAND_LATCH : Nat := 0x13048
/-- `SAF.FIRST_CAUSE`. -/
abbrev Reg.SAF_FIRST_CAUSE : Nat := 0x1304c
/-- `SAF.LATCH_ODO_LO`. -/
abbrev Reg.SAF_LATCH_ODO_LO : Nat := 0x13050
/-- `SAF.LATCH_ODO_HI`. -/
abbrev Reg.SAF_LATCH_ODO_HI : Nat := 0x13054
/-- `SAF.K_REQ`. -/
abbrev Reg.SAF_K_REQ : Nat := 0x13058
/-- `SAF.K_STAT`. -/
abbrev Reg.SAF_K_STAT : Nat := 0x1305c
/-- `SAF.SI_STATE`. -/
abbrev Reg.SAF_SI_STATE : Nat := 0x13060
/-- `SAF.SI_RAW`. -/
abbrev Reg.SAF_SI_RAW : Nat := 0x13064
/-- `SAF.SI_FAULT`. -/
abbrev Reg.SAF_SI_FAULT : Nat := 0x13068
/-- `SAF.FB_STATE`. -/
abbrev Reg.SAF_FB_STATE : Nat := 0x1306c
/-- `SAF.SW_FAULT`. -/
abbrev Reg.SAF_SW_FAULT : Nat := 0x13070
/-- `SAF.TP_STAT`. -/
abbrev Reg.SAF_TP_STAT : Nat := 0x13074
/-- `SAF.XTRIP_STAT`. -/
abbrev Reg.SAF_XTRIP_STAT : Nat := 0x13078
/-- `SAF.SAF_CMD`. -/
abbrev Reg.SAF_SAF_CMD : Nat := 0x1307c
/-- `SAF.PSET_ADDR`. -/
abbrev Reg.SAF_PSET_ADDR : Nat := 0x13080
/-- `SAF.PSET_DIGEST`. -/
abbrev Reg.SAF_PSET_DIGEST : Nat := 0x13084
/-- `SAF.PSET_CONFIRM`. -/
abbrev Reg.SAF_PSET_CONFIRM : Nat := 0x13088
/-- `SAF.PSET_STAT`. -/
abbrev Reg.SAF_PSET_STAT : Nat := 0x1308c
/-- `SAF.REFUSE`. -/
abbrev Reg.SAF_REFUSE : Nat := 0x13090
/-- `SAF.TOKEN_ADDR`. -/
abbrev Reg.SAF_TOKEN_ADDR : Nat := 0x13094
/-- `SAF.SAF_NONCE`. -/
abbrev Reg.SAF_SAF_NONCE : Nat := 0x13098
/-- `SAF.PROOF_AGE`, element `i`. -/
abbrev Reg.SAF_PROOF_AGE (i : Nat) : Nat := 0x130a0 + 4 * i
/-- `SAF.DEMANDS`. -/
abbrev Reg.SAF_DEMANDS : Nat := 0x130b8
/-- `SAF.SW_TESTS`. -/
abbrev Reg.SAF_SW_TESTS : Nat := 0x130bc
/-- `SAF.STARTUP`. -/
abbrev Reg.SAF_STARTUP : Nat := 0x130c0
/-- `SAF.SIL_INFO`. -/
abbrev Reg.SAF_SIL_INFO : Nat := 0x130c4
/-- `GRD.GRD_STAT`. -/
abbrev Reg.GRD_GRD_STAT : Nat := 0x14040
/-- `GRD.GRD_KL`. -/
abbrev Reg.GRD_GRD_KL : Nat := 0x14044
/-- `GRD.GRD_SI`. -/
abbrev Reg.GRD_GRD_SI : Nat := 0x14048
/-- `GRD.GRD_CAUSE`. -/
abbrev Reg.GRD_GRD_CAUSE : Nat := 0x1404c
/-- `GRD.GRD_TESTS`. -/
abbrev Reg.GRD_GRD_TESTS : Nat := 0x14050
/-- `GRD.GRD_WDMISS`. -/
abbrev Reg.GRD_GRD_WDMISS : Nat := 0x14054
/-- `GRD.GRD_ID`. -/
abbrev Reg.GRD_GRD_ID : Nat := 0x14058
/-- `CSW.CSW_CFG`. -/
abbrev Reg.CSW_CSW_CFG : Nat := 0x1b040
/-- `CSW.CSW_STAT`. -/
abbrev Reg.CSW_CSW_STAT : Nat := 0x1b044
/-- `CSW.HB_RX_SEQ`. -/
abbrev Reg.CSW_HB_RX_SEQ : Nat := 0x1b048
/-- `CSW.HB_LOST`. -/
abbrev Reg.CSW_HB_LOST : Nat := 0x1b04c
/-- `CSW.CRC_ERR0`. -/
abbrev Reg.CSW_CRC_ERR0 : Nat := 0x1b050
/-- `CSW.CRC_ERR1`. -/
abbrev Reg.CSW_CRC_ERR1 : Nat := 0x1b054
/-- `CSW.SNAP_SEQ`. -/
abbrev Reg.CSW_SNAP_SEQ : Nat := 0x1b058
/-- `CSW.SNAP_MISS`. -/
abbrev Reg.CSW_SNAP_MISS : Nat := 0x1b05c
/-- `CSW.EST_DIFF`. -/
abbrev Reg.CSW_EST_DIFF : Nat := 0x1b060
/-- `CSW.MIRROR_TOL`. -/
abbrev Reg.CSW_MIRROR_TOL : Nat := 0x1b064
/-- `CSW.CTL_DIFF`. -/
abbrev Reg.CSW_CTL_DIFF : Nat := 0x1b068
/-- `CSW.CFG_TAG`. -/
abbrev Reg.CSW_CFG_TAG : Nat := 0x1b06c
/-- `CSW.PARTNER_TAG`. -/
abbrev Reg.CSW_PARTNER_TAG : Nat := 0x1b070
/-- `CSW.STAGE_DIGEST`. -/
abbrev Reg.CSW_STAGE_DIGEST : Nat := 0x1b074
/-- `CSW.PARTNER_IMG`. -/
abbrev Reg.CSW_PARTNER_IMG : Nat := 0x1b078
/-- `CSW.TX_FRAMES`. -/
abbrev Reg.CSW_TX_FRAMES : Nat := 0x1b07c
/-- `CSW.RX_FRAMES`. -/
abbrev Reg.CSW_RX_FRAMES : Nat := 0x1b080
/-- `RED.RED_CFG`. -/
abbrev Reg.RED_RED_CFG : Nat := 0x1c040
/-- `RED.RED_STAT`. -/
abbrev Reg.RED_RED_STAT : Nat := 0x1c044
/-- `RED.MODE_REQ`. -/
abbrev Reg.RED_MODE_REQ : Nat := 0x1c048
/-- `RED.MODE_REFUSE`. -/
abbrev Reg.RED_MODE_REFUSE : Nat := 0x1c04c
/-- `RED.REVERT_HOLD`. -/
abbrev Reg.RED_REVERT_HOLD : Nat := 0x1c050
/-- `RED.RESIGN_MIN`. -/
abbrev Reg.RED_RESIGN_MIN : Nat := 0x1c054
/-- `RED.START_WAIT`. -/
abbrev Reg.RED_START_WAIT : Nat := 0x1c058
/-- `RED.STOP_I`. -/
abbrev Reg.RED_STOP_I : Nat := 0x1c05c
/-- `RED.STOP_TMO`. -/
abbrev Reg.RED_STOP_TMO : Nat := 0x1c060
/-- `RED.RED_CMD`. -/
abbrev Reg.RED_RED_CMD : Nat := 0x1c064
/-- `RED.HEALTH`. -/
abbrev Reg.RED_HEALTH : Nat := 0x1c068
/-- `RED.PARTNER_HEALTH`. -/
abbrev Reg.RED_PARTNER_HEALTH : Nat := 0x1c06c
/-- `RED.SCORE`. -/
abbrev Reg.RED_SCORE : Nat := 0x1c070
/-- `RED.LAST_CAUSE`. -/
abbrev Reg.RED_LAST_CAUSE : Nat := 0x1c074
/-- `RED.TKO_ODO_LO`. -/
abbrev Reg.RED_TKO_ODO_LO : Nat := 0x1c078
/-- `RED.TKO_ODO_HI`. -/
abbrev Reg.RED_TKO_ODO_HI : Nat := 0x1c07c
/-- `RED.SWITCH_TIME`. -/
abbrev Reg.RED_SWITCH_TIME : Nat := 0x1c080
/-- `RED.TAKEOVERS`. -/
abbrev Reg.RED_TAKEOVERS : Nat := 0x1c084
/-- `RED.RESIGNS`. -/
abbrev Reg.RED_RESIGNS : Nat := 0x1c088
/-- `HPM.HPM_STAT`. -/
abbrev Reg.HPM_HPM_STAT : Nat := 0x1f040
/-- `HPM.HPM_CFG`. -/
abbrev Reg.HPM_HPM_CFG : Nat := 0x1f044
/-- `HPM.SLOT_ID`. -/
abbrev Reg.HPM_SLOT_ID : Nat := 0x1f048
/-- `HPM.LEAVE_TIME`. -/
abbrev Reg.HPM_LEAVE_TIME : Nat := 0x1f04c
/-- `HPM.HOLDUP_V`. -/
abbrev Reg.HPM_HOLDUP_V : Nat := 0x1f050
/-- `HPM.INSERTIONS`. -/
abbrev Reg.HPM_INSERTIONS : Nat := 0x1f054
/-- `MBX.MBX_TMO`. -/
abbrev Reg.MBX_MBX_TMO : Nat := 0x4040
/-- `MBX.MBX_PEND_LO`. -/
abbrev Reg.MBX_MBX_PEND_LO : Nat := 0x4044
/-- `MBX.MBX_PEND_HI`. -/
abbrev Reg.MBX_MBX_PEND_HI : Nat := 0x4048
/-- `MBX.MBX_STAT`. -/
abbrev Reg.MBX_MBX_STAT : Nat := 0x404c
/-- `MBX.POSTS`. -/
abbrev Reg.MBX_POSTS : Nat := 0x4050
/-- `MBX.UNBOUND_CNT`. -/
abbrev Reg.MBX_UNBOUND_CNT : Nat := 0x4054
/-- `MBX.ABORTS`. -/
abbrev Reg.MBX_ABORTS : Nat := 0x4058
/-- `MBX.BIND`, element `i`. -/
abbrev Reg.MBX_BIND (i : Nat) : Nat := 0x5100 + 4 * i
/-- `FWL.FWL_STAT`. -/
abbrev Reg.FWL_FWL_STAT : Nat := 0x3040
/-- `FWL.FROZEN`. -/
abbrev Reg.FWL_FROZEN : Nat := 0x3044
/-- `FWL.DROPPED`. -/
abbrev Reg.FWL_DROPPED : Nat := 0x3048
/-- `FWL.FWL_CMD`. -/
abbrev Reg.FWL_FWL_CMD : Nat := 0x304c
/-- `FWL.VIOL_MID`. -/
abbrev Reg.FWL_VIOL_MID : Nat := 0x3050
/-- `FWL.VIOL_ADDR_LO`. -/
abbrev Reg.FWL_VIOL_ADDR_LO : Nat := 0x3054
/-- `FWL.VIOL_ADDR_HI`. -/
abbrev Reg.FWL_VIOL_ADDR_HI : Nat := 0x3058
/-- `FWL.VIOL_INFO`. -/
abbrev Reg.FWL_VIOL_INFO : Nat := 0x305c
/-- `FWL.VIOL_ODO_LO`. -/
abbrev Reg.FWL_VIOL_ODO_LO : Nat := 0x3060
/-- `FWL.VIOL_ODO_HI`. -/
abbrev Reg.FWL_VIOL_ODO_HI : Nat := 0x3064
/-- `FWL.VIOL_CLR`. -/
abbrev Reg.FWL_VIOL_CLR : Nat := 0x3068
/-- `FWL.VIOL_COUNT`. -/
abbrev Reg.FWL_VIOL_COUNT : Nat := 0x306c
/-- `FWL.PAGE_RIGHTS_LO`, element `i`. -/
abbrev Reg.FWL_PAGE_RIGHTS_LO (i : Nat) : Nat := 0x3200 + 8 * i
/-- `FWL.PAGE_RIGHTS_HI`, element `i`. -/
abbrev Reg.FWL_PAGE_RIGHTS_HI (i : Nat) : Nat := 0x3204 + 8 * i
/-- `FWL.REG_BASE`, element `i`. -/
abbrev Reg.FWL_REG_BASE (i : Nat) : Nat := 0x3400 + 16 * i
/-- `FWL.REG_SIZE`, element `i`. -/
abbrev Reg.FWL_REG_SIZE (i : Nat) : Nat := 0x3404 + 16 * i
/-- `FWL.REG_RIGHTS_LO`, element `i`. -/
abbrev Reg.FWL_REG_RIGHTS_LO (i : Nat) : Nat := 0x3408 + 16 * i
/-- `FWL.REG_RIGHTS_HI`, element `i`. -/
abbrev Reg.FWL_REG_RIGHTS_HI (i : Nat) : Nat := 0x340c + 16 * i
/-- `CAN.CAN_CTRL` of instance `l`. -/
abbrev Reg.CAN_CAN_CTRL (l : Nat) : Nat := (21 + l) * 0x1000 + 0x40
/-- `CAN.CAN_STAT` of instance `l`. -/
abbrev Reg.CAN_CAN_STAT (l : Nat) : Nat := (21 + l) * 0x1000 + 0x44
/-- `CAN.CAN_CMD` of instance `l`. -/
abbrev Reg.CAN_CAN_CMD (l : Nat) : Nat := (21 + l) * 0x1000 + 0x48
/-- `CAN.NBT` of instance `l`. -/
abbrev Reg.CAN_NBT (l : Nat) : Nat := (21 + l) * 0x1000 + 0x4c
/-- `CAN.DBT` of instance `l`. -/
abbrev Reg.CAN_DBT (l : Nat) : Nat := (21 + l) * 0x1000 + 0x50
/-- `CAN.TDC` of instance `l`. -/
abbrev Reg.CAN_TDC (l : Nat) : Nat := (21 + l) * 0x1000 + 0x54
/-- `CAN.TDCV` of instance `l`. -/
abbrev Reg.CAN_TDCV (l : Nat) : Nat := (21 + l) * 0x1000 + 0x58
/-- `CAN.ECNT` of instance `l`. -/
abbrev Reg.CAN_ECNT (l : Nat) : Nat := (21 + l) * 0x1000 + 0x5c
/-- `CAN.PSR` of instance `l`. -/
abbrev Reg.CAN_PSR (l : Nat) : Nat := (21 + l) * 0x1000 + 0x60
/-- `CAN.FS_CMD` of instance `l`. -/
abbrev Reg.CAN_FS_CMD (l : Nat) : Nat := (21 + l) * 0x1000 + 0x80
/-- `CAN.FS_HANDLE` of instance `l`. -/
abbrev Reg.CAN_FS_HANDLE (l : Nat) : Nat := (21 + l) * 0x1000 + 0x84
/-- `CAN.FS_RANGE` of instance `l`. -/
abbrev Reg.CAN_FS_RANGE (l : Nat) : Nat := (21 + l) * 0x1000 + 0x88
/-- `CAN.FS_MAP` of instance `l`. -/
abbrev Reg.CAN_FS_MAP (l : Nat) : Nat := (21 + l) * 0x1000 + 0x8c
/-- `CAN.RXF_STAT` of instance `l`. -/
abbrev Reg.CAN_RXF_STAT (l : Nat) : Nat := (21 + l) * 0x1000 + 0xa0
/-- `CAN.RXF_WM` of instance `l`. -/
abbrev Reg.CAN_RXF_WM (l : Nat) : Nat := (21 + l) * 0x1000 + 0xa4
/-- `CAN.RXF_POP` of instance `l`. -/
abbrev Reg.CAN_RXF_POP (l : Nat) : Nat := (21 + l) * 0x1000 + 0xa8
/-- `CAN.TXF_STAT` of instance `l`. -/
abbrev Reg.CAN_TXF_STAT (l : Nat) : Nat := (21 + l) * 0x1000 + 0xb0
/-- `CAN.TX_PUSH` of instance `l`. -/
abbrev Reg.CAN_TX_PUSH (l : Nat) : Nat := (21 + l) * 0x1000 + 0xb4
/-- `CAN.TX_TAG` of instance `l`. -/
abbrev Reg.CAN_TX_TAG (l : Nat) : Nat := (21 + l) * 0x1000 + 0xb8
/-- `CAN.TX_CANCEL` of instance `l`. -/
abbrev Reg.CAN_TX_CANCEL (l : Nat) : Nat := (21 + l) * 0x1000 + 0xbc
/-- `CAN.CXL_STAT` of instance `l`. -/
abbrev Reg.CAN_CXL_STAT (l : Nat) : Nat := (21 + l) * 0x1000 + 0xc0
/-- `CAN.TX_RETRY` of instance `l`. -/
abbrev Reg.CAN_TX_RETRY (l : Nat) : Nat := (21 + l) * 0x1000 + 0xc4
/-- `CAN.TXE_STAT` of instance `l`. -/
abbrev Reg.CAN_TXE_STAT (l : Nat) : Nat := (21 + l) * 0x1000 + 0xd0
/-- `CAN.TXE_POP` of instance `l`. -/
abbrev Reg.CAN_TXE_POP (l : Nat) : Nat := (21 + l) * 0x1000 + 0xd4
/-- `CAN.CLASH_ID` of instance `l`. -/
abbrev Reg.CAN_CLASH_ID (l : Nat) : Nat := (21 + l) * 0x1000 + 0xd8
/-- `CAN.CLASH_CNT` of instance `l`. -/
abbrev Reg.CAN_CLASH_CNT (l : Nat) : Nat := (21 + l) * 0x1000 + 0xdc
/-- `CAN.RX_OK` of instance `l`. -/
abbrev Reg.CAN_RX_OK (l : Nat) : Nat := (21 + l) * 0x1000 + 0xe0
/-- `CAN.TX_OK` of instance `l`. -/
abbrev Reg.CAN_TX_OK (l : Nat) : Nat := (21 + l) * 0x1000 + 0xe4
/-- `CAN.ARB_LOST` of instance `l`. -/
abbrev Reg.CAN_ARB_LOST (l : Nat) : Nat := (21 + l) * 0x1000 + 0xe8
/-- `CAN.RX_OVF` of instance `l`. -/
abbrev Reg.CAN_RX_OVF (l : Nat) : Nat := (21 + l) * 0x1000 + 0xec
/-- `CAN.TXE_OVF` of instance `l`. -/
abbrev Reg.CAN_TXE_OVF (l : Nat) : Nat := (21 + l) * 0x1000 + 0xf0
/-- `CAN.BUSOFFS` of instance `l`. -/
abbrev Reg.CAN_BUSOFFS (l : Nat) : Nat := (21 + l) * 0x1000 + 0xf4
/-- `CAN.RXF_HEAD` of instance `l`. -/
abbrev Reg.CAN_RXF_HEAD (l i : Nat) : Nat := (21 + l) * 0x1000 + 0x100 + 4 * i
/-- `CAN.TXB` of instance `l`. -/
abbrev Reg.CAN_TXB (l i : Nat) : Nat := (21 + l) * 0x1000 + 0x180 + 4 * i
/-- `CAN.TXE_HEAD` of instance `l`. -/
abbrev Reg.CAN_TXE_HEAD (l i : Nat) : Nat := (21 + l) * 0x1000 + 0x1e0 + 4 * i
/-- `CAN.FLT_ID` of instance `l`. -/
abbrev Reg.CAN_FLT_ID (l i : Nat) : Nat := (21 + l) * 0x1000 + 0x200 + 8 * i
/-- `CAN.FLT_MASK` of instance `l`. -/
abbrev Reg.CAN_FLT_MASK (l i : Nat) : Nat := (21 + l) * 0x1000 + 0x204 + 8 * i
/-- `ETH.ETH_CFG`. -/
abbrev Reg.ETH_ETH_CFG : Nat := 0x17040
/-- `ETH.ETH_STAT`. -/
abbrev Reg.ETH_ETH_STAT : Nat := 0x17044
/-- `ETH.MAC_LO`. -/
abbrev Reg.ETH_MAC_LO : Nat := 0x17048
/-- `ETH.MAC_HI`. -/
abbrev Reg.ETH_MAC_HI : Nat := 0x1704c
/-- `ETH.P1_LAT`. -/
abbrev Reg.ETH_P1_LAT : Nat := 0x17050
/-- `ETH.P2_LAT`. -/
abbrev Reg.ETH_P2_LAT : Nat := 0x17054
/-- `ETH.AGE_TIME`. -/
abbrev Reg.ETH_AGE_TIME : Nat := 0x17058
/-- `ETH.Q_LIMIT`. -/
abbrev Reg.ETH_Q_LIMIT : Nat := 0x1705c
/-- `ETH.DROPS`. -/
abbrev Reg.ETH_DROPS : Nat := 0x17060
/-- `ETH.TC_FRAMES`. -/
abbrev Reg.ETH_TC_FRAMES : Nat := 0x17064
/-- `ETH.TC_LONG`. -/
abbrev Reg.ETH_TC_LONG : Nat := 0x17068
/-- `ETH.P1_RX`. -/
abbrev Reg.ETH_P1_RX : Nat := 0x17070
/-- `ETH.P1_TX`. -/
abbrev Reg.ETH_P1_TX : Nat := 0x17074
/-- `ETH.P2_RX`. -/
abbrev Reg.ETH_P2_RX : Nat := 0x17078
/-- `ETH.P2_TX`. -/
abbrev Reg.ETH_P2_TX : Nat := 0x1707c
/-- `ETH.TS_HEAD`, element `i`. -/
abbrev Reg.ETH_TS_HEAD (i : Nat) : Nat := 0x17080 + 4 * i
/-- `ETH.TS_STAT`. -/
abbrev Reg.ETH_TS_STAT : Nat := 0x17098
/-- `ETH.LA_TIME_SECL`. -/
abbrev Reg.ETH_LA_TIME_SECL : Nat := 0x170a0
/-- `ETH.LA_TIME_SECH`. -/
abbrev Reg.ETH_LA_TIME_SECH : Nat := 0x170a4
/-- `ETH.LA_TIME_NS`. -/
abbrev Reg.ETH_LA_TIME_NS : Nat := 0x170a8
/-- `ETH.LA_ADDR`. -/
abbrev Reg.ETH_LA_ADDR : Nat := 0x170ac
/-- `ETH.LA_CTRL`. -/
abbrev Reg.ETH_LA_CTRL : Nat := 0x170b0
/-- `ETH.LA_CMD`. -/
abbrev Reg.ETH_LA_CMD : Nat := 0x170b4
/-- `ETH.LA_HANDLE`. -/
abbrev Reg.ETH_LA_HANDLE : Nat := 0x170b8
/-- `ETH.LA_FIFO`. -/
abbrev Reg.ETH_LA_FIFO : Nat := 0x170bc
/-- `ETH.LA_COUNT`. -/
abbrev Reg.ETH_LA_COUNT : Nat := 0x170c0
/-- `ETH.TXR_BASE`, element `i`. -/
abbrev Reg.ETH_TXR_BASE (i : Nat) : Nat := 0x17100 + 16 * i
/-- `ETH.TXR_SIZE`, element `i`. -/
abbrev Reg.ETH_TXR_SIZE (i : Nat) : Nat := 0x17104 + 16 * i
/-- `ETH.TXR_HEAD`, element `i`. -/
abbrev Reg.ETH_TXR_HEAD (i : Nat) : Nat := 0x17108 + 16 * i
/-- `ETH.TXR_TAIL`, element `i`. -/
abbrev Reg.ETH_TXR_TAIL (i : Nat) : Nat := 0x1710c + 16 * i
/-- `ETH.RXR_BASE`, element `i`. -/
abbrev Reg.ETH_RXR_BASE (i : Nat) : Nat := 0x17140 + 16 * i
/-- `ETH.RXR_SIZE`, element `i`. -/
abbrev Reg.ETH_RXR_SIZE (i : Nat) : Nat := 0x17144 + 16 * i
/-- `ETH.RXR_HEAD`, element `i`. -/
abbrev Reg.ETH_RXR_HEAD (i : Nat) : Nat := 0x17148 + 16 * i
/-- `ETH.RXR_TAIL`, element `i`. -/
abbrev Reg.ETH_RXR_TAIL (i : Nat) : Nat := 0x1714c + 16 * i
/-- `PTP.CLKD_CFG`, element `i`. -/
abbrev Reg.PTP_CLKD_CFG (i : Nat) : Nat := 0x18040 + 32 * i
/-- `PTP.ADJ`, element `i`. -/
abbrev Reg.PTP_ADJ (i : Nat) : Nat := 0x18044 + 32 * i
/-- `PTP.STEP_SECL`, element `i`. -/
abbrev Reg.PTP_STEP_SECL (i : Nat) : Nat := 0x18048 + 32 * i
/-- `PTP.STEP_SECH`, element `i`. -/
abbrev Reg.PTP_STEP_SECH (i : Nat) : Nat := 0x1804c + 32 * i
/-- `PTP.STEP_NS`, element `i`. -/
abbrev Reg.PTP_STEP_NS (i : Nat) : Nat := 0x18050 + 32 * i
/-- `PTP.CLKD_CMD`, element `i`. -/
abbrev Reg.PTP_CLKD_CMD (i : Nat) : Nat := 0x18054 + 32 * i
/-- `PTP.CLKD_STAT`, element `i`. -/
abbrev Reg.PTP_CLKD_STAT (i : Nat) : Nat := 0x18058 + 32 * i
/-- `PTP.PDELAY1`. -/
abbrev Reg.PTP_PDELAY1 : Nat := 0x180a0
/-- `PTP.PDELAY2`. -/
abbrev Reg.PTP_PDELAY2 : Nat := 0x180a4
/-- `DSP.DSP_CFG`. -/
abbrev Reg.DSP_DSP_CFG : Nat := 0x19040
/-- `DSP.DSP_STAT`. -/
abbrev Reg.DSP_DSP_STAT : Nat := 0x19044
/-- `DSP.STRING_ID`. -/
abbrev Reg.DSP_STRING_ID : Nat := 0x19048
/-- `DSP.DSP_IPV4`. -/
abbrev Reg.DSP_DSP_IPV4 : Nat := 0x1904c
/-- `DSP.DSP_MCAST`. -/
abbrev Reg.DSP_DSP_MCAST : Nat := 0x19050
/-- `DSP.PLANT_IP`. -/
abbrev Reg.DSP_PLANT_IP : Nat := 0x19054
/-- `DSP.PLANT_MAC_LO`. -/
abbrev Reg.DSP_PLANT_MAC_LO : Nat := 0x19058
/-- `DSP.PLANT_MAC_HI`. -/
abbrev Reg.DSP_PLANT_MAC_HI : Nat := 0x1905c
/-- `DSP.DSP_VLAN`. -/
abbrev Reg.DSP_DSP_VLAN : Nat := 0x19060
/-- `DSP.SENDER_ID`. -/
abbrev Reg.DSP_SENDER_ID : Nat := 0x19064
/-- `DSP.PEER`, element `i`. -/
abbrev Reg.DSP_PEER (i : Nat) : Nat := 0x19068 + 4 * i
/-- `DSP.RPT_CFG`. -/
abbrev Reg.DSP_RPT_CFG : Nat := 0x19078
/-- `DSP.RPT_ANGLE`. -/
abbrev Reg.DSP_RPT_ANGLE : Nat := 0x1907c
/-- `DSP.DSP_KEY`, element `i`. -/
abbrev Reg.DSP_DSP_KEY (i : Nat) : Nat := 0x19080 + 4 * i
/-- `DSP.KEY_CMD`. -/
abbrev Reg.DSP_KEY_CMD : Nat := 0x190a0
/-- `DSP.TX_CTR_HI`. -/
abbrev Reg.DSP_TX_CTR_HI : Nat := 0x190a4
/-- `DSP.LAST_REFUSE`. -/
abbrev Reg.DSP_LAST_REFUSE : Nat := 0x190a8
/-- `DSP.LAST_REF_SPID`. -/
abbrev Reg.DSP_LAST_REF_SPID : Nat := 0x190ac
/-- `DSP.RX_OK`. -/
abbrev Reg.DSP_RX_OK : Nat := 0x190b0
/-- `DSP.RX_BAD`. -/
abbrev Reg.DSP_RX_BAD : Nat := 0x190b4
/-- `DSP.RX_AUTH`. -/
abbrev Reg.DSP_RX_AUTH : Nat := 0x190b8
/-- `DSP.RX_DUP`. -/
abbrev Reg.DSP_RX_DUP : Nat := 0x190bc
/-- `DSP.RX_REPLAY`. -/
abbrev Reg.DSP_RX_REPLAY : Nat := 0x190c0
/-- `DSP.SP_ACCEPT`. -/
abbrev Reg.DSP_SP_ACCEPT : Nat := 0x190c4
/-- `DSP.SP_REFUSE`. -/
abbrev Reg.DSP_SP_REFUSE : Nat := 0x190c8
/-- `DSP.RPT_SENT`. -/
abbrev Reg.DSP_RPT_SENT : Nat := 0x190cc
/-- `REC.REC_CFG`. -/
abbrev Reg.REC_REC_CFG : Nat := 0x1a040
/-- `REC.REC_STAT`. -/
abbrev Reg.REC_REC_STAT : Nat := 0x1a044
/-- `REC.REC_FREEZE`. -/
abbrev Reg.REC_REC_FREEZE : Nat := 0x1a048
/-- `REC.REC_CMD`. -/
abbrev Reg.REC_REC_CMD : Nat := 0x1a04c
/-- `REC.REC_NONCE`. -/
abbrev Reg.REC_REC_NONCE : Nat := 0x1a050
/-- `REC.REC_TOKEN_ADDR`. -/
abbrev Reg.REC_REC_TOKEN_ADDR : Nat := 0x1a054
/-- `REC.CLEAR_EPOCH`. -/
abbrev Reg.REC_CLEAR_EPOCH : Nat := 0x1a058
/-- `REC.BOOT_COUNT`. -/
abbrev Reg.REC_BOOT_COUNT : Nat := 0x1a05c
/-- `REC.NEWEST_SEQ`. -/
abbrev Reg.REC_NEWEST_SEQ : Nat := 0x1a060
/-- `REC.OLDEST_SEQ`. -/
abbrev Reg.REC_OLDEST_SEQ : Nat := 0x1a064
/-- `REC.MS_COUNT`. -/
abbrev Reg.REC_MS_COUNT : Nat := 0x1a068
/-- `REC.SUPPRESSED`. -/
abbrev Reg.REC_SUPPRESSED : Nat := 0x1a06c
/-- `REC.INTAKE_LOST`. -/
abbrev Reg.REC_INTAKE_LOST : Nat := 0x1a070
/-- `REC.HOLD_LOST`. -/
abbrev Reg.REC_HOLD_LOST : Nat := 0x1a074
/-- `REC.TOLL_CODE`. -/
abbrev Reg.REC_TOLL_CODE : Nat := 0x1a078
/-- `REC.TOLL_PARAM`. -/
abbrev Reg.REC_TOLL_PARAM : Nat := 0x1a07c
/-- `REC.TOLL_STATE`. -/
abbrev Reg.REC_TOLL_STATE : Nat := 0x1a080
/-- `REC.REC_PAGE_EN_LO`. -/
abbrev Reg.REC_REC_PAGE_EN_LO : Nat := 0x1a084
/-- `REC.REC_PAGE_EN_HI`. -/
abbrev Reg.REC_REC_PAGE_EN_HI : Nat := 0x1a088
/-- `REC.REC_PD`, element `i`. -/
abbrev Reg.REC_REC_PD (i : Nat) : Nat := 0x1a090 + 4 * i
/-- `REC.REC_POST`. -/
abbrev Reg.REC_REC_POST : Nat := 0x1a0a8
/-- `REC.CKPT_SEQ`. -/
abbrev Reg.REC_CKPT_SEQ : Nat := 0x1a0b0
/-- `REC.CKPT_SLOT`. -/
abbrev Reg.REC_CKPT_SLOT : Nat := 0x1a0b4
/-- `REC.CKPT_FAILS`. -/
abbrev Reg.REC_CKPT_FAILS : Nat := 0x1a0b8
/-- `REC.RD_AREA`. -/
abbrev Reg.REC_RD_AREA : Nat := 0x1a0c0
/-- `REC.RD_KEY`. -/
abbrev Reg.REC_RD_KEY : Nat := 0x1a0c4
/-- `REC.RD_STAT`. -/
abbrev Reg.REC_RD_STAT : Nat := 0x1a0c8
/-- `REC.RD_WIN`, element `i`. -/
abbrev Reg.REC_RD_WIN (i : Nat) : Nat := 0x1a100 + 4 * i
/-- `SYS.PART_ID`. -/
abbrev Reg.SYS_PART_ID : Nat := 0x40
/-- `SYS.DIE_REV`. -/
abbrev Reg.SYS_DIE_REV : Nat := 0x44
/-- `SYS.SERIAL_LO`. -/
abbrev Reg.SYS_SERIAL_LO : Nat := 0x48
/-- `SYS.SERIAL_HI`. -/
abbrev Reg.SYS_SERIAL_HI : Nat := 0x4c
/-- `SYS.DIE_TEMP`. -/
abbrev Reg.SYS_DIE_TEMP : Nat := 0x50
/-- `SYS.ECC_CE`. -/
abbrev Reg.SYS_ECC_CE : Nat := 0x54
/-- `SYS.ECC_UE`. -/
abbrev Reg.SYS_ECC_UE : Nat := 0x58
/-- `SYS.ECC_UE_ADDR_LO`. -/
abbrev Reg.SYS_ECC_UE_ADDR_LO : Nat := 0x5c
/-- `SYS.ECC_UE_ADDR_HI`. -/
abbrev Reg.SYS_ECC_UE_ADDR_HI : Nat := 0x60
/-- `CLK.CLK_CFG`. -/
abbrev Reg.CLK_CLK_CFG : Nat := 0x1040
/-- `CLK.CLK_STAT`. -/
abbrev Reg.CLK_CLK_STAT : Nat := 0x1044
/-- `CLK.OSC_QUAL`. -/
abbrev Reg.CLK_OSC_QUAL : Nat := 0x1048
/-- `CLK.REF_ERR`. -/
abbrev Reg.CLK_REF_ERR : Nat := 0x104c
/-- `CLK.DVFS_REQ`. -/
abbrev Reg.CLK_DVFS_REQ : Nat := 0x1050
/-- `CLK.DVFS_STAT`. -/
abbrev Reg.CLK_DVFS_STAT : Nat := 0x1054
/-- `CLK.CLK_GATE_LO`. -/
abbrev Reg.CLK_CLK_GATE_LO : Nat := 0x1058
/-- `CLK.CLK_GATE_HI`. -/
abbrev Reg.CLK_CLK_GATE_HI : Nat := 0x105c
/-- `CLK.CLK_GATE_STAT_LO`. -/
abbrev Reg.CLK_CLK_GATE_STAT_LO : Nat := 0x1060
/-- `CLK.CLK_GATE_STAT_HI`. -/
abbrev Reg.CLK_CLK_GATE_STAT_HI : Nat := 0x1064
/-- `RST.RST_CAUSE`. -/
abbrev Reg.RST_RST_CAUSE : Nat := 0x2040
/-- `RST.RST_KEY`. -/
abbrev Reg.RST_RST_KEY : Nat := 0x2044
/-- `RST.RST_CMD`. -/
abbrev Reg.RST_RST_CMD : Nat := 0x2048
/-- `RST.RST_HOLD`. -/
abbrev Reg.RST_RST_HOLD : Nat := 0x204c
/-- `RST.WDT_CFG`, element `i`. -/
abbrev Reg.RST_WDT_CFG (i : Nat) : Nat := 0x2050 + 4 * i
/-- `RST.WDT_KICK`, element `i`. -/
abbrev Reg.RST_WDT_KICK (i : Nat) : Nat := 0x2064 + 4 * i
/-- `RST.RST_COUNT`. -/
abbrev Reg.RST_RST_COUNT : Nat := 0x2078
/-- `SEC.SEC_STAT`. -/
abbrev Reg.SEC_SEC_STAT : Nat := 0x1e040
/-- `SEC.SEC_CMD`. -/
abbrev Reg.SEC_SEC_CMD : Nat := 0x1e044
/-- `SEC.SEC_ADDR`. -/
abbrev Reg.SEC_SEC_ADDR : Nat := 0x1e048
/-- `SEC.SEC_LEN`. -/
abbrev Reg.SEC_SEC_LEN : Nat := 0x1e04c
/-- `SEC.SEC_OUT`. -/
abbrev Reg.SEC_SEC_OUT : Nat := 0x1e050
/-- `SEC.SEC_SLOT`. -/
abbrev Reg.SEC_SEC_SLOT : Nat := 0x1e054
/-- `SEC.SEC_OUT_LEN`. -/
abbrev Reg.SEC_SEC_OUT_LEN : Nat := 0x1e058
/-- `SEC.MIN_SVN`. -/
abbrev Reg.SEC_MIN_SVN : Nat := 0x1e05c
/-- `SEC.SEC_RAND`. -/
abbrev Reg.SEC_SEC_RAND : Nat := 0x1e060
/-- `UPD.UPD_CFG`. -/
abbrev Reg.UPD_UPD_CFG : Nat := 0x1d040
/-- `UPD.UPD_STAT`. -/
abbrev Reg.UPD_UPD_STAT : Nat := 0x1d044
/-- `UPD.UPD_CMD`. -/
abbrev Reg.UPD_UPD_CMD : Nat := 0x1d048
/-- `UPD.UPD_ADDR`. -/
abbrev Reg.UPD_UPD_ADDR : Nat := 0x1d04c
/-- `UPD.UPD_LEN`. -/
abbrev Reg.UPD_UPD_LEN : Nat := 0x1d050
/-- `UPD.UPD_ACT_SECL`. -/
abbrev Reg.UPD_UPD_ACT_SECL : Nat := 0x1d054
/-- `UPD.UPD_ACT_SECH`. -/
abbrev Reg.UPD_UPD_ACT_SECH : Nat := 0x1d058
/-- `UPD.PARTNER_ACT`. -/
abbrev Reg.UPD_PARTNER_ACT : Nat := 0x1d05c
/-- `UPD.UPD_PAIR_TMO`. -/
abbrev Reg.UPD_UPD_PAIR_TMO : Nat := 0x1d060
/-- `UPD.RUN_VER`. -/
abbrev Reg.UPD_RUN_VER : Nat := 0x1d064
/-- `UPD.STAGE_VER`. -/
abbrev Reg.UPD_STAGE_VER : Nat := 0x1d068
/-- `UPD.RUN_SVN`. -/
abbrev Reg.UPD_RUN_SVN : Nat := 0x1d06c
/-- `UPD.UPD_PROGRESS`. -/
abbrev Reg.UPD_UPD_PROGRESS : Nat := 0x1d070
/-- `UPD.RECOVERIES`. -/
abbrev Reg.UPD_RECOVERIES : Nat := 0x1d074
/-- `GPIO.GPIO_DIR`. -/
abbrev Reg.GPIO_GPIO_DIR : Nat := 0x20040
/-- `GPIO.GPIO_OUT`. -/
abbrev Reg.GPIO_GPIO_OUT : Nat := 0x20044
/-- `GPIO.GPIO_IN`. -/
abbrev Reg.GPIO_GPIO_IN : Nat := 0x20048
/-- `GPIO.GPIO_EDGE`. -/
abbrev Reg.GPIO_GPIO_EDGE : Nat := 0x2004c
/-- `GPIO.GPIO_STAMP_SEL`. -/
abbrev Reg.GPIO_GPIO_STAMP_SEL : Nat := 0x20050
/-- `GPIO.GPIO_STAMP_LO`. -/
abbrev Reg.GPIO_GPIO_STAMP_LO : Nat := 0x20054
/-- `GPIO.GPIO_STAMP_HI`. -/
abbrev Reg.GPIO_GPIO_STAMP_HI : Nat := 0x20058

/-- The block registers of page 0x0. -/
def regPage0 : List RegRow :=
  [⟨0x40, 4, 1, .ro, 0x0, 0x0⟩,
   ⟨0x44, 4, 1, .ro, 0x0, 0x0⟩,
   ⟨0x48, 4, 1, .ro, 0x0, 0x0⟩,
   ⟨0x4c, 4, 1, .ro, 0x0, 0x0⟩,
   ⟨0x50, 4, 1, .ro, 0x0, 0x0⟩,
   ⟨0x54, 4, 1, .ro, 0x0, 0x0⟩,
   ⟨0x58, 4, 1, .ro, 0x0, 0x0⟩,
   ⟨0x5c, 4, 1, .ro, 0x0, 0x0⟩,
   ⟨0x60, 4, 1, .ro, 0x0, 0x0⟩]

/-- The block registers of page 0x1. -/
def regPage1 : List RegRow :=
  [⟨0x40, 4, 1, .rwl, 0x0, 0x3⟩,
   ⟨0x44, 4, 1, .ro, 0x1, 0x0⟩,
   ⟨0x48, 4, 1, .rwl, 0x0, 0xffffffff⟩,
   ⟨0x4c, 4, 1, .ro, 0x0, 0x0⟩,
   ⟨0x50, 4, 1, .rw, 0x1, 0x3⟩,
   ⟨0x54, 4, 1, .ro, 0x1, 0x0⟩,
   ⟨0x58, 4, 1, .rw, 0xffffffff, 0xffffffff⟩,
   ⟨0x5c, 4, 1, .rw, 0x1, 0x1⟩,
   ⟨0x60, 4, 1, .ro, 0xffffffff, 0x0⟩,
   ⟨0x64, 4, 1, .ro, 0x1, 0x0⟩]

/-- The block registers of page 0x2. -/
def regPage2 : List RegRow :=
  [⟨0x40, 4, 1, .w1c, 0x1, 0x1ffff⟩,
   ⟨0x44, 4, 1, .wo, 0x0, 0x0⟩,
   ⟨0x48, 4, 1, .wo, 0x0, 0x0⟩,
   ⟨0x4c, 4, 1, .ro, 0x1f, 0x0⟩,
   ⟨0x50, 4, 5, .rw, 0x0, 0x8000ffff⟩,
   ⟨0x64, 4, 5, .wo, 0x0, 0x0⟩,
   ⟨0x78, 4, 1, .ro, 0x0, 0x0⟩]

/-- The block registers of page 0x3. -/
def regPage3 : List RegRow :=
  [⟨0x40, 4, 1, .ro, 0x0, 0x0⟩,
   ⟨0x44, 4, 1, .ro, 0x0, 0x0⟩,
   ⟨0x48, 4, 1, .w1c, 0x0, 0xffffffff⟩,
   ⟨0x4c, 4, 1, .wo, 0x0, 0x0⟩,
   ⟨0x50, 4, 1, .ro, 0x0, 0x0⟩,
   ⟨0x54, 4, 1, .ro, 0x0, 0x0⟩,
   ⟨0x58, 4, 1, .ro, 0x0, 0x0⟩,
   ⟨0x5c, 4, 1, .ro, 0x0, 0x0⟩,
   ⟨0x60, 4, 1, .ro, 0x0, 0x0⟩,
   ⟨0x64, 4, 1, .ro, 0x0, 0x0⟩,
   ⟨0x68, 4, 1, .wo, 0x0, 0x0⟩,
   ⟨0x6c, 4, 1, .ro, 0x0, 0x0⟩,
   ⟨0x200, 8, 64, .rwl, 0x0, 0xffffffff⟩,
   ⟨0x204, 8, 64, .rwl, 0x0, 0x00ffffff⟩,
   ⟨0x400, 16, 64, .rwl, 0x0, 0x8fffffff⟩,
   ⟨0x404, 16, 64, .rwl, 0x0, 0xffffffff⟩,
   ⟨0x408, 16, 64, .rwl, 0x0, 0xffffffff⟩,
   ⟨0x40c, 16, 64, .rwl, 0x0, 0x00ffffff⟩]

/-- The block registers of page 0x4. -/
def regPage4 : List RegRow :=
  [⟨0x40, 4, 1, .rw, 0x2710, 0xffffffff⟩,
   ⟨0x44, 4, 1, .ro, 0x0, 0x0⟩,
   ⟨0x48, 4, 1, .ro, 0x0, 0x0⟩,
   ⟨0x4c, 4, 1, .ro, 0x0, 0x0⟩,
   ⟨0x50, 4, 1, .ro, 0x0, 0x0⟩,
   ⟨0x54, 4, 1, .ro, 0x0, 0x0⟩,
   ⟨0x58, 4, 1, .ro, 0x0, 0x0⟩]

/-- The block registers of page 0x5. -/
def regPage5 : List RegRow :=
  [⟨0x100, 4, 64, .rwl, 0x0, 0x1ffff⟩]

/-- The block registers of page 0x6. -/
def regPage6 : List RegRow :=
  [⟨0x40, 4, 1, .ro, 0x0, 0x0⟩,
   ⟨0x44, 4, 1, .ro, 0x0, 0x0⟩,
   ⟨0x48, 4, 1, .ro, 0x0, 0x0⟩,
   ⟨0x4c, 4, 1, .ro, 0x0, 0x0⟩,
   ⟨0x50, 4, 1, .ro, 0x0, 0x0⟩,
   ⟨0x54, 4, 1, .ro, 0x0, 0x0⟩,
   ⟨0x58, 4, 1, .ro, 0x0, 0x0⟩,
   ⟨0x5c, 4, 1, .ro, 0x0, 0x0⟩,
   ⟨0x60, 4, 1, .ro, 0x0, 0x0⟩,
   ⟨0x64, 4, 1, .ro, 0x0, 0x0⟩,
   ⟨0x68, 4, 1, .ro, 0x0, 0x0⟩,
   ⟨0x6c, 4, 1, .ro, 0x0, 0x0⟩,
   ⟨0x70, 4, 1, .ro, 0x0, 0x0⟩,
   ⟨0x74, 4, 1, .ro, 0x0, 0x0⟩,
   ⟨0x78, 4, 1, .ro, 0x0, 0x0⟩,
   ⟨0x7c, 4, 1, .ro, 0x0, 0x0⟩,
   ⟨0x80, 4, 1, .ro, 0x0, 0x0⟩,
   ⟨0x84, 4, 1, .ro, 0x0, 0x0⟩,
   ⟨0x90, 4, 1, .rw, 0x0, 0x3⟩,
   ⟨0x94, 4, 1, .rw, 0x2710, 0xffffffff⟩,
   ⟨0x98, 4, 1, .ro, 0x0, 0x0⟩,
   ⟨0xa0, 4, 1, .rw, 0x0, 0x3⟩,
   ⟨0xa4, 4, 1, .ro, 0x0, 0x0⟩,
   ⟨0xa8, 4, 1, .ro, 0x0, 0x0⟩] ++
  [⟨0xac, 4, 1, .ro, 0x0, 0x0⟩,
   ⟨0xb0, 4, 1, .ro, 0x0, 0x0⟩,
   ⟨0xc0, 4, 1, .rw, 0x0, 0x3⟩,
   ⟨0xc4, 4, 1, .rw, 0x186a0, 0xffffffff⟩,
   ⟨0xc8, 4, 1, .rw, 0x0, 0xffffffff⟩]

/-- The block registers of page 0x7. -/
def regPage7 : List RegRow :=
  [⟨0x40, 4, 1, .rwl, 0x2, 0x7⟩,
   ⟨0x44, 4, 1, .ro, 0x0, 0x0⟩,
   ⟨0x48, 4, 1, .ro, 0x2faf080, 0x0⟩,
   ⟨0x4c, 4, 1, .ro, 0x0, 0x0⟩,
   ⟨0x50, 4, 1, .ro, 0x0, 0x0⟩,
   ⟨0x54, 4, 1, .ro, 0x0, 0x0⟩,
   ⟨0x58, 4, 1, .ro, 0x0, 0x0⟩,
   ⟨0x5c, 4, 1, .ro, 0x0, 0x0⟩,
   ⟨0x60, 4, 1, .ro, 0x0, 0x0⟩,
   ⟨0x64, 4, 1, .ro, 0x0, 0x0⟩,
   ⟨0x68, 4, 1, .ro, 0x0, 0x0⟩,
   ⟨0x6c, 4, 1, .ro, 0x0, 0x0⟩,
   ⟨0x70, 4, 1, .ro, 0x0, 0x0⟩,
   ⟨0x74, 4, 1, .rwl, 0x0, 0xffffffff⟩,
   ⟨0x78, 4, 1, .rwl, 0x0, 0xffff⟩,
   ⟨0x7c, 4, 1, .rw, 0x0, 0xffffffff⟩,
   ⟨0x80, 4, 1, .rw, 0x0, 0xffffffff⟩,
   ⟨0x84, 4, 1, .rw, 0x0, 0xffffffff⟩,
   ⟨0x88, 4, 1, .ro, 0x0, 0x0⟩,
   ⟨0x8c, 4, 1, .rw, 0x2222222, 0xffffffff⟩,
   ⟨0x90, 4, 1, .rw, 0x7d0, 0xffffffff⟩,
   ⟨0x94, 4, 1, .rw, 0x40000000, 0xffffffff⟩,
   ⟨0x98, 4, 1, .ro, 0x0, 0x0⟩,
   ⟨0xa0, 4, 1, .rw, 0x0, 0xffffffff⟩] ++
  [⟨0xa4, 4, 1, .rw, 0x0, 0xffffffff⟩,
   ⟨0xa8, 4, 1, .rw, 0x0, 0x10fffff⟩,
   ⟨0xac, 4, 1, .wo, 0x0, 0x0⟩,
   ⟨0xb0, 4, 1, .rw, 0x0, 0xffffffff⟩,
   ⟨0xb4, 4, 1, .ro, 0x0, 0x0⟩,
   ⟨0xb8, 4, 1, .rc, 0x0, 0x0⟩,
   ⟨0xbc, 4, 1, .ro, 0x0, 0x0⟩,
   ⟨0xc0, 4, 1, .rw, 0xa0000, 0xffff0007⟩,
   ⟨0xc4, 4, 1, .ro, 0x0, 0x0⟩]

/-- The block registers of page 0x8. -/
def regPage8 : List RegRow :=
  [⟨0x40, 4, 1, .rwl, 0x0, 0xf1⟩,
   ⟨0x44, 4, 1, .ro, 0x0, 0x0⟩,
   ⟨0x48, 4, 1, .ro, 0x0, 0x0⟩,
   ⟨0x4c, 4, 1, .ro, 0x0, 0x0⟩,
   ⟨0x50, 4, 1, .ro, 0x0, 0x0⟩,
   ⟨0x54, 4, 1, .ro, 0x0, 0x0⟩,
   ⟨0x58, 4, 1, .ro, 0x0, 0x0⟩,
   ⟨0x5c, 4, 1, .ro, 0x0, 0x0⟩,
   ⟨0x60, 4, 1, .ro, 0x0, 0x0⟩,
   ⟨0x64, 4, 1, .ro, 0x0, 0x0⟩,
   ⟨0x68, 4, 1, .ro, 0x0, 0x0⟩,
   ⟨0x6c, 4, 1, .ro, 0x0, 0x0⟩,
   ⟨0x70, 4, 1, .ro, 0x0, 0x0⟩,
   ⟨0x74, 4, 1, .ro, 0x0, 0x0⟩,
   ⟨0x80, 4, 16, .ro, 0xff0080, 0x0⟩]

/-- The block registers of page 0xa. -/
def regPage10 : List RegRow :=
  [⟨0x40, 4, 1, .rw, 0x1005, 0xff07⟩,
   ⟨0x44, 4, 1, .rw, 0x258, 0xffffffff⟩,
   ⟨0x48, 4, 1, .rw, 0x7530, 0xffffffff⟩,
   ⟨0x4c, 4, 1, .rw, 0xd, 0xffffffff⟩,
   ⟨0x50, 4, 1, .wo, 0x0, 0x0⟩,
   ⟨0x54, 4, 1, .rw, 0x0, 0xffffffff⟩,
   ⟨0x58, 4, 1, .ro, 0x0, 0x0⟩,
   ⟨0x5c, 4, 1, .rw, 0x0, 0xffffffff⟩,
   ⟨0x60, 4, 1, .rw, 0x0, 0x1f⟩,
   ⟨0x64, 4, 1, .ro, 0x0, 0x0⟩,
   ⟨0x68, 4, 1, .ro, 0x0, 0x0⟩,
   ⟨0x6c, 4, 1, .ro, 0x0, 0x0⟩,
   ⟨0x70, 4, 1, .ro, 0x0, 0x0⟩,
   ⟨0x74, 4, 1, .rw, 0xffffffff, 0xffffffff⟩,
   ⟨0x78, 4, 1, .rw, 0xff, 0xff⟩,
   ⟨0x7c, 4, 1, .ro, 0x0, 0x0⟩,
   ⟨0x80, 4, 1, .ro, 0x0, 0x0⟩,
   ⟨0x84, 4, 1, .ro, 0x0, 0x0⟩,
   ⟨0x88, 4, 1, .ro, 0x0, 0x0⟩,
   ⟨0x8c, 4, 1, .ro, 0x0, 0x0⟩,
   ⟨0x90, 4, 1, .rc, 0x0, 0x0⟩,
   ⟨0x100, 4, 32, .ro, 0x0, 0x0⟩,
   ⟨0x180, 4, 32, .ro, 0xffff, 0x0⟩]

/-- The block registers of page 0xb. -/
def regPage11 : List RegRow :=
  [⟨0x40, 4, 1, .rw, 0x200, 0x707⟩,
   ⟨0x44, 4, 1, .ro, 0x0, 0x0⟩,
   ⟨0x48, 4, 1, .ro, 0x0, 0x0⟩,
   ⟨0x4c, 4, 1, .ro, 0x107f8000, 0x0⟩,
   ⟨0x50, 4, 1, .rw, 0x1388, 0xffffffff⟩,
   ⟨0x54, 4, 1, .rw, 0xbb80, 0xffffffff⟩,
   ⟨0x58, 4, 1, .rw, 0x1f4, 0xffffffff⟩,
   ⟨0x5c, 4, 1, .rw, 0x1f4, 0xffffffff⟩,
   ⟨0x60, 4, 1, .rw, 0x4e20, 0xffffffff⟩,
   ⟨0x64, 4, 1, .rw, 0x7d0, 0xffffffff⟩,
   ⟨0x68, 4, 1, .rw, 0x30d4f060, 0xffffffff⟩,
   ⟨0x6c, 4, 1, .rw, 0x5dc01f4, 0xffffffff⟩,
   ⟨0x70, 4, 1, .rw, 0x7d0, 0xffffffff⟩,
   ⟨0x74, 4, 1, .rw, 0x0, 0xffffffff⟩,
   ⟨0x78, 4, 1, .rw, 0x40400820, 0xffffffff⟩,
   ⟨0x7c, 4, 1, .rw, 0x1388, 0xffffffff⟩,
   ⟨0x80, 4, 1, .rw, 0x13882710, 0xffffffff⟩,
   ⟨0x84, 4, 1, .rw, 0x301f4, 0xfffff⟩,
   ⟨0x88, 4, 1, .rw, 0x258, 0xffffffff⟩,
   ⟨0x8c, 4, 1, .rw, 0x0, 0x1f⟩,
   ⟨0x90, 4, 1, .ro, 0x0, 0x0⟩,
   ⟨0x94, 4, 1, .ro, 0x0, 0x0⟩,
   ⟨0x98, 4, 1, .wo, 0x0, 0x0⟩,
   ⟨0x9c, 4, 1, .ro, 0x0, 0x0⟩] ++
  [⟨0xa0, 4, 1, .ro, 0x0, 0x0⟩,
   ⟨0xa4, 4, 1, .ro, 0x0, 0x0⟩,
   ⟨0xa8, 4, 1, .ro, 0x0, 0x0⟩,
   ⟨0xac, 4, 1, .ro, 0x0, 0x0⟩,
   ⟨0xb0, 4, 1, .ro, 0x0, 0x0⟩]

/-- The block registers of page 0xc. -/
def regPage12 : List RegRow :=
  [⟨0x40, 4, 1, .rwl, 0x7, 0xff⟩,
   ⟨0x44, 4, 1, .rwl, 0x0, 0xffffffff⟩,
   ⟨0x48, 4, 1, .rwl, 0x0, 0xffffffff⟩,
   ⟨0x4c, 4, 1, .rwl, 0x0, 0xffffffff⟩,
   ⟨0x50, 4, 1, .rwl, 0x0, 0xffffffff⟩,
   ⟨0x54, 4, 1, .rwl, 0x0, 0xffffffff⟩,
   ⟨0x58, 4, 1, .rwl, 0x0, 0xffffffff⟩,
   ⟨0x5c, 4, 1, .rwl, 0x0, 0xffffffff⟩,
   ⟨0x60, 4, 1, .rwl, 0x0, 0xffffffff⟩,
   ⟨0x64, 4, 1, .rwl, 0x0, 0xffffffff⟩,
   ⟨0x68, 4, 1, .rw, 0x733333, 0xffffffff⟩,
   ⟨0x6c, 4, 1, .rw, 0x3200c8, 0xffffffff⟩,
   ⟨0x70, 4, 1, .ro, 0x0, 0x0⟩,
   ⟨0x74, 4, 1, .ro, 0x0, 0x0⟩,
   ⟨0x78, 4, 1, .ro, 0x0, 0x0⟩,
   ⟨0x7c, 4, 1, .ro, 0x0, 0x0⟩,
   ⟨0x80, 4, 1, .ro, 0x0, 0x0⟩,
   ⟨0x84, 4, 1, .ro, 0x0, 0x0⟩,
   ⟨0x88, 4, 1, .ro, 0x0, 0x0⟩,
   ⟨0x8c, 4, 1, .ro, 0x0, 0x0⟩]

/-- The block registers of page 0xd. -/
def regPage13 : List RegRow :=
  [⟨0x40, 4, 1, .rw, 0x13, 0x1f⟩,
   ⟨0x44, 4, 1, .ro, 0x0, 0x0⟩,
   ⟨0x48, 4, 1, .ro, 0x0, 0x0⟩,
   ⟨0x4c, 4, 1, .ro, 0x0, 0x0⟩,
   ⟨0x50, 4, 1, .rw, 0x0, 0xffffffff⟩,
   ⟨0x54, 4, 1, .rw, 0x280064, 0xffffff⟩,
   ⟨0x58, 4, 1, .rw, 0xe10, 0xffffffff⟩,
   ⟨0x5c, 4, 1, .rw, 0xc350, 0xffffffff⟩,
   ⟨0x60, 4, 1, .ro, 0x0, 0x0⟩,
   ⟨0x64, 4, 1, .rw, 0x3089705f, 0xffffffff⟩,
   ⟨0x68, 4, 1, .rw, 0x358637bd, 0xffffffff⟩,
   ⟨0x6c, 4, 1, .rw, 0x358637bd, 0xffffffff⟩,
   ⟨0x70, 4, 1, .rw, 0x3d23d70a, 0xffffffff⟩,
   ⟨0x74, 4, 1, .rw, 0xa40, 0xffff⟩,
   ⟨0x78, 4, 1, .rw, 0x7d010, 0xffffff⟩,
   ⟨0x7c, 4, 1, .rw, 0x3a83126f, 0xffffffff⟩,
   ⟨0x80, 4, 1, .rw, 0x3c, 0xffffffff⟩,
   ⟨0x84, 4, 1, .rw, 0x0, 0xffffffff⟩,
   ⟨0x88, 4, 1, .wo, 0x0, 0x0⟩,
   ⟨0x8c, 4, 1, .rw, 0x0, 0xffffffff⟩,
   ⟨0x90, 4, 1, .rw, 0x1ff0000, 0x1ff01ff⟩,
   ⟨0x94, 4, 1, .ro, 0x0, 0x0⟩,
   ⟨0x98, 4, 1, .ro, 0x0, 0x0⟩,
   ⟨0x9c, 4, 1, .ro, 0x0, 0x0⟩] ++
  [⟨0xa0, 4, 1, .ro, 0x0, 0x0⟩,
   ⟨0xa4, 4, 1, .ro, 0x0, 0x0⟩,
   ⟨0xa8, 4, 1, .ro, 0x0, 0x0⟩,
   ⟨0xac, 4, 1, .ro, 0x0, 0x0⟩,
   ⟨0xb0, 4, 1, .ro, 0x0, 0x0⟩,
   ⟨0xb4, 4, 1, .ro, 0x0, 0x0⟩,
   ⟨0xb8, 4, 1, .ro, 0x0, 0x0⟩,
   ⟨0xbc, 4, 1, .rw, 0x0, 0x1ff⟩,
   ⟨0x100, 4, 32, .ro, 0x0, 0x0⟩]

/-- The block registers of page 0xe. -/
def regPage14 : List RegRow :=
  [⟨0x40, 4, 1, .rw, 0x14053040, 0xffffffff⟩,
   ⟨0x44, 4, 1, .rw, 0x7d000c8, 0xffffffff⟩,
   ⟨0x48, 4, 1, .rw, 0x3c0320, 0xffffffff⟩,
   ⟨0x4c, 4, 1, .rw, 0x48, 0xffffffff⟩,
   ⟨0x50, 4, 1, .rw, 0x12c0014, 0xffffffff⟩,
   ⟨0x54, 4, 1, .rw, 0x8aac7148, 0xffffffff⟩,
   ⟨0x58, 4, 1, .rw, 0x64, 0xffffffff⟩,
   ⟨0x5c, 4, 1, .rw, 0x8ca06d60, 0xffffffff⟩,
   ⟨0x60, 4, 1, .rw, 0x3c, 0xffffffff⟩,
   ⟨0x64, 4, 1, .rw, 0xa00c8, 0xffffffff⟩,
   ⟨0x68, 4, 1, .rw, 0x78320528, 0xffffffff⟩,
   ⟨0x6c, 4, 1, .rw, 0x3e803e8, 0xffffffff⟩,
   ⟨0x70, 4, 1, .rw, 0x0, 0xffff⟩,
   ⟨0x74, 4, 1, .rw, 0x0, 0xffffffff⟩,
   ⟨0x78, 4, 1, .rw, 0x3, 0xffffffff⟩,
   ⟨0x80, 4, 1, .ro, 0x0, 0x0⟩,
   ⟨0x84, 4, 1, .ro, 0xffffffff, 0x0⟩,
   ⟨0x88, 4, 1, .ro, 0xffffffff, 0x0⟩,
   ⟨0x8c, 4, 1, .ro, 0x0, 0x0⟩,
   ⟨0x90, 4, 1, .ro, 0x0, 0x0⟩,
   ⟨0x94, 4, 1, .ro, 0x0, 0x0⟩,
   ⟨0x98, 4, 1, .ro, 0x0, 0x0⟩,
   ⟨0x9c, 4, 1, .ro, 0x0, 0x0⟩,
   ⟨0xa0, 4, 1, .ro, 0x0, 0x0⟩] ++
  [⟨0xa4, 4, 1, .ro, 0x0, 0x0⟩,
   ⟨0xa8, 4, 1, .ro, 0x0, 0x0⟩,
   ⟨0xac, 4, 1, .ro, 0x0, 0x0⟩,
   ⟨0xb0, 4, 1, .ro, 0x0, 0x0⟩,
   ⟨0xb4, 4, 1, .ro, 0x0, 0x0⟩,
   ⟨0xb8, 4, 1, .ro, 0x0, 0x0⟩,
   ⟨0xbc, 4, 1, .ro, 0x0, 0x0⟩,
   ⟨0xc0, 4, 1, .ro, 0x0, 0x0⟩,
   ⟨0xc4, 4, 1, .ro, 0x0, 0x0⟩,
   ⟨0xc8, 4, 1, .ro, 0x0, 0x0⟩,
   ⟨0xcc, 4, 1, .ro, 0x0, 0x0⟩,
   ⟨0xd0, 4, 1, .ro, 0x0, 0x0⟩,
   ⟨0xd4, 4, 1, .ro, 0x0, 0x0⟩,
   ⟨0xd8, 4, 1, .ro, 0x0, 0x0⟩,
   ⟨0xdc, 4, 1, .ro, 0x0, 0x0⟩,
   ⟨0xe0, 4, 1, .ro, 0x0, 0x0⟩,
   ⟨0xe4, 4, 1, .ro, 0x0, 0x0⟩,
   ⟨0xe8, 4, 1, .ro, 0x0, 0x0⟩,
   ⟨0x100, 4, 1, .wo, 0x0, 0x0⟩,
   ⟨0x104, 4, 1, .rw, 0x0, 0xffffffff⟩,
   ⟨0x108, 4, 1, .rw, 0x10000, 0xffffff⟩,
   ⟨0x10c, 4, 1, .rw, 0x1ff0000, 0x1ff01ff⟩,
   ⟨0x110, 4, 1, .rw, 0x0, 0xffffffff⟩,
   ⟨0x114, 4, 1, .rw, 0x0, 0xffffffff⟩] ++
  [⟨0x118, 4, 1, .ro, 0x0, 0x0⟩,
   ⟨0x11c, 4, 1, .ro, 0x20000, 0x0⟩,
   ⟨0x120, 4, 1, .ro, 0x0, 0x0⟩,
   ⟨0x124, 4, 1, .ro, 0x0, 0x0⟩]

/-- The block registers of page 0xf. -/
def regPage15 : List RegRow :=
  [⟨0x40, 4, 1, .rw, 0x1, 0x13⟩,
   ⟨0x44, 4, 1, .rw, 0x640032, 0xffffffff⟩,
   ⟨0x48, 4, 1, .rw, 0xe10, 0xffffffff⟩,
   ⟨0x4c, 4, 1, .rw, 0x1f78a40, 0xffffffff⟩,
   ⟨0x50, 4, 1, .rw, 0x7530, 0xffffffff⟩,
   ⟨0x54, 4, 1, .rw, 0x251c1b58, 0xffffffff⟩,
   ⟨0x58, 4, 1, .rw, 0x7d02904, 0xffffffff⟩,
   ⟨0x5c, 4, 1, .rw, 0x0, 0xffffffff⟩,
   ⟨0x60, 4, 1, .ro, 0x0, 0x0⟩,
   ⟨0x64, 4, 1, .w1c, 0x0, 0xffffffff⟩,
   ⟨0x68, 4, 1, .rw, 0x0, 0x1f⟩,
   ⟨0x6c, 4, 1, .ro, 0x0, 0x0⟩,
   ⟨0x70, 4, 1, .ro, 0x0, 0x0⟩,
   ⟨0x74, 4, 1, .ro, 0x0, 0x0⟩]

/-- The block registers of page 0x10. -/
def regPage16 : List RegRow :=
  [⟨0x40, 4, 1, .rwl, 0x204, 0x37f⟩,
   ⟨0x44, 4, 1, .ro, 0x44, 0x0⟩,
   ⟨0x48, 4, 1, .wo, 0x0, 0x0⟩,
   ⟨0x4c, 4, 1, .rw, 0x0, 0xffffffff⟩,
   ⟨0x50, 4, 1, .rw, 0x0, 0xffffffff⟩,
   ⟨0x54, 4, 1, .rw, 0x0, 0xffffffff⟩,
   ⟨0x58, 4, 1, .rw, 0x0, 0xffffffff⟩,
   ⟨0x5c, 4, 1, .rw, 0x186a0, 0xffffffff⟩,
   ⟨0x60, 4, 1, .rw, 0x3e80118, 0xffffffff⟩,
   ⟨0x64, 4, 1, .rw, 0x5780190, 0xffffffff⟩,
   ⟨0x68, 4, 1, .rw, 0x50000, 0xffffffff⟩,
   ⟨0x6c, 4, 1, .rw, 0x4002000, 0xffffffff⟩,
   ⟨0x70, 4, 1, .rw, 0x80011414, 0xff03ffff⟩,
   ⟨0x74, 4, 1, .rw, 0x2710, 0xffffffff⟩,
   ⟨0x78, 4, 1, .rw, 0x2328, 0xffffffff⟩,
   ⟨0x80, 4, 1, .rw, 0x0, 0xffffffff⟩,
   ⟨0x84, 4, 1, .rw, 0x0, 0xffffffff⟩,
   ⟨0x88, 4, 1, .rw, 0x0, 0xffffffff⟩,
   ⟨0x8c, 4, 1, .rw, 0x0, 0xffffffff⟩,
   ⟨0x90, 4, 1, .rw, 0x3f800000, 0xffffffff⟩,
   ⟨0x94, 4, 1, .rw, 0xbf800000, 0xffffffff⟩,
   ⟨0xa0, 4, 1, .rw, 0x0, 0xffffffff⟩,
   ⟨0xa4, 4, 1, .rw, 0x0, 0xffffffff⟩,
   ⟨0xa8, 4, 1, .rw, 0x0, 0xffffffff⟩] ++
  [⟨0xac, 4, 1, .rw, 0x0, 0xffffffff⟩,
   ⟨0xb0, 4, 1, .rw, 0x0, 0xffffffff⟩,
   ⟨0xb4, 4, 1, .rw, 0x0, 0xffffffff⟩,
   ⟨0xb8, 4, 1, .rw, 0x0, 0xffffffff⟩,
   ⟨0xbc, 4, 1, .rw, 0x0, 0xffffffff⟩,
   ⟨0xc0, 4, 1, .rw, 0x0, 0x103⟩,
   ⟨0xc4, 4, 1, .rw, 0x0, 0xffffffff⟩,
   ⟨0xc8, 4, 1, .rw, 0x0, 0xffffffff⟩,
   ⟨0xcc, 4, 1, .rw, 0x0, 0xffffffff⟩,
   ⟨0xd0, 4, 1, .wo, 0x0, 0x0⟩,
   ⟨0xd4, 4, 1, .ro, 0x0, 0x0⟩,
   ⟨0xd8, 4, 1, .ro, 0x1, 0x0⟩,
   ⟨0xdc, 4, 1, .ro, 0x0, 0x0⟩,
   ⟨0xe0, 4, 1, .ro, 0x0, 0x0⟩,
   ⟨0xe4, 4, 1, .ro, 0x0, 0x0⟩,
   ⟨0xe8, 4, 1, .ro, 0x0, 0x0⟩,
   ⟨0xec, 4, 1, .ro, 0x0, 0x0⟩,
   ⟨0x100, 4, 1, .ro, 0x0, 0x0⟩,
   ⟨0x104, 4, 1, .ro, 0x0, 0x0⟩,
   ⟨0x108, 4, 1, .ro, 0x0, 0x0⟩,
   ⟨0x10c, 4, 1, .ro, 0x0, 0x0⟩,
   ⟨0x110, 4, 1, .ro, 0x0, 0x0⟩,
   ⟨0x114, 4, 1, .ro, 0x0, 0x0⟩,
   ⟨0x118, 4, 1, .ro, 0x0, 0x0⟩] ++
  [⟨0x11c, 4, 1, .ro, 0x0, 0x0⟩,
   ⟨0x120, 4, 1, .ro, 0x0, 0x0⟩,
   ⟨0x124, 4, 1, .ro, 0x271007d0, 0x0⟩,
   ⟨0x128, 4, 1, .ro, 0x271007d0, 0x0⟩,
   ⟨0x12c, 4, 1, .ro, 0x0, 0x0⟩,
   ⟨0x130, 4, 1, .ro, 0xffff, 0x0⟩,
   ⟨0x134, 4, 1, .ro, 0x0, 0x0⟩,
   ⟨0x138, 4, 1, .ro, 0x0, 0x0⟩,
   ⟨0x13c, 4, 1, .ro, 0x0, 0x0⟩,
   ⟨0x140, 4, 1, .ro, 0x0, 0x0⟩,
   ⟨0x144, 4, 1, .ro, 0x0, 0x0⟩]

/-- The block registers of page 0x11. -/
def regPage17 : List RegRow :=
  [⟨0x40, 4, 1, .rwl, 0x0, 0x1⟩,
   ⟨0x44, 4, 1, .ro, 0x0, 0x0⟩,
   ⟨0x48, 4, 1, .rw, 0x0, 0xffffff⟩,
   ⟨0x4c, 4, 1, .ro, 0x0, 0x0⟩,
   ⟨0x50, 4, 1, .ro, 0x0, 0x0⟩,
   ⟨0x54, 4, 1, .ro, 0x0, 0x0⟩,
   ⟨0x58, 4, 1, .ro, 0x0, 0x0⟩,
   ⟨0x5c, 4, 1, .ro, 0x0, 0x0⟩,
   ⟨0x60, 4, 1, .rc, 0x0, 0x0⟩]

/-- The block registers of page 0x12. -/
def regPage18 : List RegRow :=
  [⟨0x40, 4, 1, .wo, 0x0, 0x0⟩,
   ⟨0x44, 4, 1, .rw, 0x0, 0xffffffff⟩,
   ⟨0x48, 4, 1, .rw, 0x0, 0xffffffff⟩,
   ⟨0x4c, 4, 1, .ro, 0x0, 0x0⟩,
   ⟨0x50, 4, 1, .ro, 0x0, 0x0⟩,
   ⟨0x54, 4, 1, .ro, 0x0, 0x0⟩,
   ⟨0x58, 4, 1, .ro, 0x0, 0x0⟩,
   ⟨0x5c, 4, 1, .rw, 0x0, 0xffffffff⟩,
   ⟨0x60, 4, 1, .rw, 0x0, 0xffffffff⟩,
   ⟨0x64, 4, 1, .ro, 0x0, 0x0⟩,
   ⟨0x68, 4, 1, .ro, 0x0, 0x0⟩,
   ⟨0x6c, 4, 1, .ro, 0x0, 0x0⟩]

/-- The block registers of page 0x13. -/
def regPage19 : List RegRow :=
  [⟨0x40, 4, 1, .ro, 0x0, 0x0⟩,
   ⟨0x44, 4, 1, .ro, 0x0, 0x0⟩,
   ⟨0x48, 4, 1, .ro, 0x0, 0x0⟩,
   ⟨0x4c, 4, 1, .ro, 0x0, 0x0⟩,
   ⟨0x50, 4, 1, .ro, 0x0, 0x0⟩,
   ⟨0x54, 4, 1, .ro, 0x0, 0x0⟩,
   ⟨0x58, 4, 1, .rw, 0x0, 0x3f⟩,
   ⟨0x5c, 4, 1, .ro, 0x0, 0x0⟩,
   ⟨0x60, 4, 1, .ro, 0x0, 0x0⟩,
   ⟨0x64, 4, 1, .ro, 0x0, 0x0⟩,
   ⟨0x68, 4, 1, .ro, 0x0, 0x0⟩,
   ⟨0x6c, 4, 1, .ro, 0x0, 0x0⟩,
   ⟨0x70, 4, 1, .ro, 0x0, 0x0⟩,
   ⟨0x74, 4, 1, .ro, 0x0, 0x0⟩,
   ⟨0x78, 4, 1, .ro, 0x0, 0x0⟩,
   ⟨0x7c, 4, 1, .wo, 0x0, 0x0⟩,
   ⟨0x80, 4, 1, .rw, 0x0, 0xffffffff⟩,
   ⟨0x84, 4, 1, .ro, 0x0, 0x0⟩,
   ⟨0x88, 4, 1, .rw, 0x0, 0xffffffff⟩,
   ⟨0x8c, 4, 1, .ro, 0x0, 0x0⟩,
   ⟨0x90, 4, 1, .ro, 0x0, 0x0⟩,
   ⟨0x94, 4, 1, .rw, 0x0, 0xffffffff⟩,
   ⟨0x98, 4, 1, .ro, 0x0, 0x0⟩,
   ⟨0xa0, 4, 6, .ro, 0x0, 0x0⟩] ++
  [⟨0xb8, 4, 1, .ro, 0x0, 0x0⟩,
   ⟨0xbc, 4, 1, .ro, 0x0, 0x0⟩,
   ⟨0xc0, 4, 1, .ro, 0x0, 0x0⟩,
   ⟨0xc4, 4, 1, .ro, 0x0, 0x0⟩]

/-- The block registers of page 0x14. -/
def regPage20 : List RegRow :=
  [⟨0x40, 4, 1, .ro, 0x2, 0x0⟩,
   ⟨0x44, 4, 1, .ro, 0x0, 0x0⟩,
   ⟨0x48, 4, 1, .ro, 0x0, 0x0⟩,
   ⟨0x4c, 4, 1, .ro, 0x0, 0x0⟩,
   ⟨0x50, 4, 1, .ro, 0x0, 0x0⟩,
   ⟨0x54, 4, 1, .ro, 0x0, 0x0⟩,
   ⟨0x58, 4, 1, .ro, 0x0, 0x0⟩]

/-- The block registers of page 0x15. -/
def regPage21 : List RegRow :=
  [⟨0x40, 4, 1, .rw, 0x9, 0x7ff⟩,
   ⟨0x44, 4, 1, .ro, 0x0, 0x0⟩,
   ⟨0x48, 4, 1, .wo, 0x0, 0x0⟩,
   ⟨0x4c, 4, 1, .rw, 0xf0f3e00, 0x7f7fffff⟩,
   ⟨0x50, 4, 1, .rw, 0x3030e00, 0xf0f1f1f⟩,
   ⟨0x54, 4, 1, .rw, 0x10, 0x7f7f⟩,
   ⟨0x58, 4, 1, .ro, 0x0, 0x0⟩,
   ⟨0x5c, 4, 1, .ro, 0x0, 0x0⟩,
   ⟨0x60, 4, 1, .ro, 0x0, 0x0⟩,
   ⟨0x80, 4, 1, .wo, 0x0, 0x0⟩,
   ⟨0x84, 4, 1, .rw, 0x0, 0xffffffff⟩,
   ⟨0x88, 4, 1, .rw, 0x0, 0x7f003f⟩,
   ⟨0x8c, 4, 1, .ro, 0x0, 0x0⟩,
   ⟨0xa0, 4, 1, .ro, 0x0, 0x0⟩,
   ⟨0xa4, 4, 1, .rw, 0x1, 0x7f⟩,
   ⟨0xa8, 4, 1, .wo, 0x0, 0x0⟩,
   ⟨0xb0, 4, 1, .ro, 0x0, 0x0⟩,
   ⟨0xb4, 4, 1, .wo, 0x0, 0x0⟩,
   ⟨0xb8, 4, 1, .ro, 0x0, 0x0⟩,
   ⟨0xbc, 4, 1, .wo, 0x0, 0x0⟩,
   ⟨0xc0, 4, 1, .ro, 0x0, 0x0⟩,
   ⟨0xc4, 4, 1, .rw, 0x0, 0xff⟩,
   ⟨0xd0, 4, 1, .ro, 0x0, 0x0⟩,
   ⟨0xd4, 4, 1, .wo, 0x0, 0x0⟩] ++
  [⟨0xd8, 4, 1, .ro, 0x0, 0x0⟩,
   ⟨0xdc, 4, 1, .ro, 0x0, 0x0⟩,
   ⟨0xe0, 4, 1, .ro, 0x0, 0x0⟩,
   ⟨0xe4, 4, 1, .ro, 0x0, 0x0⟩,
   ⟨0xe8, 4, 1, .ro, 0x0, 0x0⟩,
   ⟨0xec, 4, 1, .ro, 0x0, 0x0⟩,
   ⟨0xf0, 4, 1, .ro, 0x0, 0x0⟩,
   ⟨0xf4, 4, 1, .ro, 0x0, 0x0⟩,
   ⟨0x100, 4, 20, .ro, 0x0, 0x0⟩,
   ⟨0x180, 4, 1, .rw, 0x0, 0x7fffffff⟩,
   ⟨0x184, 4, 1, .rw, 0x0, 0x3f⟩,
   ⟨0x188, 4, 16, .rw, 0x0, 0xffffffff⟩,
   ⟨0x1e0, 4, 4, .ro, 0x0, 0x0⟩,
   ⟨0x200, 8, 64, .rw, 0x0, 0xffffffff⟩,
   ⟨0x204, 8, 64, .rw, 0x0, 0x7fffffff⟩]

/-- The block registers of page 0x17. -/
def regPage23 : List RegRow :=
  [⟨0x40, 4, 1, .rwl, 0x7, 0x1f⟩,
   ⟨0x44, 4, 1, .ro, 0x0, 0x0⟩,
   ⟨0x48, 4, 1, .ro, 0x0, 0x0⟩,
   ⟨0x4c, 4, 1, .ro, 0x0, 0x0⟩,
   ⟨0x50, 4, 1, .rw, 0x0, 0xffffffff⟩,
   ⟨0x54, 4, 1, .rw, 0x0, 0xffffffff⟩,
   ⟨0x58, 4, 1, .rw, 0x12c, 0xffffffff⟩,
   ⟨0x5c, 4, 1, .rw, 0x20000, 0xffffffff⟩,
   ⟨0x60, 4, 1, .ro, 0x0, 0x0⟩,
   ⟨0x64, 4, 1, .ro, 0x0, 0x0⟩,
   ⟨0x68, 4, 1, .ro, 0x0, 0x0⟩,
   ⟨0x70, 4, 1, .ro, 0x0, 0x0⟩,
   ⟨0x74, 4, 1, .ro, 0x0, 0x0⟩,
   ⟨0x78, 4, 1, .ro, 0x0, 0x0⟩,
   ⟨0x7c, 4, 1, .ro, 0x0, 0x0⟩,
   ⟨0x80, 4, 5, .ro, 0x0, 0x0⟩,
   ⟨0x94, 4, 1, .rc, 0x0, 0x0⟩,
   ⟨0x98, 4, 1, .ro, 0x0, 0x0⟩,
   ⟨0xa0, 4, 1, .rw, 0x0, 0xffffffff⟩,
   ⟨0xa4, 4, 1, .rw, 0x0, 0xffff⟩,
   ⟨0xa8, 4, 1, .rw, 0x0, 0x3fffffff⟩,
   ⟨0xac, 4, 1, .rw, 0x0, 0xffffffff⟩,
   ⟨0xb0, 4, 1, .rw, 0x0, 0x307ff⟩,
   ⟨0xb4, 4, 1, .wo, 0x0, 0x0⟩] ++
  [⟨0xb8, 4, 1, .rw, 0x0, 0xffffffff⟩,
   ⟨0xbc, 4, 1, .rc, 0x0, 0x0⟩,
   ⟨0xc0, 4, 1, .ro, 0x0, 0x0⟩,
   ⟨0x100, 16, 4, .rw, 0x0, 0xffffffff⟩,
   ⟨0x104, 16, 4, .rw, 0x0, 0xffffffff⟩,
   ⟨0x108, 16, 4, .ro, 0x0, 0x0⟩,
   ⟨0x10c, 16, 4, .rw, 0x0, 0xffffffff⟩,
   ⟨0x140, 16, 2, .rw, 0x0, 0xffffffff⟩,
   ⟨0x144, 16, 2, .rw, 0x0, 0xffffffff⟩,
   ⟨0x148, 16, 2, .ro, 0x0, 0x0⟩,
   ⟨0x14c, 16, 2, .rw, 0x0, 0xffffffff⟩]

/-- The block registers of page 0x18. -/
def regPage24 : List RegRow :=
  [⟨0x40, 32, 3, .rw, 0x0, 0x103ff⟩,
   ⟨0x44, 32, 3, .rw, 0x0, 0xffffffff⟩,
   ⟨0x48, 32, 3, .rw, 0x0, 0xffffffff⟩,
   ⟨0x4c, 32, 3, .rw, 0x0, 0xffff⟩,
   ⟨0x50, 32, 3, .rw, 0x0, 0xffffffff⟩,
   ⟨0x54, 32, 3, .wo, 0x0, 0x0⟩,
   ⟨0x58, 32, 3, .ro, 0x0, 0x0⟩,
   ⟨0xa0, 4, 1, .rw, 0x0, 0xffffffff⟩,
   ⟨0xa4, 4, 1, .rw, 0x0, 0xffffffff⟩]

/-- The block registers of page 0x19. -/
def regPage25 : List RegRow :=
  [⟨0x40, 4, 1, .rwl, 0xc, 0x1f⟩,
   ⟨0x44, 4, 1, .ro, 0x0, 0x0⟩,
   ⟨0x48, 4, 1, .rwl, 0x0, 0xffffffff⟩,
   ⟨0x4c, 4, 1, .rwl, 0x0, 0xffffffff⟩,
   ⟨0x50, 4, 1, .rwl, 0x0, 0xffffffff⟩,
   ⟨0x54, 4, 1, .rw, 0x0, 0xffffffff⟩,
   ⟨0x58, 4, 1, .rw, 0x0, 0xffffffff⟩,
   ⟨0x5c, 4, 1, .rw, 0x0, 0xffff⟩,
   ⟨0x60, 4, 1, .rw, 0x8000, 0x1efff⟩,
   ⟨0x64, 4, 1, .rw, 0x0, 0xffffffff⟩,
   ⟨0x68, 4, 4, .rw, 0x0, 0xffffffff⟩,
   ⟨0x78, 4, 1, .rw, 0x32, 0x1ffff⟩,
   ⟨0x7c, 4, 1, .rw, 0x0, 0xffffffff⟩,
   ⟨0x80, 4, 8, .wo, 0x0, 0x0⟩,
   ⟨0xa0, 4, 1, .wo, 0x0, 0x0⟩,
   ⟨0xa4, 4, 1, .ro, 0x0, 0x0⟩,
   ⟨0xa8, 4, 1, .ro, 0x0, 0x0⟩,
   ⟨0xac, 4, 1, .ro, 0x0, 0x0⟩,
   ⟨0xb0, 4, 1, .ro, 0x0, 0x0⟩,
   ⟨0xb4, 4, 1, .ro, 0x0, 0x0⟩,
   ⟨0xb8, 4, 1, .ro, 0x0, 0x0⟩,
   ⟨0xbc, 4, 1, .ro, 0x0, 0x0⟩,
   ⟨0xc0, 4, 1, .ro, 0x0, 0x0⟩,
   ⟨0xc4, 4, 1, .ro, 0x0, 0x0⟩] ++
  [⟨0xc8, 4, 1, .ro, 0x0, 0x0⟩,
   ⟨0xcc, 4, 1, .ro, 0x0, 0x0⟩]

/-- The block registers of page 0x1a. -/
def regPage26 : List RegRow :=
  [⟨0x40, 4, 1, .rw, 0x1, 0x1⟩,
   ⟨0x44, 4, 1, .ro, 0x1, 0x0⟩,
   ⟨0x48, 4, 1, .rw, 0x0, 0x1⟩,
   ⟨0x4c, 4, 1, .wo, 0x0, 0x0⟩,
   ⟨0x50, 4, 1, .ro, 0x0, 0x0⟩,
   ⟨0x54, 4, 1, .rw, 0x0, 0xffffffff⟩,
   ⟨0x58, 4, 1, .ro, 0x0, 0x0⟩,
   ⟨0x5c, 4, 1, .ro, 0x0, 0x0⟩,
   ⟨0x60, 4, 1, .ro, 0x0, 0x0⟩,
   ⟨0x64, 4, 1, .ro, 0x0, 0x0⟩,
   ⟨0x68, 4, 1, .ro, 0x0, 0x0⟩,
   ⟨0x6c, 4, 1, .ro, 0x0, 0x0⟩,
   ⟨0x70, 4, 1, .ro, 0x0, 0x0⟩,
   ⟨0x74, 4, 1, .ro, 0x0, 0x0⟩,
   ⟨0x78, 4, 1, .rw, 0x0, 0xfff⟩,
   ⟨0x7c, 4, 1, .rwl, 0x640008, 0xffff00ff⟩,
   ⟨0x80, 4, 1, .ro, 0x8, 0x0⟩,
   ⟨0x84, 4, 1, .rw, 0xffffffff, 0xffffffff⟩,
   ⟨0x88, 4, 1, .rw, 0x1, 0x1⟩,
   ⟨0x90, 4, 6, .rw, 0x0, 0xffffffff⟩,
   ⟨0xa8, 4, 1, .wo, 0x0, 0x0⟩,
   ⟨0xb0, 4, 1, .ro, 0x0, 0x0⟩,
   ⟨0xb4, 4, 1, .ro, 0x0, 0x0⟩,
   ⟨0xb8, 4, 1, .ro, 0x0, 0x0⟩] ++
  [⟨0xc0, 4, 1, .rw, 0x0, 0x1⟩,
   ⟨0xc4, 4, 1, .rw, 0x0, 0xffffffff⟩,
   ⟨0xc8, 4, 1, .ro, 0x0, 0x0⟩,
   ⟨0x100, 4, 16, .ro, 0x0, 0x0⟩]

/-- The block registers of page 0x1b. -/
def regPage27 : List RegRow :=
  [⟨0x40, 4, 1, .rwl, 0x1, 0x1⟩,
   ⟨0x44, 4, 1, .ro, 0x0, 0x0⟩,
   ⟨0x48, 4, 1, .ro, 0x0, 0x0⟩,
   ⟨0x4c, 4, 1, .ro, 0x0, 0x0⟩,
   ⟨0x50, 4, 1, .ro, 0x0, 0x0⟩,
   ⟨0x54, 4, 1, .ro, 0x0, 0x0⟩,
   ⟨0x58, 4, 1, .ro, 0x0, 0x0⟩,
   ⟨0x5c, 4, 1, .ro, 0x0, 0x0⟩,
   ⟨0x60, 4, 1, .ro, 0x0, 0x0⟩,
   ⟨0x64, 4, 1, .rw, 0x32, 0xffffffff⟩,
   ⟨0x68, 4, 1, .ro, 0x0, 0x0⟩,
   ⟨0x6c, 4, 1, .rw, 0x0, 0xffffffff⟩,
   ⟨0x70, 4, 1, .ro, 0x0, 0x0⟩,
   ⟨0x74, 4, 1, .ro, 0x0, 0x0⟩,
   ⟨0x78, 4, 1, .ro, 0x0, 0x0⟩,
   ⟨0x7c, 4, 1, .ro, 0x0, 0x0⟩,
   ⟨0x80, 4, 1, .ro, 0x0, 0x0⟩]

/-- The block registers of page 0x1c. -/
def regPage28 : List RegRow :=
  [⟨0x40, 4, 1, .rwl, 0x1, 0x1⟩,
   ⟨0x44, 4, 1, .ro, 0x0, 0x0⟩,
   ⟨0x48, 4, 1, .wo, 0x0, 0x0⟩,
   ⟨0x4c, 4, 1, .ro, 0x0, 0x0⟩,
   ⟨0x50, 4, 1, .rw, 0x12c, 0xffffffff⟩,
   ⟨0x54, 4, 1, .rw, 0x50, 0xffffffff⟩,
   ⟨0x58, 4, 1, .rw, 0x7d0, 0xffffffff⟩,
   ⟨0x5c, 4, 1, .rw, 0xa, 0xffffffff⟩,
   ⟨0x60, 4, 1, .rw, 0x1388, 0xffffffff⟩,
   ⟨0x64, 4, 1, .wo, 0x0, 0x0⟩,
   ⟨0x68, 4, 1, .ro, 0x0, 0x0⟩,
   ⟨0x6c, 4, 1, .ro, 0x0, 0x0⟩,
   ⟨0x70, 4, 1, .ro, 0x0, 0x0⟩,
   ⟨0x74, 4, 1, .ro, 0x0, 0x0⟩,
   ⟨0x78, 4, 1, .ro, 0x0, 0x0⟩,
   ⟨0x7c, 4, 1, .ro, 0x0, 0x0⟩,
   ⟨0x80, 4, 1, .ro, 0x0, 0x0⟩,
   ⟨0x84, 4, 1, .ro, 0x0, 0x0⟩,
   ⟨0x88, 4, 1, .ro, 0x0, 0x0⟩]

/-- The block registers of page 0x1d. -/
def regPage29 : List RegRow :=
  [⟨0x40, 4, 1, .rw, 0x0, 0x1⟩,
   ⟨0x44, 4, 1, .ro, 0x0, 0x0⟩,
   ⟨0x48, 4, 1, .wo, 0x0, 0x0⟩,
   ⟨0x4c, 4, 1, .rw, 0x0, 0xffffffff⟩,
   ⟨0x50, 4, 1, .rw, 0x0, 0xffffffff⟩,
   ⟨0x54, 4, 1, .rw, 0x0, 0xffffffff⟩,
   ⟨0x58, 4, 1, .rw, 0x0, 0xffff⟩,
   ⟨0x5c, 4, 1, .ro, 0x0, 0x0⟩,
   ⟨0x60, 4, 1, .rw, 0x708, 0xffffffff⟩,
   ⟨0x64, 4, 1, .ro, 0x0, 0x0⟩,
   ⟨0x68, 4, 1, .ro, 0x0, 0x0⟩,
   ⟨0x6c, 4, 1, .ro, 0x0, 0x0⟩,
   ⟨0x70, 4, 1, .ro, 0x0, 0x0⟩,
   ⟨0x74, 4, 1, .ro, 0x0, 0x0⟩]

/-- The block registers of page 0x1e. -/
def regPage30 : List RegRow :=
  [⟨0x40, 4, 1, .ro, 0x0, 0x0⟩,
   ⟨0x44, 4, 1, .wo, 0x0, 0x0⟩,
   ⟨0x48, 4, 1, .rw, 0x0, 0xffffffff⟩,
   ⟨0x4c, 4, 1, .rw, 0x0, 0xffffffff⟩,
   ⟨0x50, 4, 1, .rw, 0x0, 0xffffffff⟩,
   ⟨0x54, 4, 1, .rw, 0x0, 0x107⟩,
   ⟨0x58, 4, 1, .ro, 0x0, 0x0⟩,
   ⟨0x5c, 4, 1, .ro, 0x0, 0x0⟩,
   ⟨0x60, 4, 1, .rc, 0x0, 0x0⟩]

/-- The block registers of page 0x1f. -/
def regPage31 : List RegRow :=
  [⟨0x40, 4, 1, .ro, 0x0, 0x0⟩,
   ⟨0x44, 4, 1, .rw, 0x0, 0x1⟩,
   ⟨0x48, 4, 1, .ro, 0x0, 0x0⟩,
   ⟨0x4c, 4, 1, .ro, 0x0, 0x0⟩,
   ⟨0x50, 4, 1, .ro, 0x0, 0x0⟩,
   ⟨0x54, 4, 1, .ro, 0x0, 0x0⟩]

/-- The block registers of page 0x20. -/
def regPage32 : List RegRow :=
  [⟨0x40, 4, 1, .rw, 0x0, 0xff⟩,
   ⟨0x44, 4, 1, .rw, 0x0, 0xff⟩,
   ⟨0x48, 4, 1, .ro, 0x0, 0x0⟩,
   ⟨0x4c, 4, 1, .rw, 0x0, 0xffff⟩,
   ⟨0x50, 4, 1, .rw, 0x0, 0x7⟩,
   ⟨0x54, 4, 1, .ro, 0x0, 0x0⟩,
   ⟨0x58, 4, 1, .ro, 0x0, 0x0⟩]

/-- The number of EVT bits of each page, pages 0x00 to 0x20; the bits above are reserved. -/
def evtBits : List Nat :=
  [4, 5, 4, 3, 6, 0, 4, 9, 5, 5, 10, 10, 8, 12, 14, 5, 16, 4, 6, 15, 5, 12, 12, 9, 5, 10, 11, 6, 10, 7, 4, 9, 9]

/-- The EVT bits of a page as a mask. -/
def evtMask (p : Nat) : Word := w32 (2 ^ (evtBits.getD p 0) - 1)

/-- The common header (R380). BLK_ID and BLK_VER have their value in `blkId` and the fuses. -/
def regHeader (p : Nat) : List RegRow :=
  [⟨0x000, 4, 1, .ro, 0, 0⟩, ⟨0x004, 4, 1, .ro, 0, 0⟩, ⟨0x008, 4, 1, .ro, 0, 0⟩, ⟨0x00c, 4, 1, .w1s, 0, 1⟩,
   ⟨0x010, 4, 1, .w1c, 0, evtMask p⟩, ⟨0x014, 4, 1, .rw, 0, evtMask p⟩, ⟨0x018, 4, 1, .wo, 0, 0⟩,
   ⟨0x01c, 4, 1, .rc, 0, 0⟩, ⟨0x020, 4, 1, .wo, 0, 0⟩, ⟨0x03c, 4, 1, .rw, 0, 0xffffffff⟩]

/-- The block registers of a page (R378); the pages above 0x20 have none. -/
def regPage (p : Nat) : List RegRow :=
  match p with
  | 0 => regPage0
  | 1 => regPage1
  | 2 => regPage2
  | 3 => regPage3
  | 4 => regPage4
  | 5 => regPage5
  | 6 => regPage6
  | 7 => regPage7
  | 8 => regPage8
  | 9 => regPage8
  | 10 => regPage10
  | 11 => regPage11
  | 12 => regPage12
  | 13 => regPage13
  | 14 => regPage14
  | 15 => regPage15
  | 16 => regPage16
  | 17 => regPage17
  | 18 => regPage18
  | 19 => regPage19
  | 20 => regPage20
  | 21 => regPage21
  | 22 => regPage21
  | 23 => regPage23
  | 24 => regPage24
  | 25 => regPage25
  | 26 => regPage26
  | 27 => regPage27
  | 28 => regPage28
  | 29 => regPage29
  | 30 => regPage30
  | 31 => regPage31
  | 32 => regPage32
  | _ => []

/-- Pages 0x00 to 0x20 are implemented (R378). -/
def pageImplemented (p : Nat) : Bool := decide (p ≤ 0x20)

/-- The row that covers an address, header rows included; none at a reserved offset (R7). -/
def regRow? (a : Nat) : Option RegRow :=
  let p := a / 0x1000
  let o := a % 0x1000
  if pageImplemented p then
    if o < 0x40 then (regHeader p).find? (RegRow.covers · o) else (regPage p).find? (RegRow.covers · o)
  else none

/-- The value of the Reset column at an address; 0 at a reserved offset (R6, R7). -/
def regReset (a : Nat) : Word :=
  match regRow? a with
  | some r => r.reset
  | none => 0

end Sys2Proof.Machine
end

