-- ==== Sys2Proof/Config.lean ====
section
/-! DEFINITION. What an implementation fixes and what the spec leaves open: opaque constants, so that nothing in Lean can
evaluate them or prove a value of them. Each is named in the assumption log. -/

namespace Sys2Proof.Config

/-- A value the spec leaves open, drawn by a counter of the state (log entry 4). -/
opaque freeWord : Nat → Word

/-- The random source of the security block, by draw (R6; log entry 5). -/
opaque random : Nat → Word

/-- Fuse content by register address (R6; log entry 6). -/
opaque fuse : Nat → Word

/-- The HOME strap reads slot B (R13; log entry 6). -/
opaque homeB : Bool

/-- HOME_A and HOME_B differ (R371; log entry 6). -/
opaque homeBad : Bool

/-- The GA and GAP straps: SLOT_ID [6:0] (R371; log entry 6). -/
opaque slotId : BitVec 7

/-- An ECDSA P-384 signature over SHA-384 of a message is valid under a key (R120, R219, R351, R361; log entry 7). -/
opaque ecdsaOk (key : Nat) (message signature : List Nat) : Bool

/-- The first 4 bytes of the SHA-384 of a message, as a word (R221; log entry 7). -/
opaque sha384Word (message : List Nat) : Word

/-- The ECDSA P-384 signature of a SHA-384 digest under the IDevID key, by draw (R348; log entry 7). -/
opaque ecdsaSign (digest : List Nat) (draw : Nat) : List Nat

/-- Whether the RUN LED is on in SAFE-HOLD, and the FAULT LED at a demand outside it with SCORE 100: the spec does not say (R245; log entry 122). -/
opaque runLedInSafeHold : Bool

/-- See `runLedInSafeHold`. -/
opaque faultLedAtDemand : Bool

/-- The IDevID certificate, or its chain (R348; log entry 7). -/
opaque idevidCert (chain : Bool) : List Nat

/-- What a DER X.509 certificate says: its public key, and its subject serialNumber (R348, R349; log entry 7). -/
opaque certKey (cert : List Nat) : Nat

/-- The subject serialNumber of a certificate (R348, R358). -/
opaque certSerial (cert : List Nat) : Nat

/-- The certificate is well formed and signed by a key, or chains to it (R349, R358; log entry 7). Key 0 is the Yathimel root. -/
opaque certChains (root : Nat) (cert : List Nat) : Bool

/-- The encoding of a public key (R348). -/
opaque keyBytes (key : Nat) : List Nat

/-- AES-128 of one block (R52, R55; log entry 7): key and block as little-endian numbers. -/
opaque aes128 (key block : Nat) : Nat

/-- AES-256-GCM (R350, R351): the plaintext under a key, IV, additional data and tag, or none where the tag fails. -/
opaque gcmOpen (key iv : Nat) (aad cipher : List Nat) (tag : Nat) : Option (List Nat)

/-- AES-256-GCM (R302, R351): ciphertext and tag, 16 bytes. -/
opaque gcmSeal (key iv : Nat) (aad plain : List Nat) : List Nat

/-- The key-encryption key of a wrap block addressed to this module's agreement key (R351). -/
opaque agreeKey (ephPub : List Nat) (serial : Nat) : Nat

/-- A fresh ephemeral key pair by draw and the key-encryption key toward a certificate's agreement key (R358): public point, key. -/
opaque freshAgree (cert : List Nat) (serial draw : Nat) : List Nat × Nat

/-- A chemistry table's OCV, m or their slopes at a SOC outside 0 to 1, which the spec does not state (R119; log entry 10). -/
opaque tableBeyond (kind table : Nat) (soc temp : Word) : Word

/-- Fields of a report frame that the spec does not state: type of service, identification, time to live and UDP checksum (R301; log entry 4). -/
opaque ipField : Nat → Nat

end Sys2Proof.Config
end

