-- ==== Sys2Proof/Syntax.lean ====
section
/-! DEFINITION. The commands of the block: one constructor per row of spec/opcode_table.json, with its operands, and the types of
the operands: masters, radios, received frames. -/

namespace Sys2Proof

/-- The masters of one module (R12). -/
inductive LocalMid where
  /-- Application cores A0 to A3, MID 0x01 to 0x04. -/
  | core (i : Fin 4)
  /-- Safety core, MID 0x08. -/
  | safety
  /-- Link core, MID 0x09. -/
  | link
  /-- Pipeline sequencer, MID 0x0A. -/
  | pipe
  /-- Control engine, MID 0x0B. -/
  | ctl
  /-- DMA channels, MID 0x10 to 0x1F. -/
  | dma (i : Fin 16)
  /-- Causeway mirror agent, MID 0x20. -/
  | causeway
  /-- Loader, MID 0x30. -/
  | loader
  /-- Debug, MID 0x3E. -/
  | debug
  deriving DecidableEq, Repr

/-- A master identity (R12): one of this module's masters, or the same master in the partner module. -/
inductive Mid where
  | own (m : LocalMid)
  | partner (m : LocalMid)
  deriving DecidableEq, Repr

/-- The local MID value of a master (R12). -/
def LocalMid.code : LocalMid → Nat
  | .core i => 1 + i.val
  | .safety => 0x08
  | .link => 0x09
  | .pipe => 0x0A
  | .ctl => 0x0B
  | .dma i => 0x10 + i.val
  | .causeway => 0x20
  | .loader => 0x30
  | .debug => 0x3E

/-- The MID value a bus access carries (R12). -/
def Mid.code : Mid → Nat
  | .own m => m.code
  | .partner m => 0x40 + m.code

/-- What a bus access that has no row of its own does: a write (R5), a read, or an instruction fetch, which counts as a read (R262; log entry 108). -/
inductive BusOp where
  | write | read | fetch
  deriving DecidableEq, Repr

/-- The form of a bus access: how many bytes it has (R379) and what it does. -/
structure Access where
  size : Nat
  op   : BusOp := .write
  deriving DecidableEq, Repr

/-- The body of an UPLINK or RETRY_UP (R61); a BACKFILL carries one too (R63). -/
structure UplinkBody where
  /-- The 16 cell voltages, cell 0 first. -/
  v : List Nat := []
  /-- The 4 temperatures. -/
  t : List Int := []
  tdie : Int := 0
  ov : Nat := 0
  uv : Nat := 0
  tflag : Nat := 0
  nstat : Nat := 0
  sampleErr : Int := 0
  balOn : Nat := 0
  stat : Nat := 0
  cmdEcho : Nat := 0
  deriving DecidableEq, Repr

/-- A FREEZE entry of a command frame (R65): ID, the low 32 bits of the cycle, J, and MAP. -/
structure FreezeEntry where
  id    : Nat
  cycle : Nat
  j     : Nat
  map   : Nat
  deriving DecidableEq, Repr

/-- The command slot of a radio. A radio that listens hears what the partner sends in the superframe: whether a valid beacon (R15, R239), and of a valid
command frame its CMDSEQ and its FREEZE entries (R117; log entry 104). -/
structure CmdSlot where
  radio  : Fin 2
  beacon : Bool := false
  frame  : Option (Nat × List FreezeEntry) := none
  deriving DecidableEq, Repr

/-- What a radio sees of a received frame besides its body: the header fields that R51 checks and the verdicts of the CRC and of the MIC (log entry 8). -/
structure RxInfo where
  slot  : Nat
  crcOk : Bool
  micOk : Bool
  /-- HDR.SRC. -/
  src   : Nat
  /-- HDR.CYC8. -/
  cyc8  : Nat
  /-- HDR.EP. -/
  ep    : Bool
  /-- Received level, dBm. -/
  rssi  : Int
  deriving DecidableEq, Repr


/-- The cause at which a formation step ends (R189, FRM_STAT.END). -/
inductive StepCause where
  | vcLim | iEnd | tMax | qMax
  deriving DecidableEq, Repr

/-- How a Causeway frame arrived (R229): its lane, whether its CRC-32 matched, and its SEQ. -/
structure CswRx where
  lane : Fin 2 := 0
  crcOk : Bool := true
  seq : Nat := 0
  deriving DecidableEq, Repr

/-- What a Causeway frame carries, and how it arrived. -/
structure Csw (α : Type) where
  body : α
  rx   : CswRx := {}
  deriving DecidableEq, Repr

/-- The control state of R231, as a CONTROL frame carries it. -/
structure CtlFrame where
  rx : CswRx := {}
  /-- The frame's CRC-32 matched. -/
  crcOk : Bool := true
  handover : Bool := false
  stopping : Bool := false
  stopTarget : Nat := 0
  leaving : Bool := false
  state : Nat := 0
  path : Bool := false
  zeroDwell : Bool := false
  dither : Bool := false
  oscDerate : Bool := false
  oscStop : Bool := false
  srcB : Bool := false
  kind : Nat := 1
  fromFrm : Bool := false
  charge : Bool := false
  kReq : Nat := 0
  steps : Nat := 0
  odo : Word := 0
  cycle : Nat := 0
  curI : Word := 0
  curD : Word := 0
  curY : Word := 0
  volI : Word := 0
  volD : Word := 0
  volY : Word := 0
  pwrI : Word := 0
  pwrD : Word := 0
  pwrY : Word := 0
  ramp : Word := 0
  b10Chg : Nat := 0
  b2Chg : Nat := 0
  b10Dis : Nat := 0
  b2Dis : Nat := 0
  dwellLeft : Nat := 0
  ditherLeft : Nat := 0
  spValue : Int := 0
  spLimit : Int := 0
  frmHandle : Word := 0
  frmStep : Nat := 0
  frmState : Nat := 0
  frmLoop : Nat := 0
  frmTime : Nat := 0
  frmCharge : Int := 0
  fixCur : Int := 0
  fixVol : Int := 0
  fixPwr : Int := 0
  ref : Int := 0
  tko : Nat := 0
  stopTimer : Nat := 0
  deriving DecidableEq, Repr

/-- The pair state of R230, as a HEARTBEAT carries it. -/
structure Heartbeat where
  rx : CswRx := {}
  role : Nat := 0
  mode : Nat := 0
  stopping : Bool := false
  stopTarget : Nat := 0
  tko : Nat := 0
  slotB : Bool := false
  leaving : Bool := false
  handover : Bool := false
  xtripOut : Bool := false
  xtripIn : Bool := false
  health : Word := 0
  score : Nat := 0
  kReq : Nat := 0
  path : Nat := 0
  psetDigest : Word := 0
  image : Word := 0
  cfgTag : Word := 0
  stageDigest : Word := 0
  present : Nat := 0
  cycle : Nat := 0
  odo : Word := 0
  gauCycle : Nat := 0
  gauAngle : Nat := 0
  ptSec : Nat := 0
  ptNs : Nat := 0
  epoch : Nat := 0
  /-- The partner's armed activation time, s, 0 if none: R353 shows it in PARTNER_ACT, and the spec lays out no field for it. -/
  act : Nat := 0
  /-- K_NET as the partner keeps it: R52 and R230 mirror it, and the spec lays out no field for it. -/
  knet : Option Nat := none
  deriving DecidableEq, Repr

/-- A NODE_STATE frame (R230). -/
structure NodeState where
  rx : CswRx := {}
  joined : Nat := 0
  planVer : Nat := 0
  /-- For each node index: lane and radio. -/
  nodes : List (Nat × Nat) := []
  deriving DecidableEq, Repr

/-- One cell of a snapshot (R232): its SOC_F, and the core state and Fuse extension as words. -/
structure SnapCell where
  cell : Nat
  /-- The 32 words of the core state (R138). -/
  core : List Word
  /-- The Fuse extension (R147): ANCHOR_PT, SOC_ANCHOR, Q_ANCHOR, conflict count, LOW_CONF span, CAP_RUN_VALID, VAR_ANCHOR. -/
  anchorPt : Nat
  socAnchor : Word
  qAnchor : Word
  conflictN : Nat
  lowSpan : Nat
  runValid : Bool
  varAnchor : Word
  deriving DecidableEq, Repr

/-- A received snapshot (R232). -/
structure Snapshot where
  /-- Every segment arrived and passed its CRC. -/
  complete : Bool
  /-- The segments that passed their CRC, and those of each lane that did not. -/
  segs : Nat := 0
  bad0 : Nat := 0
  bad1 : Nat := 0
  pubSeq : Nat
  cycle : Nat
  rep : Word
  raw : Word
  pfDis : Word
  pfChg : Word
  taperHi : Word
  taperLo : Word
  cells : List SnapCell
  deriving DecidableEq, Repr

/-- A finding of a switch off-pulse test (R209, R210). -/
inductive SwFinding where
  | pass | failedClosed | failedOpen
  deriving DecidableEq, Repr

/-- A switch off-pulse test: what it found, and whether the guardrail cut the pulse (R209). -/
structure SwTest where
  finding : SwFinding
  cut     : Bool := false
  deriving DecidableEq, Repr

/-- How a switch read back outside a test (R210, R368). -/
inductive ReadbackFault where
  /-- On while commanded off. -/
  | stuckOn
  /-- Off while commanded on. -/
  | stuckOff
  /-- It turned itself off on overcurrent. -/
  | overcurrent
  deriving DecidableEq, Repr

/-- A level of a line that may also toggle (R202). -/
inductive LineLevel where
  | low | high
  deriving DecidableEq, Repr


/-- A CAN error as PSR codes it (R283, PSR): 1 stuff, 2 form, 3 ack, 4 bit 1, 5 bit 0, 6 CRC. -/
inductive CanError where
  | stuff | form | ack | bit1 | bit0 | crc
  deriving DecidableEq, Repr

/-- The way a transmit attempt ends (R279 to R284). -/
inductive CanEnd where
  | sent
  | arbLost
  /-- An error, in the data phase or not; `dlcOrData` says that it fell in the DLC field or in the data field (R282), and `steps`
  how many times ISO 11898-1 raises TEC by 8 for it: not at all, once, or again for its error flag. -/
  | error (kind : CanError) (dataPhase dlcOrData : Bool) (steps : Nat)
  deriving DecidableEq, Repr

/-- A fault met while receiving (R268, R283). -/
inductive CanRxFault where
  /-- An error; `rise` is what ISO 11898-1 adds to REC for it and its error flag: 1, and 8 as often as it says. -/
  | error (kind : CanError) (dataPhase : Bool) (rise : Nat)
  /-- A recessive res bit after FDF (R268). -/
  | resBit
  deriving DecidableEq, Repr

/-- The clear part of a Dispatch message and how it reached DSP (R301): the verdict of the GCM tag under the key
named by KEY_ID (log entry 8). -/
structure DspHdr where
  ver : Nat
  typ : Nat
  keyId : Nat
  sender : Nat
  counter : Nat
  tagOk : Bool
  deriving DecidableEq, Repr

/-- An entry of a SETPOINT body (R304). -/
structure SpEntry where
  stringId : Nat
  spId : Nat
  kind : Nat
  flags : Nat
  value : Int
  limit : Int
  actCycle : Nat
  actAngle : Nat
  deriving DecidableEq, Repr

/-- A TIMEBASE body (R308). -/
structure TimebaseBody where
  origin : Nat
  bias : Int
  biasNext : Int
  biasAt : Nat
  deriving DecidableEq, Repr

/-- What asks for a MODULE reset (R341): RST_CMD by a master, the loader after an overwrite, the debug port. -/
inductive ModuleSrc where
  | cmd (mid : Mid)
  | loader
  | debug
  deriving DecidableEq, Repr

/-- An ECC error (R347): whether in SRAM, the master that reads, and whether it could be corrected. -/
structure EccError where
  sram      : Bool
  reader    : Mid
  corrected : Bool := false
  deriving DecidableEq, Repr

/-- The commands of the block: one constructor per row of the spec's table of operations and events. -/
inductive Instr where
  /-- REGISTER_WRITE (R5). A write to a register that has no row of its own takes effect according to its access code. -/
  | registerWrite (mid : Mid) (addr : Nat) (access : Access) (value : Nat)
  /-- BLK_LOCK (R381). A write of 1 to BLK_LOCK sets LOCK, which freezes the page's RWL fields, enforces the firewall on page 0x03 and releases the cores under R249. -/
  | blkLock (mid : Mid) (page : Nat) (value : Word)
  /-- EVT_FORCE (R381). A write to EVT_FORCE sets EVT bits as if their events had occurred, raising interrupts and records only. -/
  | evtForce (mid : Mid) (page : Nat) (value : Word)
  /-- SNAP (R384). A write to a page's SNAP captures its multi-word values into held copies banked per MID. -/
  | snap (mid : Mid) (page : Nat)
  /-- ERR_CODE_READ (R381). A read of ERR_CODE returns the last refusal and clears the register. -/
  | errCodeRead (mid : Mid) (page : Nat)
  /-- TIM_SNAP (R46). A write to TIM.SNAP captures the odometer, plant time, the three PTP instances and the GAU position in one TIME cycle. -/
  | timSnap (mid : Mid)
  /-- GAU_SNAP (R46). A write to GAU.SNAP captures angle, cycle number, FREQ, CYC_ERA and odometer in one TIME cycle. -/
  | gauSnap (mid : Mid)
  /-- PLANT_SEL_WRITE (R25). A write of PLANT_SEL moves plant time to another instance without a step, or is refused with PLANT_FAR. -/
  | plantSelWrite (mid : Mid) (value : Word)
  /-- SLEW_DONE (R26). The plant time residual reaches zero after slewing and TIM.EVT.SLEW_DONE is set. -/
  | slewDone
  /-- PHREF_EDGE (R28). A PHREF edge is timestamped and accepted or refused, updating the tracked period and the cycle count. -/
  | phrefEdge (falling : Bool)
  /-- LOCK_LOST (R32). No PHREF edge is accepted within 1.5 tracked periods, so the GAU enters holdover. -/
  | lockLost
  /-- HOLDOVER_END (R33). Holdover expires and the GAU enters the nominal timeline derived from plant time. -/
  | holdoverEnd
  /-- GAU_CFG_WRITE (R33). A write of GAU_CFG; clearing PHREF_EN enters the nominal timeline at once, setting it starts a new PHREF sequence. -/
  | gauCfgWrite (mid : Mid) (value : Word)
  /-- CYC_BIAS_AT_WRITE (R388). A write of CYC_BIAS_AT arms a bias change, or applies it at once if the named cycle is not ahead. -/
  | cycBiasAtWrite (mid : Mid) (value : Word)
  /-- BIAS_CHANGE (R388). At the crossing that begins the armed cycle, CYC_BIAS_NEXT is copied into CYC_BIAS. -/
  | biasChange
  /-- SWEEP_WAYMARK (R38). The sweep waymark fires, opening a sweep superframe with its beacon and fixing the sample instant. -/
  | sweepWaymark
  /-- AUX_SUPERFRAME (R58). In a cycle between sweeps, an auxiliary superframe begins with a beacon carrying AUX = 1. -/
  | auxSuperframe
  /-- UPLINK_RX (R61). An authenticated UPLINK enters the sweep record at its node index and its flags go to the safety functions. -/
  | uplinkRx (radio : Fin 2) (info : RxInfo) (body : UplinkBody)
  /-- RETRY_UP_RX (R73). A RETRY_UP answering a retry poll is taken into the record like an uplink. -/
  | retryUpRx (radio : Fin 2) (info : RxInfo) (body : UplinkBody)
  /-- DETOUR_RX (R63). A DETOUR is checked by the MIC of its inner PDU and its uplink taken into the record. -/
  | detourRx (radio : Fin 2) (info : RxInfo) (inner : RxInfo) (body : UplinkBody)
  /-- BACKFILL_RX (R98). A BACKFILL is matched to its sweep and handled as late data by the age rules. -/
  | backfillRx (radio : Fin 2) (info : RxInfo) (data : Nat) (body : UplinkBody)
  /-- FRAGMENT_RX (R71). A capture FRAGMENT is stored if its ID and buffer match; when all are in, RELEASE is queued. -/
  | fragmentRx (radio : Fin 2) (info : RxInfo) (id : Nat) (buf : Fin 2) (frag : Nat) (values : List Nat)
  /-- NOT_HELD_RX (R63). A NOT_HELD answer uses up the slot and stops further requests for that sweep. -/
  | notHeldRx (radio : Fin 2) (info : RxInfo) (reason : Nat)
  /-- STATUS_RX (R64). A STATUS frame delivers a node's flags, state and command echo in an auxiliary superframe. -/
  | statusRx (radio : Fin 2) (info : RxInfo) (body : UplinkBody)
  /-- JOIN_REQ_RX (R78). A JOIN_REQ under K_NODE is answered in the same slot with JOIN_ACCEPT giving key, lane and epoch. -/
  | joinReqRx (radio : Fin 2) (info : RxInfo) (nnonce : Word) (fwver : Nat) (rcause : Nat)
  /-- DISC_REPLY_RX (R79). A DISC_REPLY puts the node's serial into the discovery FIFO. -/
  | discReplyRx (radio : Fin 2) (info : RxInfo) (serial : Nat)
  /-- RETRY_SLOT (R73). A retry slot begins and the next missing node of the radio is polled for its uplink. -/
  | retrySlot (radio : Fin 2) (slot : Nat)
  /-- DETOUR_SLOT (R75). A detour slot begins and a watcher is polled to relay a still-missing uplink. -/
  | detourSlot (radio : Fin 2) (slot : Nat)
  /-- BACKFILL_SLOT (R76). A backfill slot begins and a missed sweep or capture fragment is polled in priority order. -/
  | backfillSlot (radio : Fin 2) (slot : Nat)
  /-- COMMAND_SLOT (R65). The command frame composed at the waymark is sent in the command slot. -/
  | commandSlot (slot : CmdSlot)
  /-- JOIN_SLOT (R79). A join slot begins and JOIN_ADV names the next waiting node, or DISCOVER is sent, or nothing. -/
  | joinSlot (radio : Fin 2)
  /-- RADIO_TX_FAULT (R233). A radio fails, stops at once, and its remaining slots go unserved; in ACTIVE it is a cause for resignation. -/
  | radioTxFault (radio : Fin 2)
  /-- RECORD_CLOSE (R92). At the end of detour slot 22, SWP closes the sweep record and writes it to the ring. -/
  | recordClose
  /-- SCREEN_STAGE (R101). Screen applies every check and writes the SCR bytes of the record. -/
  | screenStage
  /-- CHARGE_STAGE (R126). Charge updates SOC_Q and its variance for every estimated cell. -/
  | chargeStage
  /-- MODEL_STAGE (R128). Model runs hysteresis, prediction, history, late and present updates and the clamp for each cell. -/
  | modelStage
  /-- GATE_RESET (R129). A cell refused GATE_N times in a row has its SOC covariance reset to P_INIT. -/
  | gateReset (cell : Fin 512)
  /-- STEP_STAGE (R135). Step fits Rohm and Rp1 from up to 4 ready captures and updates the cells' impedance parameters. -/
  | stepStage
  /-- FUSE_STAGE (R139). Fuse blends the two paths per cell, applies end and conflict rules, anchors and capacity samples. -/
  | fuseStage
  /-- CONFLICT_CONFIRM (R143). A cell's conflict count reaches CONFLICT_N and the conflict is resolved by slope. -/
  | conflictConfirm (cell : Fin 512)
  /-- TAPER_FIRE (R148). A taper timer reaches TAPER_HOLD and the cells at the end are anchored. -/
  | taperFire (full : Bool)
  /-- ANCHOR_OLD (R145). A cell passes ANCHOR_MAX without an anchor and ANCHOR_OLD is set. -/
  | anchorOld (cell : Fin 512)
  /-- LOW_CONF (R146). A cell's CONF exceeds CONF_TH for CONF_TIME and LOW_CONF is set. -/
  | lowConf (cell : Fin 512)
  /-- SCALE_STAGE (R153). Scale computes reported SOC, energies and power limits for the string. -/
  | scaleStage
  /-- PUBLISH (R160). Publish swaps the buffers, enters the power limits into CTL, and hands on plan, taps and snapshot. -/
  | publish
  /-- PIPELINE_OVERRUN (R116). A run not published 2.0 ms after its record closed is stopped. -/
  | pipelineOverrun
  /-- LIMITS_ZEROED (R159). PLIM_HOLD consecutive runs end without Publish and limits of 0 W are written to CTL. -/
  | limitsZeroed
  /-- CHECKPOINT_DONE (R327). A checkpoint slot completes with its header written last. -/
  | checkpointDone
  /-- SNS_OUTPUT (R86). A modulator channel delivers a decimated, scaled and stamped value. -/
  | snsOutput (ch : Fin 3) (r : Nat)
  /-- SNS_STUCK (R89). No data transition for 64 modulator clocks makes the channel BAD. -/
  | snsStuck (ch : Fin 3) (stuck : Bool)
  /-- SNS_BAD_END (R89). 256 outputs after its conditions end, the channel stops being BAD. -/
  | snsBadEnd (ch : Fin 3)
  /-- SF8_RESIGN (R204). Current channels disagreeing for SF8_TIME / 2 in ACTIVE is a cause for resignation. -/
  | sf8Resign
  /-- SF8_DEMAND (R204). Current channels disagreeing for SF8_TIME in ACTIVE or SOLO is a demand. -/
  | sf8Demand
  /-- CAPTURE_ABANDON (R72). A capture older than CAP_MAXAGE with fragments missing is abandoned and released. -/
  | captureAbandon (id : Nat)
  /-- NODE_FORGET (R80). A node LOST for NODE_FORGET has its object destroyed. -/
  | nodeForget (node : Fin 32)
  /-- LANE_CHANGE (R82). At the effective cycle of a LANE entry, the node's lane changes. -/
  | laneChange (node : Fin 32)
  /-- LANE_ACCEPT_END (R82). 8 superframes after a lane change, the Moxis keeps the lane actually used. -/
  | laneAcceptEnd (node : Fin 32)
  /-- CHMASK_EFFECTIVE (R57). At its effective cycle, the new channel mask is used for hopping. -/
  | chmaskEffective
  /-- PLAN_LOAD (R81). PLAN_CMD LOAD checks and installs a signed lane plan. -/
  | planLoad (mid : Mid)
  /-- PLAN_REMOVE (R80). PLAN_CMD REMOVE destroys the node object and queues a REJOIN. -/
  | planRemove (mid : Mid)
  /-- PLAN_REJOIN (R79). PLAN_CMD REJOIN makes the named node rejoin. -/
  | planRejoin (mid : Mid)
  /-- REJOIN_ALL (R54). PLAN_CMD REJOIN_ALL draws a new K_NET and names every node. -/
  | rejoinAll (mid : Mid)
  /-- PLAN_HANDLE (R80). PLAN_CMD HANDLE returns the handle of the node at NOD_INDEX. -/
  | planHandle (mid : Mid)
  /-- CH_MASK_WRITE (R57). A write of CH_MASK is refused or queued as a CHMASK entry. -/
  | chMaskWrite (mid : Mid) (hi : Bool) (value : Word)
  /-- DISC_READ (R79). A read of DISC_LO removes the head of the discovery FIFO. -/
  | discRead (mid : Mid)
  /-- SWP_CFG_WRITE (R91). A write of SWP_CFG is accepted, or refused with MODE when it changes SWP_DIV outside READY, COMMISSION and SERVICE. -/
  | swpCfgWrite (mid : Mid) (value : Word)
  /-- SWP_DIV_CHANGE (R91). A pending SWP_DIV takes effect at the first qualifying cycle. -/
  | swpDivChange
  /-- WIRE_TEST (R103). WIRE_CMD TEST requests an open-wire test of a wire. -/
  | wireTest (mid : Mid) (value : Word)
  /-- WIRE_CLEAR (R105). WIRE_CMD CLEAR clears WIRE_CONFIRMED of a wire. -/
  | wireClear (mid : Mid) (value : Word)
  /-- OWT_ROUTINE (R106). Every GAP sweeps, the next wire of the next node is tested. -/
  | owtRoutine
  /-- WIRE_HOLDOFF_END (R104). WIRE_HOLDOFF after an intact result, the wire's signature is evaluated again. -/
  | wireHoldoffEnd (node : Fin 32) (wire : Fin 17)
  /-- CHEM_LOAD (R121). CHEM_CMD LOAD checks a chemistry table and creates its object. -/
  | chemLoad (mid : Mid)
  /-- CHEM_DESTROY (R122). CHEM_CMD DESTROY removes an unassigned table. -/
  | chemDestroy (mid : Mid)
  /-- CHEM_ASSIGN (R122). CHEM_CMD ASSIGN gives a table to a range of cells from the next Gather. -/
  | chemAssign (mid : Mid)
  /-- EST_CFG_WRITE (R125). Setting or clearing EST_CFG.EN starts or ends estimation at the next Gather. -/
  | estCfgWrite (mid : Mid) (value : Word)
  /-- DITHER_START (R134). A due dither starts 5 ms after the next sample instant, adding DITHER_AMP to the reference. -/
  | ditherStart
  /-- DITHER_END (R134). A dither ends after 100 ms, or early at an activation. -/
  | ditherEnd
  /-- TAP_CREATE (R161). TAP_CMD CREATE makes a tap and returns its handle. -/
  | tapCreate (mid : Mid)
  /-- TAP_DESTROY (R161). TAP_CMD DESTROY ends a tap after the entry in progress. -/
  | tapDestroy (mid : Mid)
  /-- TAP_QUERY (R161). TAP_CMD QUERY fills TAP_ESIZE and TAP_DROPS for a handle. -/
  | tapQuery (mid : Mid)
  /-- CONTROL_STEP (R167). Every N current outputs, CTL runs the ramp, loops, clamp and both arithmetics and sends a CVL frame. -/
  | controlStep (lat : Nat)
  /-- FALLOVER (R177). DIS_N consecutive disagreements or a non-finite main result switch CTL to the fixed-point path. -/
  | fallover
  /-- OSC_DETECT (R180). OSC_CNT crossings within OSC_WIN is a detection, acted on per OSC_ACT. -/
  | oscDetect
  /-- CVL_REPEAT (R184). No frame for 102.4 µs, so CVL repeats the last frame with REP = 1. -/
  | cvlRepeat
  /-- NOMEAS_TIMEOUT (R165). NOMEAS held for NOCUR_HOLD makes CTL send STOP frames. -/
  | nomeasTimeout
  /-- HOLD_TIMEOUT (R177). HOLD kept for NOCUR_HOLD makes CTL send STOP frames. -/
  | holdTimeout
  /-- ZERO_DWELL_END (R172). The zero dwell of a reversal ends and the ramp grows in the new direction. -/
  | zeroDwellEnd
  /-- RUN_START (R184). CTL enters RUN once every condition holds, presetting the integrators. -/
  | runStart
  /-- APPLY (R176). CTL_CMD APPLY checks and takes the new gains and settings, with presets. -/
  | apply (mid : Mid)
  /-- RESTORE_MAIN (R178). CTL_CMD RESTORE_MAIN returns to the main path if no recent disagreement. -/
  | restoreMain (mid : Mid)
  /-- CLEAR_OSC (R180). CTL_CMD CLEAR_OSC clears OSC_STOP and OSC_DERATE and restores gains. -/
  | clearOsc (mid : Mid)
  /-- CLEAR_SAT (R176). CTL_CMD CLEAR_SAT clears CTL_STAT.SAT. -/
  | clearSat (mid : Mid)
  /-- CLEAR_LAT (R181). CTL_CMD CLEAR_LAT restarts the largest and smallest delay records. -/
  | clearLat (mid : Mid)
  /-- STAGE (R173). SP_CMD STAGE places a set-point in the table tied to a waymark handle. -/
  | stage (mid : Mid)
  /-- WITHDRAW (R173). SP_CMD WITHDRAW removes the set-point of SP_HANDLE. -/
  | withdraw (mid : Mid)
  /-- IMMEDIATE (R173). SP_CMD IMMEDIATE puts the written set-point in force at the next step. -/
  | immediate (mid : Mid)
  /-- WITHDRAW_ALL (R173). SP_CMD WITHDRAW_ALL empties the set-point table. -/
  | withdrawAll (mid : Mid)
  /-- SP_ACTIVATE (R174). After a CTL waymark firing, the staged set-point is put in force at the next control step, or discarded. -/
  | spActivate
  /-- CVL_GAP_READ (R5). A read of CVL_GAP returns the longest frame interval and clears it. -/
  | cvlGapRead (mid : Mid)
  /-- FRM_LOAD (R188). FRM_CMD LOAD checks a formation program and creates its object. -/
  | frmLoad (mid : Mid)
  /-- FRM_DESTROY (R188). FRM_CMD DESTROY removes a program that is not running. -/
  | frmDestroy (mid : Mid)
  /-- FRM_START (R190). FRM_CMD START runs a program from step 0. -/
  | frmStart (mid : Mid)
  /-- FRM_STOP (R190). FRM_CMD STOP ends the program with cause 5. -/
  | frmStop (mid : Mid)
  /-- FRM_PAUSE (R190). FRM_CMD PAUSE ramps to 0 mA and stops step timer and charge. -/
  | frmPause (mid : Mid)
  /-- FRM_RESUME (R190). FRM_CMD RESUME restores the step's set-point. -/
  | frmResume (mid : Mid)
  /-- FRM_STEP_END (R189). A formation step meets its end condition and the program moves on. -/
  | frmStepEnd (cause : StepCause)
  /-- IHALL_TRIP (R199). IHALL leaves the trip window and SF1 opens the paths. -/
  | ihallTrip (mv : Nat)
  /-- SI_FILTER (R216). A safety input channel stays constant for F and its filtered state changes. -/
  | siFilter (input : Fin 12) (chB : Bool) (level : Bool)
  /-- GRD_SI_FILTER (R216). The guardrail's fixed 10 ms filter changes an input's state. -/
  | grdSiFilter (input : Fin 12) (level : Bool)
  /-- SI_DISC (R218). The other channel fails to follow within D and DISC is latched. -/
  | siDisc (input : Fin 12)
  /-- TP_PULSE (R214). A TP output goes off for 400 µs at its plant-time slot. -/
  | tpPulse (even : Bool)
  /-- TP_PULSE_CHECK (R217). The pulse window ends and missed pulses and TP output faults are judged. -/
  | tpPulseCheck (missA : Nat) (missB : Nat) (outFault : Nat)
  /-- XTRIP_DECODE (R202). No XTRIP_IN edge for 150 µs, so its static level is decoded. -/
  | xtripDecode (level : LineLevel)
  /-- XTRIP_FAULT (R202). XTRIP_IN static low for 10 ms with the partner pulsing opens this module's paths. -/
  | xtripFault
  /-- DEMAND_RX (R202). A DEMAND message from the partner over the Causeway opens the path. -/
  | demandRx (cause : Word) (demand : Csw Word)
  /-- WD_TIMEOUT (R203). A watchdog token arrives too early or too late and the guardrail trips. -/
  | wdTimeout (early : Bool)
  /-- LOCKSTEP_ERROR (R203). The lockstep error line is asserted and the guardrail trips. -/
  | lockstepError
  /-- GRD_MISMATCH (R203). A GRD state mismatch persisting 10 ms is a demand through the KH path. -/
  | grdMismatch (sf : Nat)
  /-- K_REQ_WRITE (R206). A write of K_REQ checks close conditions per channel, or withdraws channels. -/
  | kReqWrite (mid : Mid) (value : Word)
  /-- SWITCH_TEST (R209). In its slot, the module off-pulses the next switch and checks readback. -/
  | switchTest (test : SwTest)
  /-- COIL_OPEN (R210). No coil voltage with both switches on for 5 ms withdraws the channel. -/
  | coilOpen (ch : Fin 6)
  /-- FB_CHECK (R211). FB_TIME after a coil state change, feedback gives WELD, CLOSE_FAIL, FB_DISC or a proof. -/
  | fbCheck (ch : Fin 6) (closedA : Bool) (closedB : Bool)
  /-- PROOF_DUE (R212). A channel's proof age reaches PROOF_WARN. -/
  | proofDue (ch : Fin 6)
  /-- PROOF_OVERDUE (R212). A channel's proof age reaches PROOF_INT. -/
  | proofOverdue (ch : Fin 6)
  /-- SAF_RESET (R208). SAF_CMD RESET clears a latched demand when the sources are quiet. -/
  | safReset (mid : Mid)
  /-- PSET_LOAD (R221). SAF_CMD PSET_LOAD checks a parameter set and makes it pending. -/
  | psetLoad (mid : Mid)
  /-- PSET_CONFIRM (R221). SAF_CMD PSET_CONFIRM stores the pending set and puts it in force. -/
  | psetConfirm (mid : Mid)
  /-- WELD_CLEAR (R211). SAF_CMD WELD_CLEAR with a signed token clears WELD in SERVICE. -/
  | weldClear (mid : Mid)
  /-- MODE_REQ (R224). A write of MODE_REQ changes the mode or is refused with a code. -/
  | modeReq (mid : Mid) (value : Word)
  /-- STOP_SEQ_RUN_EXIT (R225). Current falls below STOP_I or STOP_TMO expires, and CTL leaves RUN. -/
  | stopSeqRunExit
  /-- STOP_SEQ_PATHS_OPEN (R225). 20 ms after leaving RUN, RED clears K_REQ. -/
  | stopSeqPathsOpen
  /-- STOP_SEQ_DONE (R225). Feedback shows every contactor open and the new mode is entered. -/
  | stopSeqDone (open_ : Nat)
  /-- POWER_ON (R224). A supply becomes good with SEATED closed and the module enters BOOT. -/
  | powerOn (a : Bool) (b : Bool)
  /-- BOOT_DONE (R224). Loader, image check and self-test complete and the module enters READY. -/
  | bootDone (pass : Bool)
  /-- START_WAIT_EXPIRY (R226). Slot B sees no claim from slot A within START_WAIT and claims control. -/
  | startWaitExpiry
  /-- RESIGN_IN_CHANGE (R227). RESIGN_IN settles at a new level, signalling a claim or a resignation. -/
  | resignInChange (high : Bool)
  /-- HEARTBEAT_TX (R230). Every 100 µs, and on a change, the module sends its heartbeat and computes HEALTH. -/
  | heartbeatTx
  /-- HEARTBEAT_RX (R230). A partner heartbeat is taken, updating mode, role, matches and presence mask. -/
  | heartbeatRx (hb : Heartbeat)
  /-- HEARTBEAT_LOSS (R234). No valid heartbeat for 450 µs; the SHADOW takes over or the ACTIVE becomes SOLO. -/
  | heartbeatLoss
  /-- CONTROL_FRAME_RX (R231). A SHADOW loads the control state into its CTL and FRM. -/
  | controlFrameRx (f : CtlFrame)
  /-- NODE_STATE_TX (R230). NODE_STATE is sent every 100 ms and at each join or lane change. -/
  | nodeStateTx
  /-- NODE_STATE_RX (R80). A SHADOW takes joined state, radio and lane of each node, creating or destroying objects. -/
  | nodeStateRx (f : NodeState)
  /-- SNAPSHOT_RX (R232). A complete snapshot is compared and copied into the SHADOW's working buffer. -/
  | snapshotRx (f : Snapshot)
  /-- RESIGN (R233). RED_CMD RESIGN makes an ACTIVE resign to its SHADOW. -/
  | resign (mid : Mid)
  /-- HANDOVER_OFFER (R237). At the end of a join slot, the giver offers a handover in its control frame. -/
  | handoverOffer
  /-- HANDOVER_FAIL (R237). No claim within 1 ms of an offer; the giver keeps control. -/
  | handoverFail
  /-- REVERT (R238). Slot B hands control back to slot A at a quiet sweep after REVERT_HOLD. -/
  | revert
  /-- REVERT_NOW (R238). RED_CMD REVERT_NOW skips the REVERT_HOLD wait. -/
  | revertNow (mid : Mid)
  /-- LOOPBACK_TEST (R240). Every 60 s a SHADOW runs a transmit loopback on each radio. -/
  | loopbackTest (radio : Fin 2) (pass : Bool)
  /-- PARTNER_PRESENT_CHANGE (R241). The partner's PRESENT changes and PARTNER_PRESENT is updated. -/
  | partnerPresentChange (present : Bool)
  /-- SEATED_CLOSE (R373). SEATED stays closed 20 ms and insertion proceeds. -/
  | seatedClose
  /-- SEATED_OPEN (R244). SEATED opens with the latch closed; the module resigns and opens held paths. -/
  | seatedOpen
  /-- SHADOW_PATH_JOIN (R242). A SHADOW joins its path to coils the partner holds proved. -/
  | shadowPathJoin
  /-- LATCH_OPEN (R243). The ejector latch is released and the module starts leaving. -/
  | latchOpen
  /-- LATCH_CLOSE (R243). The latch closes again before REMOVE_OK and leaving is cancelled. -/
  | latchClose
  /-- REMOVE_OK (R243). Feedback shows the partner alone holds the contactors and REMOVE_OK is set. -/
  | removeOk (closed : Nat)
  /-- SUPPLY_LOSS (R346). Both supplies are lost; CORE drops to point 3 and the recorder saves state. -/
  | supplyLoss
  /-- SUPPLY_RETURN (R346). A supply returns before hold-up ends and SUPPLY_LOSS clears. -/
  | supplyReturn
  /-- HOLDUP_END (R346). 20 ms after supply loss, hold-up ends and all domains fall. -/
  | holdupEnd
  /-- CSW_LANE_CHANGE (R229). A Causeway lane goes down or comes up. -/
  | cswLaneChange (lane : Fin 2) (up : Bool)
  /-- BIND_WRITE (R247). The safety core writes a binding word, clearing the channel. -/
  | bindWrite (mid : Mid) (ch : Fin 64) (value : Word)
  /-- MSG_WRITE (R251). A write of MSGn goes to the writer's outbound slot, or is refused while it is FULL. -/
  | msgWrite (mid : Mid) (ch : Fin 64) (n : Fin 8) (value : Word)
  /-- POST (R252). POST with WITHDRAW = 0 marks the outbound slot FULL. -/
  | post (mid : Mid) (ch : Fin 64) (value : Word)
  /-- MBX_WITHDRAW (R254). POST with WITHDRAW = 1 empties the writer's outbound slot. -/
  | mbxWithdraw (mid : Mid) (ch : Fin 64)
  /-- TAKE (R253). A read of TAKE delivers and empties the inbound slot. -/
  | take (mid : Mid) (ch : Fin 64)
  /-- RING (R256). A write of RING sets doorbells at the other end. -/
  | ring (mid : Mid) (ch : Fin 64) (bits : Word)
  /-- BELL_CLEAR (R256). A W1C of BELL clears doorbells at this end. -/
  | bellClear (mid : Mid) (ch : Fin 64) (bits : Word)
  /-- MBX_TMO (R255). A post FULL for MBX_TMO sets TMO. -/
  | mbxTmo (ch : Fin 64) (end1 : Bool)
  /-- MUTUAL (R255). Both slots of a channel FULL for MBX_TMO set MUTUAL. -/
  | mutualWait (ch : Fin 64)
  /-- POST_RX (R260). A remote POST frame fills the inbound slot or is answered REFUSE. -/
  | postRx (ch : Fin 64) (len : Nat) (sender : LocalMid) (words : Csw (List Word))
  /-- TAKEN_RX (R261). A TAKEN frame clears the sender's OUT_FULL. -/
  | takenRx (ch : Fin 64) (taker : Csw LocalMid)
  /-- WITHDRAW_RX (R261). A remote WITHDRAW frame empties the inbound slot. -/
  | withdrawRx (ch : Fin 64) (sender : Csw LocalMid)
  /-- RING_RX (R261). A remote RING frame sets doorbells. -/
  | ringRx (ch : Fin 64) (bits : Csw Nat)
  /-- BELL_CLR_RX (R261). A remote BELL_CLR frame clears rung doorbells. -/
  | bellClrRx (ch : Fin 64) (bits : Csw Nat)
  /-- REFUSE_RX (R260). A REFUSE frame empties the sender's slot with ABORTED set. -/
  | refuseRx (ch : Fin 64) (reason : Csw Nat)
  /-- END_RESET_RX (R259). An END_RESET frame applies R258 to the remote channels of that end. -/
  | endResetRx (who : Csw LocalMid)
  /-- THAW (R267). FWL_CMD THAW releases a frozen column with a bus error. -/
  | thaw (mid : Mid) (value : Word)
  /-- VIOL_CLR (R266). A write of VIOL_CLR releases the held violation record. -/
  | violClr (mid : Mid) (value : Word)
  /-- CAN_INIT_CLEAR (R270). Writing INIT = 0 checks the configuration and waits for bus idle. -/
  | canInitClear (ctl : Fin 2) (mid : Mid) (value : Word)
  /-- CAN_INIT_SET (R284). Writing INIT = 1 takes the controller off the bus, ending bus-off. -/
  | canInitSet (ctl : Fin 2) (mid : Mid) (value : Word)
  /-- CAN_BUS_IDLE (R270). 11 recessive bits are seen and the controller enters ERROR_ACTIVE. -/
  | canBusIdle (ctl : Fin 2)
  /-- RECOVER (R284). CAN_CMD RECOVER starts the wait to leave BUS_OFF. -/
  | recover (ctl : Fin 2) (mid : Mid)
  /-- CAN_RECOVERED (R284). After 128 idle sequences, the controller enters ERROR_ACTIVE. -/
  | canRecovered (ctl : Fin 2)
  /-- TX_FLUSH (R284). CAN_CMD TX_FLUSH removes every queued entry with outcome FLUSHED. -/
  | txFlush (ctl : Fin 2) (mid : Mid)
  /-- RXF_FLUSH (R275). CAN_CMD RXF_FLUSH empties the receive FIFO. -/
  | rxfFlush (ctl : Fin 2) (mid : Mid)
  /-- TXE_FLUSH (R280). CAN_CMD TXE_FLUSH empties the TX event FIFO. -/
  | txeFlush (ctl : Fin 2) (mid : Mid)
  /-- CAN_FRAME_RX (R275). A received frame is filtered and placed in the receive FIFO or dropped. -/
  | canFrameRx (ctl : Fin 2) (sof : BitVec 64) (w0 : Word) (w1 : Word) (data : List Nat)
  /-- CAN_TX_ATTEMPT_END (R279). A transmit attempt ends in success, lost arbitration or error, and the entry is retried or leaves. -/
  | canTxAttemptEnd (ctl : Fin 2) (how : CanEnd) (edges : List Nat)
  /-- CAN_ID_CLASH (R282). The third consecutive DLC or data bit error records a clash and may drop the entry. -/
  | canIdClash (ctl : Fin 2)
  /-- TX_PUSH (R277). TX_PUSH queues the staging window with a new tag. -/
  | txPush (ctl : Fin 2) (mid : Mid) (value : Word)
  /-- TX_CANCEL (R281). A write of a tag to TX_CANCEL removes or marks the entry. -/
  | txCancel (ctl : Fin 2) (mid : Mid) (value : Word)
  /-- RXF_POP (R275). A write to RXF_POP removes the head receive entry. -/
  | rxfPop (ctl : Fin 2) (mid : Mid) (value : Word)
  /-- TXE_POP (R280). A write to TXE_POP removes the head TX event. -/
  | txePop (ctl : Fin 2) (mid : Mid) (value : Word)
  /-- FS_CREATE (R274). FS_CMD CREATE makes a disabled filter set. -/
  | fsCreate (ctl : Fin 2) (mid : Mid)
  /-- FS_DESTROY (R274). FS_CMD DESTROY removes a filter set. -/
  | fsDestroy (ctl : Fin 2) (mid : Mid)
  /-- FS_ENABLE (R274). FS_CMD ENABLE enables a set from the next SOF. -/
  | fsEnable (ctl : Fin 2) (mid : Mid)
  /-- FS_DISABLE (R274). FS_CMD DISABLE disables a set from the next SOF. -/
  | fsDisable (ctl : Fin 2) (mid : Mid)
  /-- FS_QUERY (R274). FS_CMD QUERY returns a set's range. -/
  | fsQuery (ctl : Fin 2) (mid : Mid)
  /-- FLT_WRITE (R274). A write to a filter element is refused with IN_USE if its set is enabled. -/
  | fltWrite (ctl : Fin 2) (mid : Mid) (k : Fin 64) (mask : Bool) (value : Word)
  /-- ETH_FRAME_RX (R286). A frame enters a port, is learned, stamped and forwarded, delivered or dropped. -/
  | ethFrameRx (port : Fin 2) (bytes : List Nat)
  /-- ETH_EGRESS (R296). A queued frame starts leaving a port, with transparent-clock correction. -/
  | ethEgress (port : Fin 3)
  /-- MAC_AGE (R286). A learned address ages out after AGE_TIME. -/
  | macAge
  /-- ETH_LINK_CHANGE (R286). An external port's link goes up or down. -/
  | ethLinkChange (port : Fin 2) (up : Bool)
  /-- TX_RING_KICK (R289). A write of TXR_TAIL hands descriptors to ETH for sending. -/
  | txRingKick (mid : Mid) (q : Fin 4) (value : Word)
  /-- TS_FIFO_READ (R291). A read of TS_HEAD5 removes the oldest timestamp entry. -/
  | tsFifoRead (mid : Mid)
  /-- CLKD_STEP (R294). CLKD_CMD STEP adds a signed value to an instance. -/
  | clkdStep (n : Fin 3) (mid : Mid)
  /-- CLKD_SET (R294). CLKD_CMD SET loads an absolute time into an instance. -/
  | clkdSet (n : Fin 3) (mid : Mid)
  /-- ADJ_WRITE (R24). A write of ADJn sets the rate term, clamped if out of range. -/
  | adjWrite (n : Fin 3) (mid : Mid) (value : Word)
  /-- CLKD_CFG_WRITE (R293). A write of CLKD_CFGn maps an instance, or is refused with DOM_DUP. -/
  | clkdCfgWrite (n : Fin 3) (mid : Mid) (value : Word)
  /-- LAUNCH_CREATE (R298). LA_CMD CREATE copies a frame for launch at a plant time. -/
  | launchCreate (mid : Mid)
  /-- LAUNCH_DESTROY (R298). LA_CMD DESTROY withdraws a pending launch. -/
  | launchDestroy (mid : Mid)
  /-- LAUNCH (R299). A timed frame leaves at its launch time and its outcome enters LA_FIFO. -/
  | launch (idx : Fin 64)
  /-- LA_FIFO_READ (R299). A read of LA_FIFO removes the oldest launch outcome. -/
  | laFifoRead (mid : Mid)
  /-- SETPOINT_RX (R304). A SETPOINT message stages set-points with waymark entries for this string. -/
  | setpointRx (hdr : DspHdr) (entries : List SpEntry)
  /-- WITHDRAW_MSG_RX (R307). A WITHDRAW message withdraws named set-points and their waymarks. -/
  | withdrawMsgRx (hdr : DspHdr) (pairs : List (Nat × Nat))
  /-- TIMEBASE_RX (R308). A TIMEBASE message checks CYC_ORIGIN and arms a bias change. -/
  | timebaseRx (hdr : DspHdr) (body : TimebaseBody)
  /-- KEY_LOAD0 (R302). KEY_CMD LOAD0 loads the key into slot 0. -/
  | keyLoad0 (mid : Mid)
  /-- KEY_LOAD1 (R302). KEY_CMD LOAD1 loads the key into slot 1. -/
  | keyLoad1 (mid : Mid)
  /-- KEY_ERASE0 (R302). KEY_CMD ERASE0 erases key slot 0. -/
  | keyErase0 (mid : Mid)
  /-- KEY_ERASE1 (R302). KEY_CMD ERASE1 erases key slot 1. -/
  | keyErase1 (mid : Mid)
  /-- RPT_CFG_WRITE (R309). Setting RPT_CFG.EN creates the report waymark, or is refused. -/
  | rptCfgWrite (mid : Mid) (value : Word)
  /-- SENDER_ID_WRITE (R312). A write of SENDER_ID that breaks the rule clears RPT_CFG.EN. -/
  | senderIdWrite (mid : Mid) (value : Word)
  /-- PEER_WRITE (R312). A write of PEERn that breaks the rule clears RPT_CFG.EN. -/
  | peerWrite (mid : Mid) (n : Fin 4) (value : Word)
  /-- WM_CREATE (R39). WM_CMD CREATE makes a waymark entry and returns its handle. -/
  | wmCreate (mid : Mid)
  /-- WM_DESTROY (R39). WM_CMD DESTROY removes a waymark entry. -/
  | wmDestroy (mid : Mid)
  /-- WM_QUERY (R39). WM_CMD QUERY copies an entry's target and control back. -/
  | wmQuery (mid : Mid)
  /-- WM_FIRE (R41). A waymark entry fires and carries out its actions. -/
  | wmFire
  /-- WM_FIFO_READ (R43). A read of WM_FIFO removes the oldest logged firing. -/
  | wmFifoRead (mid : Mid)
  /-- GPIO_PULSE_END (R375). A waymark GPIO pulse width expires and the pin returns. -/
  | gpioPulseEnd (pin : Fin 8)
  /-- PPS_IN_EDGE (R44). A PPS_IN edge is captured. -/
  | ppsInEdge (falling : Bool)
  /-- PPS_MISSING (R44). No PPS_IN edge within 1.1 s sets PPS_MISSING. -/
  | ppsMissing
  /-- PPS_OUT_EDGE (R45). PPS_OUT gives an edge at each whole second of plant time. -/
  | ppsOutEdge
  /-- PPS_OUT_PULSE_END (R45). The PPS_OUT pulse width expires. -/
  | ppsOutPulseEnd
  /-- GPIO_EDGE (R375). An enabled GPIO edge sets its event and may be stamped. -/
  | gpioEdge (pin : Fin 8) (rising : Bool)
  /-- REC_INTAKE (R319). An event reaches the recorder intake, takes a token and a SEQ, or is suppressed or lost. -/
  | recIntake
  /-- REC_WRITE (R315). A record leaves the intake or blotter and is written to MRAM. -/
  | recWrite
  /-- REC_POST (R318). A write of REC_POST posts a record with the MID's data words. -/
  | recPost (mid : Mid) (value : Word)
  /-- TOLL_REFILL (R320). A token is added to a bucket; a TOLL_SUMMARY follows when it fills. -/
  | tollRefill (code : Nat)
  /-- TOLL_PARAM_WRITE (R320). A write of TOLL_PARAM sets BURST and REFILL and fills the bucket. -/
  | tollParamWrite (mid : Mid) (value : Word)
  /-- FREEZE (R322). A write of 1 to REC_FREEZE writes FREEZE and diverts records to the blotter. -/
  | freeze (mid : Mid)
  /-- REC_THAW (R323). A write of 0 to REC_FREEZE drains the blotter. -/
  | recThaw (mid : Mid)
  /-- FREEZE_TIMEOUT (R322). 10 s after a freeze began, it ends. -/
  | freezeTimeout
  /-- REC_SCAN (R314). After a reset covering REC, the recorder scans the Inkwell. -/
  | recScan
  /-- SCAN_DONE (R314). The scan completes, BOOT is written and the blotter drained. -/
  | scanDone
  /-- CLEAR (R329). REC_CMD CLEAR with a signed token starts a new log epoch. -/
  | clear (mid : Mid)
  /-- LOG_ERASE (R329). Records of older epochs are overwritten with zeros in the background. -/
  | logErase
  /-- RD_SELECT (R331). A write of RD_KEY selects a record into RD_WIN. -/
  | rdSelect (mid : Mid) (value : Word)
  /-- REF_SEL_WRITE (R332). A write of REF_SEL switches the PLL reference, or is refused. -/
  | refSelWrite (mid : Mid) (refclk : Bool)
  /-- REF_QUALIFIED (R333). REFCLK stays in range for OSC_QUAL and is qualified. -/
  | refQualified
  /-- REF_LOST (R333). REFCLK is lost and the PLL returns to the TCXO. -/
  | refLost
  /-- REF_SLEW_DONE (R334). The PLL has slewed onto the new reference. -/
  | refSlewDone
  /-- DVFS_REQ (R336). A write of DVFS_REQ starts or holds a CORE operating point change. -/
  | dvfsReq (mid : Mid) (value : Word)
  /-- PMIC_CONFIRM (R336). The PMIC confirms the new voltage and the sequence continues. -/
  | pmicConfirm
  /-- DVFS_DONE (R336). The change completes and BUSY clears. -/
  | dvfsDone
  /-- DVFS_FAIL (R336). The PMIC does not report within 100 µs and the change ends at the previous point. -/
  | dvfsFail
  /-- COMPAT_WRITE (R337). The loader writes CLK_CFG.COMPAT to select YMX-5100 timing. -/
  | compatWrite (mid : Mid) (on : Bool)
  /-- CLK_GATE_WRITE (R339). A write of CLK_GATE closes or opens a block's clock, or is refused. -/
  | clkGateWrite (mid : Mid) (hi : Bool) (value : Word)
  /-- CLK_GATE_STOP (R339). The gated block's interface goes idle and its clock stops. -/
  | clkGateStop (page : Fin 64)
  /-- RST_KEY (R342). A write of RST_KEY arms a MODULE or APP reset for 1 µs. -/
  | rstKey (mid : Mid) (value : Word)
  /-- POWER_RESET (R341). Power-on or a brownout resets the whole module, odometer included. -/
  | powerReset (brownout : Bool) (romOk : Bool) (swFaults : Nat)
  /-- MODULE_RESET (R341). A MODULE reset restarts every block and processor except the odometer. -/
  | moduleReset (src : ModuleSrc) (romOk : Bool) (swFaults : Nat)
  /-- APP_RESET (R341). An APP reset restarts the application cores, L2 and DMA. -/
  | appReset (mid : Mid)
  /-- CORE_RESET (R341). A CORE_n reset restarts one application core. -/
  | coreReset (mid : Mid) (n : Fin 4)
  /-- LINK_RESET (R341). A LINK reset restarts the link core and NOD. -/
  | linkReset (mid : Mid)
  /-- BLOCK_RESET (R383). A BLOCK reset returns one page to its Reset column and destroys its objects. -/
  | blockReset (mid : Mid) (page : Fin 64)
  /-- WDT_KICK (R343). A write of 0x5A5A to WDT_KICKn restarts the watchdog period. -/
  | wdtKick (n : Fin 5) (mid : Mid) (value : Word)
  /-- WDT_EXPIRE (R343). A watchdog expires and resets its core. -/
  | wdtExpire (n : Fin 5)
  /-- ECC_UE (R347). An uncorrectable ECC error returns a bus error and is recorded. -/
  | eccUe (addr : Nat) (error : EccError)
  /-- TEMP_HIGH (R376). The die reaches 105 °C and TEMP_HIGH is set. -/
  | tempHigh
  /-- BOOT_ROM_RETRY (R351). A failed loader check is repeated every 10 s. -/
  | bootRomRetry (pass : Bool)
  /-- TRIAL_BOOT_TIMEOUT (R357). A trial boot not reaching READY within 60 s counts as failed. -/
  | trialBootTimeout
  /-- SIGN (R348). SEC_CMD SIGN signs a digest with the IDevID key. -/
  | sign (mid : Mid)
  /-- CERT_READ (R348). SEC_CMD CERT_READ returns the IDevID certificate or chain. -/
  | certRead (mid : Mid)
  /-- KEY_INSTALL (R349). SEC_CMD KEY_INSTALL installs a public key in slots 2 to 6. -/
  | keyInstall (mid : Mid)
  /-- FLEET_INSTALL (R349). SEC_CMD FLEET_INSTALL installs the wrapped fleet key. -/
  | fleetInstall (mid : Mid)
  /-- PUB_READ (R348). SEC_CMD PUB_READ returns a public key. -/
  | pubRead (mid : Mid)
  /-- SEC_DONE (R348). A security command completes and DONE is set. -/
  | secDone
  /-- SEC_RAND_READ (R6). A read of SEC_RAND returns random bits and draws new ones. -/
  | secRandRead (mid : Mid)
  /-- UPD_STAGE (R352). UPD_CMD STAGE checks an image and writes it to staging. -/
  | updStage (mid : Mid)
  /-- STAGE_DONE (R352). Staging completes with read-back compare and STAGED is set. -/
  | stageDone (same : Bool)
  /-- ACTIVATE (R353). UPD_CMD ACTIVATE arms the staged image for a plant time. -/
  | activate (mid : Mid)
  /-- CANCEL (R353). UPD_CMD CANCEL disarms an activation. -/
  | cancel (mid : Mid)
  /-- COMMIT (R360). UPD_CMD COMMIT raises MIN_SVN to RUN_SVN. -/
  | commit (mid : Mid)
  /-- ACTIVATION_TIME (R354). At the armed time, the module overwrites, waits or hands over by role. -/
  | activationTime
  /-- ACTIVATION_RECHECK (R354). A waiting module rechecks the partner's state each second. -/
  | activationRecheck
  /-- PAIR_TMO (R354). The partner has not returned within UPD_PAIR_TMO and the ACTIVE disarms. -/
  | pairTmo
  /-- OVERWRITE_SECTOR (R356). A 64 KiB sector is copied and the journal advances; after the last, the new image boots. -/
  | overwriteSector (same : Bool)
  /-- IMAGE_REQUEST (R358). A recovering loader requests the partner's image, repeated every 1 s. -/
  | imageRequest
  /-- IMAGE_REQUEST_RX (R358). The partner checks the certificate and rewraps its image key for the requester. -/
  | imageRequestRx (serial : Nat) (cert : Csw (List Nat))
  /-- IMAGE_WRAP_RX (R358). The requester takes the new wrap block. -/
  | imageWrapRx (wrap : Csw (List Nat))
  /-- IMAGE_DATA_RX (R358). The requester writes a segment of the partner's image. -/
  | imageDataRx (offset : Nat) (bytes : Csw (List Nat))
  /-- IMAGE_END_RX (R358). The requester assembles and stages the recovered image. -/
  | imageEndRx (crc : Csw Word)
  /-- IMAGE_REFUSE_RX (R358). The partner refuses the image request. -/
  | imageRefuseRx (reason : Csw Nat)
  /-- SWITCH_READBACK_FAULT (R210). Outside a test, a switch reads back on while commanded off or off while commanded on, or turns itself off on overcurrent, and the fault is latched with its path opened. -/
  | switchReadbackFault (ch : Fin 6) (low : Bool) (kind : ReadbackFault)
  /-- CVL_LINE_FAULT (R233). CVL_STAT.LINE_ON clears while CVL_CFG.EN is set, which in an ACTIVE module is resignation cause 9. -/
  | cvlLineFault
  /-- PRESENT_MASK_TIMEOUT (R230). A SHADOW's NOD waits 200 µs after its own record close for the ACTIVE's PRESENT mask, then evaluates MISS on its own reception alone. -/
  | presentMaskTimeout
  /-- XTRIP_PULSE_RETURN (R202). Edges return on XTRIP_IN, so it reads pulsing again, XTRIP_FAULT can clear and an SF6-only latch may be reset. -/
  | xtripPulseReturn
  /-- IHALL_CLEAR (R199). IHALL returns inside the trip window, so the SF1 source becomes inactive in SAF.DEMAND and the guardrail. -/
  | ihallClear (mv : Nat)
  /-- PWR_GOOD_CHANGE (R366). One of PWR_A or PWR_B crosses its good threshold while the other stays good, changing PWR_GOOD_A or PWR_GOOD_B and SUPPLY_OK. -/
  | pwrGoodChange (supplyB : Bool) (good : Bool)
  /-- HOLDUP_READY (R367). The hold-up store rises to 43.0 V or falls below 42.0 V, setting or clearing HOLDUP_READY and HOLDUP_OK. -/
  | holdupReady (mv : Nat)
  /-- TEMP_RESTORED (R376). The die temperature falls below 100 °C and THERMAL_OK is restored. -/
  | tempRestored
  /-- PLL_UNLOCK (R239). A radio synthesiser loses or regains lock, changing LNK_STAT.PLL_LOCK, LNK.EVT.PLL_UNLOCK and the LNKn_RX health bit. -/
  | pllUnlock (radio : Fin 2) (locked : Bool)
  /-- GAU_SLEW_DONE (R33). The remaining phase or position difference being slewed out by the GAU reaches zero and GAU_STAT.SLEWING clears. -/
  | gauSlewDone
  /-- NOMINAL_CROSSING (R37). In holdover or on the nominal timeline, the GAU angle wraps, the cycle number advances and CYC_ERA advances at a CYCLE wrap. -/
  | nominalCrossing
  /-- CAN_RX_ERROR (R283). An error detected while receiving raises REC and may move the controller to WARN or ERROR_PASSIVE. -/
  | canRxError (ctl : Fin 2) (what : CanRxFault)
  /-- CAN_TX_SOF (R281). The controller drives SOF for the head entry, so an attempt is under way and it is stamped. -/
  | canTxSof (ctl : Fin 2)
  deriving DecidableEq, Repr

end Sys2Proof
end

