-- ==== Sys2Proof/Machine/State.lean ====
section
/-! DEFINITION. The state of the block: every register, FIFO, table, counter, mode and line the spec gives the module, as plain data,
and the queue of waiting commands. Each field that the spec gives names the rule that gives it; a field of the model's own says so.

A register whose contents are held as typed state (a time, a position, a table) is read through Machine/Views.lean; every other
register is held in `regs`, which lists only the registers that differ from their Reset column (R6). -/

namespace Sys2Proof.Machine

/-- TIM: the three timelines' clocks (R19, R23, R25 to R27, R44, R45). -/
structure Tim where
  /-- The odometer (R19). -/
  odo : BitVec 64 := 0
  /-- CLKD0 to CLKD2: each instance's 48-bit seconds, 30-bit nanoseconds and 32-bit fraction (R23) as one count of
  `2^-32` ns, so that the carries are exact. -/
  clk : Tab Nat := []
  /-- PLANT_SEL: the instance plant time follows (R25, R387). -/
  plantSel : Nat := 0
  /-- The residual still to slew, in `2^-32` ns (R25, R26). -/
  resid : Int := 0
  /-- A residual is being slewed out and SLEW_DONE has not been given for it (R26). -/
  slewing : Bool := false
  /-- Plant time has been set or stepped since reset (R315, FLAGS.PT_INVALID). -/
  ptSet : Bool := false
  /-- Odometer of the previous PPS_IN edge, or of the enabling of the input (R44). -/
  ppsLast : Option (BitVec 64) := none
  /-- The running PPS_OUT pulse: odometer of its active edge (R45). -/
  ppsPulse : Option (BitVec 64) := none
  /-- The latest whole second of plant time that gave a PPS_OUT edge (R45). -/
  ppsSec : Option Int := none
  /-- The whole second a step of plant time landed in, until the first edge after it (R45). -/
  ppsLand : Option Int := none
  deriving DecidableEq, Repr

/-- GAU_STAT.SRC. -/
inductive GauSrc where
  | nominal | phref | holdover
  deriving DecidableEq, Repr

/-- A waymark entry (R39). -/
structure Waymark where
  /-- The next target grid position: cycle in [63:32], angle in [31:0]. -/
  target : BitVec 64 := 0
  /-- WM_CTRL at CREATE: PERIOD, ACTION, LATE_OK. -/
  ctrl   : Word := 0
  /-- Its target was passed by a jump, was already passed at CREATE, or it waited for a comparator (R41). -/
  late   : Bool := false
  /-- Occurrences left out by a jump (R42). -/
  skip   : Nat := 0
  deriving DecidableEq, Repr

/-- A logged firing (R43). -/
structure WmFiring where
  handle : Word
  late   : Bool
  skip   : Nat
  deriving DecidableEq, Repr

/-- GAU: the grid angle unit (R28 to R43, R388, R389). Positions are counts of `2^-64` cycle: full cycle number (R37) above bit 64,
angle in [63:32], fraction in [31:0]. -/
structure Gau where
  /-- The phase accumulator. -/
  pos : Nat := 0
  /-- The full cycle number: CYC_ERA in [47:32], CYCLE in [31:0] (R37). -/
  cyc : Nat := 0
  src : GauSrc := .nominal
  locked : Bool := false
  /-- The difference still to be slewed out, in `2^-64` cycle (R30, R31, R33). -/
  slew : Int := 0
  /-- GAU_STAT.SLEWING. -/
  slewing : Bool := false
  /-- Odometer of the last accepted edge of the present sequence (R28). -/
  lastEdge : Option (BitVec 64) := none
  /-- Up to four accepted periods of the present sequence in TIME cycles, newest first (R28). -/
  periods : List Nat := []
  /-- The sum of four periods at the last edge accepted under lock: the tracked or held frequency (R28, R32); 0 before a lock. -/
  tracked : Nat := 0
  /-- Odometer of the last edge accepted before PHREF was lost (R32). -/
  holdFrom : BitVec 64 := 0
  /-- The sum of four periods tracked at the previous crossing, 0 for the nominal frequency (R38). -/
  xFreq : Nat := 0
  /-- A bias change is armed at this full cycle number (R388). -/
  biasAt : Option Nat := none
  /-- The sample angle in use (R389 gives when a written SWEEP_ANGLE takes effect). -/
  sweepAngle : Word := 0x40000000
  /-- The values of SWEEP_ANGLE written and not yet in use, newest first: the grid position of the write and the value (R389). -/
  sweepAngleAt : List (Nat × Word) := []
  /-- The newest sweep cycle that opened a superframe (R389). -/
  lastSweep : Option Nat := none
  /-- The newest superframe opened, sweep or auxiliary, by the cycle it carries (R58). -/
  lastSuper : Option Nat := none
  /-- A sweep waymark passed by a forward jump, not yet fired (R389). -/
  lateSweep : Option Nat := none
  /-- SWP_DIV in use (R91). -/
  swpDiv : Nat := 1
  /-- A written SWP_DIV and the full cycle number of its write (R91). -/
  swpDivPend : Option (Nat × Nat) := none
  /-- The waymark entries by slot (R39). -/
  wms : Tab Waymark := []
  /-- Odometers of the firings whose comparators have not yet taken their next entry (R40). -/
  refill : List (BitVec 64) := []
  /-- WM_FIFO: logged firings, oldest first, at most 64 (R43). -/
  wmFifo : List WmFiring := []
  /-- The firings with the CTL action not yet taken by CTL, in firing order (R42, R174). -/
  ctlFired : List Word := []
  deriving DecidableEq, Repr

/-- One node of a lane plan (R81), its K_NODE unwrapped. -/
structure PlanEntry where
  node   : Nat
  radio  : Nat
  lane   : Nat
  w0     : Nat
  w1     : Nat
  serial : Nat
  key    : Nat
  deriving DecidableEq, Repr

/-- A lane plan in force (R81). -/
structure LanePlan where
  ver     : Nat
  entries : List PlanEntry
  deriving DecidableEq, Repr

/-- A group of a balance plan (R65, R107). -/
structure BalGroup where
  node : Nat
  mask : Nat
  duty : Nat
  deriving DecidableEq, Repr

/-- An entry of a command frame (R65). -/
inductive CmdEntry where
  | chmask (mask eff : Nat)
  | freeze (id cycle j : Nat) (map : Tab Nat)
  | release (node mask : Nat)
  | owt (node wire : Nat)
  | lane (node radio lane w0 w1 eff : Nat)
  | rejoin (node : Nat)
  | bal (groups : List BalGroup)
  deriving DecidableEq, Repr

/-- A lane change under way (R82). -/
structure LaneMove where
  oldRadio : Nat
  oldLane  : Nat
  radio : Nat
  lane  : Nat
  w0 : Nat
  w1 : Nat
  /-- The effective cycle, full number. -/
  eff : Nat
  /-- CMDSEQ values of the command frames that carried the LANE entry. -/
  seqs : List Nat := []
  /-- The node has echoed a frame that carried the entry. -/
  echoed : Bool := false
  /-- Superframes left in which either lane is accepted; counted from the effective cycle. -/
  accept : Option Nat := none
  /-- The node was last heard in its new lane. -/
  usedNew : Bool := false
  deriving DecidableEq, Repr

/-- A BAL group carried in a command frame (R113). -/
structure SentGroup where
  group : BalGroup
  /-- CMDSEQ of the frame. -/
  seq : Nat
  /-- Odometer of its command slot. -/
  sent : BitVec 64
  /-- The node's CMDECHO has shown exactly this frame. -/
  shown : Bool := false
  deriving DecidableEq, Repr

/-- What the link keeps of a node besides NODE_STAT and NODE_DET (R72 to R83, R113, R114). -/
structure NodeSt where
  /-- Odometer at which the node became LOST (NODE_FORGET, R80). -/
  lostAt : Option (BitVec 64) := none
  /-- First-attempt losses of the last 256 sweeps, newest in bit 0 (LANE_Q.LOSS, R83). -/
  lossBits : Nat := 0
  move : Option LaneMove := none
  /-- Sweep index of the last lane change (R83). -/
  movedAt : Option Nat := none
  /-- Full sweep cycles missed and still worth asking for, newest first (R76). -/
  missed : List Nat := []
  /-- The first attempt of the present superframe arrived. -/
  first : Bool := false
  /-- Retry slots taken in the present superframe (R73). -/
  retries : Nat := 0
  /-- HEARD0 and HEARD1 of the node's own uplink in the present superframe (R74). -/
  heard : Nat := 0
  /-- NSTAT, TDIE and CMDECHO as last reported. -/
  nstat : Nat := 0
  tdie : Int := 0
  echo : Nat := 0
  /-- The full sweep cycle of the data that reported TDIE (R110). -/
  tdieAt : Option Nat := none
  /-- The groups sent to the node, newest first, at most 16: two sweeps of 8 superframes (R113). -/
  groups : List SentGroup := []
  /-- Commanded switches that were not on in the last sweep, and in the last two (R113). -/
  notOn1 : Nat := 0
  notOn2 : Nat := 0
  /-- Superframes since the end of the last period the node reported (R114). -/
  silent : Nat := 0
  /-- Cells whose reading was outside CELL_UV to CELL_OV in the last present sweep, one bit each; temperatures from bit 16 (R200). -/
  outside : Nat := 0
  deriving DecidableEq, Repr

/-- The superframe in progress (R58). -/
structure Superframe where
  /-- The cycle it carries, full number (R38). -/
  cycle : Nat
  aux   : Bool
  /-- Odometer of its waymark. -/
  start : BitVec 64
  /-- The module transmitted its beacon: it serves the slots. -/
  served : Bool
  /-- CMDSEQ of its command frame. -/
  cmdSeq : Nat
  /-- The entries composed at the waymark, per radio (R16, R65). -/
  frame0 : List CmdEntry := []
  frame1 : List CmdEntry := []
  /-- The last poll of each radio: target, KIND, ARG (R62). -/
  poll0 : Option (Nat × Nat × Nat) := none
  poll1 : Option (Nat × Nat × Nat) := none
  /-- The node named in JOIN_ADV by each radio; 32 for DISCOVER (R78, R79). -/
  join0 : Option Nat := none
  join1 : Option Nat := none
  /-- Relays already asked for a target in this superframe: target, relay (R75). -/
  asked : List (Nat × Nat) := []
  deriving DecidableEq, Repr

/-- LNK0, LNK1 and NOD: the cell link. -/
structure Link where
  plan : Option LanePlan := none
  nodes : Tab NodeSt := []
  /-- Nodes that have a class 0x1 object, one bit each (R80). -/
  objs : Nat := 0
  /-- Places that a plan gives joined nodes and that wait for a LANE entry: node to radio and lane (R81, R82). -/
  wants : Tab (Nat × Nat) := []
  /-- Nodes named by REJOIN (R79). -/
  rejoin : Nat := 0
  sf : Option Superframe := none
  /-- The key epoch advances at the next beacon (R54). -/
  epochDue : Bool := true
  /-- Superframes left in which e - 1 is accepted too (R54). -/
  epochOld : Nat := 0
  /-- Full cycle number of the last advance of the epoch (R54). -/
  epochAt : Nat := 0
  /-- The waiting command entries in the order of R18, but for the balance plan. -/
  cmds : List CmdEntry := []
  /-- The newest balance plan (R16, R107). -/
  balPlan : List BalGroup := []
  /-- The plan has gone into a command frame. -/
  balSent : Bool := false
  /-- Superframes in a row the balance plan has waited, per radio (R18). -/
  balWait0 : Nat := 0
  balWait1 : Nat := 0
  cmdSeq : Nat := 0
  /-- The channel mask used for hopping (R57). -/
  chMask : Nat := 0xffffffffff
  /-- An accepted mask and its effective cycle, full number (R57). -/
  chMaskPend : Option (Nat × Nat) := none
  /-- The discovery FIFO, oldest first, at most 16 (R79). -/
  disc : List Nat := []
  /-- Turn order: the node last named, by radio * 3 + join channel position (R79). -/
  turn : Tab Nat := []
  /-- A valid beacon or uplink was heard by each radio in the last sweep (R239), and in the present one. -/
  heard0 : Bool := false
  heard1 : Bool := false
  hear0 : Bool := false
  hear1 : Bool := false
  /-- The last transmit loopback test of each radio passed (R240). -/
  loop0 : Bool := true
  loop1 : Bool := true
  /-- Record closed while the SHADOW waits for the PRESENT mask of the same cycle: cycle, the odometer of the close (R230). -/
  maskWait : Option (Nat × BitVec 64) := none
  /-- The last frame each radio sent: TYPE and body bytes, header and protection apart. -/
  sent0 : Option (Nat × List Nat) := none
  sent1 : Option (Nat × List Nat) := none
  /-- The same frames as they went on air, from PREAMBLE to CRC (R49). -/
  air0 : List Nat := []
  air1 : List Nat := []
  /-- The radio of each node whose object was destroyed, for the entries still queued for it (R72, R80). -/
  parted : Tab Nat := []
  deriving DecidableEq, Repr

/-- One node's data in a sweep record (R93). -/
structure NodeData where
  body : UplinkBody := {}
  /-- NINFO.PATH: 0 uplink, 1 retry, 2 detour, 3 backfill. -/
  path : Nat := 0
  age : Nat := 0
  owt : Bool := false
  freeLoose : Bool := false
  balCmd : Nat := 0
  balDuty : Nat := 0
  tscr : Nat := 0
  deriving DecidableEq, Repr

/-- A sweep record (R93). -/
structure SweepRec where
  /-- Sweep cycle, full number (R38). -/
  cycle : Nat := 0
  /-- Sweep index: the full sweep cycle divided by SWP_DIV (R92). -/
  index : Nat := 0
  smpOdo : BitVec 64 := 0
  angle : Nat := 0
  freq : Nat := 0
  iA : Int := 0
  iB : Int := 0
  vStr : Int := 0
  qsum : Int := 0
  nsum : Nat := 0
  present : Nat := 0
  late : Nat := 0
  iSpan : Nat := 0
  rflags : Nat := 0
  nodes : Tab NodeData := []
  /-- SCR of the cells that are not 0x00. -/
  scr : Tab Nat := []
  /-- QBAL of the cells that are not 0, µC. -/
  qbal : Tab Nat := []
  /-- The channels whose value at the sample instant has been taken (R94): bits 0 to 2, ISNS_A, ISNS_B, VSNS. -/
  got : Nat := 0
  /-- The open-wire tests of the sweep: node and wire (R103). -/
  tests : List (Nat × Nat) := []
  /-- The group in force over the reported period, ON_MASK and DUTY, of the nodes that had one (R93, R113). -/
  bal : Tab (Nat × Nat) := []
  deriving DecidableEq, Repr

/-- What Screen keeps of a cell (R101). -/
structure CellScreen where
  /-- The last unflagged reading, 100 µV. -/
  last : Option Nat := none
  /-- The present raw code, and the present sweeps in a row that showed it. -/
  code : Nat := 0
  run : Nat := 0
  stuck : Bool := false
  deriving DecidableEq, Repr

/-- What Screen keeps of a sense wire (R102 to R105). -/
structure WireSt where
  /-- The window: dv of cell a, dv of cell b, both in 100 µV, and di in mA; newest first. -/
  win : List (Int × Int × Int) := []
  hits : Nat := 0
  /-- Evaluated again WIRE_HOLDOFF after this odometer value. -/
  holdoff : Option (BitVec 64) := none
  suspect : Bool := false
  confirmed : Bool := false
  deriving DecidableEq, Repr

/-- An open-wire test (R103, R104). -/
structure Owt where
  node : Nat
  wire : Nat
  /-- Repeats done. -/
  tries : Nat := 0
  /-- The command frame with the OWT entry has been sent. -/
  sent : Bool := false
  /-- The sweep cycle of the test sweep, the next sweep after that frame, once it has opened. -/
  sweep : Option Nat := none
  deriving DecidableEq, Repr

/-- SWP: sweep assembly and screening. -/
structure Swp where
  /-- The sample instants of the last sweeps: full cycle and odometer, newest first, at most 16 (R38). -/
  smps : List (Nat × BitVec 64) := []
  /-- The record being assembled. -/
  cur : Option SweepRec := none
  /-- The ring of closed records, newest first, at most 8 (R92). -/
  ring : List SweepRec := []
  /-- The newest sweep index of each node passed to Gather, plus one (R98). -/
  gathered : Tab Nat := []
  /-- The late sweeps passed to the next Gather: node and sweep index of the newest (R98, R130). -/
  latePend : Tab Nat := []
  cells : Tab CellScreen := []
  /-- The source current of each node's present sweeps, mA, newest first, 65,535 at most; none where the record held none (R101). -/
  nodeI : Tab (List (Option Int)) := []
  /-- The wires, by node * 17 + wire. -/
  wires : Tab WireSt := []
  /-- Tests waiting or running, oldest first (R103, R106). -/
  owts : List Owt := []
  /-- Sweeps since the last routine test, and the wire to test next: node * 17 + wire (R106). -/
  gapCount : Nat := 0
  gapWire : Nat := 0
  /-- SUM_MISMATCH sweeps in a row (R101). -/
  sumRun : Nat := 0
  /-- A module that took over closes the present record with TAKEOVER (R96). -/
  takeover : Bool := false
  deriving DecidableEq, Repr

/-- One modulator channel (R86 to R89). -/
structure SnsCh where
  /-- The outputs, newest first: stamp and scaled value; 2,600 of them are kept, more than 32 ms (R132). -/
  outs : List (BitVec 64 × Int) := []
  stuck : Bool := false
  ovr : Bool := false
  /-- Outputs left until the channel stops being BAD (R89). -/
  tail : Nat := 0
  deriving DecidableEq, Repr

/-- SNS: the modulator interfaces and what SWP, EST and SF8 keep of the streams. -/
structure Sns where
  a : SnsCh := {}
  b : SnsCh := {}
  v : SnsCh := {}
  /-- The source SWP uses: ISNS_B (R90). -/
  useB : Bool := false
  /-- The stamp of the last output that SWP took into QSUM (R90). -/
  taken : BitVec 64 := 0
  /-- Source outputs taken and not yet in a record: stamp and value, newest first. -/
  pend : List (BitVec 64 × Int) := []
  /-- Odometer of the last step detected (R131). -/
  stepAt : Option (BitVec 64) := none
  /-- SF8: odometer since which the channels disagree (R204). -/
  sf8Since : Option (BitVec 64) := none
  /-- The HEALTH check of a SHADOW sees the disagreement (R204). -/
  sf8Low : Bool := false
  deriving DecidableEq, Repr

/-- One row of RC and self-discharge parameters of a chemistry table (R120), binary32. -/
structure ChemParam where
  rohm : Word
  rp1 : Word
  cp1 : Word
  rp2 : Word
  cp2 : Word
  sd : Word
  deriving DecidableEq, Repr

/-- A chemistry table (R120). -/
structure ChemTable where
  id : Nat
  cNom : Nat
  temps : List Int
  vMin : Nat
  vMax : Nat
  gamma : Word
  etaC : Word
  params : List ChemParam
  /-- OCV by temperature and SOC %, 100 µV. -/
  ocv : List (List Nat)
  /-- Hysteresis half-width on the same grid. -/
  m : List (List Nat)
  deriving DecidableEq, Repr

/-- The core state of a cell (R138) with its Fuse extension (R147); `Word` fields hold binary32. -/
structure Cell where
  socQ : Word := 0
  socV : Word := 0
  socF : Word := 0
  v1 : Word := 0
  v2 : Word := 0
  h : Word := 0
  p00 : Word := 0
  p01 : Word := 0
  p02 : Word := 0
  p11 : Word := 0
  p12 : Word := 0
  p22 : Word := 0
  rohm25 : Word := 0
  rp125 : Word := 0
  cp1 : Word := 0
  rp225 : Word := 0
  cp2 : Word := 0
  cap : Word := 0
  capVar : Word := 0
  varQ : Word := 0
  sdRate : Word := 0
  t : Word := 0
  vLast : Word := 0
  iLast : Word := 0
  cycle : Nat := 0
  innov : Word := 0
  innovVar : Word := 0
  slope : Word := 0
  conf : Word := 0
  fitCount : Nat := 0
  flags : Nat := 0
  lastFit : Nat := 0
  anchorPt : Nat := 0
  socAnchor : Word := 0
  qAnchor : Word := 0
  conflictN : Nat := 0
  lowSpan : Nat := 0
  runValid : Bool := false
  varAnchor : Word := 0
  deriving DecidableEq, Repr

/-- What the estimator keeps of a cell beside the core state. -/
structure CellAux where
  /-- The cell has its first valid state: restored, or cold-started at a reading (R125). -/
  started : Bool := false
  /-- The table slot assigned (R122). -/
  table : Option Nat := none
  /-- Delayed-measurement history: sweep index, yhat and hj0, none where the entry is empty; newest first, at most 8 (R128). -/
  hist : List (Nat × Option (Word × Word)) := []
  /-- The sweep index of the newest present reading used (R130). -/
  used : Option Nat := none
  /-- Impedance history: step instant, delta-i, res, rohm_fit, rp1_fit; newest first, at most 16 (R137). -/
  fits : List (BitVec 64 × Word × Word × Word × Word) := []
  /-- The table was changed by a run that has not published: the next Gather sets its parameters again (R116, R122). -/
  retable : Bool := false
  /-- A reading was applied in this run (R142). -/
  usedNow : Bool := false
  /-- The net charge of this run moved on the charge path, As (R126). -/
  dq : Word := 0
  /-- The LOW_CONF span, TIME cycles (R146). -/
  span : Nat := 0
  /-- The cell's temperature, °C, binary32, held while TEMP_OLD (R123); none before the first. -/
  tHeld : Option Word := none
  /-- The temperature is old in this run (R123). -/
  tempOld : Bool := false
  /-- The cell has had its outcome of this run already, from a taper (R149). -/
  fusedNow : Bool := false
  /-- The conflict count reached CONFLICT_N in this run, and CONFLICT_CONFIRM has yet to resolve it (R143). -/
  confirmed : Bool := false
  deriving DecidableEq, Repr

/-- One node's part of a capture (R71, R132). -/
structure NodeCap where
  buf : Nat
  /-- CMDSEQ values of the command frames that carried the FREEZE. -/
  seqs : List Nat := []
  accepted : Bool := false
  /-- The node has shown the buffer READY (R72). -/
  ready : Bool := false
  /-- The fragments received, each 24 values. -/
  frags : Tab (List Nat) := []
  deriving DecidableEq, Repr

/-- A pending capture (R132, R133). -/
structure Capture where
  id : Nat
  /-- Full cycle of the sweep of S_k. -/
  cycle : Nat
  j : Nat
  /-- The step instant. -/
  ts : BitVec 64
  /-- The sample instant S_k. -/
  sk : BitVec 64
  /-- The sample instant before S_k, and those after it as they come (R69). -/
  before : Option (BitVec 64) := none
  after : List (BitVec 64) := []
  /-- The current trace, samples -8 to +23 as far as the outputs reach, mA. -/
  trace : List Int
  nodes : Tab NodeCap
  /-- Nodes abandoned, one bit each. -/
  gone : Nat := 0
  /-- Cells that were the subject of an open-wire test or were flagged in the sweep of the step (R136), by cell. -/
  badCells : List Nat := []
  deriving DecidableEq, Repr

/-- The pipeline run in progress (R115). -/
structure Run where
  /-- Stages finished: 1 Gather, 2 Screen, 3 Charge, 4 Model, 5 Step, 6 Fuse, 7 Scale. -/
  done : Nat
  cycle : Nat
  index : Nat
  start : BitVec 64
  /-- dt in TIME cycles, QSUM, NSUM and QBAL with those of a stopped run (R116, R127). -/
  dt : Nat
  qsum : Int
  nsum : Nat
  qbal : Tab Nat
  /-- The record holds a valid current. -/
  curOk : Bool
  /-- Charge of the sweep, As, and its mean current, A, binary32 (R126, R127). -/
  q : Word := 0
  ibar : Word := 0
  /-- Late data passed: node and sweep index. -/
  late : Tab Nat := []
  /-- The record ring as Gather found it: late data that comes afterwards changes nothing in the run (R98). -/
  ring : List SweepRec := []
  /-- Tapers that fire in this run (R148). -/
  full : Bool := false
  empty : Bool := false
  /-- The results of Scale waiting for Publish: register address and value. -/
  out : Tab Word := []
  deriving DecidableEq, Repr

/-- A tap (R161 to R163). -/
structure Tap where
  fields : Nat
  decim : Nat
  first : Nat
  last : Nat
  base : Nat
  depth : Nat
  size : Nat
  widx : Nat := 0
  seq : Nat := 0
  drops : Nat := 0
  /-- An entry that will not have drained from the tap buffer by the next record close (R163). -/
  stays : Bool := false
  deriving DecidableEq, Repr

/-- EST: estimation, fusion and reported state. -/
structure Est where
  chems : Tab ChemTable := []
  /-- ASSIGNs that take effect at the next Gather: table slot, first, last (R122). -/
  assigns : List (Nat × Nat × Nat) := []
  /-- Estimation is on since a Gather (R125). -/
  on : Bool := false
  pub : Tab Cell := []
  work : Tab Cell := []
  aux : Tab CellAux := []
  run : Option Run := none
  /-- What a stopped run leaves to the next: dt, QSUM, NSUM, QBAL (R116). -/
  carry : Option (Nat × Int × Nat × Tab Nat) := none
  /-- Mean current of the last record with a valid current, A (R127). -/
  lastIbar : Word := 0
  caps : List Capture := []
  nextCap : Nat := 0
  /-- Odometer of the last capture fitted, or of reset (R134). -/
  lastFitAt : BitVec 64 := 0
  /-- A dither ended early; its repeat waits (R134). -/
  ditherEarly : Option (BitVec 64) := none
  /-- A dither was due as the newest sweep opened: it starts 5 ms after that sweep's sample instant (R134). -/
  ditherArm : Bool := false
  /-- The running dither: start, signed amplitude in mA (R134). -/
  dither : Option (BitVec 64 × Int) := none
  /-- Taper timers, s, binary32 (R148). -/
  taperHi : Word := 0
  taperLo : Word := 0
  firedHi : Bool := false
  firedLo : Bool := false
  /-- Scale state (R152 to R155); `rep` and `raw` are meaningful while their flag is set. -/
  rep : Word := 0
  raw : Word := 0
  repOk : Bool := false
  /-- A run has been valid since reset: R154 from then on discards rep and raw. -/
  validOnce : Bool := false
  rawOk : Bool := false
  pfDis : Word := 0
  pfChg : Word := 0
  /-- Odometer of the last Publish. -/
  pubAt : BitVec 64 := 0
  /-- Runs in a row without Publish (R159). -/
  noPub : Nat := 0
  /-- The sweep index of the last overrun (R116). -/
  overrunAt : Option Nat := none
  taps : Tab Tap := []
  deriving DecidableEq, Repr

/-- A PID instance of the main path (R166), binary32. -/
structure Loop where
  i : Word := 0
  d : Word := 0
  y : Word := 0
  u : Word := 0
  deriving DecidableEq, Repr

/-- A PID instance of the fixed-point path (R176). -/
structure LoopX where
  i : Int := 0
  d : Int := 0
  y : Int := 0
  u : Int := 0
  deriving DecidableEq, Repr

/-- A fixed-point gain term: mantissa and shift (R176). -/
structure GainX where
  m : Int := 0
  sh : Nat := 1
  deriving DecidableEq, Repr

/-- The gains of one instance taken at APPLY (R176). -/
structure LoopGains where
  kp : Word := 0
  ki : Word := 0
  kd : Word := 0
  tf : Word := 0
  /-- The fixed-point terms kp, ki × ts, kd / (tf + ts) and tf / (tf + ts). -/
  xp : GainX := {}
  xi : GainX := {}
  xd : GainX := {}
  xf : GainX := {}
  deriving DecidableEq, Repr

/-- The settings that take effect at APPLY (R164, R176). -/
structure CtlSet where
  n : Nat := 4
  cur : LoopGains := {}
  /-- The gains of CUR as APPLY took them, without the scaling of R180. -/
  base : LoopGains := {}
  vol : LoopGains := {}
  pwr : LoopGains := {}
  umax : Word := 0x3f800000
  umin : Word := 0xbf800000
  iChg : Int := 0
  iDis : Int := 0
  vMax : Int := 0
  vMin : Int := 0
  vFloor : Int := 100000
  /-- Ramp rates per ms: up and down, for kinds 1 and 3 and for kind 2. -/
  upI : Nat := 280
  dnI : Nat := 1000
  upP : Nat := 400
  dnP : Nat := 1400
  dwell : Nat := 0
  nocur : Nat := 5
  disTh : Nat := 8192
  disN : Nat := 4
  oscCnt : Nat := 20
  oscWin : Nat := 20
  oscAct : Nat := 1
  oscScale : Nat := 128
  oscAmp : Nat := 10000
  deriving DecidableEq, Repr

/-- A staged set-point (R173). -/
structure Staged where
  handle : Word
  kind : Nat
  value : Int
  limit : Int
  keep : Bool
  deriving DecidableEq, Repr

/-- The set-point in force (R167, R175). -/
structure SpNow where
  kind : Nat := 1
  value : Int := 0
  limit : Int := 0
  fromFrm : Bool := false
  deriving DecidableEq, Repr

/-- The last CVL frame (R183). -/
structure CvlFrame where
  ref : Int := 0
  seq : Nat := 0
  role : Nat := 0
  stop : Bool := false
  rep : Bool := false
  path : Bool := false
  sel : Nat := 0
  tko : Nat := 0
  deriving DecidableEq, Repr

/-- CTL and CVL: the control engine and the converter reference link. Its registers hold what firmware wrote; this holds what runs. -/
structure Ctl where
  /-- 0 STOPPED, 1 RUN, 2 TRACK, 3 HOLD (R184). -/
  state : Nat := 0
  set : CtlSet := {}
  applied : Bool := false
  cur : Loop := {}
  vol : Loop := {}
  pwr : Loop := {}
  curX : LoopX := {}
  volX : LoopX := {}
  pwrX : LoopX := {}
  /-- Presets of R169 that the next control step makes: CUR to CVL_U0 at entry to RUN; each loop to its last output. -/
  presetU0 : Bool := false
  presetPrev : Bool := false
  /-- The demand current of the last step, mA, binary32 (R169). -/
  idNow : Word := 0
  /-- The gains of CUR are scaled under R180. -/
  derate : Bool := false
  oscStop : Bool := false
  /-- The stop sequence holds the set-point in force at 0 mA (R225). -/
  stopHold : Bool := false
  now : SpNow := {}
  /-- A set-point taken at the next step, by IMMEDIATE or FRM: it, and whether the ramp is passed over (R172, R173). -/
  next : Option (SpNow × Bool) := none
  staged : List Staged := []
  /-- Ramp state, mA or W, binary32 (R171). -/
  ramp : Word := 0
  /-- Control steps of zero dwell left, and the direction the dwell left (R172). -/
  dwell : Nat := 0
  dwelling : Bool := false
  dwellFrom : Bool := false
  /-- The present direction is charge (R167). -/
  charge : Bool := true
  /-- Budgets in units of 12.8 / 30 µs (R170). -/
  b10Chg : Nat := 23437500
  b2Chg : Nat := 4687500
  b10Dis : Nat := 23437500
  b2Dis : Nat := 4687500
  /-- The six limits of the last Publish: P_DIS 2 s, 10 s, 60 s, then P_CHG (R160, R170). -/
  plim : List Int := [0, 0, 0, 0, 0, 0]
  path : Bool := false
  sel : Nat := 4
  sat : Bool := false
  noMeas : Bool := false
  /-- Odometer since which NOMEAS or HOLD has held (R165, R177). -/
  noMeasAt : BitVec 64 := 0
  holdAt : BitVec 64 := 0
  /-- Disagreements in a row, and control steps since the last disagreement (R177, R178). -/
  disRun : Nat := 0
  sinceDis : Nat := 64
  /-- RESTORE_MAIN has been accepted: the next step runs on the main path (R178). -/
  restore : Bool := false
  /-- A fall-over stands since the last RESTORE_MAIN or reset (R239). -/
  fellOver : Bool := false
  /-- Crossings within the window: their odometer values, newest first (R179). -/
  cross : List (BitVec 64) := []
  /-- The side e_CUR last left the dead band on: 0 none, 1 above, 2 below. -/
  side : Nat := 0
  /-- The window stays empty until OSC_WIN after this odometer value. -/
  oscFrom : BitVec 64 := 0
  /-- Odometer of the last detection (R180). -/
  oscAt : Option (BitVec 64) := none
  /-- A detection has been made, with its count of crossings, and waits for OSC_DETECT (R179). -/
  oscDue : Option Nat := none
  /-- A fall-over is due: DIS_N disagreements, or a main result that is not finite (R177). -/
  fallDue : Bool := false
  /-- Source outputs since the last control step (R164). -/
  outs : Nat := 0
  srcB : Bool := false
  /-- Odometer of the step's sample. -/
  sample : BitVec 64 := 0
  frame : CvlFrame := {}
  /-- Odometer of the start of the last frame. -/
  frameAt : Option (BitVec 64) := none
  /-- Longest interval between frame starts since the last read, TIME cycles (CVL_GAP). -/
  gap : Nat := 0
  /-- STOP frames are being sent (R185). -/
  stopping : Bool := true
  lineOn : Bool := false
  /-- The command of the last step of this module, 2^-23, and of its main and fixed paths before selection. -/
  cmd : Int := 0
  /-- A control-state frame that waits for this module's step of the same STEPS (R231). -/
  mirror : Option CtlFrame := none
  /-- Largest difference to the mirrored REF in the present sweep period, and in the last complete one (R239). -/
  diffMax : Nat := 0
  deriving DecidableEq, Repr

/-- A step of a formation program (R188). -/
structure FrmStep where
  kind : Nat
  flags : Nat
  nextOk : Nat
  nextFail : Nat
  iSet : Int
  vSet : Int
  tMax : Nat
  iEnd : Nat
  qMax : Nat
  vcLim : Nat
  vcGrade : Nat
  loops : Nat
  deriving DecidableEq, Repr

/-- FRM: formation and grading programs (R188 to R192). -/
structure Frm where
  progs : Tab (List FrmStep) := []
  /-- The slot of the program running or paused. -/
  slot : Option Nat := none
  /-- 0 IDLE, 1 RUN, 2 PAUSED, 3 DONE. -/
  state : Nat := 0
  step : Nat := 0
  /-- Step time in units of 12.8 µs, charge in mA × 12.8 µs, energy in µW × 12.8 µs. -/
  time : Nat := 0
  charge : Int := 0
  energy : Int := 0
  /-- Loop counts by step. -/
  loops : Tab Nat := []
  /-- The current of the previous step, mA (PULSE, R189). -/
  prevI : Int := 0
  startCycle : Nat := 0
  /-- Odometer of the step's start (R191). -/
  startOdo : BitVec 64 := 0
  /-- What the newest Publish of the step found: VC_LIM passed, mean current at or below I_END (R189). -/
  vcMet : Bool := false
  iMet : Bool := false
  /-- The step charge at the newest sample instant seen by a control step, and the full cycle of that instant (R191). -/
  smpQ : Int := 0
  smpCycle : Nat := 0
  /-- Cells that passed VC_GRADE in this step, with the step charge, mAh (R191). -/
  graded : Tab Int := []
  deriving DecidableEq, Repr

/-- An input of the safety parameter set (R219). -/
structure SiParam where
  used : Bool
  startup : Bool
  tpA : Nat
  tpB : Nat
  filter : Nat
  disc : Nat
  deriving DecidableEq, Repr

/-- A feedback input of the safety parameter set (R219). -/
structure FbParam where
  used : Bool
  tpA : Nat
  tpB : Nat
  fbTime : Nat
  deriving DecidableEq, Repr

/-- A safety parameter set (R219). -/
structure Pset where
  setId : Nat
  stringId : Nat
  si : List SiParam
  fb : List FbParam
  kUsed : Nat
  silLimit : Nat
  proofInt : Nat
  proofWarn : Nat
  cellOv : Nat
  cellUv : Nat
  cellOt : Int
  cellUt : Int
  ihTrip : Nat
  sf8Time : Nat
  sf8Abs : Nat
  sf8Rel : Nat
  digest : Word
  deriving DecidableEq, Repr

/-- The filtered state of an input channel (R216): unsettled until the filter first passes a level after a reset. -/
inductive SiLevel where
  | unsettled | low | high
  deriving DecidableEq, Repr

/-- A safety input as the safety core sees it (R216 to R218). -/
structure SiSt where
  a : SiLevel := .unsettled
  b : SiLevel := .unsettled
  /-- Odometer at which the two filtered channels parted. -/
  parted : Option (BitVec 64) := none
  disc : Bool := false
  /-- Both channels have shown 0 together since DISC. -/
  bothLow : Bool := false
  tpFault : Bool := false
  /-- Pulses missed in a row on channels A and B. -/
  missA : Nat := 0
  missB : Nat := 0
  deriving DecidableEq, Repr

/-- A contactor channel (R206 to R212). -/
structure ChSt where
  /-- KH and KL of this module are commanded on. -/
  kh : Bool := false
  kl : Bool := false
  /-- Odometer of the last change of the coil state, until FB_CHECK (R211). -/
  changed : Option (BitVec 64) := none
  /-- Odometer at which both switches were turned on (COIL_OPEN, R210). -/
  onAt : Option (BitVec 64) := none
  /-- Feedback shows the main contacts closed, channels A and B. -/
  fbA : Bool := false
  fbB : Bool := false
  /-- Test pulses missed in a row on the feedback channels A and B, and the TP fault of two (R217, 08 contactor feedback). -/
  missA : Nat := 0
  missB : Nat := 0
  tpFault : Bool := false
  deriving DecidableEq, Repr

/-- SAF and GRD: the safety core and the guardrail. -/
structure Saf where
  /-- Sources active now in the safety core, layout as DEMAND (R205). -/
  sources : Nat := 0
  latched : Bool := false
  /-- Odometer since which no source has been active (R208). -/
  quietAt : BitVec 64 := 0
  pset : Option Pset := none
  /-- The bytes of the pending set (R221). -/
  pending : Option (List Nat) := none
  si : Tab SiSt := []
  ch : Tab ChSt := []
  /-- Nodes whose OV, UV or TFLAG bits stand, one bit each, for SF2 and for SF3 (R200). -/
  flagV : Nat := 0
  flagT : Nat := 0
  /-- Nodes with a reading, or a temperature, outside the limits in two consecutive present sweeps (R200). -/
  readV : Nat := 0
  readT : Nat := 0
  /-- A joined node's MISS has reached SIL_LIMIT in OPERATE or FORMATION (R201). -/
  silent : Bool := false
  /-- Start-up tests: bits 0 and 1 pending, bits 2 and 3 the demand half shown (R213). -/
  startup : Nat := 0
  /-- XTRIP_IN: 0 low, 1 pulsing, 2 high (R202). -/
  xtripIn : Nat := 0
  xtripFault : Bool := false
  /-- Odometer since which XTRIP_IN has read static low. -/
  xtripLow : Option (BitVec 64) := some 0
  /-- TP1 to TP8 faults, one bit each (R214). -/
  tpFault : Nat := 0
  /-- The TP outputs that are off for a pulse: the even ones, or the odd ones (R214). -/
  tpOff : Option Bool := none
  /-- Odometer of that off edge; they return 400 µs after it. -/
  tpAt : BitVec 64 := 0
  /-- What a SHADOW in slot B adds to its plant time to keep slot A's schedule, ns (R214). -/
  tpShift : Int := 0
  /-- Channels whose proof age has reached PROOF_WARN, and PROOF_INT, one bit each (R212). -/
  proofDue : Nat := 0
  proofOver : Nat := 0
  /-- Draw of SAF_NONCE. -/
  nonce : Nat := 0
  /-- The next switch of the test order: 0 KH1, 1 KL1 to 11 KL6 (R209). -/
  nextTest : Nat := 0
  /-- The slot of the last test, by number since plant time 0; a slot of the present cycle was left out; the last cycle was complete
  (R209, R239). -/
  lastSlot : Option Nat := none
  slotMissed : Bool := false
  cycleOk : Bool := true
  /-- The power-on switch test has passed (R210, R242). -/
  powerTest : Bool := true
  /-- Guardrail: latch, and its active sources [0] IHALL [1] SI [2] link lines [3] XTRIP_IN [4] watchdog [5] lockstep (R193). -/
  gLatch : Bool := false
  gSources : Nat := 0
  /-- Guardrail view of the inputs, 10 ms filter, one bit each: settled without demand (GRD_SI), and settled at demand. -/
  gSi : Nat := 0
  gLow : Nat := 0
  deriving DecidableEq, Repr

/-- The role of a module (R226). -/
inductive Role where
  | none | active | solo | shadow
  deriving DecidableEq, Repr

/-- The mode of a module (R223). -/
inductive Mode where
  | off | boot | ready | commission | operate | formation | service | safeHold
  deriving DecidableEq, Repr

/-- The stop sequence (R225). -/
structure StopSeq where
  target : Mode
  /-- 1 the ramp runs, 2 CTL has left RUN, 3 K_REQ is cleared. -/
  step : Nat
  since : BitVec 64
  deriving DecidableEq, Repr

/-- CSW, RED and HPM: the pair, the modes and the slot. -/
structure Pair where
  role : Role := .none
  mode : Mode := .boot
  /-- The HOME strap: slot B (R13); opaque at reset (log entry 6). -/
  slotB : Bool := false
  /-- HOME_A and HOME_B differ (R371). -/
  homeBad : Bool := false
  /-- GA and GAP straps, SLOT_ID [6:0]. -/
  slotId : Nat := 0
  tko : Nat := 0
  stop : Option StopSeq := none
  /-- RESIGN_OUT is driven low: this module claims control (R227). -/
  claim : Bool := false
  /-- Odometer at which this module's claim began (R228). -/
  claimAt : BitVec 64 := 0
  /-- RESIGN_IN low: the partner claims control. -/
  claimIn : Bool := false
  claimInAt : BitVec 64 := 0
  present : Bool := false
  /-- The last heartbeat of the partner, its odometer, and whether the partner is alive (R234). -/
  hb : Heartbeat := {}
  hbAt : BitVec 64 := 0
  alive : Bool := false
  /-- Slot B waits for slot A's claim since this odometer value (R226). -/
  startWait : Option (BitVec 64) := none
  /-- The resignation causes that persist and could not be carried out (R233). -/
  blocked : List Nat := []
  /-- A handover offered, or taken, at this odometer value (R237). -/
  offer : Option (BitVec 64) := none
  /-- A handover is wanted: the next end of a join slot offers it (R237, R238, R243, R354). -/
  handWant : Bool := false
  /-- The REVERT_HOLD wait runs since this odometer value (R238). -/
  revertAt : Option (BitVec 64) := none
  /-- REVERT_NOW skips the wait. -/
  revertNow : Bool := false
  /-- EST_DIFF within MIRROR_TOL: sweeps in a row (R239). -/
  estOk : Nat := 0
  /-- The last sweep period's CTL_DIFF was within DIS_TH (R239); the present period began as SHADOW. -/
  ctlOk : Bool := false
  ctlWhole : Bool := false
  /-- Odometer of the last uncorrectable ECC error (R239). -/
  eccAt : Option (BitVec 64) := none
  /-- The partner's position and plant time in its last heartbeat agreed with this module's (R239). -/
  gauOk : Bool := false
  timeOk : Bool := false
  /-- The last snapshot expected came complete and in time (CSW_STAT.SNAP_OK). -/
  snapOk : Bool := false
  lane0 : Nat := 0
  lane1 : Nat := 0
  /-- The odometer of the last CRC error of each lane (R239). -/
  crcAt0 : Option (BitVec 64) := none
  crcAt1 : Option (BitVec 64) := none
  /-- By class and type of a Causeway frame (R229): SEQ of the next one sent, the frames last sent, and SEQ of the last one accepted. -/
  cswSeq : Tab Nat := []
  cswOut : Tab (List (List Nat)) := []
  cswRx : Tab Nat := []
  /-- The odometer of the last heartbeat sent. -/
  hbTxAt : Option (BitVec 64) := none
  /-- What the last heartbeat, control-state frame, node-state frame and demand message sent held. -/
  hbSent : Heartbeat := {}
  ctlSent : CtlFrame := {}
  nodeSent : NodeState := {}
  nodeSentAt : BitVec 64 := 0
  demandSent : Option (Word × Word) := none
  /-- The snapshot handed to CSW (R232). -/
  snapSent : Option Snapshot := none
  /-- The snapshot copied into the working buffer waits for the next Gather (R232). -/
  snapNext : Option Snapshot := none
  leaving : Bool := false
  /-- Odometer of the latch release, and of the opening of the own paths (R243). -/
  leaveAt : BitVec 64 := 0
  leftAt : Option (BitVec 64) := none
  /-- SEATED opened while the latch was closed (R244). -/
  unseated : Bool := false
  /-- Both supplies are lost; odometer of the loss (R346). -/
  lossAt : Option (BitVec 64) := none
  /-- The module is removed or unpowered beyond hold-up. -/
  unpowered : Bool := false
  /-- The board temperature is above its limit (R376). -/
  hot : Bool := false
  deriving DecidableEq, Repr

/-- One end of a mailbox channel (R250 to R258): what it holds as a receiver and as a sender. -/
structure MbxEnd where
  /-- The outbound slot's words as written, MSG0 to MSG7. -/
  msg : Tab Word := []
  full : Bool := false
  len : Nat := 0
  /-- Odometer of the last accepted POST. -/
  postAt : BitVec 64 := 0
  aborted : Bool := false
  peerReset : Bool := false
  tmo : Bool := false
  mutual_ : Bool := false
  outFree : Bool := false
  /-- Doorbells rung toward the other end and not cleared by it. -/
  ring : Nat := 0
  irqEn : Word := 0
  deriving DecidableEq, Repr

/-- A mailbox channel: its two ends. For a remote channel the partner's end holds what crossed the Causeway. -/
structure MbxCh where
  e0 : MbxEnd := {}
  e1 : MbxEnd := {}
  deriving DecidableEq, Repr

/-- A class 3 frame of the Causeway (R261). -/
inductive MbxFrame where
  | post (ch len mid : Nat) (words : List Word)
  | taken (ch mid : Nat)
  | withdraw (ch mid : Nat)
  | ring (ch bits : Nat)
  | bellClr (ch bits : Nat)
  | refuse (ch reason : Nat)
  | endReset (mid : Nat)
  deriving DecidableEq, Repr

/-- MBX: the channels that differ from empty ones, and the class 3 frames sent, newest first. -/
structure Mbx where
  chs : Tab MbxCh := []
  sent : List MbxFrame := []
  deriving DecidableEq, Repr

/-- A receive entry of CAN (R275). -/
structure CanRx where
  w0 : Word
  w1 : Word
  stamp : Word
  seq : Nat
  data : List Nat
  deriving DecidableEq, Repr

/-- A queued transmit entry of CAN (R277, R280). -/
structure CanTx where
  tag : Nat
  w0 : Word
  w1 : Word
  data : List Word
  attempts : Nat := 0
  /-- SOF stamp of the last attempt; 0 if none started. -/
  stamp : Word := 0
  /-- A cancel found its attempt under way (R281). -/
  cancelled : Bool := false
  deriving DecidableEq, Repr

/-- One CAN controller (R268 to R285), its registers apart. -/
structure Can where
  rxf : List CanRx := []
  txf : List CanTx := []
  /-- TX events, oldest first: tag, outcome and attempts; the stamp; words 0 and 1 of the frame (R280). -/
  txe : List (Word × Word × Word × Word) := []
  nextTag : Nat := 0
  rxSeq : Nat := 0
  /-- CAN_STAT [1:0]: 0 INIT, 1 ERROR_ACTIVE, 2 ERROR_PASSIVE, 3 BUS_OFF. -/
  state : Nat := 0
  /-- INIT has been cleared and 11 recessive bits are awaited (R270). -/
  idleWait : Bool := false
  recovering : Bool := false
  tec : Nat := 0
  rec_ : Nat := 0
  /-- The head entry's attempt is under way (R281). -/
  flying : Bool := false
  /-- Attempts of the head in a row that ended in a bit error in the DLC or data field (R282). -/
  clash : Nat := 0
  /-- The identifier and the tag of a clash not yet recorded (R282). -/
  clashDue : Option (Word × Nat) := none
  /-- Odometer at the SOF of the last attempt (R274, R276). -/
  sofAt : BitVec 64 := 0
  /-- The protocol exception state: 11 recessive bits are awaited (R268). -/
  excepted : Bool := false
  /-- The elements in use by the odometer value from which each filtering stands, newest first: element, FLT_ID and FLT_MASK in the order of R273
  (R274). -/
  fltHist : List (BitVec 64 × List (Nat × Word × Word)) := []
  deriving DecidableEq, Repr

/-- A CAN filter set (R273, R274). -/
structure FilterSet where
  ctl : Nat
  first : Nat
  count : Nat
  en : Bool
  deriving DecidableEq, Repr

/-- A frame held by the switch (R286 to R291). -/
structure EthFrame where
  bytes : List Nat
  /-- Ingress port, 0 to 2. -/
  port : Nat
  /-- Odometer at the ingress SFD, and the instances' times there in `2^-32` ns. -/
  odo : BitVec 64
  clk0 : Nat
  clk1 : Nat
  clk2 : Nat
  /-- TS_REQ, and the address and the flags of the descriptor the frame was fetched with (R289, R290). -/
  tsReq : Bool := false
  desc : Option (Nat × Nat) := none
  deriving DecidableEq, Repr

/-- A pending timed launch (R298). -/
structure LaunchEnt where
  /-- Launch plant time in `2^-32` ns. -/
  time : Nat
  bytes : List Nat
  p1 : Bool
  p2 : Bool
  deriving DecidableEq, Repr

/-- ETH: the switch, its timestamp FIFO and the timed launches. -/
structure Eth where
  /-- Learned addresses: port and odometer of the last frame from it (R286). -/
  macs : Tab (Nat × BitVec 64) := []
  /-- What waits for each egress port: its queue and the frame, oldest first. -/
  q0 : List (Nat × EthFrame) := []
  q1 : List (Nat × EthFrame) := []
  q2 : List (Nat × EthFrame) := []
  /-- Odometer until which P1 and P2 send the frame they have started. -/
  busy1 : BitVec 64 := 0
  busy2 : BitVec 64 := 0
  /-- Odometer until which P1 and P2 are taken for a timed launch: the last bit of the frame they send, or a launch as a whole (R299, R300). -/
  free1 : BitVec 64 := 0
  free2 : BitVec 64 := 0
  /-- The timestamp FIFO, oldest first, at most 128 (R291). -/
  ts : List (List Word) := []
  launches : Tab LaunchEnt := []
  /-- LA_FIFO, oldest first, at most 32 (R299). -/
  laFifo : List Word := []
  /-- The last frame that left each external port. -/
  sent1 : List Nat := []
  sent2 : List Nat := []
  deriving DecidableEq, Repr

/-- A set-point that DSP staged (R304). -/
structure DspSp where
  /-- Its waymark entry. -/
  handle : Word
  cycle : Nat
  angle : Nat
  ditherOk : Bool
  deriving DecidableEq, Repr

/-- DSP: the Dispatch endpoint (R301 to R312). -/
structure Dsp where
  /-- DSP_KEY0 to DSP_KEY7 as written. -/
  keyIn : Tab Word := []
  /-- The key slots that are loaded. -/
  key0 : Option (List Word) := none
  key1 : Option (List Word) := none
  /-- The last COUNTER accepted, by slot * 2^32 + SENDER (R303). -/
  counters : Tab Nat := []
  /-- Staged set-points by SP_ID. -/
  staged : Tab DspSp := []
  /-- SP_ID in force, 0 if not from Dispatch. -/
  spNow : Nat := 0
  /-- COUNTER [31:0] of the last accepted message. -/
  lastCtr : Nat := 0
  /-- The handle of the report waymark entry (R309). -/
  rptWm : Option Word := none
  /-- The low count of reports (R311). -/
  txLo : Nat := 0
  /-- The body of the last REPORT, 26 words (R310). -/
  lastReport : List Word := []
  deriving DecidableEq, Repr

/-- An event on its way to the recorder's intake (R316, R319). -/
structure Arrival where
  /-- 0 a fixed code, 1 a page event, 2 a post: the order of R319. -/
  kind : Nat
  code : Nat
  sev  : Nat
  mid  : Nat
  data : List Word
  /-- The odometer at which the event arose. -/
  odo  : BitVec 64
  deriving DecidableEq, Repr

/-- A record of the log (R315). -/
structure LogRec where
  seq  : Nat := 0
  code : Nat := 0
  sev  : Nat := 0
  milestone   : Bool := false
  fromBlotter : Bool := false
  ptInvalid   : Bool := false
  gap  : Bool := false
  mid  : Nat := 0
  odo  : BitVec 64 := 0
  ptSec : Nat := 0
  ptNs  : Nat := 0
  cycle : Nat := 0
  boot  : Nat := 0
  epoch : Nat := 0
  suppressed : Nat := 0
  data : List Word := []
  deriving DecidableEq, Repr

/-- A toll bucket (R320). -/
structure Toll where
  tokens  : Nat := 8
  pending : Nat := 0
  /-- Odometer from which the next refill counts. -/
  since   : BitVec 64 := 0
  burst   : Nat := 8
  /-- REFILL, 0.1 s. -/
  refill  : Nat := 100
  deriving DecidableEq, Repr

/-- REC: the event recorder (R313 to R331), but for the content of MRAM, which `Nv` holds. -/
structure Recorder where
  /-- The EVT bits whose event came in the TIME cycle `evtAt`, by page: a W1C in that cycle leaves them set (R381). -/
  evtNow : Tab Nat := []
  evtAt : BitVec 64 := 0
  /-- Events that have arisen and not yet reached the intake, in the order of R319. -/
  arriving : List Arrival := []
  /-- The records that wait for the write port, oldest first: the drained blotter, then the intake (R319, R323). -/
  queue : List LogRec := []
  /-- The blotter (R322), oldest first, at most 1,024. -/
  blotter : List LogRec := []
  /-- The first event discarded at a full blotter of this freeze or scan: its code and ODO [31:0] (HOLD_OVERFLOW). -/
  overflow : Option (Nat × Word) := none
  /-- Events discarded at a full blotter in this freeze or scan. -/
  overflowN : Nat := 0
  /-- Events were lost at a full intake; the next record carries GAP (R319). -/
  gap : Bool := false
  scanning : Bool := true
  /-- The scan has read the Inkwell (R314). -/
  scanned : Bool := false
  /-- Odometer at which the freeze began (R322). -/
  frozen : Option (BitVec 64) := none
  /-- SEQ of the next record; meaningless while scanning. -/
  nextSeq : Nat := 0
  /-- BOOT carries FREEZE_LOST (R324). -/
  freezeLost : Bool := false
  /-- The toll buckets that differ from a full default bucket, by code (R320). -/
  tolls : Tab Toll := []
  /-- REC_PD0 to REC_PD5, banked per MID (R318); key `mid * 8 + i`. -/
  posts : Tab Word := []
  /-- Draw of REC_NONCE (R329). -/
  nonce : Nat := 2
  /-- Records of older epochs are still being overwritten (R329). -/
  erasing : Bool := false
  /-- The milestone area has been reported full (R317). -/
  msFullSaid : Bool := false
  /-- The record selected into RD_WIN (R331). -/
  window : Option LogRec := none
  /-- The checkpoint being written: its slot and the PUB_SEQ it is taken from (R327). -/
  ckpt : Option (Nat × Nat) := none
  /-- Odometer of the last checkpoint start (R327). -/
  ckptLast : BitVec 64 := 0
  deriving DecidableEq, Repr

/-- CLK: the PLL reference and the DVFS sequencer (R332 to R337). -/
structure Clk where
  /-- REFCLK is qualified (R333). -/
  qualified : Bool := false
  /-- The point a running change goes to, the point it came from, and whether the PMIC has confirmed (R336). -/
  goal : Option Nat := none
  from_ : Nat := 1
  confirmed : Bool := false
  /-- Odometer at which the PMIC was commanded. -/
  since : BitVec 64 := 0
  /-- The newest point written while BUSY. -/
  held : Option Nat := none
  deriving DecidableEq, Repr

/-- RST: the key and the watchdogs (R342, R343). -/
structure Rst where
  /-- RST_KEY armed, by MID: the odometer of the write (R342). -/
  key : Tab (BitVec 64) := []
  /-- Odometer at which the period of each watchdog last began. -/
  wdt : Tab (BitVec 64) := []
  deriving DecidableEq, Repr

/-- GPIO: the waymark pulses under way by pin: odometer of the firing and the level driven (R375). -/
structure Gpio where
  pulses : Tab (BitVec 64 × Bool) := []
  /-- The pin levels as sampled. -/
  pins : Nat := 0
  deriving DecidableEq, Repr

/-- A cell of a checkpoint slot (R326). -/
structure CkptCell where
  /-- The core state and the Fuse extension. -/
  cell : Cell := {}
  /-- CHEM_ID of the cell's table, 0 if none. -/
  chem : Nat := 0
  /-- Slot SEQ. -/
  seq  : Nat := 0
  crc  : Word := 0
  deriving DecidableEq, Repr

/-- A checkpoint slot (R326), its CRCs matching what was written. -/
structure Ckpt where
  /-- The header was written: the slot is valid. -/
  valid : Bool := false
  seq : Nat := 0
  cycle : Nat := 0
  ptSec : Nat := 0
  ptNs : Nat := 0
  pubSeq : Nat := 0
  rep : Word := 0
  raw : Word := 0
  pfDis : Word := 0
  pfChg : Word := 0
  taperHi : Word := 0
  taperLo : Word := 0
  /-- Node serials of the plan in force. -/
  serials : Tab Nat := []
  cells : Tab CkptCell := []
  /-- CRC-32 of the header. -/
  crc : Word := 0
  deriving DecidableEq, Repr

/-- The update journal (R355). -/
structure Journal where
  state : Nat := 0
  sector : Nat := 0
  version : Nat := 0
  count : Nat := 0
  deriving DecidableEq, Repr

/-- Nonvolatile content: MRAM, flash and the secure element. No reset changes it but where a rule says so. -/
structure Nv where
  /-- The circular log, newest first, at most 196,608 records (R313). -/
  log : List LogRec := []
  /-- The milestone area, newest first, at most 16,384 (R313, R317). -/
  milestones : List LogRec := []
  /-- The 24 checkpoint slots (R326). -/
  ckpts : Tab Ckpt := []
  /-- The key epoch last used (R54). -/
  epoch : Nat := 0
  /-- JCTR: join answers sent (R78). -/
  jctr : Nat := 0
  /-- K_NET, kept in the secure element (R52, R54); none before the first join. -/
  knet : Option Nat := none
  /-- The bytes of the parameter set stored (R221) and the proof times by channel: plant seconds (R212). -/
  pset : Option (List Nat) := none
  proofs : Tab Nat := []
  /-- The channels that have been closed without a proof on record, one bit each (R206 condition 9, R212). -/
  closedOnce : Nat := 0
  /-- WELD of the channels, one bit each (R211). -/
  weld : Nat := 0
  insertions : Nat := 0
  /-- The running and the staged image, byte by byte (R351, R352). -/
  running : Option (List Nat) := none
  staged : Option (List Nat) := none
  journal : Journal := {}
  recoveries : Nat := 0
  minSvn : Nat := 0
  txCtrHi : Nat := 0
  /-- The slots of the secure element that are filled: slot and key (R349). The key is what `Config` makes of the certificate. -/
  keys : Tab Nat := []
  deriving DecidableEq, Repr

/-- What stands in the way of READY (R351, R356 to R359). -/
inductive BootPhase where
  /-- The boot ROM's check of the resident loader has not passed. -/
  | rom
  /-- The image has passed step 2; firmware loads and tests itself. -/
  | loading
  /-- The loader copies staging to the running region. -/
  | overwriting
  /-- The loader asks the partner for its image. -/
  | recovering
  /-- The install state. -/
  | install
  /-- Boot is over. -/
  | done
  deriving DecidableEq, Repr

/-- A command the security block carries out (R348, R349). -/
inductive SecJob where
  | sign (digest : List Nat) (out : Nat)
  | certRead (chain : Bool) (out : Nat)
  | pubRead (slot out : Nat)
  | keyInstall (slot : Nat) (cert : List Nat)
  | fleetInstall (wrapped : List Nat)
  deriving DecidableEq, Repr

/-- UPD and SEC: what a module does with images and keys, nonvolatile content apart. -/
structure Upd where
  boot : BootPhase := .rom
  /-- The image being staged. -/
  staging : Option (List Nat) := none
  /-- The armed plant time, s (R353). -/
  armed : Option Nat := none
  /-- The armed time has come and this module waits for its partner (R354). -/
  waiting : Bool := false
  /-- The last ACTIVATION_RECHECK, odometer. -/
  checkAt : BitVec 64 := 0
  /-- Odometer at which the boot ROM's check of the resident loader last failed; none while it stands passed or not yet made (R351). -/
  romAt : Option (BitVec 64) := none
  /-- Odometer at which BOOT was entered (R357). -/
  bootAt : BitVec 64 := 0
  /-- Odometer since which the running image has been in state 0 (R360). -/
  goodAt : BitVec 64 := 0
  /-- The image transfer under way as requester: the wrap block and the bytes received so far (R358). -/
  wrapIn : Option (List Nat) := none
  imageIn : List Nat := []
  /-- Odometer of the last image request. -/
  reqAt : Option (BitVec 64) := none
  /-- Class 4 frames sent as partner: the new wrap block of the image being sent, and refusal reasons, newest first. -/
  wrapOut : Option (List Nat) := none
  refused : List Nat := []
  job : Option SecJob := none
  /-- The partner's armed time as last known. -/
  partnerAct : Nat := 0
  /-- Draw of SEC_RAND (R6). -/
  rand : Nat := 1
  deriving DecidableEq, Repr


/-- The reasons a step ends with a fault. -/
inductive Fault where
  /-- A bus access to an address outside the 40-bit address space (VIOL_ADDR has 40 bits, R266). Raised by `registerWrite`.
  Safe: the model stops where the spec gives no address. -/
  | addressSpace
  deriving DecidableEq, Repr

/-- The reasons a step is refused. -/
inductive Refusal where
  /-- No meaning for the command yet. Raised by `exec` alone. Safe. -/
  | notModelled (mnemonic : String)
  deriving DecidableEq, Repr

structure State where
  /-- The commands that are waiting, first in, first out. -/
  pending : List Instr := []
  /-- The registers that differ from their Reset column, by offset from `0x4000_0000` (R5, R6). -/
  regs : Tab Word := []
  /-- The held copies of SNAP, banked per MID (R384); key `mid * 0x40000 + address`. -/
  snaps : Tab Word := []
  /-- What the last read on the bus returned, and the upper word of a 64-bit one. -/
  busData : Word := 0
  busHi : Word := 0
  /-- The MID of the last access that was answered with a bus error, or with an error to the debug port (R265, R267, R347). -/
  busErr : Option Nat := none
  /-- The DMA channels that stay stopped with their error status set after a THAW, one bit each (R267). -/
  dmaErr : Nat := 0
  /-- Memory outside the register window: bytes by address, in canonical form (`memWf`). -/
  mem : List Host.Cell := []
  /-- The generation of each object slot (R10); key `class * 4096 + index`. -/
  gens : Tab Nat := []
  /-- The model's own counter of free values drawn from `Config.freeWord` (DESIGN CHOICE, log entry 4). -/
  free : Nat := 0
  /-- Draws taken from the random source (R6). -/
  draws : Nat := 16
  tim : Tim := {}
  gau : Gau := {}
  link : Link := {}
  swp : Swp := {}
  sns : Sns := {}
  est : Est := {}
  ctl : Ctl := {}
  frm : Frm := {}
  saf : Saf := {}
  pair : Pair := {}
  mbx : Mbx := {}
  can0 : Can := {}
  can1 : Can := {}
  filters : Tab FilterSet := []
  eth : Eth := {}
  dsp : Dsp := {}
  recd : Recorder := {}
  clock : Clk := {}
  rst : Rst := {}
  gpio : Gpio := {}
  upd : Upd := {}
  nv : Nv := {}
  deriving DecidableEq, Repr

/-- What a byte of memory that nothing has written reads as (log entry 3: DESIGN CHOICE, the spec gives no contents). -/
def memDefault : Byte := 0

/-- The canonical form of memory: addresses strictly rise and no entry equals what an unlisted address reads as. -/
def memWf : List Host.Cell → Bool
  | [] => true
  | [(_, b)] => decide (b ≠ memDefault)
  | (a, b) :: (a', b') :: r => decide (b ≠ memDefault) && decide (a < a') && memWf ((a', b') :: r)

/-- The machine right after a POWER reset: every field at the value the spec gives, or the value the assumption log names. The straps are what the
backplane makes them (R13, R371; log entry 6), and no command changes them. -/
def State.reset : State := { pair := { slotB := Config.homeB, homeBad := Config.homeBad, slotId := Config.slotId.toNat } }

end Sys2Proof.Machine
end

