-- ==== Sys2Proof/Machine/Ops.lean ====
section
/-! DEFINITION. The shared operations over the state: registers and their fields, refusals and ERR_CODE, events and the recorder's
arrivals, handles, memory, and the one operation every bus access goes through (firewall, gates, frozen masters). -/

namespace Sys2Proof.Machine

/-- What a meaning answers. -/
abbrev Out := Host.Outcome State Fault Refusal

namespace State

/-! ### Registers -/

/-- A stored register (R5). -/
def reg (s : State) (a : Nat) : Word := (s.regs.find? a).getD (regReset a)

/-- Store a register; a register at its Reset column takes no entry. -/
def setReg (s : State) (a : Nat) (v : Word) : State := { s with regs := s.regs.put (regReset a) a v }

/-- A register as a number. -/
def rd (s : State) (a : Nat) : Nat := (s.reg a).toNat

/-- Store a number in a register, modulo `2^32`. -/
def wr (s : State) (a n : Nat) : State := s.setReg a (w32 n)

/-- A register as a two's-complement number. -/
def rdI (s : State) (a : Nat) : Int := (s.reg a).toInt

/-- Store a two's-complement number in a register. -/
def wrI (s : State) (a : Nat) (i : Int) : State := s.setReg a (wInt i)

/-- The field of `n` bits from bit `lo` of a register. -/
def fld (s : State) (a lo n : Nat) : Nat := bitsOf (s.rd a) lo n

/-- Replace the field of `n` bits from bit `lo` of a register. -/
def setFld (s : State) (a lo n v : Nat) : State :=
  let m : Word := w32 ((2 ^ n - 1) * 2 ^ lo)
  s.setReg a ((s.reg a &&& ~~~m) ||| (w32 (v % 2 ^ n * 2 ^ lo)))

/-- A field as a two's-complement number of its width. -/
def fldI (s : State) (a lo n : Nat) : Int := (BitVec.ofNat n (s.fld a lo n)).toInt

/-- One bit of a register. -/
def bit (s : State) (a i : Nat) : Bool := (s.rd a).testBit i

/-- Set or clear one bit of a register. -/
def setBit (s : State) (a i : Nat) (b : Bool) : State := s.setFld a i 1 (b2n b)

/-- Advance a wrapping counter register. -/
def bump (s : State) (a : Nat) (k : Nat := 1) : State := s.setReg a (s.reg a + w32 k)

/-- Advance a counter field that saturates. -/
def bumpSat (s : State) (a lo n : Nat) : State := s.setFld a lo n (min (2 ^ n - 1) (s.fld a lo n + 1))

/-! ### Time -/

/-- TIME cycles since a stamp (R21). -/
def since (s : State) (t : BitVec 64) : Nat := (s.tim.odo - t).toNat

/-- ODO [31:0]. -/
def odoLo (s : State) : Word := s.tim.odo.setWidth 32

/-- ODO [63:32]. -/
def odoHi (s : State) : Word := (s.tim.odo >>> 32).setWidth 32

end State

/-- TIME cycles in a microsecond. -/
def usT (n : Nat) : Nat := 250 * n

/-- TIME cycles in a millisecond. -/
def msT (n : Nat) : Nat := 250000 * n

/-- TIME cycles in a second. -/
def secT (n : Nat) : Nat := 250000000 * n

/-- `2^-32` ns in one nanosecond. -/
def fracPerNs : Nat := 2 ^ 32

/-- `2^-32` ns in one second. -/
def fracPerSec : Nat := 1000000000 * fracPerNs

/-- A clock instance counts modulo `2^48` seconds (R23). -/
def clkModulus : Nat := 2 ^ 48 * fracPerSec

/-- Seconds of a time in `2^-32` ns. -/
def timeSec (t : Nat) : Nat := t / fracPerSec % 2 ^ 48

/-- Nanoseconds, 0 to 999,999,999, of a time in `2^-32` ns. -/
def timeNs (t : Nat) : Nat := t / fracPerNs % 1000000000

namespace State

/-- An instance's time in `2^-32` ns (R23). -/
def clk (s : State) (n : Nat) : Nat := s.tim.clk.get 0 n

/-- Set an instance's time. -/
def setClk (s : State) (n t : Nat) : State :=
  { s with tim := { s.tim with clk := s.tim.clk.put 0 n (t % clkModulus) } }

/-- Plant time: the selected instance plus the residual (R25), in `2^-32` ns. -/
def plant (s : State) : Nat :=
  (((s.clk s.tim.plantSel : Nat) + s.tim.resid) % (clkModulus : Int)).toNat

/-! ### Recorder arrivals (R316, R319) -/

end State

/-- The order of R319 between two events of one cycle: fixed codes, then page events, then posts; by code, then by MID. -/
def Arrival.before (a b : Arrival) : Bool :=
  if a.kind ≠ b.kind then decide (a.kind < b.kind)
  else if a.kind = 2 then decide (a.mid < b.mid) else decide (a.code < b.code)

/-- Put an event in its place among those that arose in the same cycle (R319). -/
def insertArrival (x : Arrival) : List Arrival → List Arrival
  | [] => [x]
  | a :: r => if a.odo = x.odo && x.before a then x :: a :: r else a :: insertArrival x r

/-- The milestone codes of R316. -/
def codeMilestone (c : Nat) : Bool :=
  [0x001, 0x003, 0x010, 0x011, 0x012, 0x013, 0x014, 0x015, 0x022].contains c

/-- The severity of the fixed codes (R316). -/
def codeSeverity (c : Nat) : Nat :=
  if c = 0x001 ∨ c = 0x007 ∨ c = 0x021 ∨ c = 0x022 ∨ c = 0x023 then 1
  else if c = 0x002 ∨ c = 0x005 ∨ c = 0x006 then 0
  else if 0x010 ≤ c ∧ c ≤ 0x013 then 3 else 2

namespace State

/-- Hand an event to the recorder. -/
def arrive (s : State) (kind code sev mid : Nat) (data : List Word) : State :=
  { s with recd := { s.recd with arriving := insertArrival ⟨kind, code, sev, mid, data, s.tim.odo⟩ s.recd.arriving } }

/-- A fixed event of R316. -/
def fixedEvent (s : State) (code : Nat) (data : List Word) : State :=
  s.arrive 0 code (codeSeverity code) 0 data

/-- The EVT register of a page. -/
def evtAddr (page : Nat) : Nat := page * 0x1000 + 0x010

/-- Bit `page` of REC_PAGE_EN. -/
def pageRecorded (s : State) (page : Nat) : Bool :=
  if page = 0x1A then false
  else if page < 32 then s.bit Reg.REC_REC_PAGE_EN_LO page
  else s.bit Reg.REC_REC_PAGE_EN_HI (page - 32)

/-- The EVT bits of a page whose event came in this TIME cycle (R381). -/
def evtFresh (s : State) (page : Nat) : Nat := if s.recd.evtAt = s.tim.odo then s.recd.evtNow.get 0 page else 0

/-- An event is noted for the clears of its cycle. -/
def evtNote (s : State) (page b : Nat) : State :=
  let now := if s.recd.evtAt = s.tim.odo then s.recd.evtNow else []
  { s with recd := { s.recd with evtAt := s.tim.odo, evtNow := now.put 0 page (s.evtFresh page ||| 2 ^ b) } }

/-- An EVT bit is set, by a master or by hardware (MID 0), and a rise is recorded (R316, R381). The severity of a page event is not stated by
the spec and is a free value (log entry 4). -/
def evtRise (s : State) (mid page b : Nat) : State :=
  if s.bit (evtAddr page) b then s
  else
    let s := s.setBit (evtAddr page) b true
    if s.pageRecorded page then
      let s' := s.arrive 1 (0x100 + 32 * page + b) ((Config.freeWord s.free).toNat % 16) mid
        [s.reg (evtAddr page), s.reg (page * 0x1000 + 0x01c)]
      { s' with free := s'.free + 1 }
    else s

/-- An EVT bit's event, by a master or by hardware (MID 0). -/
def eventBy (s : State) (mid page b : Nat) : State := (s.evtNote page b).evtRise mid page b

/-- A page's event (R381). -/
def event (s : State) (page b : Nat) : State := s.eventBy 0 page b

/-- An event if a condition holds. -/
def eventIf (s : State) (c : Bool) (page b : Nat) : State := if c then s.event page b else s

end State

/-! ### Refusals -/

/-- The error codes of R382. -/
inductive ErrCode where
  | handleBad | handleStale | cmdBad | range | mode | state | role | midDeny | key | locked | align | rateClamp | plantFar
  | waymarkFull | waymarkRange | waymarkPast | chFew | planBad | chemFull | chemBad | inUse | tapFull | tapSpace | fwlDeny | spFull
  | frmFull | frmBad | psetBad | psetConfirm | notFull | wrongCtl | fsFull | fsOverlap | txFull | domDup | launchFull | launchPast
  | launchRange | codeDeny | tokenBad | imgBad | keyBad | bindBad | mbxUnbound | mbxBusy | mbxNoPeer
  deriving DecidableEq, Repr

/-- The value of ERR_CODE [7:0] (R382). -/
def ErrCode.code : ErrCode → Nat
  | .handleBad => 0x01 | .handleStale => 0x02 | .cmdBad => 0x03 | .range => 0x04 | .mode => 0x05 | .state => 0x06
  | .role => 0x07 | .midDeny => 0x08 | .key => 0x09 | .locked => 0x0A | .align => 0x0B | .rateClamp => 0x0C
  | .plantFar => 0x0D | .waymarkFull => 0x0E | .waymarkRange => 0x0F | .waymarkPast => 0x11 | .chFew => 0x12
  | .planBad => 0x13 | .chemFull => 0x14 | .chemBad => 0x15 | .inUse => 0x16 | .tapFull => 0x17 | .tapSpace => 0x18
  | .fwlDeny => 0x19 | .spFull => 0x1A | .frmFull => 0x1B | .frmBad => 0x1C | .psetBad => 0x1D | .psetConfirm => 0x1E
  | .notFull => 0x1F | .wrongCtl => 0x20 | .fsFull => 0x22 | .fsOverlap => 0x23 | .txFull => 0x24 | .domDup => 0x25
  | .launchFull => 0x26 | .launchPast => 0x27 | .launchRange => 0x28 | .codeDeny => 0x29 | .tokenBad => 0x2A
  | .imgBad => 0x2B | .keyBad => 0x2C | .bindBad => 0x2D | .mbxUnbound => 0x2E | .mbxBusy => 0x2F | .mbxNoPeer => 0x30

namespace State

/-- A refused operation writes ERR_CODE of the page: the code, the offset of the access and the master's MID (R381). -/
def err (s : State) (mid : Mid) (addr : Nat) (e : ErrCode) : State :=
  s.wr (addr / 0x1000 * 0x1000 + 0x01c) (e.code + addr % 0x1000 * 2 ^ 8 + mid.code * 2 ^ 24)

/-- LOCK of a page (R381). -/
def pageLocked (s : State) (page : Nat) : Bool := s.bit (page * 0x1000 + 0x00c) 0

end State

/-! ### Handles (R8 to R11) -/

/-- One step of the CRC-8 shift register, polynomial 0x07 (R9). -/
def crc8Bit (c : Nat) : Nat := if c ≥ 128 then (c * 2 % 256) ^^^ 0x07 else c * 2

/-- CRC-8 over one more byte (R9). -/
def crc8Byte (c b : Nat) : Nat :=
  crc8Bit (crc8Bit (crc8Bit (crc8Bit (crc8Bit (crc8Bit (crc8Bit (crc8Bit (c ^^^ b))))))))

/-- The object classes (R8). -/
inductive HClass where
  | node | tap | waymark | launch | program | chem | filter
  deriving DecidableEq, Repr

/-- The CLASS field (R8). -/
def HClass.code : HClass → Nat
  | .node => 1 | .tap => 2 | .waymark => 3 | .launch => 4 | .program => 5 | .chem => 6 | .filter => 7

/-- The class limit (R8). -/
def HClass.limit : HClass → Nat
  | .node => 32 | .tap => 32 | .waymark => 256 | .launch => 64 | .program => 8 | .chem => 4 | .filter => 8

/-- CHK over bits [31:8] (R9). -/
def handleChk (top : Nat) : Nat :=
  crc8Byte (crc8Byte (crc8Byte 0 (bitsOf top 16 8)) (bitsOf top 8 8)) (bitsOf top 0 8)

/-- The handle of a class, generation and slot (R8). -/
def mkHandle (cls gen idx : Nat) : Word :=
  let top := cls * 2 ^ 20 + gen % 256 * 2 ^ 12 + idx % 4096
  w32 (top * 256 + handleChk top)

/-- The key of a slot's generation. -/
def genKey (c : HClass) (idx : Nat) : Nat := c.code * 4096 + idx

namespace State

/-- The generation a slot has (R10); 0 before its first object. -/
def gen (s : State) (c : HClass) (idx : Nat) : Nat := s.gens.get 0 (genKey c idx)

/-- The handle of the object in a slot. -/
def handleOf (s : State) (c : HClass) (idx : Nat) : Word := mkHandle c.code (s.gen c idx) idx

/-- A new object in a slot: GEN advances by one, from 0xFF to 0x01 (R10). -/
def newGen (s : State) (c : HClass) (idx : Nat) : State :=
  let g := s.gen c idx
  { s with gens := s.gens.put 0 (genKey c idx) (if g = 0xFF then 1 else g + 1) }

/-- The checks of R11 in their order: CHK, CLASS, INDEX, GEN. `occupied` says whether a slot holds an object. -/
def checkHandle (s : State) (c : HClass) (occupied : Nat → Bool) (h : Word) : Except ErrCode Nat :=
  let n := h.toNat
  let idx := bitsOf n 8 12
  if handleChk (n / 256) ≠ n % 256 then .error .handleBad
  else if bitsOf n 28 4 ≠ c.code then .error .handleBad
  else if c.limit ≤ idx then .error .handleBad
  else if !occupied idx || decide (s.gen c idx ≠ bitsOf n 20 8) then .error .handleStale
  else .ok idx

/-! ### Memory -/

/-- One byte of memory. -/
def readByte (s : State) (a : Nat) : Byte := Tab.get s.mem memDefault a

/-- Write one byte of memory. -/
def writeByte (s : State) (a : Nat) (b : Byte) : State := { s with mem := Tab.put s.mem memDefault a b }

/-- Little-endian value of `n` bytes of memory. -/
def readLE (s : State) (a : Nat) : Nat → Nat
  | 0 => 0
  | n + 1 => (s.readByte a).toNat + 256 * readLE s (a + 1) n

/-- Write `n` bytes, little-endian. -/
def writeLE (s : State) (a : Nat) : Nat → Nat → State
  | 0, _ => s
  | n + 1, v => (s.writeByte a (BitVec.ofNat 8 v)).writeLE (a + 1) n (v / 256)

/-- The bytes of memory from an address. -/
def readBytes (s : State) (a n : Nat) : List Nat := (List.range n).map fun i => (s.readByte (a + i)).toNat

/-- Write bytes to memory from an address. -/
def writeBytes (s : State) (a : Nat) : List Nat → State
  | [] => s
  | b :: r => (s.writeByte a (BitVec.ofNat 8 b)).writeBytes (a + 1) r

/-- RUN_VER: VERSION of the running image (R351), 0 without one. -/
def runVer (s : State) : Word := match s.nv.running with
  | some b => w32 (leAt b 12 4)
  | none => 0

/-- A free value of the model and the state after it is drawn (log entry 4). -/
def freeWord (s : State) : Word := Config.freeWord s.free

/-- Advance the counter of free values. -/
def drawFree (s : State) : State := { s with free := s.free + 1 }

end State

/-! ### The firewall (R262 to R266) -/

/-- The rights column of a master (R262). -/
def midColumn : Mid → Nat
  | .own (.core i) => i.val
  | .own .safety => 4
  | .own .link => 5
  | .own .pipe => 6
  | .own .ctl => 7
  | .own (.dma i) => 8 + i.val
  | .own .causeway => 24
  | .own .loader => 25
  | .own .debug => 26
  | .partner _ => 27

/-- The columns that a violation freezes; the others' access is dropped (R265). -/
def columnFreezes (k : Nat) : Bool := decide (k ≤ 5) || (decide (8 ≤ k) && decide (k ≤ 23)) || k == 25

/-- The read or write right of a column in a pair of rights words (R263). -/
def rightOf (lo hi : Word) (k : Nat) (write : Bool) : Bool :=
  let w := if k < 16 then lo else hi
  if k < 28 then w.toNat.testBit (2 * (k % 16) + b2n write) else false

namespace State

/-- The firewall is in force: BLK_LOCK of page 0x03 is set (R264). -/
def fwlOn (s : State) : Bool := s.pageLocked 0x03

/-- The right of a column to a register page (R263). -/
def pageRight (s : State) (k page : Nat) (write : Bool) : Bool :=
  rightOf (s.reg (Reg.FWL_PAGE_RIGHTS_LO page)) (s.reg (Reg.FWL_PAGE_RIGHTS_HI page)) k write

/-- The lowest enabled region that covers a memory address (R263). -/
def regionOf (s : State) (a : Nat) : Option Nat :=
  (List.range 64).find? fun r =>
    let b := s.rd (Reg.FWL_REG_BASE r)
    let p := a / 0x1000
    b.testBit 31 && decide (b % 2 ^ 28 ≤ p) && decide (p < b % 2 ^ 28 + s.rd (Reg.FWL_REG_SIZE r))

/-- The right of a column to a memory address; an address no region covers is denied to every column (R263). -/
def memRight (s : State) (k a : Nat) (write : Bool) : Bool :=
  match s.regionOf a with
  | some r => rightOf (s.reg (Reg.FWL_REG_RIGHTS_LO r)) (s.reg (Reg.FWL_REG_RIGHTS_HI r)) k write
  | none => false

/-- The right of a column to every page of a range of memory, as far as the firewall is in force. -/
def rangeRight (s : State) (k a len : Nat) (write : Bool) : Bool :=
  !s.fwlOn || (List.range ((a % 0x1000 + len + 0xfff) / 0x1000)).all fun i => s.memRight k (a / 0x1000 * 0x1000 + i * 0x1000) write

/-- The first address of a range that a column has no right to: the start of the range, or of the first page that is denied (R263). -/
def deniedAt (s : State) (k a len : Nat) (write : Bool) : Nat :=
  let page (i : Nat) : Nat := a / 0x1000 * 0x1000 + i * 0x1000
  let i := ((List.range ((a % 0x1000 + len + 0xfff) / 0x1000)).find? fun i => !s.memRight k (page i) write).getD 0
  max a (page i)

/-- A denied access (R265, R266): the master is frozen or its access dropped, the violation is recorded and passed to the recorder. `region`
is the index of the page or region; `addr` is the full bus address; `sz` is the size as log2. -/
def violate (s : State) (mid : Mid) (addr : Nat) (write fetch : Bool) (sz : Nat) (isMem : Bool) (index : Nat) : State :=
  let k := (midColumn mid)
  let info := b2n write + 2 * b2n fetch + 16 * (sz % 4) + 256 * b2n isMem + 2 ^ 16 * (index % 64)
  let s := if columnFreezes k then s.setBit Reg.FWL_FROZEN k true else s.setBit Reg.FWL_DROPPED k true
  let s := { s with busData := 0, busHi := 0, busErr := if k = 26 then some mid.code else s.busErr }
  let s := s.bump Reg.FWL_VIOL_COUNT
  let s := if s.bit Reg.FWL_FWL_STAT 1 then s.event 0x03 2
    else ((((((s.setBit Reg.FWL_FWL_STAT 1 true).wr Reg.FWL_VIOL_MID mid.code).wr Reg.FWL_VIOL_ADDR_LO addr).wr
      Reg.FWL_VIOL_ADDR_HI (addr / 2 ^ 32 % 256)).wr Reg.FWL_VIOL_INFO info).setReg Reg.FWL_VIOL_ODO_LO s.odoLo).setReg
      Reg.FWL_VIOL_ODO_HI s.odoHi
  let s := s.event 0x03 0
  s.fixedEvent 0x020 [w32 mid.code, w32 addr, w32 (addr / 2 ^ 32 % 256), w32 info]

/-- The size of an engine's accesses to a range of bytes, as log2: the largest of 1, 2, 4 and 8 bytes that divides its length (DESIGN CHOICE, log
entry 107). -/
def accessLog2 (len : Nat) : Nat := if len % 8 = 0 then 3 else if len % 4 = 0 then 2 else if len % 2 = 0 then 1 else 0

/-- A denied access to memory: `x` is its address (R265, R266). -/
def violateMem (s : State) (mid : Mid) (x : Nat) (write fetch : Bool) (sz : Nat) : State :=
  s.violate mid x write fetch sz true ((s.regionOf x).getD 0)

/-- The master is held in reset (R249), frozen (R265), stopped with an error (R267) or without power: it issues no access. -/
def held (s : State) (mid : Mid) : Bool :=
  s.pair.unpowered || (match mid with
   | .own (.core i) => s.bit Reg.RST_RST_HOLD i.val
   | .own (.dma i) => s.bit Reg.RST_RST_HOLD 4 || s.dmaErr.testBit i.val
   | _ => false) || s.bit Reg.FWL_FROZEN (midColumn mid)

/-- Bytes of memory as a master reads them: a denied read is a violation at the first address denied, and returns zeros (R265), and a master
that issues no access reads zeros. -/
def fetchAs (s : State) (mid : Mid) (a n : Nat) : State × List Nat :=
  if s.held mid then (s, List.replicate n 0)
  else if s.rangeRight (midColumn mid) a n false then (s, s.readBytes a n)
  else (s.violateMem mid (s.deniedAt (midColumn mid) a n false) false false (accessLog2 n), List.replicate n 0)

/-- Bytes a master writes: the accesses before the first one denied are carried out, and that one is a violation (R265). -/
def storeAs (s : State) (mid : Mid) (a : Nat) (bs : List Nat) : State :=
  let k := midColumn mid
  if s.held mid then s
  else if s.rangeRight k a bs.length true then s.writeBytes a bs
  else
    let x := s.deniedAt k a bs.length true
    (s.writeBytes a (bs.take (x - a))).violateMem mid x true false (accessLog2 bs.length)

/-- The bus interface of a page accepts accesses: its clock gate is open (R338, R339). -/
def pageOpen (s : State) (page : Nat) : Bool :=
  if page < 32 then s.bit Reg.CLK_CLK_GATE_LO page else s.bit Reg.CLK_CLK_GATE_HI (page - 32)

/-- Every access to a register page goes through here: a held or frozen master issues none, the firewall may deny it (R262 to R266), a page
above 0x20 reads 0 and drops writes (R378), a gated page does the same (R339), and otherwise the access has its effect. -/
def busAny (s : State) (mid : Mid) (addr : Nat) (write fetch : Bool) (sz : Nat) (eff : State → State) : State :=
  let page := addr / 0x1000
  if s.held mid then s
  else if s.fwlOn && !s.pageRight (midColumn mid) page write then
    s.violate mid (0x40000000 + addr) write fetch sz false page
  else if !pageImplemented page || !s.pageOpen page then (if write then s else { s with busData := 0 })
  else eff s

/-- An access that is no instruction fetch. -/
def busSized (s : State) (mid : Mid) (addr : Nat) (write : Bool) (sz : Nat) (eff : State → State) : State :=
  s.busAny mid addr write false sz eff

/-- An aligned 32-bit access. -/
def bus (s : State) (mid : Mid) (addr : Nat) (write : Bool) (eff : State → State) : State :=
  s.busSized mid addr write 2 eff

/-- A write to a command register. -/
def busW (s : State) (mid : Mid) (addr : Nat) (eff : State → State) : State := s.bus mid addr true eff

/-- A read with a side effect. -/
def busR (s : State) (mid : Mid) (addr : Nat) (eff : State → State) : State := s.bus mid addr false eff

/-- A register write by its access code (R5), the mask saying which bits exist (R7). A write of a RWL register while LOCK is set is ignored
and writes LOCKED (R381). An event and a W1C of its EVT bit in one cycle leave the bit set (R381; log entry 127). -/
def regWrite (s : State) (mid : Mid) (addr : Nat) (v : Word) : State :=
  match regRow? addr with
  | none => s
  | some r =>
    let old := s.reg addr
    match r.acc with
    | .rw => s.setReg addr ((old &&& ~~~r.mask) ||| (v &&& r.mask))
    | .rwl =>
      if s.pageLocked (addr / 0x1000) then s.err mid addr .locked
      else s.setReg addr ((old &&& ~~~r.mask) ||| (v &&& r.mask))
    | .w1c =>
      let kept := if addr % 0x1000 = 0x010 then w32 (s.evtFresh (addr / 0x1000)) else 0
      s.setReg addr (old &&& ~~~(v &&& r.mask &&& ~~~kept))
    | .w1s => s.setReg addr (old ||| (v &&& r.mask))
    | .ro | .wo | .rc => s

/-! ### The sources of a demand (R205, R208) -/

/-- Bit `src` of DEMAND becomes active: 0 to 7 SF1 to SF8, 8 SWITCH, 9 WELD, 10 TP_OUT. `g` is the GRD_CAUSE code. -/
def activate (s : State) (src g : Nat) : State :=
  { s with saf := { s.saf with sources := s.saf.sources ||| 2 ^ src, gSources := s.saf.gSources ||| (if g ≤ 6 then 2 ^ (g - 1) else 0) } }

/-- A source becomes inactive; the quiet time of R208 starts once none is left. -/
def quiet (s : State) (src g : Nat) : State :=
  let sources := s.saf.sources &&& (2047 - 2 ^ src)
  let gs := if g ≤ 6 then s.saf.gSources &&& (63 - 2 ^ (g - 1)) else s.saf.gSources
  let at_ := if sources = 0 ∧ s.saf.sources ≠ 0 then s.tim.odo else s.saf.quietAt
  { s with saf := { s.saf with sources := sources, gSources := gs, quietAt := at_ } }

end State

/-- End an operation that cannot stop. -/
abbrev ok (s : State) : Out := .next s

end Sys2Proof.Machine
end

