-- ==== Sys2Proof/Machine/Time.lean ====
section
/-! DEFINITION. The grid position and plant time: the shared operations of "Odometer, Plant Time and the Grid Angle" (R19 to R46,
R387 to R389), and the commands of TIM and GAU but for the waymark entries. -/

namespace Sys2Proof.Machine

/-- One cycle in units of the phase accumulator. -/
def oneCycle : Nat := 2 ^ 64

/-- Grid positions are taken modulo `2^48` cycles: CYC_ERA and CYCLE (R37). -/
def posModulus : Nat := 2 ^ 112

/-- The signed difference of two grid positions (R21). -/
def posDiff (a b : Nat) : Int := sdiff 112 a b

/-- A position modulo the wrap of CYC_ERA. -/
def posWrap (i : Int) : Nat := (i % (posModulus : Int)).toNat

/-- A full cycle number modulo the wrap of CYC_ERA. -/
def cycWrap (i : Int) : Nat := (i % ((2 ^ 48 : Nat) : Int)).toNat

/-- The nearest whole cycle of a signed position. -/
def roundCycles (d : Int) : Int := (d + 2 ^ 63) / 2 ^ 64

namespace State

/-- f_nom of GAU_CFG.FNOM, Hz (R33). -/
def fnom (s : State) : Nat := if s.bit Reg.GAU_GAU_CFG 0 then 60 else 50

/-- CYC_ORIGIN in seconds. -/
def cycOrigin (s : State) : Nat := s.rd Reg.GAU_CYC_ORIGIN_L + 2 ^ 32 * s.fld Reg.GAU_CYC_ORIGIN_H 0 16

/-- The nominal grid position `p` (R33), exact and rounded down to the accumulator's unit. -/
def nominalPos (s : State) : Int :=
  (((s.plant : Int) - s.cycOrigin * fracPerSec) * s.fnom * oneCycle) / (fracPerSec : Int)
    - s.rdI Reg.GAU_CYC_BIAS * 2 ^ 48

/-- The frequency is the tracked or held one, not the nominal one (R28, R32, "Frequency"). -/
def usesTracked (s : State) : Bool := s.gau.src != .nominal && s.gau.tracked != 0

/-- What the accumulator adds in one TIME cycle at the frequency in use. -/
def gauRate (s : State) : Nat :=
  if s.usesTracked then 4 * oneCycle / s.gau.tracked else s.fnom * 4 * oneCycle / 1000000000

/-- FREQ in µHz: the reciprocal of the tracked period, or f_nom. -/
def freqMicroHz (s : State) : Nat :=
  if s.usesTracked then 4 * 250000000 * 1000000 / s.gau.tracked else s.fnom * 1000000

/-- Firing angle for a sample angle: that less 1.0 ms at the frequency tracked at the previous crossing (R38). -/
def fireAngleInt (s : State) (sample : Word) : Int :=
  if s.gau.xFreq = 0 then ((sample.toNat : Int) * 1000 - 2 ^ 32 * s.fnom) / 1000
  else ((sample.toNat : Int) * s.gau.xFreq - 2 ^ 32 * 1000000) / s.gau.xFreq

/-- The grid position at which the superframe of a cycle starts under a sample angle (R38, R58). -/
def firePosAt (s : State) (sample : Word) (c : Nat) : Nat :=
  posWrap ((c : Int) * 2 ^ 64 + s.fireAngleInt sample * 2 ^ 32)

/-- The newest sweep cycle at or before a cycle (R38). -/
def newestSweepCycle (s : State) (c : Nat) : Nat := c - c % s.gau.swpDiv

/-- A SWEEP_ANGLE written at a grid position holds for a cycle: the sweep waymark of the cycle, or the last before it, lies at least two cycles
after the write (R389). -/
def angleHolds (s : State) (c : Nat) (e : Nat × Word) : Bool :=
  decide (2 * (oneCycle : Int) ≤ posDiff (s.firePosAt e.2 (s.newestSweepCycle c)) e.1)

/-- The sample angle of the superframe of a cycle (R389). -/
def sampleAngle (s : State) (c : Nat) : Word :=
  ((s.gau.sweepAngleAt.find? (s.angleHolds c)).map (·.2)).getD s.gau.sweepAngle

/-- The grid position at which the waymark of a sweep cycle, or an auxiliary superframe of a cycle, fires (R38, R58). -/
def firePos (s : State) (c : Nat) : Nat := s.firePosAt (s.sampleAngle c) c

/-- The newest cycle whose superframe position lies at or before a grid position. -/
def newestFired (s : State) (pos : Nat) : Nat :=
  let c := (pos / oneCycle + 1) % 2 ^ 48
  if 0 ≤ posDiff pos (s.firePos c) then c
  else
    let c := cycWrap ((c : Int) - 1)
    if 0 ≤ posDiff pos (s.firePos c) then c else cycWrap ((c : Int) - 1)

/-- SWEEP_NEXT: the firing angle of the next sweep waymark. -/
def showSweepNext (s : State) : State :=
  let c := s.newestSweepCycle (s.newestFired s.gau.pos) + s.gau.swpDiv
  s.wr Reg.GAU_SWEEP_NEXT (s.fireAngleInt (s.sampleAngle c) % 2 ^ 32).toNat

/-- The superframe of a cycle takes its sample angle, and older ones are gone (R389). -/
def takeAngle (s : State) (c : Nat) : State :=
  { s with gau := { s.gau with sweepAngle := s.sampleAngle c, sweepAngleAt := s.gau.sweepAngleAt.takeWhile fun e => !s.angleHolds c e } }

/-- Grid position as the 64-bit value of R22. -/
def gridPos (s : State) : BitVec 64 := BitVec.ofNat 64 (s.gau.pos / 2 ^ 32)

/-- A jump of the position (R30, R33, R35): waymark entries it passes are LATE (R41), the newest sweep waymark it passes is due LATE (R389), and
after a backward move of the cycle number the cycles that follow open sweeps anew and the key epoch advances (R389, R54). -/
def gauJump (s : State) (new : Nat) : State :=
  let old := s.gau.pos
  let g := { s.gau with pos := new % posModulus }
  if 0 < posDiff new old then
    let passed (t : BitVec 64) : Bool :=
      decide (0 < sdiff 64 t.toNat (old / 2 ^ 32)) && decide (sdiff 64 t.toNat (new / 2 ^ 32) ≤ 0)
    let g := { g with wms := g.wms.map fun e => if passed e.2.target then (e.1, { e.2 with late := true }) else e }
    let c := s.newestSweepCycle (s.newestFired new)
    let fresh := match s.gau.lastSweep with
      | none => true
      | some l => decide (0 < sdiff 48 c l)
    if decide (0 < posDiff (s.firePos c) old) && fresh then { s with gau := { g with lateSweep := some c } }
    else { s with gau := g }
  else if posDiff new old ≤ -(2 ^ 63) then
    { s with gau := { g with lastSweep := none, lastSuper := none }, link := { s.link with epochDue := true } }
  else { s with gau := g }

/-- On the nominal timeline the difference to the nominal position is split into whole cycles, added at once, and a remainder that is slewed
out (R33). -/
def renumberNominal (s : State) : State :=
  let d := posDiff (posWrap s.nominalPos) s.gau.pos
  let n := roundCycles d
  let s := if n = 0 then s else (s.gauJump (posWrap (s.gau.pos + n * 2 ^ 64))).event 0x07 7
  let r := d - n * 2 ^ 64
  { s with gau := { s.gau with cyc := cycWrap (s.gau.cyc + n), slew := r, slewing := decide (r ≠ 0) || s.gau.slewing } }

/-- After a change that moves the nominal position: nothing unless the GAU is on the nominal timeline. -/
def nominalMoved (s : State) : State := if s.gau.src = .nominal then s.renumberNominal else s

/-- The nominal timeline is entered (R33). -/
def enterNominal (s : State) : State :=
  let s := { s with gau := { s.gau with src := .nominal, locked := false } }
  (s.event 0x07 2).renumberNominal

/-- At a crossing the sweep waymark takes the frequency tracked there (R38). -/
def atCrossing (s : State) : State :=
  { s with gau := { s.gau with xFreq := if s.usesTracked then s.gau.tracked else 0 } }.showSweepNext

/-- The bias change takes effect (R388). -/
def applyBias (s : State) : State :=
  let s := s.setReg Reg.GAU_CYC_BIAS (s.reg Reg.GAU_CYC_BIAS_NEXT)
  { s with gau := { s.gau with biasAt := none } }.nominalMoved

/-- A signed difference of two clock times in `2^-32` ns. -/
def clkDiff (a b : Nat) : Int :=
  let d := ((a : Int) - b) % (clkModulus : Int)
  if 2 * d < clkModulus then d else d - clkModulus

/-- PLANT_SLEW_LIM in `2^-32` ns. -/
def slewLim (s : State) : Int := s.rd Reg.TIM_PLANT_SLEW_LIM * 1000 * fracPerNs

/-- The PPS_OUT second a plant time lies in, after PPS_OUT_OFS (R45). -/
def ppsSecond (s : State) : Int := ((s.plant : Int) - s.rdI Reg.TIM_PPS_OUT_OFS * fracPerNs) / (fracPerSec : Int)

/-- A PPS_OUT edge is due (R45; log entry 111): the first whole second after a step of plant time gives an edge, and otherwise one that lies
after every second given. -/
def ppsDue (s : State) : Bool :=
  match s.tim.ppsLand, s.tim.ppsSec with
  | some k, _ => decide (k < s.ppsSecond)
  | none, some j => decide (j < s.ppsSecond)
  | none, none => true

/-- A step of an instance by `d` (R27): a step of the selected instance is absorbed into the residual, or plant time takes it. -/
def stepInstance (s : State) (n : Nat) (d : Int) : State :=
  let t := ((((s.clk n : Nat) : Int) + d) % (clkModulus : Int)).toNat
  let s1 := s.setClk n t
  if n ≠ s.tim.plantSel then s1
  else
    let r := s.tim.resid - d
    let s1 := { s1 with tim := { s1.tim with ptSet := true } }
    if decide (-s.slewLim ≤ r) && decide (r ≤ s.slewLim) then
      { s1 with tim := { s1.tim with resid := r, slewing := decide (r ≠ 0) || s1.tim.slewing } }
    else
      let s2 := s1.event 0x06 3
      { s2 with tim := { s2.tim with ppsLand := some s2.ppsSecond } }.nominalMoved

/-- Whole nanoseconds of the residual, PLANT_RESID, rounded toward zero (DESIGN CHOICE, log entry 110). -/
def residNs (s : State) : Int := s.tim.resid.tdiv fracPerNs

/-- Take a held copy of a register for a master (R384). -/
def hold (s : State) (mid : Mid) (addr : Nat) (v : Word) : State :=
  { s with snaps := s.snaps.put (regReset addr) (mid.code * 0x40000 + addr) v }

/-- The held copy of a register that a master reads (R384). -/
def held? (s : State) (mid : Mid) (addr : Nat) : Word := s.snaps.get (regReset addr) (mid.code * 0x40000 + addr)

/-- Hold the three words of a time, laid out as SNAP_PT (R46). -/
def holdTime (s : State) (mid : Mid) (addr t : Nat) : State :=
  ((s.hold mid addr (w32 (timeSec t))).hold mid (addr + 4) (w32 (timeSec t / 2 ^ 32))).hold mid (addr + 8) (w32 (timeNs t))

/-- GAU angle [31:0]. -/
def angle (s : State) : Nat := s.gau.pos / 2 ^ 32 % 2 ^ 32

/-- CYCLE: the low 32 bits of the cycle number. -/
def cycle (s : State) : Nat := s.gau.cyc % 2 ^ 32

/-! ### PHREF (R28 to R36) -/

/-- `d` lies within 65 Hz to 45 Hz (R28). -/
def inPeriodWindow (d : Nat) : Bool := decide (3846250 ≤ d) && decide (d ≤ 5555500)

/-- While locked, `d` lies within 5 % of the tracked period (R28). -/
def nearTracked (s : State) (d : Nat) : Bool :=
  let x : Int := 4 * d - s.gau.tracked
  decide (x * 20 ≤ s.gau.tracked) && decide (-(x * 20) ≤ s.gau.tracked)

/-- Four periods each within 0.2 % of their mean (R29). -/
def lockable (ps : List Nat) : Bool :=
  let m : Int := ((ps.foldl (· + ·) 0 : Nat) : Int)
  ps.length == 4 && ps.all fun p => decide ((4 * (p : Int) - m) * 500 ≤ m) && decide ((m - 4 * (p : Int)) * 500 ≤ m)

/-- At an accepted crossing of a locked GAU (R30, R31, R35, R36): the crossing has number `n`; a phase error above SLEW_TH is stepped out, a smaller
one slewed out; CYC_OFFSET, rounded down to its unit (DESIGN CHOICE, log entry 110), and FAR are written. -/
def crossing (s : State) (n : Nat) : State :=
  let e := posDiff s.gau.pos (n * oneCycle)
  let s := s.wrI Reg.GAU_PHASE_ERR (e / 2 ^ 32)
  let big := decide ((s.rd Reg.GAU_SLEW_TH : Int) * 2 ^ 32 < e) || decide (e < -((s.rd Reg.GAU_SLEW_TH : Int) * 2 ^ 32))
  let s :=
    if big then
      let s := (s.gauJump (n * oneCycle)).event 0x07 3
      { s with gau := { s.gau with slew := 0, slewing := false } }
    else { s with gau := { s.gau with slew := -e, slewing := decide (e ≠ 0) } }
  let s := { s with gau := { s.gau with cyc := n } }
  let off : Int := posDiff (posWrap s.nominalPos) (n * oneCycle) / 2 ^ 48
  let far := decide (0x6000 < off) || decide (off < -0x6000)
  let s := (s.wrI Reg.GAU_CYC_OFFSET off).setBit Reg.GAU_GAU_STAT 4 far
  (s.eventIf far 0x07 7).atCrossing

/-- An accepted edge that gives a period (R28, R29, R34, R35). The running count with which R35 compares n is the number of the crossing that
the running position is nearest to (DESIGN CHOICE, log entry 110). -/
def acceptPeriod (s : State) (d : Nat) : State :=
  let ps := (d :: s.gau.periods).take 4
  let sum := ps.foldl (· + ·) 0
  let s := { s with gau := { s.gau with periods := ps, lastEdge := some s.tim.odo } }
  let s := (s.setReg Reg.GAU_XING_ODO_LO s.odoLo).setReg Reg.GAU_XING_ODO_HI s.odoHi
  if s.gau.locked then
    let s := { s with gau := { s.gau with tracked := sum } }
    s.crossing (cycWrap (s.gau.cyc + 1))
  else if lockable ps then
    let s := { s with gau := { s.gau with tracked := sum, locked := true, src := .phref } }
    let s := s.event 0x07 0
    let n := roundCycles (posWrap s.nominalPos)
    let c := roundCycles s.gau.pos
    let s := if n = c then s else (s.gauJump (posWrap (s.gau.pos + (n - c) * 2 ^ 64))).event 0x07 7
    s.crossing (cycWrap n)
  else s

/-- A selected PHREF edge (R28). -/
def phrefEdge (s : State) : State :=
  let start (s : State) : State :=
    let s := { s with gau := { s.gau with lastEdge := some s.tim.odo, periods := [] } }
    (s.setReg Reg.GAU_XING_ODO_LO s.odoLo).setReg Reg.GAU_XING_ODO_HI s.odoHi
  match s.gau.lastEdge with
  | none => start s
  | some t =>
    let d := s.since t
    if !s.gau.locked && decide (5555500 < d) then start s
    else if !inPeriodWindow d || (s.gau.locked && !s.nearTracked d) then s.event 0x07 8
    else s.acceptPeriod d

/-! ### The TIME cycle -/

/-- The largest part of the residual that slews out in one TIME cycle: 100 ppm of what the selected instance adds in it (R26). -/
def residStep (s : State) : Int := (4 * fracPerNs + s.rdI (Reg.PTP_ADJ s.tim.plantSel)) / 10000

/-- Move an amount toward zero by at most a step. -/
def toward (x step : Int) : Int :=
  if x > step then x - step else if x < -step then x + step else 0

/-- An amount within a bound on its magnitude. -/
def bounded (x lim : Int) : Int := max (-lim) (min lim x)

/-- The period expected next under PHREF, in TIME cycles: the last accepted one and its change once more, which keeps the angle within the 0.01° of
R29 while the frequency changes (DESIGN CHOICE, log entry 112). 0 where there is none. -/
def nextPeriod (s : State) : Nat :=
  match s.gau.src, s.gau.periods with
  | .phref, d :: e :: _ => 2 * d - e
  | _, _ => 0

/-- By how much the rate under PHREF differs from the tracked frequency so that the next edge is met at angle 0 (R29). -/
def rateAhead (s : State) : Int := if s.nextPeriod = 0 then 0 else (oneCycle / s.nextPeriod : Nat) - (s.gauRate : Int)

/-- One TIME cycle of the accumulator (R29 to R33): it moves at the frequency in use, corrected by what is still to be slewed out, and never by
more than 0.5 % of that frequency (R31). On the nominal timeline what is to be slewed out is the difference to the nominal position. -/
def moveGrid (s : State) (rate ahead : Int) : State :=
  let lim := rate * 5 / 1000
  let want := if s.gau.src = .nominal then posDiff (posWrap s.nominalPos) (posWrap (s.gau.pos + rate)) else bounded ahead lim + s.gau.slew
  let b := bounded want lim
  let slew := if s.gau.src = .nominal then want - b else s.gau.slew - (b - bounded ahead lim)
  { s with gau := { s.gau with pos := posWrap (s.gau.pos + rate + b), slew := slew } }

/-- The record being assembled takes ANGLE, FREQ and NOMINAL at its sample instant (R93). -/
def stampRecord (s : State) : State :=
  match s.swp.cur with
  | some r =>
    if r.smpOdo = s.tim.odo then
      let r := { r with angle := s.angle, freq := s.freqMicroHz, rflags := r.rflags % 256 + 256 * b2n (s.gau.src != .phref) }
      { s with swp := { s.swp with cur := some r } }
    else s
  | none => s

/-- One TIME cycle (R19, R23, R26, R31): the odometer, the three instances, the residual and the grid position move on. -/
def tick (s : State) : State :=
  let adv (s : State) (n : Nat) : State :=
    s.setClk n ((((s.clk n : Nat) : Int) + 4 * fracPerNs + s.rdI (Reg.PTP_ADJ n)) % (clkModulus : Int)).toNat
  let rate := s.gauRate
  let ahead := s.rateAhead
  let s := adv (adv (adv s 0) 1) 2
  ({ s with tim := { s.tim with odo := s.tim.odo + 1, resid := toward s.tim.resid s.residStep } }.moveGrid rate ahead).stampRecord

end State

/-! ### The commands -/

/-- TIM.SNAP (R46): the odometer, plant time, the three instances and the grid position in one TIME cycle, held for the writer's MID. -/
def timSnap (s : State) (mid : Mid) : State :=
  let s := (s.hold mid Reg.TIM_SNAP_ODO_LO s.odoLo).hold mid Reg.TIM_SNAP_ODO_HI s.odoHi
  let s := s.holdTime mid Reg.TIM_SNAP_PT_SECL s.plant
  let s := s.holdTime mid Reg.TIM_SNAP_CLKD0_SECL (s.clk 0)
  let s := s.holdTime mid Reg.TIM_SNAP_CLKD1_SECL (s.clk 1)
  let s := s.holdTime mid Reg.TIM_SNAP_CLKD2_SECL (s.clk 2)
  (s.hold mid Reg.TIM_SNAP_CYCLE (w32 s.cycle)).hold mid Reg.TIM_SNAP_ANGLE (w32 s.angle)

/-- GAU.SNAP (R46, CYC_ERA): angle, cycle number, FREQ, CYC_ERA and odometer in one TIME cycle, held for the writer's MID. -/
def gauSnap (s : State) (mid : Mid) : State :=
  let s := (s.hold mid Reg.GAU_SNAP_ANGLE (w32 s.angle)).hold mid Reg.GAU_SNAP_CYCLE (w32 s.cycle)
  let s := (s.hold mid Reg.GAU_SNAP_FREQ (w32 s.freqMicroHz)).hold mid Reg.GAU_CYC_ERA (w32 (s.gau.cyc / 2 ^ 32))
  (s.hold mid Reg.GAU_SNAP_ODO_LO s.odoLo).hold mid Reg.GAU_SNAP_ODO_HI s.odoHi

/-- TIM_SNAP (R46). -/
def execTimSnap (mid : Mid) (s : State) : Out := ok (s.busW mid 0x6020 fun s => timSnap s mid)

/-- GAU_SNAP (R46). -/
def execGauSnap (mid : Mid) (s : State) : Out := ok (s.busW mid 0x7020 fun s => gauSnap s mid)

/-- PLANT_SEL_WRITE (R25): the new residual keeps plant time continuous, or the write is refused with PLANT_FAR. -/
def plantSelWrite (s : State) (mid : Mid) (v : Word) : State :=
  let n := v.toNat % 4
  let r := State.clkDiff s.plant (s.clk n)
  if n = 3 then s.err mid Reg.TIM_PLANT_CFG .plantFar
  else if n = s.tim.plantSel then s
  else if decide (s.slewLim < r) || decide (r < -s.slewLim) then s.err mid Reg.TIM_PLANT_CFG .plantFar
  else { s with tim := { s.tim with plantSel := n, resid := r, slewing := decide (r ≠ 0) || s.tim.slewing } }

/-- A write of PLANT_SEL. -/
def execPlantSelWrite (mid : Mid) (value : Word) (s : State) : Out :=
  ok (s.busW mid Reg.TIM_PLANT_CFG fun s => plantSelWrite s mid value)

/-- SLEW_DONE (R26): the residual has reached zero. -/
def execSlewDone (s : State) : Out :=
  ok (if s.tim.slewing && s.tim.resid == 0 then
    { s with tim := { s.tim with slewing := false } }.event 0x06 2 else s)

/-- LOCK_LOST (R32): 1.5 tracked periods have passed since the last accepted edge of a locked GAU. -/
def execLockLost (s : State) : Out :=
  ok (match s.gau.lastEdge with
    | some t =>
      if s.gau.locked && decide (3 * s.gau.tracked ≤ 8 * s.since t) then
        { s with gau := { s.gau with locked := false, src := .holdover, holdFrom := t, periods := [] } }.event 0x07 1
      else s
    | none => s)

/-- A write of GAU_CFG (R28, R33): clearing PHREF_EN enters the nominal timeline at once, setting it starts a new sequence. -/
def gauCfgWrite (s : State) (mid : Mid) (v : Word) : State :=
  if s.pageLocked 0x07 then s.err mid Reg.GAU_GAU_CFG .locked
  else
    let was := s.bit Reg.GAU_GAU_CFG 1
    let s := s.regWrite mid Reg.GAU_GAU_CFG v
    let now := s.bit Reg.GAU_GAU_CFG 1
    let s := if was == now then s else { s with gau := { s.gau with lastEdge := none, periods := [] } }
    if !now && s.gau.src != .nominal then s.enterNominal else s.nominalMoved

/-- A write of CYC_BIAS_AT (R388): a cycle ahead, compared at 32 bits, is armed; any other applies the change at once. -/
def cycBiasAtWrite (s : State) (v : Word) : State :=
  let s := s.setReg Reg.GAU_CYC_BIAS_AT v
  let d := sdiff 32 v.toNat s.cycle
  if 0 < d then { s with gau := { s.gau with biasAt := some (cycWrap (s.gau.cyc + d)) } } else s.applyBias

/-- GAU_SLEW_DONE (R30, R31, R33): the difference being slewed out has reached zero. -/
def execGauSlewDone (s : State) : Out :=
  ok (if s.gau.slewing && s.gau.slew == 0 then { s with gau := { s.gau with slewing := false } } else s)

/-- NOMINAL_CROSSING (R37): in holdover or on the nominal timeline the accumulator has passed the end of the present cycle; the cycle number advances,
and CYC_ERA with it at a wrap of CYCLE. -/
def execNominalCrossing (s : State) : Out :=
  ok (if s.gau.src != .phref && decide (0 ≤ posDiff s.gau.pos ((s.gau.cyc + 1) * oneCycle)) then
    { s with gau := { s.gau with cyc := cycWrap (s.gau.cyc + 1) } }.atCrossing else s)

/-- PPS_IN_EDGE (R44): a selected edge is captured. -/
def execPpsInEdge (falling : Bool) (s : State) : Out :=
  ok (if s.bit Reg.TIM_PPS_IN_CFG 0 && s.bit Reg.TIM_PPS_IN_CFG 1 == falling then
    let s := (s.setReg Reg.TIM_PPS_IN_ODO_LO s.odoLo).setReg Reg.TIM_PPS_IN_ODO_HI s.odoHi
    let s := (s.wr Reg.TIM_PPS_IN_PT_NS (timeNs s.plant)).bump Reg.TIM_PPS_IN_SEQ
    { s with tim := { s.tim with ppsLast := some s.tim.odo } }.event 0x06 0
  else s)

/-- PPS_MISSING (R44): 1.1 s without an edge since the previous one. -/
def execPpsMissing (s : State) : Out :=
  ok (match s.tim.ppsLast with
    | some t =>
      if s.bit Reg.TIM_PPS_IN_CFG 0 && decide (secT 11 ≤ 10 * s.since t) then
        { s with tim := { s.tim with ppsLast := none } }.event 0x06 1
      else s
    | none => s)

/-- PPS_OUT_EDGE (R45): a whole second of plant time plus PPS_OUT_OFS has been reached that has not been given. -/
def execPpsOutEdge (s : State) : Out :=
  ok (if s.bit Reg.TIM_PPS_OUT_CFG 0 && s.ppsDue then
        let n := s.ppsSecond
        { s with tim := { s.tim with ppsSec := some ((s.tim.ppsSec.map (max n)).getD n), ppsLand := none, ppsPulse := some s.tim.odo } }
      else s)

/-- PPS_OUT_PULSE_END (R45): PPS_OUT_WIDTH has passed. -/
def execPpsOutPulseEnd (s : State) : Out :=
  ok (match s.tim.ppsPulse with
    | some t =>
      if usT (s.rd Reg.TIM_PPS_OUT_WIDTH) ≤ s.since t then { s with tim := { s.tim with ppsPulse := none } } else s
    | none => s)

end Sys2Proof.Machine
end

