-- ==== Sys2Proof/Machine/Can.lean ====
section
/-! DEFINITION. The CAN FD controllers (R268 to R285). `l` is the controller, 0 or 1, on page 0x15 + l. -/

namespace Sys2Proof.Machine

/-- The page of a controller. -/
def canPage (l : Nat) : Nat := 0x15 + l

/-- A queued or received word 0 asks for an extended identifier. -/
def canXtd (w0 : Word) : Bool := w0.getLsbD 29

/-- Bytes a DLC carries (R268). -/
def canLen (fdf : Bool) (dlc : Nat) : Nat :=
  if dlc ≤ 8 then dlc
  else if !fdf then 8
  else [12, 16, 20, 24, 32, 48, 64].getD (dlc - 9) 64

/-- PSR code of an error. -/
def canErrorCode : CanError → Nat
  | .stuff => 1 | .form => 2 | .ack => 3 | .bit1 => 4 | .bit0 => 5 | .crc => 6

/-- The error is a bit error (R282). -/
def canErrorBit : CanError → Bool
  | .bit1 | .bit0 => true
  | _ => false

namespace State

/-- A controller. -/
def can (s : State) (l : Nat) : Can := if l = 0 then s.can0 else s.can1

/-- Set a controller. -/
def setCan (s : State) (l : Nat) (c : Can) : State := if l = 0 then { s with can0 := c } else { s with can1 := c }

/-- CAN_CTRL.INIT. -/
def canInit (s : State) (l : Nat) : Bool := s.bit (Reg.CAN_CAN_CTRL l) 0

/-- A controller's event. -/
def canEvt (s : State) (l b : Nat) : State := s.event (canPage l) b

/-- A controller takes part in bus traffic: it has left INIT, is not BUS_OFF, and stands in no protocol exception (R268). -/
def canOn (s : State) (l : Nat) : Bool := ((s.can l).state == 1 || (s.can l).state == 2) && !(s.can l).excepted

/-- The state the counters give (R283). -/
def canStateOf (c : Can) : Nat :=
  if 255 < c.tec then 3 else if 128 ≤ c.tec ∨ 128 ≤ c.rec_ then 2 else 1

/-- WARN (R283). -/
def canWarn (c : Can) : Bool := decide (96 ≤ c.tec) || decide (96 ≤ c.rec_)

/-- New error counters (R283): the state follows, and a change sets ERR_WARN, ERR_PASSIVE or BUS_OFF; BUS_OFF ends the attempt (R284). -/
def canCount (s : State) (l tec rec' : Nat) : State :=
  let c := s.can l
  let c' := { c with tec := tec, rec_ := min 255 rec' }
  let st := canStateOf c'
  let s := s.setCan l { c' with state := st, flying := c.flying && st != 3 }
  let s := s.eventIf (canWarn c != canWarn c') (canPage l) 5
  let s := s.eventIf (c.state != st && st != 3 && (st == 2 || c.state == 2)) (canPage l) 6
  s.eventIf (c.state != 3 && st == 3) (canPage l) 7

/-! ### Receiving (R273 to R275) -/

/-- An element, with its FLT_ID and FLT_MASK, matches a frame (R273). -/
def fltMatch (e : Nat × Word × Word) (w0 w1 : Word) : Bool :=
  let id := e.2.1
  let mk := e.2.2
  let m := mk &&& 0x1FFFFFFF
  let typ := bitsOf mk.toNat 29 2
  let fdf := w1.getLsbD 4
  (w0 &&& m) == (id &&& m) && id.getLsbD 29 == w0.getLsbD 29
    && (typ == 0 || (typ == 1 && !fdf) || (typ == 2 && fdf))
    && (bitsOf id.toNat 30 2 == 1 || bitsOf id.toNat 30 2 == 2)

/-- The elements of a controller's enabled sets, in the order of R273. -/
def fltNow (s : State) (l : Nat) : List (Nat × Word × Word) :=
  (s.filters.filter fun e => e.2.ctl == l && e.2.en).flatMap fun e => (List.range e.2.count).map fun i =>
    (e.2.first + i, s.reg (Reg.CAN_FLT_ID l (e.2.first + i)), s.reg (Reg.CAN_FLT_MASK l (e.2.first + i)))

/-- The elements that filter a frame: those in use at its SOF (R274). -/
def fltOrder (s : State) (l : Nat) (sof : BitVec 64) : List (Nat × Word × Word) :=
  (((s.can l).fltHist.find? fun e => decide (s.since sof ≤ s.since e.1)).map (·.2)).getD []

/-- What filters frames has changed: it stands from the next SOF (R274). What an earlier SOF may still need is kept, which is what stood 10 ms ago and
since: no frame lasts longer at 125 kbit/s. -/
def fltChanged (s : State) (l : Nat) : State :=
  let c := s.can l
  let recent := c.fltHist.takeWhile fun e => decide (s.since e.1 ≤ msT 10)
  let before := (c.fltHist.drop recent.length).take 1
  s.setCan l { c with fltHist := (s.tim.odo, s.fltNow l) :: (recent ++ before) }

/-- A frame is filtered and enters the receive FIFO, or is discarded or dropped (R273, R275). -/
def rxPlace (s : State) (l : Nat) (sof : BitVec 64) (stamp w0 w1 : Word) (own : Bool) (data : List Nat) : State :=
  let hit := (s.fltOrder l sof).find? fun e => fltMatch e w0 w1
  let accept := match hit with
    | some e => bitsOf e.2.1.toNat 30 2 == 1
    | none => s.bit (Reg.CAN_CAN_CTRL l) 8
  if !accept then s
  else
    let c := s.can l
    if 64 ≤ c.rxf.length then (s.bump (Reg.CAN_RX_OVF l)).canEvt l 1
    else
      let n := if w0.getLsbD 30 then 0 else canLen (w1.getLsbD 4) (w1.toNat % 16)
      let w1' := w32 (w1.toNat % 64 + 64 * b2n own + 256 * (hit.elim 0 (·.1)) + 2 ^ 14 * b2n hit.isNone + 2 ^ 16 * n)
      let c := { c with rxf := c.rxf ++ [{ w0 := w0, w1 := w1', stamp := stamp, seq := c.rxSeq, data := data.take n }],
                        rxSeq := (c.rxSeq + 1) % 2 ^ 16 }
      (s.setCan l c).eventIf (decide (s.fld (Reg.CAN_RXF_WM l) 0 7 ≤ c.rxf.length)) (canPage l) 0

/-- The SOF stamp of an edge at the contact: 0 ns to 40 ns after it (R276; log entry 4). -/
def sofStamp (s : State) (sof : BitVec 64) : Word := (sof + BitVec.ofNat 64 (s.freeWord.toNat % 11)).setWidth 32

/-! ### Transmitting (R277 to R282) -/

/-- An entry that leaves the transmit FIFO writes a TX event (R280). -/
def txEvent (s : State) (l : Nat) (e : CanTx) (outcome : Nat) : State :=
  let c := s.can l
  if 32 ≤ c.txe.length then (s.bump (Reg.CAN_TXE_OVF l)).canEvt l 3
  else s.setCan l { c with txe := c.txe ++ [(w32 (e.tag + 256 * outcome + 2 ^ 16 * min 255 e.attempts), e.stamp, e.w0, e.w1)] }

/-- The head entry leaves with an outcome; an empty FIFO sets TX_EMPTY. -/
def txLeave (s : State) (l outcome : Nat) : State :=
  let c := s.can l
  match c.txf with
  | [] => s
  | e :: r =>
    let s := (s.setCan l { c with txf := r, flying := false }).txEvent l e outcome
    s.eventIf r.isEmpty (canPage l) 4

/-- An end of an attempt that is no success (R279, R281): a cancelled entry is removed, a counted attempt may be the last one. -/
def txRetry (s : State) (l : Nat) (counts : Bool) : State :=
  let c := s.can l
  match c.txf with
  | [] => s
  | e :: r =>
    let e := if counts then { e with attempts := e.attempts + 1 } else e
    let s := s.setCan l { c with txf := e :: r, flying := false }
    let limit := s.fld (Reg.CAN_TX_RETRY l) 0 8
    if e.cancelled then s.txLeave l 2
    else if counts && limit != 0 && decide (limit ≤ e.attempts) then s.txLeave l 4
    else s

/-- The measured delay of an FD frame with BRS (R272): the first edge not filtered out; a sum above 127 sets TDC_RANGE. -/
def tdcMeasure (s : State) (l : Nat) (w1 : Word) (edges : List Nat) : State :=
  if s.bit (Reg.CAN_CAN_CTRL l) 10 && w1.getLsbD 4 && w1.getLsbD 5 then
    match edges.find? fun e => decide (s.fld (Reg.CAN_TDC l) 8 7 ≤ e) with
    | some v => (s.wr (Reg.CAN_TDCV l) (min 127 v)).eventIf (decide (127 < v + s.fld (Reg.CAN_TDC l) 0 7)) (canPage l) 11
    | none => s
  else s

/-- An error for PSR, by phase. -/
def psrError (s : State) (l : Nat) (k : CanError) (dataPhase : Bool) : State :=
  s.setFld (Reg.CAN_PSR l) (if dataPhase then 4 else 0) 3 (canErrorCode k)

/-- Nominal and data bit time in CAN clocks (R271). -/
def nbtClocks (s : State) (l : Nat) : Nat :=
  (s.fld (Reg.CAN_NBT l) 0 8 + 1) * (3 + s.fld (Reg.CAN_NBT l) 8 8 + s.fld (Reg.CAN_NBT l) 16 7)

/-- Data bit time in CAN clocks. -/
def dbtClocks (s : State) (l : Nat) : Nat :=
  (s.fld (Reg.CAN_DBT l) 0 5 + 1) * (3 + s.fld (Reg.CAN_DBT l) 8 5 + s.fld (Reg.CAN_DBT l) 16 4)

/-- The configuration check of R270 for a value of CAN_CTRL: nominal rate 125 kbit/s to 1 Mbit/s (320 to 40 clocks a bit), data rate up to
8 Mbit/s (5 clocks), field ranges of R271 and the TDC rule. -/
def canCfgOk (s : State) (l : Nat) (ctrl : Nat) : Bool :=
  let n := s.nbtClocks l
  let d := s.dbtClocks l
  let fd := ctrl.testBit 1
  let tseg1 := s.fld (Reg.CAN_NBT l) 8 8 + 1
  decide (40 ≤ n) && decide (n ≤ 320) && (!fd || (decide (5 ≤ d) && decide (d ≤ n)))
    && decide (2 ≤ tseg1)
    && decide (s.fld (Reg.CAN_NBT l) 24 7 ≤ s.fld (Reg.CAN_NBT l) 16 7)
    && decide (s.fld (Reg.CAN_DBT l) 24 4 ≤ s.fld (Reg.CAN_DBT l) 16 4)
    && (ctrl.testBit 10 || !(ctrl.testBit 2 && decide (d < 40)))

/-- The controller leaves bus traffic and stands in INIT with counters 0. -/
def canToInit (s : State) (l : Nat) : State :=
  s.setCan l { s.can l with state := 0, idleWait := false, recovering := false, tec := 0, rec_ := 0, flying := false, clash := 0, excepted := false }

end State

/-- The CAN_CTRL bits that exist. -/
def canCtrlMask : Word := 0x7FF#32

/-- A write of CAN_CTRL (R270, R284). Fields other than INIT change only while INIT is 1; clearing INIT checks the configuration. -/
def canCtrlWrite (s : State) (l : Nat) (mid : Mid) (v : Word) : State :=
  let a := Reg.CAN_CAN_CTRL l
  let v := v &&& canCtrlMask
  if s.canInit l then
    if v.getLsbD 0 then s.setReg a v
    else if s.canCfgOk l v.toNat then
      (s.setReg a v).setCan l { s.can l with idleWait := true, state := 0, tec := 0, rec_ := 0 }
    else s.err mid a .range
  else
    let s' := if (v ^^^ s.reg a) &&& 0x7FE = 0 then s else s.err mid a .state
    if v.getLsbD 0 then (s'.setBit a 0 true).canToInit l else s'

/-- CAN_INIT_CLEAR (R270): a write of CAN_CTRL with INIT = 0. -/
def execCanInitClear (ctl : Fin 2) (mid : Mid) (value : Word) (s : State) : Out :=
  ok (s.busW mid (Reg.CAN_CAN_CTRL ctl.val) fun s => canCtrlWrite s ctl.val mid (value &&& 0xFFFFFFFE))

/-- CAN_INIT_SET (R270, R284): a write of CAN_CTRL with INIT = 1. -/
def execCanInitSet (ctl : Fin 2) (mid : Mid) (value : Word) (s : State) : Out :=
  ok (s.busW mid (Reg.CAN_CAN_CTRL ctl.val) fun s => canCtrlWrite s ctl.val mid (value ||| 1))

/-- CAN_BUS_IDLE (R268, R270): 11 recessive bits have been seen; after INIT the controller is ERROR_ACTIVE with both counters at 0, and a protocol
exception ends. -/
def execCanBusIdle (ctl : Fin 2) (s : State) : Out :=
  ok (let c := s.can ctl.val
      if c.idleWait && !s.canInit ctl.val then s.setCan ctl.val { c with idleWait := false, state := 1, tec := 0, rec_ := 0 }
      else if c.excepted then s.setCan ctl.val { c with excepted := false } else s)

/-- RECOVER (R284). -/
def canRecover (s : State) (l : Nat) (mid : Mid) : State :=
  let c := s.can l
  if c.state = 3 then s.setCan l { c with recovering := true } else s.err mid (Reg.CAN_CAN_CMD l) .state

/-- A write of RECOVER to CAN_CMD. -/
def execRecover (ctl : Fin 2) (mid : Mid) (s : State) : Out :=
  ok (s.busW mid (Reg.CAN_CAN_CMD ctl.val) fun s => canRecover s ctl.val mid)

/-- CAN_RECOVERED (R284): the wait is over; ERROR_ACTIVE with both counters at 0. -/
def execCanRecovered (ctl : Fin 2) (s : State) : Out :=
  ok (let c := s.can ctl.val
      if c.recovering then
        ((s.setCan ctl.val { c with recovering := false, state := 1, tec := 0, rec_ := 0 }).bump (Reg.CAN_BUSOFFS ctl.val)).canEvt ctl.val 8
      else s)

/-- TX_FLUSH (R284): every queued entry leaves with outcome FLUSHED, in BUS_OFF or with INIT at 1. -/
def txFlush (s : State) (l : Nat) (mid : Mid) : State :=
  if (s.can l).state = 3 ∨ s.canInit l then
    (List.replicate (s.can l).txf.length ()).foldl (fun s _ => s.txLeave l 5) s
  else s.err mid (Reg.CAN_CAN_CMD l) .state

/-- A write of TX_FLUSH to CAN_CMD. -/
def execTxFlush (ctl : Fin 2) (mid : Mid) (s : State) : Out :=
  ok (s.busW mid (Reg.CAN_CAN_CMD ctl.val) fun s => txFlush s ctl.val mid)

/-- RXF_FLUSH empties the receive FIFO. -/
def rxfFlush (s : State) (l : Nat) : State := s.setCan l { s.can l with rxf := [] }

/-- A write of RXF_FLUSH to CAN_CMD. -/
def execRxfFlush (ctl : Fin 2) (mid : Mid) (s : State) : Out :=
  ok (s.busW mid (Reg.CAN_CAN_CMD ctl.val) fun s => rxfFlush s ctl.val)

/-- TXE_FLUSH empties the TX event FIFO. -/
def txeFlush (s : State) (l : Nat) : State := s.setCan l { s.can l with txe := [] }

/-- A write of TXE_FLUSH to CAN_CMD. -/
def execTxeFlush (ctl : Fin 2) (mid : Mid) (s : State) : Out :=
  ok (s.busW mid (Reg.CAN_CAN_CMD ctl.val) fun s => txeFlush s ctl.val)

/-- CAN_FRAME_RX (R273, R275, R276, R283): a frame's last EOF bit has passed without error. The receive error count falls as ISO 11898-1 has it: by
one, or from above 127 to a value of 119 to 127 that the standard leaves open (log entry 4). With LOOP_INT set the bus is not listened to. -/
def execCanFrameRx (ctl : Fin 2) (sof : BitVec 64) (w0 : Word) (w1 : Word) (data : List Nat) (s : State) : Out :=
  let l := ctl.val
  ok (if s.canOn l && !s.bit (Reg.CAN_CAN_CTRL l) 5 then
    let c := s.can l
    let r := if 127 < c.rec_ then 119 + (Config.freeWord (s.free + 1)).toNat % 9 else c.rec_ - 1
    let stamp := s.sofStamp sof
    let s := s.drawFree.drawFree
    let s := (s.bump (Reg.CAN_RX_OK l)).canCount l c.tec r
    let s := if w1.getLsbD 4 then (s.setBit (Reg.CAN_PSR l) 8 (w0.getLsbD 31)).setBit (Reg.CAN_PSR l) 9 (w1.getLsbD 5) else s
    s.rxPlace l sof stamp w0 (w1 &&& 0x3F) false data
  else s)

/-- CAN_RX_ERROR (R268, R283): an error while receiving raises REC; a recessive res bit is a protocol exception with PXE set, a form error
without. With LOOP_INT set the bus is not listened to. -/
def execCanRxError (ctl : Fin 2) (what : CanRxFault) (s : State) : Out :=
  let l := ctl.val
  ok (if s.canOn l && !s.bit (Reg.CAN_CAN_CTRL l) 5 then
    let c := s.can l
    match what with
    | .error k d rise => (s.psrError l k d).canCount l c.tec (c.rec_ + rise)
    | .resBit =>
      if s.bit (Reg.CAN_CAN_CTRL l) 3 then ((s.setCan l { c with excepted := true }).setBit (Reg.CAN_PSR l) 10 true).canEvt l 10
      else (s.psrError l .form false).canCount l c.tec (c.rec_ + 1)
  else s)

/-- CAN_TX_SOF (R276, R281): SOF of the head entry is driven, and stamped from the edge that returns. -/
def execCanTxSof (ctl : Fin 2) (s : State) : Out :=
  let l := ctl.val
  ok (let c := s.can l
      match c.txf with
      | e :: r =>
        if s.canOn l && !c.flying && !s.bit (Reg.CAN_CAN_CTRL l) 4 then
          let stamp := s.sofStamp s.tim.odo
          s.drawFree.setCan l { c with txf := { e with stamp := stamp } :: r, flying := true, sofAt := s.tim.odo }
        else s
      | [] => s)

/-- How an attempt ends with the self-acknowledgement of LOOP_EXT (R268). -/
def canEndOf (loopExt : Bool) (how : CanEnd) : CanEnd :=
  match how with
  | .error .ack _ _ _ => if loopExt then .sent else how
  | _ => how

/-- CAN_TX_ATTEMPT_END (R272, R278, R279, R281 to R283): the head entry's attempt ends. Success lowers TEC by one, an error raises it by 8 as
often as ISO 11898-1 says. With LOOP_EXT the controller acknowledges its own frames, so that no attempt ends in an ack error (R268). -/
def execCanTxAttemptEnd (ctl : Fin 2) (how : CanEnd) (edges : List Nat) (s : State) : Out :=
  let l := ctl.val
  ok (let c := s.can l
      match c.txf with
      | e :: _ =>
        if !c.flying then s
        else
          let s := s.tdcMeasure l e.w1 edges
          match canEndOf (s.bit (Reg.CAN_CAN_CTRL l) 6) how with
          | .sent =>
            let w0 := (e.w0 &&& 0x7FFFFFFF) ||| (if c.state = 2 ∧ e.w1.getLsbD 4 then 0x80000000 else 0)
            let bytes := (e.data.map wordBytes').flatten
            let s := s.setCan l { c with clash := 0 }
            let s := ((s.bump (Reg.CAN_TX_OK l)).canCount l (c.tec - 1) c.rec_).canEvt l 2
            let s := if s.bit (Reg.CAN_CAN_CTRL l) 7 then s.rxPlace l c.sofAt e.stamp w0 (e.w1 &&& 0x3F) true bytes else s
            let c := s.can l
            let s := s.setCan l { c with txf := match c.txf with
              | x :: r => { x with attempts := x.attempts + 1 } :: r
              | [] => [] }
            s.txLeave l (if e.cancelled then 3 else 1)
          | .arbLost => ((s.setCan l { c with clash := 0 }).bump (Reg.CAN_ARB_LOST l)).txRetry l false
          | .error k d inField steps =>
            let n := if canErrorBit k && inField then c.clash + 1 else 0
            let due := n != 0 && n % 3 == 0
            let s := s.setCan l { c with clash := n, clashDue := if due then some (e.w0, e.tag) else c.clashDue }
            let s := (s.psrError l k d).canCount l (c.tec + 8 * steps) c.rec_
            s.txRetry l true
      | [] => s)
where
  /-- The bytes of a data word, byte 0 first. -/
  wordBytes' (w : Word) : List Nat := (List.range 4).map fun i => bitsOf w.toNat (8 * i) 8

/-- CAN_ID_CLASH (R282): the third attempt in a row that ended in a bit error in the DLC or data field is recorded; with CLASH_ACT the entry is removed. -/
def execCanIdClash (ctl : Fin 2) (s : State) : Out :=
  let l := ctl.val
  ok (let c := s.can l
      match c.clashDue with
      | none => s
      | some (id, tag) =>
        let s := s.setCan l { c with clashDue := none }
        let s := ((s.setReg (Reg.CAN_CLASH_ID l) (id &&& 0x3FFFFFFF)).bump (Reg.CAN_CLASH_CNT l)).canEvt l 9
        let s := s.fixedEvent 0x021 [w32 l, id &&& 0x3FFFFFFF, s.reg (Reg.CAN_CLASH_CNT l)]
        match c.txf with
        | e :: _ => if s.bit (Reg.CAN_CAN_CTRL l) 9 && e.tag == tag then (s.setCan l { s.can l with clash := 0 }).txLeave l 6 else s
        | [] => s)

/-- A write of TX_PUSH (R277). -/
def txPush (s : State) (l : Nat) (mid : Mid) (v : Word) : State :=
  let a := Reg.CAN_TX_PUSH l
  let c := s.can l
  let ctrl := s.rd (Reg.CAN_CAN_CTRL l)
  let w0 := s.reg (Reg.CAN_TXB l 0)
  let w1 := s.reg (Reg.CAN_TXB l 1)
  let fdf := w1.getLsbD 4
  let brs := w1.getLsbD 5
  if !v.getLsbD 0 then s
  else if 32 ≤ c.txf.length then s.err mid a .txFull
  else if (fdf && !ctrl.testBit 1) || (brs && (!fdf || !ctrl.testBit 2)) || (w0.getLsbD 30 && fdf) then s.err mid a .range
  else if s.canInit l || c.state = 3 then s.err mid a .state
  else
    let e : CanTx := { tag := c.nextTag, w0 := w0 &&& 0x7FFFFFFF, w1 := w1 &&& 0x3F,
                       data := (List.range 16).map fun i => s.reg (Reg.CAN_TXB l (2 + i)) }
    (s.setCan l { c with txf := c.txf ++ [e], nextTag := (c.nextTag + 1) % 256 }).wr (Reg.CAN_TX_TAG l) c.nextTag

/-- TX_PUSH. -/
def execTxPush (ctl : Fin 2) (mid : Mid) (value : Word) (s : State) : Out :=
  ok (s.busW mid (Reg.CAN_TX_PUSH ctl.val) fun s => txPush s ctl.val mid value)

/-- A write of TX_CANCEL (R281). -/
def txCancel (s : State) (l : Nat) (v : Word) : State :=
  let tag := v.toNat % 256
  let c := s.can l
  let stat (s : State) (n : Nat) : State := s.wr (Reg.CAN_CXL_STAT l) (n + 256 * tag)
  match c.txf.find? fun e => e.tag == tag with
  | none => stat s 3
  | some e =>
    if c.flying && c.txf.head?.elim false fun h => h.tag == tag then
      stat (s.setCan l { c with txf := c.txf.map fun x => if x.tag == tag then { x with cancelled := true } else x }) 2
    else
      let r := c.txf.filter fun x => x.tag != tag
      stat (((s.setCan l { c with txf := r }).txEvent l e 2).eventIf r.isEmpty (canPage l) 4) 1

/-- TX_CANCEL. -/
def execTxCancel (ctl : Fin 2) (mid : Mid) (value : Word) (s : State) : Out :=
  ok (s.busW mid (Reg.CAN_TX_CANCEL ctl.val) fun s => txCancel s ctl.val value)

/-- A write of RXF_POP (R275). -/
def rxfPop (s : State) (l : Nat) (v : Word) : State :=
  if v.getLsbD 0 then s.setCan l { s.can l with rxf := (s.can l).rxf.drop 1 } else s

/-- RXF_POP. -/
def execRxfPop (ctl : Fin 2) (mid : Mid) (value : Word) (s : State) : Out :=
  ok (s.busW mid (Reg.CAN_RXF_POP ctl.val) fun s => rxfPop s ctl.val value)

/-- A write of TXE_POP (R280). -/
def txePop (s : State) (l : Nat) (v : Word) : State :=
  if v.getLsbD 0 then s.setCan l { s.can l with txe := (s.can l).txe.drop 1 } else s

/-- TXE_POP. -/
def execTxePop (ctl : Fin 2) (mid : Mid) (value : Word) (s : State) : Out :=
  ok (s.busW mid (Reg.CAN_TXE_POP ctl.val) fun s => txePop s ctl.val value)

/-! ### Filter sets (R273, R274) -/

namespace State

/-- A filter set handle (R11); a set of the other controller is refused with WRONG_CTL. -/
def fsHandle (s : State) (l : Nat) : Except ErrCode (Nat × FilterSet) :=
  match s.checkHandle .filter (fun i => (s.filters.find? i).isSome) (s.reg (Reg.CAN_FS_HANDLE l)) with
  | .error e => .error e
  | .ok i =>
    match s.filters.find? i with
    | none => .error .handleStale
    | some f => if f.ctl = l then .ok (i, f) else .error .wrongCtl

end State

/-- A write of CREATE to FS_CMD (R274). -/
def fsCreate (s : State) (l : Nat) (mid : Mid) : State :=
  let a := Reg.CAN_FS_CMD l
  let first := s.fld (Reg.CAN_FS_RANGE l) 0 6
  let count := s.fld (Reg.CAN_FS_RANGE l) 16 7
  match s.filters.firstFree HClass.filter.limit with
  | none => s.err mid a .fsFull
  | some i =>
    if count = 0 ∨ 64 < first + count then s.err mid a .range
    else if s.filters.any fun e => e.2.ctl == l && decide (e.2.first < first + count) && decide (first < e.2.first + e.2.count) then
      s.err mid a .fsOverlap
    else
      let s := s.newGen .filter i
      let f : FilterSet := { ctl := l, first := first, count := count, en := false }
      { s with filters := s.filters.set i f }.setReg (Reg.CAN_FS_HANDLE l) (s.handleOf .filter i)

/-- FS_CREATE. -/
def execFsCreate (ctl : Fin 2) (mid : Mid) (s : State) : Out :=
  ok (s.busW mid (Reg.CAN_FS_CMD ctl.val) fun s => fsCreate s ctl.val mid)

/-- An operation on the set named in FS_HANDLE. -/
def fsOp (s : State) (l : Nat) (mid : Mid) (eff : State → Nat → FilterSet → State) : State :=
  match s.fsHandle l with
  | .error e => s.err mid (Reg.CAN_FS_CMD l) e
  | .ok (i, f) => eff s i f

/-- DESTROY. -/
def fsDestroy (s : State) (l : Nat) (mid : Mid) : State := fsOp s l mid fun s i _ => { s with filters := s.filters.erase i }.fltChanged l

/-- FS_DESTROY. -/
def execFsDestroy (ctl : Fin 2) (mid : Mid) (s : State) : Out :=
  ok (s.busW mid (Reg.CAN_FS_CMD ctl.val) fun s => fsDestroy s ctl.val mid)

/-- ENABLE and DISABLE take effect from the next SOF (R274). -/
def fsEnable (s : State) (l : Nat) (mid : Mid) (en : Bool) : State :=
  fsOp s l mid fun s i f => { s with filters := s.filters.set i { f with en := en } }.fltChanged l

/-- FS_ENABLE. -/
def execFsEnable (ctl : Fin 2) (mid : Mid) (s : State) : Out :=
  ok (s.busW mid (Reg.CAN_FS_CMD ctl.val) fun s => fsEnable s ctl.val mid true)

/-- FS_DISABLE. -/
def execFsDisable (ctl : Fin 2) (mid : Mid) (s : State) : Out :=
  ok (s.busW mid (Reg.CAN_FS_CMD ctl.val) fun s => fsEnable s ctl.val mid false)

/-- QUERY. -/
def fsQuery (s : State) (l : Nat) (mid : Mid) : State :=
  fsOp s l mid fun s _ f => s.wr (Reg.CAN_FS_RANGE l) (f.first + 2 ^ 16 * f.count)

/-- FS_QUERY. -/
def execFsQuery (ctl : Fin 2) (mid : Mid) (s : State) : Out :=
  ok (s.busW mid (Reg.CAN_FS_CMD ctl.val) fun s => fsQuery s ctl.val mid)

/-- A write of a filter element (R274): IN_USE in an enabled set; TYPE 3 is refused with RANGE. -/
def fltWrite (s : State) (l : Nat) (mid : Mid) (k : Nat) (mask : Bool) (v : Word) : State :=
  let a := if mask then Reg.CAN_FLT_MASK l k else Reg.CAN_FLT_ID l k
  if s.filters.any fun e => e.2.ctl == l && e.2.en && decide (e.2.first ≤ k) && decide (k < e.2.first + e.2.count) then s.err mid a .inUse
  else if mask ∧ bitsOf v.toNat 29 2 = 3 then s.err mid a .range
  else s.setReg a (if mask then v &&& 0x7FFFFFFF else v)

/-- FLT_WRITE. -/
def execFltWrite (ctl : Fin 2) (mid : Mid) (k : Fin 64) (mask : Bool) (value : Word) (s : State) : Out :=
  ok (s.busW mid (if mask then Reg.CAN_FLT_MASK ctl.val k.val else Reg.CAN_FLT_ID ctl.val k.val) fun s =>
    fltWrite s ctl.val mid k.val mask value)

end Sys2Proof.Machine
end

