-- ==== Sys2Proof/Machine/Causeway.lean ====
section
/-! DEFINITION. The Causeway's frames (R229): the header, the CRC, SEQ and the copies of a frame, the payload of each class (R230 to R232, R261,
R358), and what a lane shows. -/

namespace Sys2Proof.Machine

/-- Byte 0 of a frame, and the key of its class and type. -/
def cswKey (cls type : Nat) : Nat := cls + 16 * type

/-- The bytes of a frame (R229): FLAGS [0] for the classes that go over both lanes. -/
def cswBytes (cls type seq seg : Nat) (payload : List Nat) : List Nat :=
  let b := [cswKey cls type, b2n (decide (cls ≤ 1))] ++ leBytes 2 payload.length ++ leBytes 2 seq ++ leBytes 2 seg ++ payload
  b ++ wordBytes (crc32 b)

/-- A byte list in pieces of `n` bytes, the last one shorter. -/
def inPieces (n : Nat) (b : List Nat) : List (List Nat) :=
  (List.range ((b.length + n - 1) / n)).map fun i => (b.drop (n * i)).take n

/-- A word of flags, bit 0 first. -/
def flagWord : List Bool → Nat
  | [] => 0
  | b :: r => b2n b + 2 * flagWord r

/-! ### Payloads -/

/-- HEARTBEAT (R230), 64 bytes. -/
def hbPayload (h : Heartbeat) : List Nat :=
  [h.role % 256, h.mode % 8 + 8 * b2n h.stopping + 16 * (h.stopTarget % 8), h.tko % 16,
   flagWord [h.slotB, h.leaving, h.handover, h.xtripOut, h.xtripIn]] ++ wordBytes h.health ++ [h.score % 256, h.kReq % 64, h.path % 64, 0]
    ++ wordBytes h.psetDigest ++ wordBytes h.image ++ wordBytes h.cfgTag ++ wordBytes h.stageDigest ++ leBytes 4 h.present ++ leBytes 4 h.cycle
    ++ wordBytes h.odo ++ leBytes 4 h.gauCycle ++ leBytes 4 h.gauAngle ++ leBytes 4 h.ptSec ++ leBytes 4 h.ptNs ++ leBytes 2 h.epoch
    ++ List.replicate 6 0

/-- DEMAND (R230): FIRST_CAUSE and DEMAND. -/
def demandPayload (cause demand : Word) : List Nat := wordBytes cause ++ wordBytes demand

/-- NODE_STATE (R230), 40 bytes. -/
def nodePayload (f : NodeState) : List Nat :=
  leBytes 4 f.joined ++ [f.planVer % 256, 0, 0, 0] ++ (List.range 32).map fun n =>
    let (lane, radio) := (f.nodes[n]?).getD (0, 0)
    lane % 16 + 16 * (radio % 2)

/-- CONTROL (R231), 128 bytes with its own CRC-32. -/
def ctlPayload (f : CtlFrame) : List Nat :=
  let b := [flagWord [f.handover, f.stopping] + 4 * (f.stopTarget % 8) + 32 * b2n f.leaving,
      f.state % 4 + 4 * flagWord [f.path, f.zeroDwell, f.dither, f.oscDerate, f.oscStop, f.srcB],
      f.kind % 4 + 4 * b2n f.fromFrm + 8 * b2n f.charge, f.kReq % 64]
    ++ leBytes 4 f.steps ++ wordBytes f.odo ++ leBytes 4 f.cycle
    ++ [f.curI, f.curD, f.curY, f.volI, f.volD, f.volY, f.pwrI, f.pwrD, f.pwrY, f.ramp].flatMap wordBytes
    ++ [f.b10Chg, f.b2Chg, f.b10Dis, f.b2Dis].flatMap (leBytes 4) ++ leBytes 2 f.dwellLeft ++ leBytes 2 f.ditherLeft
    ++ leInt 4 f.spValue ++ leInt 4 f.spLimit ++ wordBytes f.frmHandle ++ [f.frmStep % 256, f.frmState % 256] ++ leBytes 2 f.frmLoop
    ++ leBytes 4 f.frmTime ++ leInt 8 f.frmCharge ++ [f.fixCur, f.fixVol, f.fixPwr].flatMap (leInt 4)
    ++ leBytes 4 ((f.ref % (2 ^ 24 : Int)).toNat + f.tko % 16 * 2 ^ 24) ++ leBytes 4 f.stopTimer
  b ++ wordBytes (crc32 b)

/-! ### Core state as words (R138, R147) -/

/-- The 32 words of a core state. -/
def coreWords (x : Cell) : List Word :=
  [x.socQ, x.socV, x.socF, x.v1, x.v2, x.h, x.p00, x.p01, x.p02, x.p11, x.p12, x.p22, x.rohm25, x.rp125, x.cp1, x.rp225,
   x.cp2, x.cap, x.capVar, x.varQ, x.sdRate, x.t, x.vLast, x.iLast, w32 x.cycle, x.innov, x.innovVar, x.slope, x.conf, w32 x.fitCount,
   w32 x.flags, w32 x.lastFit]

/-- A core state from its 32 words, with the Fuse extension of a snapshot (R232). -/
def cellOfSnap (c : SnapCell) : Cell :=
  let w (i : Nat) : Word := (c.core[i]?).getD 0
  { socQ := w 0, socV := w 1, socF := w 2, v1 := w 3, v2 := w 4, h := w 5, p00 := w 6, p01 := w 7, p02 := w 8, p11 := w 9, p12 := w 10
    p22 := w 11, rohm25 := w 12, rp125 := w 13, cp1 := w 14, rp225 := w 15, cp2 := w 16, cap := w 17, capVar := w 18, varQ := w 19
    sdRate := w 20, t := w 21, vLast := w 22, iLast := w 23, cycle := (w 24).toNat, innov := w 25, innovVar := w 26, slope := w 27, conf := w 28
    fitCount := (w 29).toNat, flags := (w 30).toNat, lastFit := (w 31).toNat, anchorPt := c.anchorPt, socAnchor := c.socAnchor
    qAnchor := c.qAnchor, conflictN := c.conflictN, lowSpan := c.lowSpan, runValid := c.runValid, varAnchor := c.varAnchor }

/-- A cell as a snapshot carries it. -/
def snapOfCell (i : Nat) (x : Cell) : SnapCell :=
  { cell := i, core := coreWords x, anchorPt := x.anchorPt, socAnchor := x.socAnchor, qAnchor := x.qAnchor, conflictN := x.conflictN
    lowSpan := x.lowSpan, runValid := x.runValid, varAnchor := x.varAnchor }

/-- A cell in a snapshot (R138, R147): 128 and 20 bytes. -/
def snapCellBytes (c : SnapCell) : List Nat :=
  c.core.flatMap wordBytes ++ leBytes 4 c.anchorPt ++ wordBytes c.socAnchor ++ wordBytes c.qAnchor ++ [c.conflictN % 256]
    ++ leBytes 2 (min 65535 c.lowSpan) ++ [b2n c.runValid] ++ wordBytes c.varAnchor

/-- SNAPSHOT (R232): the 64-byte header and the cells. -/
def snapPayload (f : Snapshot) : List Nat :=
  leBytes 4 f.pubSeq ++ leBytes 4 f.cycle ++ leBytes 2 f.cells.length ++ [0, 0]
    ++ [f.rep, f.raw, f.pfDis, f.pfChg, f.taperHi, f.taperLo].flatMap wordBytes ++ List.replicate 28 0 ++ f.cells.flatMap snapCellBytes

/-- The segments of a snapshot (R232): 1,024 bytes each but the last. -/
def snapSegments (f : Snapshot) : List (List Nat) := inPieces 1024 (snapPayload f)

/-- A class 3 frame: its type and its payload (R261). -/
def mbxPayload : MbxFrame → Nat × List Nat
  | .post ch len mid words => (0, [ch, len, mid % 64, 0] ++ ((List.range 8).flatMap fun i => wordBytes (if i < len then words.getD i 0 else 0)))
  | .taken ch mid => (1, [ch, mid % 64, 0, 0])
  | .withdraw ch mid => (2, [ch, mid % 64, 0, 0])
  | .ring ch bits => (3, [ch, 0] ++ leBytes 2 bits)
  | .bellClr ch bits => (4, [ch, 0] ++ leBytes 2 bits)
  | .refuse ch reason => (5, [ch, reason, 0, 0])
  | .endReset mid => (6, [mid % 64, 0, 0, 0])

/-- The segments of an image request (R358). -/
def requestPayloads (serial : Nat) (cert : List Nat) : List (List Nat) :=
  (leBytes 8 serial ++ leBytes 2 cert.length ++ [0, 0] ++ cert.take 1012) :: inPieces 1024 (cert.drop 1012)

/-- The segments of an image (R358): OFFSET, COUNT and up to 1,016 bytes. -/
def dataPayloads (image : List Nat) : List (List Nat) :=
  (inPieces 1016 image).zipIdx.map fun (b, i) => leBytes 4 (1016 * i) ++ leBytes 2 b.length ++ [0, 0] ++ b

namespace State

/-- A lane carries frames. -/
def laneUp (s : State) (lane : Nat) : Bool := (if lane = 0 then s.pair.lane0 else s.pair.lane1) == 2

/-- The Causeway runs: enabled, powered, and a lane up. -/
def cswUp (s : State) : Bool := s.bit Reg.CSW_CSW_CFG 0 && !s.pair.unpowered && (s.laneUp 0 || s.laneUp 1)

/-- A lane as CSW_STAT shows it: 0 down, 1 training, 2 up. A lane that is down trains while CSW is enabled and the partner is present (DEDUCED, log
entry 120). -/
def laneShown (s : State) (lane : Nat) : Nat :=
  if s.laneUp lane then 2 else b2n (s.bit Reg.CSW_CSW_CFG 0 && !s.pair.unpowered && s.pair.present)

/-- Send one frame for each payload (R229): each takes the next SEQ of its class and type; SEG numbers the payloads where `numbered` says so. -/
def cswSend (s : State) (cls type : Nat) (payloads : List (List Nat)) (numbered : Bool := false) : State :=
  if !s.cswUp then s
  else
    let k := cswKey cls type
    let seq := s.pair.cswSeq.get 0 k
    let frames := payloads.zipIdx.map fun (p, i) => cswBytes cls type ((seq + i) % 2 ^ 16) (if numbered then i else 0) p
    { s with pair := { s.pair with cswSeq := s.pair.cswSeq.put 0 k ((seq + payloads.length) % 2 ^ 16), cswOut := s.pair.cswOut.set k frames } }.bump
      Reg.CSW_TX_FRAMES payloads.length

/-- CRC errors in a lane (R229). -/
def cswBad (s : State) (lane n : Nat) : State :=
  if n = 0 then s
  else if lane = 0 then { s with pair := { s.pair with crcAt0 := some s.tim.odo } }.bump Reg.CSW_CRC_ERR0 n
  else { s with pair := { s.pair with crcAt1 := some s.tim.odo } }.bump Reg.CSW_CRC_ERR1 n

/-- A frame is accepted: it came over a lane that is up, its CRC holds, and of classes 0 and 1 it is the first valid copy of its SEQ (R229). -/
def cswAccepts (s : State) (cls type : Nat) (rx : CswRx) : Bool :=
  s.cswUp && s.laneUp rx.lane.val && rx.crcOk && (decide (2 ≤ cls) || s.pair.cswRx.find? (cswKey cls type) != some rx.seq)

/-- A frame arrives: it has its effect where it is accepted, and a CRC error is counted. -/
def cswTake (s : State) (cls type : Nat) (rx : CswRx) (eff : State → State) : State :=
  if s.cswAccepts cls type rx then
    eff ({ s with pair := { s.pair with cswRx := s.pair.cswRx.set (cswKey cls type) rx.seq } }.bump Reg.CSW_RX_FRAMES)
  else if s.cswUp && s.laneUp rx.lane.val && !rx.crcOk then s.cswBad rx.lane.val 1
  else s

/-- A lane that is up has shown no CRC error in the last second (R239). -/
def laneOk (s : State) (lane : Nat) : Bool :=
  s.laneUp lane && (match if lane = 0 then s.pair.crcAt0 else s.pair.crcAt1 with
    | some t => decide (secT 1 < s.since t)
    | none => true)

end State

end Sys2Proof.Machine
end

