-- ==== Sys2Proof/Machine/Recorder.lean ====
section
/-! DEFINITION. The event recorder (R313 to R331): intake, tolls, freeze and blotter, the log and the milestone area, the clear, and the
checkpoint slots; and the commands of page 0x1A. -/

namespace Sys2Proof.Machine

/-- Positions of the circular log (R313). -/
def logSize : Nat := 196608

/-- Positions of the milestone area (R313). -/
def milestoneSize : Nat := 16384

/-- TIME cycles of 0.1 s, the unit of REFILL (R320). -/
def refillT (n : Nat) : Nat := 25000000 * n

/-- Entries the blotter holds (R322). -/
def blotterSize : Nat := 1024

/-- Events the intake holds (R319). -/
def intakeSize : Nat := 256

namespace State

/-- The toll bucket of a code (R320); an unlisted one is full. -/
def toll (s : State) (code : Nat) : Toll := s.recd.tolls.get {} code

/-- Set a bucket. -/
def setToll (s : State) (code : Nat) (t : Toll) : State :=
  { s with recd := { s.recd with tolls := s.recd.tolls.put {} code (if t.burst ≤ t.tokens then { t with since := 0 } else t) } }

/-- A record with the stamps of now (R315); SEQ, BOOT and EPOCH are filled when SEQ is taken. -/
def stampRec (s : State) (code sev mid : Nat) (data : List Word) : LogRec :=
  { code := code, sev := sev, mid := mid, odo := s.tim.odo, ptSec := timeSec s.plant % 2 ^ 32, ptNs := timeNs s.plant,
    cycle := s.cycle, ptInvalid := !s.tim.ptSet, data := data }

/-- A record takes the next SEQ (R315, R319), with the boot count and the epoch. -/
def takeSeq (s : State) (r : LogRec) : State × LogRec :=
  ({ s with recd := { s.recd with nextSeq := (s.recd.nextSeq + 1) % 2 ^ 32 } },
   { r with seq := s.recd.nextSeq, boot := s.rd Reg.REC_BOOT_COUNT, epoch := s.rd Reg.REC_CLEAR_EPOCH })

/-- A record waits for the write port. -/
def enqueue (s : State) (r : LogRec) : State := { s with recd := { s.recd with queue := s.recd.queue ++ [r] } }

/-- A milestone record goes to the milestone area, or finds it full (R317); its log copy. -/
def putMilestone (s : State) (r : LogRec) : State × LogRec :=
  if s.nv.milestones.length < milestoneSize then
    let s := { s with nv := { s.nv with milestones := { r with milestone := true } :: s.nv.milestones } }
    (s.wr Reg.REC_MS_COUNT s.nv.milestones.length, { r with milestone := false })
  else
    let s := if s.recd.msFullSaid then s else { s with recd := { s.recd with msFullSaid := true } }.event 0x1A 7
    (s, { r with milestone := true })

/-- The log is diverted to the blotter: a freeze or the scan (R314, R322). -/
def diverted (s : State) : Bool := s.recd.scanning || s.recd.frozen.isSome

/-- An event that has its token goes on: to the intake, to the blotter, or it is lost (R314, R317, R319, R322, R323). -/
def intake (s : State) (r : LogRec) : State :=
  if s.diverted then
    if blotterSize ≤ s.recd.blotter.length then
      let s := (s.bump Reg.REC_HOLD_LOST).event 0x1A 4
      { s with recd := { s.recd with overflowN := s.recd.overflowN + 1, overflow := some (s.recd.overflow.getD (r.code, s.odoLo)) } }
    else if s.recd.scanning then { s with recd := { s.recd with blotter := s.recd.blotter ++ [r] } }
    else
      let (s, r) := s.takeSeq r
      let (s, r) := if r.milestone then s.putMilestone r else (s, r)
      { s with recd := { s.recd with blotter := s.recd.blotter ++ [r] } }
  else
    let (s, r) := s.takeSeq r
    s.enqueue r

/-- The codes that have no bucket (R321). -/
def tollFree (kind code sev : Nat) : Bool :=
  (kind == 0 && (codeMilestone code || codeSeverity code == 3 || code == 0x007)) || (kind == 2 && sev == 3)

/-- The refills that are due to a bucket (R320). -/
def refilled (s : State) (t : Toll) : Toll :=
  if t.burst ≤ t.tokens then t
  else
    let k := s.since t.since / refillT (max 1 t.refill)
    { t with tokens := min t.burst (t.tokens + k), since := t.since + BitVec.ofNat 64 (k * refillT (max 1 t.refill)) }

/-- The refills due to a code's bucket are made; a bucket that fills with a pending count gives TOLL_SUMMARY (R320, R321). -/
def refill (s : State) (code : Nat) : State :=
  let t := s.toll code
  let u := s.refilled t
  if decide (t.tokens < t.burst) && decide (u.burst ≤ u.tokens) && t.pending != 0 then
    (s.setToll code { u with pending := 0 }).intake (s.stampRec 0x007 1 0 [w32 code, w32 t.pending])
  else s.setToll code u

/-- An event takes a token and goes to the intake, or is suppressed (R320, R321). -/
def tolled (s : State) (kind code : Nat) (r : LogRec) : State :=
  if tollFree kind code r.sev then s.intake r
  else
    let s := s.refill code
    let t := s.toll code
    if t.tokens = 0 then
      ((s.setToll code { t with pending := satAdd 65535 t.pending 1 }).bump Reg.REC_SUPPRESSED).event 0x1A 1
    else
      let t' := { t with tokens := t.tokens - 1, pending := 0, since := if t.tokens = t.burst then s.tim.odo else t.since }
      (s.setToll code t').intake { r with suppressed := t.pending }

/-- An event reaches the intake (R319): stamped there (R315), discarded if the intake is full. -/
def intakeEvent (s : State) (a : Arrival) : State :=
  if !s.diverted && decide (intakeSize ≤ (s.recd.queue.filter fun r => !r.fromBlotter).length) then
    ({ s with recd := { s.recd with gap := true } }.bump Reg.REC_INTAKE_LOST).event 0x1A 8
  else
    let r := s.stampRec a.code a.sev a.mid a.data
    s.tolled a.kind a.code { r with milestone := a.kind == 0 && codeMilestone a.code }

/-- A record the recorder writes of itself. -/
def ownRecord (s : State) (code : Nat) (data : List Word) : State :=
  s.tolled 0 code { s.stampRec code (codeSeverity code) 0 data with milestone := codeMilestone code }

/-- A record is written to MRAM (R315, R317): to the milestone area as well if it is a milestone; the circular log keeps the newest. -/
def writeRec (s : State) (r : LogRec) : State :=
  let r := if s.recd.gap then { r with gap := true } else r
  let s := { s with recd := { s.recd with gap := false } }
  let (s, r) := if r.milestone then s.putMilestone r else (s, r)
  let s := { s with nv := { s.nv with log := (r :: s.nv.log).take logSize } }
  (s.wr Reg.REC_NEWEST_SEQ r.seq).event 0x1A 0

/-- The milestone records that wait behind log records go to the milestone area first (R18): what waits is then their log copies, in
SEQ order (log entry 126). -/
def milestonesFirst (s : State) : State :=
  let step (acc : State × List LogRec) (r : LogRec) : State × List LogRec :=
    if r.milestone && decide (acc.1.nv.milestones.length < milestoneSize) then
      let (s, r) := acc.1.putMilestone { r with gap := r.gap || acc.1.recd.gap }
      ({ s with recd := { s.recd with gap := false } }, acc.2 ++ [r])
    else (acc.1, acc.2 ++ [r])
  let (s, q) := s.recd.queue.foldl step (s, [])
  { s with recd := { s.recd with queue := q } }

/-- The head of the queue is written, behind the milestone area. -/
def writeHead (s : State) : State :=
  let s := s.milestonesFirst
  match s.recd.queue with
  | [] => s
  | r :: q => { s with recd := { s.recd with queue := q } }.writeRec r

/-- Everything that waits for the write port is written, in order. -/
def writeAll (s : State) : State :=
  let s := s.milestonesFirst
  s.recd.queue.foldl writeRec { s with recd := { s.recd with queue := [] } }

/-- Every event that has arisen reaches the intake. -/
def intakeAll (s : State) : State := s.recd.arriving.foldl intakeEvent { s with recd := { s.recd with arriving := [] } }

/-- The HOLD_OVERFLOW record of a freeze or scan that overflowed (R314, R323). -/
def holdOverflow (s : State) : State :=
  match s.recd.overflow with
  | none => s
  | some (c, o) =>
    let n := s.recd.overflowN
    { s with recd := { s.recd with overflow := none, overflowN := 0 } }.ownRecord 0x004 [w32 n, w32 c, o]

/-- The thaw (R323): the blotter drains in SEQ order, THAW follows, then HOLD_OVERFLOW. -/
def thawLog (s : State) (timeout : Bool) : State :=
  let b := s.recd.blotter.map fun r => { r with fromBlotter := true }
  let s := { s with recd := { s.recd with queue := s.recd.queue ++ b, blotter := [], frozen := none } }
  let s := (s.wr Reg.REC_REC_FREEZE 0).event 0x1A 3
  (s.ownRecord 0x006 [w32 b.length, w32 (b2n timeout)]).holdOverflow

/-- REC_NONCE is renewed (R329, R361). -/
def renewRecNonce (s : State) : State :=
  { s with draws := s.draws + 1, recd := { s.recd with nonce := s.draws } }

/-- REC_NONCE. -/
def recNonce (s : State) : Word := Config.random s.recd.nonce

/-- A token as the security block reads it, as MID 0x30 (R361; log entry 123). -/
def tokenRead (s : State) (addr : Nat) : State × List Nat := s.fetchAs (.own .loader) addr 128

/-- The fields of a token (R361) match, and its signature holds under the key of a slot. -/
def tokenOk (s : State) (b : List Nat) (purpose : Nat) (nonce : Word) (slot : Nat) : Bool :=
  leAt b 0 4 == 0x4E4B4F54 && leAt b 4 2 == 1 && leAt b 6 2 == purpose
    && leAt b 8 8 == (Config.fuse Reg.SYS_SERIAL_LO).toNat + 2 ^ 32 * (Config.fuse Reg.SYS_SERIAL_HI).toNat
    && leAt b 16 4 == nonce.toNat && leAt b 20 12 == 0
    && (match s.nv.keys.find? slot with
        | some k => Config.ecdsaOk k (b.take 32) (b.drop 32)
        | none => false)

/-! ### Checkpoints (R326, R327) -/

/-- Bytes 0 to 155 of a cell of a checkpoint (R326). -/
def ckptCellBytes (c : CkptCell) : List Nat :=
  snapCellBytes (snapOfCell 0 c.cell) ++ leBytes 2 c.chem ++ [0, 0] ++ leBytes 4 c.seq

/-- A cell's entry with its CRC. -/
def ckptCell (seq : Nat) (x : Cell) (chem : Nat) : CkptCell :=
  let c : CkptCell := { cell := x, chem := chem, seq := seq }
  { c with crc := crc32 (ckptCellBytes c) }

/-- The header of a checkpoint (R326), bytes 0x000 to 0x3FB. -/
def ckptHead (c : Ckpt) : List Nat :=
  let b := leBytes 4 0x43504B54 ++ leBytes 2 1 ++ leBytes 2 c.cells.length ++ leBytes 4 c.seq ++ leBytes 4 c.cycle ++ leBytes 8 (c.ptSec % 2 ^ 48)
    ++ leBytes 4 c.ptNs ++ leBytes 4 c.pubSeq ++ [c.rep, c.raw, c.pfDis, c.pfChg, c.taperHi, c.taperLo].flatMap wordBytes
  let b := b ++ List.replicate (0x100 - b.length) 0 ++ (List.range 32).flatMap fun n => leBytes 8 (c.serials.get 0 n)
  b ++ List.replicate (0x3FC - b.length) 0

/-- A slot is valid when its header is written and its CRC matches (R326, R327). -/
def ckptValid (c : Ckpt) : Bool := c.valid && c.crc == crc32 (ckptHead c)

/-- The entry of a cell in a slot: its CRC matches and its slot SEQ equals the header's (R328). -/
def ckptEntry (k : Ckpt) (cell : Nat) : Option CkptCell :=
  (k.cells.find? cell).bind fun e => if e.crc == crc32 (ckptCellBytes e) && e.seq == k.seq then some e else none

/-- The slot a checkpoint is written to: the lowest one that is not valid, else the one with the oldest sequence. -/
def oldestSlot (s : State) : Nat :=
  match (List.range 24).find? fun i => !((s.nv.ckpts.find? i).elim false ckptValid) with
  | some i => i
  | none =>
    (List.range 24).foldl (fun best i =>
      let q (j : Nat) := ((s.nv.ckpts.find? j).elim 0 (·.seq))
      if sdiff 32 (q i) (q best) < 0 then i else best) 0

/-- A checkpoint of the published buffer starts: its slot is invalid until its header is written (R327). -/
def ckptStart (s : State) (pubSeq : Nat) : State :=
  let i := s.oldestSlot
  { s with nv := { s.nv with ckpts := s.nv.ckpts.erase i }, recd := { s.recd with ckpt := some (i, pubSeq), ckptLast := s.tim.odo } }

/-- CHEM_ID of a cell's table, 0 if none (R326). -/
def chemIdOf (s : State) (cell : Nat) : Nat :=
  match (s.est.aux.find? cell).bind (·.table) with
  | some t => ((s.est.chems.find? t).elim 0 (·.id))
  | none => 0

/-- The content of a checkpoint of the published buffer (R326). -/
def ckptOf (s : State) (seq pubSeq : Nat) : Ckpt :=
  let plan : Tab Nat := match s.link.plan with
    | some p => p.entries.foldl (fun t e => t.set e.node e.serial) []
    | none => []
  let c : Ckpt :=
    { valid := true, seq := seq, cycle := s.rd Reg.FUS_STR_CYCLE, ptSec := timeSec s.plant, ptNs := timeNs s.plant, pubSeq := pubSeq
      rep := if s.est.repOk then s.est.rep else 0x7fc00000, raw := if s.est.rawOk then s.est.raw else 0x7fc00000, pfDis := s.est.pfDis
      pfChg := s.est.pfChg, taperHi := s.est.taperHi, taperLo := s.est.taperLo, serials := plan
      cells := s.est.pub.map fun e => (e.1, ckptCell seq e.2 (s.chemIdOf e.1)) }
  { c with crc := crc32 (ckptHead c) }

/-- The running checkpoint completes with its header (R326, R327). -/
def ckptFinish (s : State) : State :=
  match s.recd.ckpt with
  | none => s
  | some (i, pub) =>
    if !s.bit Reg.EST_EST_CFG 0 then { s with recd := { s.recd with ckpt := none } }
    else
    let seq := (s.rd Reg.REC_CKPT_SEQ + 1) % 2 ^ 32
    let s := { s with nv := { s.nv with ckpts := s.nv.ckpts.set i (s.ckptOf seq pub) }, recd := { s.recd with ckpt := none } }
    ((s.wr Reg.REC_CKPT_SEQ seq).wr Reg.REC_CKPT_SLOT i).event 0x1A 9

/-- What the recorder does at a loss of both supplies (R325): the freeze ends, blotter and intake drain, POWER_LOSS is written, and a
checkpoint of the last published state if CKPT_EN is set. While the scan runs no SEQ is known and the record waits in the blotter. -/
def powerLossRecord (s : State) (data : List Word) : State :=
  let s := if s.recd.frozen.isSome then s.thawLog false else s
  let s := s.intakeAll.ownRecord 0x003 data
  if s.recd.scanning then s
  else
    let s := s.writeAll
    if s.bit Reg.REC_REC_CFG 0 && s.bit Reg.EST_EST_CFG 0 then ((if s.recd.ckpt.isSome then s else s.ckptStart (s.rd Reg.FUS_PUB_SEQ)).ckptFinish) else s

end State

/-! ### The commands -/

/-- REC_INTAKE (R319 to R323): the first event that has arisen reaches the intake. -/
def execRecIntake (s : State) : Out :=
  ok (match s.recd.arriving with
    | [] => s
    | a :: r => { s with recd := { s.recd with arriving := r } }.intakeEvent a)

/-- REC_WRITE (R315, R317): the oldest waiting record is written. Nothing is written during the scan. -/
def execRecWrite (s : State) : Out := ok (if s.recd.scanning then s else s.writeHead)

/-- The code ranges a master may post in (R316). -/
def postAllowed (mid : Mid) (code : Nat) : Bool :=
  let link := decide (0x520 ≤ code) && decide (code ≤ 0x7FF)
  let firm := decide (0x800 ≤ code) && decide (code ≤ 0xFFF)
  match mid with
  | .own .safety | .own .link => link || firm
  | .own (.core _) | .partner _ => firm
  | _ => false

/-- A write of REC_POST (R318): CODE_DENY outside the range of the MID; otherwise the event arises with the MID's data words. -/
def recPost (s : State) (mid : Mid) (v : Word) : State :=
  let code := v.toNat % 2 ^ 12
  if postAllowed mid code then
    s.arrive 2 code (bitsOf v.toNat 12 4) mid.code ((List.range 6).map fun i => s.recd.posts.get 0 (mid.code * 8 + i))
  else s.err mid Reg.REC_REC_POST .codeDeny

/-- REC_POST. -/
def execRecPost (mid : Mid) (value : Word) (s : State) : Out := ok (s.busW mid Reg.REC_REC_POST fun s => recPost s mid value)

/-- TOLL_REFILL (R320, R321): the refills that are due to a code's bucket. -/
def execTollRefill (code : Nat) (s : State) : Out := ok (s.refill code)

/-- A write of TOLL_PARAM for the code in TOLL_CODE fills the bucket (R320); a REFILL of 0 is refused with RANGE. -/
def tollParamWrite (s : State) (mid : Mid) (v : Word) : State :=
  let code := s.fld Reg.REC_TOLL_CODE 0 12
  let burst := v.toNat % 256
  let refill := v.toNat / 2 ^ 16
  if s.pageLocked 0x1A then s.err mid Reg.REC_TOLL_PARAM .locked
  else if refill = 0 then s.err mid Reg.REC_TOLL_PARAM .range
  else
    let t := s.toll code
    let s := s.setToll code { tokens := burst, pending := if burst = 0 then t.pending else 0, since := 0, burst := burst, refill := refill }
    if burst ≠ 0 ∧ t.pending ≠ 0 then s.intake (s.stampRec 0x007 1 0 [w32 code, w32 t.pending]) else s

/-- TOLL_PARAM_WRITE. -/
def execTollParamWrite (mid : Mid) (value : Word) (s : State) : Out :=
  ok (s.busW mid Reg.REC_TOLL_PARAM fun s => tollParamWrite s mid value)

/-- A freeze (R322): FREEZE is written first; a write while frozen changes nothing; during the scan it is refused with STATE. -/
def recFreeze (s : State) (mid : Mid) : State :=
  if s.recd.scanning then s.err mid Reg.REC_REC_FREEZE .state
  else if s.recd.frozen.isSome then s
  else
    let s := s.ownRecord 0x005 [w32 mid.code]
    ({ s with recd := { s.recd with frozen := some s.tim.odo } }.wr Reg.REC_REC_FREEZE 1).event 0x1A 2

/-- FREEZE. -/
def execFreeze (mid : Mid) (s : State) : Out := ok (s.busW mid Reg.REC_REC_FREEZE fun s => recFreeze s mid)

/-- A write of 0 to REC_FREEZE (R322, R323). -/
def recThaw (s : State) : State := if s.recd.frozen.isSome then s.thawLog false else s

/-- REC_THAW. -/
def execRecThaw (mid : Mid) (s : State) : Out := ok (s.busW mid Reg.REC_REC_FREEZE recThaw)

/-- FREEZE_TIMEOUT (R322): 10 s after the freeze began, it ends. -/
def execFreezeTimeout (s : State) : Out :=
  ok (match s.recd.frozen with
    | some t => if secT 10 ≤ s.since t then s.thawLog true else s
    | none => s)

/-- REC_SCAN (R314): the scan of the Inkwell gives the newest record, the epoch, the write positions and the newest checkpoint. -/
def execRecScan (s : State) : Out :=
  ok (if s.recd.scanning then
    let newest := s.nv.log.head?
    let epoch := newest.elim 0 (·.epoch)
    let boot := newest.elim 1 fun r => (r.boot + 1) % 2 ^ 16
    let lost := newest.elim false fun r => r.code == 0x005
    let ck := s.nv.ckpts.filter fun e => State.ckptValid e.2
    let best := ck.foldl (fun (b : Option (Nat × Nat)) e => match b with
      | none => some (e.1, e.2.seq)
      | some (i, q) => if 0 < sdiff 32 e.2.seq q then some (e.1, e.2.seq) else some (i, q)) none
    let s := (((s.wr Reg.REC_CLEAR_EPOCH epoch).wr Reg.REC_BOOT_COUNT boot).wr Reg.REC_NEWEST_SEQ (newest.elim (2 ^ 32 - 1) (·.seq))).wr
      Reg.REC_MS_COUNT s.nv.milestones.length
    let s := (s.wr Reg.REC_CKPT_SEQ (best.elim 0 (·.2))).wr Reg.REC_CKPT_SLOT (best.elim 0 (·.1))
    { s with recd := { s.recd with scanned := true, erasing := s.nv.log.any fun r => r.epoch != epoch, freezeLost := lost, nextSeq := newest.elim 0 fun r => (r.seq + 1) % 2 ^ 32 } }
  else s)

/-- SCAN_DONE (R314, R324): BOOT is written first, then the blotter drains, each entry taking the next SEQ. -/
def execScanDone (s : State) : Out :=
  ok (if s.recd.scanning && s.recd.scanned then
    let b := s.recd.blotter
    let lost := b2n s.recd.freezeLost
    let s := { s with recd := { s.recd with scanning := false, scanned := false, blotter := [], queue := [] } }
    let s := s.ownRecord 0x002 [s.reg Reg.RST_RST_CAUSE, s.runVer, w32 lost]
    let s := b.foldl (fun s r =>
      let (s, r) := s.takeSeq { r with fromBlotter := true }
      s.enqueue r) s
    s.holdOverflow.event 0x1A 10
  else s)

/-- A log clear (R329, R330). The nonce is renewed whether the token serves or not (R361). -/
def logClear (s : State) (mid : Mid) : State :=
  let refuse (s : State) (e : ErrCode) : State := (s.err mid Reg.REC_REC_CMD e).event 0x1A 6
  if s.pair.mode = .operate ∨ s.pair.mode = .formation then refuse s .mode
  else if s.recd.frozen.isSome || s.recd.scanning then refuse s .state
  else
    let (s, b) := s.tokenRead (s.rd Reg.REC_REC_TOKEN_ADDR)
    if !s.tokenOk b 1 s.recNonce 5 then refuse (s.renewRecNonce.event 0x1E 2) .tokenBad
    else
    let s := s.writeAll
    let old := s.rd Reg.REC_CLEAR_EPOCH
    let n := (s.nv.log.filter fun r => r.epoch == old).length
    let nonce := s.recNonce
    let last := s.reg Reg.REC_NEWEST_SEQ
    let s := s.wr Reg.REC_CLEAR_EPOCH ((old + 1) % 2 ^ 16)
    let (s, r) := s.takeSeq { s.stampRec 0x001 1 0 [w32 old, w32 n, last, nonce] with milestone := true }
    let s := s.writeRec r
    ({ s with recd := { s.recd with erasing := true } }.renewRecNonce).event 0x1A 5

/-- CLEAR. -/
def execClear (mid : Mid) (s : State) : Out := ok (s.busW mid Reg.REC_REC_CMD fun s => logClear s mid)

/-- LOG_ERASE (R329): records of older epochs are overwritten with zeros, behind records and checkpoints on the write port. -/
def execLogErase (s : State) : Out :=
  ok (if s.recd.erasing && s.recd.queue.isEmpty && s.recd.ckpt.isNone then
    { s with nv := { s.nv with log := s.nv.log.filter fun r => r.epoch == s.rd Reg.REC_CLEAR_EPOCH },
             recd := { s.recd with erasing := false } }
  else s)

/-- A selection by RD_AREA and RD_KEY (R331). -/
def rdSelect (s : State) (v : Word) : State :=
  let s := s.setReg Reg.REC_RD_KEY v
  let answer (r : Option LogRec) (stat : Nat) : State := { s with recd := { s.recd with window := r } }.wr Reg.REC_RD_STAT stat
  if s.bit Reg.REC_RD_AREA 0 then
    let n := s.nv.milestones.length
    if v.toNat < n then answer (s.nv.milestones[n - 1 - v.toNat]?) 0 else answer none 3
  else
    match s.nv.log.find? fun r => r.seq == v.toNat with
    | some r => if r.epoch = s.rd Reg.REC_CLEAR_EPOCH then answer (some r) 0 else answer none 1
    | none =>
      let waits := (s.recd.queue ++ s.recd.blotter).any fun r => r.seq == v.toNat
      if waits || decide (0 < sdiff 32 v.toNat (s.rd Reg.REC_NEWEST_SEQ)) then answer none 2 else answer none 1

/-- RD_SELECT. -/
def execRdSelect (mid : Mid) (value : Word) (s : State) : Out := ok (s.busW mid Reg.REC_RD_KEY fun s => rdSelect s value)

/-- CHECKPOINT_DONE (R327): the checkpoint slot completes with its header; records that wait go ahead of it (R18). -/
def execCheckpointDone (s : State) : Out := ok (if s.recd.queue.isEmpty then s.ckptFinish else s)

end Sys2Proof.Machine
end

