-- ==== Sys2Proof/Machine/Status.lean ====
section
/-! DEFINITION. What many blocks ask of the pair: the role, the mode, the partner, and the state of a radio. -/

namespace Sys2Proof.Machine

/-- The ROLE field of RED_STAT and of the heartbeat (R226, R230). -/
def Role.code : Role → Nat
  | .none => 0 | .active => 1 | .solo => 2 | .shadow => 3

/-- The mode codes (R223). -/
def Mode.code : Mode → Nat
  | .off => 0 | .boot => 1 | .ready => 2 | .commission => 3 | .operate => 4 | .formation => 5 | .service => 6 | .safeHold => 7

/-- The mode a code names. -/
def Mode.ofCode (n : Nat) : Mode :=
  match n with
  | 0 => .off | 1 => .boot | 2 => .ready | 3 => .commission | 4 => .operate | 5 => .formation | 6 => .service | _ => .safeHold

namespace State

/-- The module controls the string: ACTIVE or SOLO. -/
def inControl (s : State) : Bool := s.pair.role == .active || s.pair.role == .solo

/-- OPERATE or FORMATION. -/
def running (s : State) : Bool := s.pair.mode == .operate || s.pair.mode == .formation

/-- A partner is present and sends heartbeats (R226, R234). -/
def partnerAlive (s : State) : Bool := s.pair.present && s.pair.alive

/-- LNK_STAT.STATE: 0 OFF, 1 LISTEN, 2 TRANSMIT, 3 FAULT. -/
def lnkState (s : State) (l : Nat) : Nat :=
  if !s.bit (Reg.LNK_LNK_CFG l) 0 || s.pair.unpowered || s.pair.leftAt.isSome then 0
  else if s.bit (Reg.LNK_LNK_STAT l) 3 then 3
  else if s.inControl then 2 else 1

/-- A bit of HPM_STAT. -/
def hpm (s : State) (b : Nat) : Bool := s.bit Reg.HPM_HPM_STAT b

/-- Set a bit of HPM_STAT. -/
def setHpm (s : State) (b : Nat) (v : Bool) : State := s.setBit Reg.HPM_HPM_STAT b v

/-- Set HPM_STAT.PHASE. -/
def setPhase (s : State) (n : Nat) : State := s.setFld Reg.HPM_HPM_STAT 9 3 n

/-- The clock of a page runs (R339). -/
def clockRuns (s : State) (page : Nat) : Bool :=
  if page < 32 then s.bit Reg.CLK_CLK_GATE_STAT_LO page else s.bit Reg.CLK_CLK_GATE_STAT_HI (page - 32)

end State

end Sys2Proof.Machine
end

