-- ==== Sys2Proof/Machine/Clocks.lean ====
section
/-! DEFINITION. Clocks, gates and the reset key (R332 to R339, R342, R343), the die temperature (R376): the commands of pages 0x00 to 0x02 but
for the resets. -/

namespace Sys2Proof.Machine

namespace State

/-- CLK_STAT.REF_IN_USE. -/
def refInUse (s : State) : Bool := s.bit Reg.CLK_CLK_STAT 1

/-- The reference the PLL must use (R332): REFCLK while REF_SEL is 1 and REFCLK is qualified. A change is slewed (R334). -/
def pickRef (s : State) : State :=
  let want := s.bit Reg.CLK_CLK_CFG 0 && s.clock.qualified
  if want == s.refInUse then s else (s.setBit Reg.CLK_CLK_STAT 1 want).setBit Reg.CLK_CLK_STAT 3 true

/-- CLK_STAT.QUALIFYING: a qualification runs while OSC_QUAL is chosen and REFCLK is not qualified (R333). -/
def setQualifying (s : State) : State :=
  s.setBit Reg.CLK_CLK_STAT 2 (s.rd Reg.CLK_OSC_QUAL != 0 && !s.clock.qualified)

end State

/-! ### The reference -/

/-- A write of CLK_CFG.REF_SEL (R332): REF_SEL = 1 while OSC_QUAL is 0 is refused with RANGE. -/
def refSelWrite (s : State) (mid : Mid) (refclk : Bool) : State :=
  if s.pageLocked 0x01 then s.err mid Reg.CLK_CLK_CFG .locked
  else if refclk && s.rd Reg.CLK_OSC_QUAL == 0 then s.err mid Reg.CLK_CLK_CFG .range
  else (s.setBit Reg.CLK_CLK_CFG 0 refclk).pickRef

/-- REF_SEL_WRITE. -/
def execRefSelWrite (mid : Mid) (refclk : Bool) (s : State) : Out :=
  ok (s.busW mid Reg.CLK_CLK_CFG fun s => refSelWrite s mid refclk)

/-- REF_ERR, REFCLK against the TCXO in ppb, as a qualification measures it: within ±100 ppm (R333), the value free (log entry 4). -/
def measureRef (s : State) : State :=
  (s.setReg Reg.CLK_REF_ERR (BitVec.ofInt 32 ((s.freeWord.toNat % 200001 : Nat) - 100000 : Int))).drawFree

/-- REF_QUALIFIED (R333): REFCLK has stayed in range for OSC_QUAL. -/
def execRefQualified (s : State) : Out :=
  ok (if s.bit Reg.CLK_CLK_STAT 2 then
    let s := measureRef s
    (({ s with clock := { s.clock with qualified := true } }.setQualifying).event 0x01 0).pickRef
  else s)

/-- REF_LOST (R333): the root PLL returns to the TCXO and REFCLK must qualify anew. -/
def execRefLost (s : State) : Out :=
  ok (if s.clock.qualified then
    (({ s with clock := { s.clock with qualified := false } }.setQualifying).event 0x01 1).pickRef
  else s)

/-- REF_SLEW_DONE (R334). -/
def execRefSlewDone (s : State) : Out := ok (s.setBit Reg.CLK_CLK_STAT 3 false)

/-- A write of CLK_CFG.COMPAT (R337): the loader alone, before it releases the application cores. CORE then runs at point 1. -/
def compatWrite (s : State) (mid : Mid) (on : Bool) : State :=
  if mid ≠ .own .loader ∨ s.fld Reg.RST_RST_HOLD 0 4 ≠ 15 then s.err mid Reg.CLK_CLK_CFG .midDeny
  else if s.pageLocked 0x01 then s.err mid Reg.CLK_CLK_CFG .locked
  else
    let s := s.setBit Reg.CLK_CLK_CFG 1 on
    if on then { s.setFld Reg.CLK_DVFS_STAT 0 6 1 with clock := { s.clock with goal := none, held := none } } else s

/-- COMPAT_WRITE. -/
def execCompatWrite (mid : Mid) (on : Bool) (s : State) : Out :=
  ok (s.busW mid Reg.CLK_CLK_CFG fun s => compatWrite s mid on)

/-! ### DVFS (R336) -/

namespace State

/-- The point in force. -/
def point (s : State) : Nat := s.fld Reg.CLK_DVFS_STAT 0 2

/-- A change of operating point starts: upward the PMIC is commanded first, downward the divider changes first. A request for the point in
force runs the same steps with a ΔV of 0. -/
def dvfsStart (s : State) (p : Nat) : State :=
  let from_ := s.point
  let s := { s with clock := { s.clock with goal := some p, from_ := from_, confirmed := false, since := s.tim.odo } }
  let s := s.setBit Reg.CLK_DVFS_STAT 4 true
  if from_ < p then s.setFld Reg.CLK_DVFS_STAT 0 2 p else s

/-- The running change ends; the newest held request is carried out. -/
def dvfsEnd (s : State) : State :=
  let held := s.clock.held
  let s := { s with clock := { s.clock with goal := none, confirmed := false, held := none } }
  let s := (s.setBit Reg.CLK_DVFS_STAT 4 false).setBit Reg.CLK_DVFS_STAT 5 false
  match held with
  | some p => s.dvfsStart p
  | none => s

end State

/-- A write of DVFS_REQ (R336, R337): refused with MODE in compatibility mode; held while BUSY. -/
def dvfsReq (s : State) (mid : Mid) (v : Word) : State :=
  if s.bit Reg.CLK_CLK_CFG 1 then s.err mid Reg.CLK_DVFS_REQ .mode
  else
    let p := v.toNat % 4
    let s := s.wr Reg.CLK_DVFS_REQ p
    if s.clock.goal.isSome then { s.setBit Reg.CLK_DVFS_STAT 5 true with clock := { s.clock with held := some p } }
    else s.dvfsStart p

/-- DVFS_REQ. -/
def execDvfsReq (mid : Mid) (value : Word) (s : State) : Out :=
  ok (s.busW mid Reg.CLK_DVFS_REQ fun s => dvfsReq s mid value)

/-- PMIC_CONFIRM (R336): the voltage has its new value; upward the divider changes now. -/
def execPmicConfirm (s : State) : Out :=
  ok (match s.clock.goal with
    | some p => { s.setFld Reg.CLK_DVFS_STAT 0 2 p with clock := { s.clock with confirmed := true } }
    | none => s)

/-- DVFS_DONE (R336): the confirmed change completes. -/
def execDvfsDone (s : State) : Out :=
  ok (if s.clock.goal.isSome && s.clock.confirmed then (s.event 0x01 2).dvfsEnd else s)

/-- DVFS_FAIL (R336): the PMIC has not reported within 100 µs; the change ends at the previous point. -/
def execDvfsFail (s : State) : Out :=
  ok (if s.clock.goal.isSome && !s.clock.confirmed && decide (usT 100 ≤ s.since s.clock.since) then
    ((s.setFld Reg.CLK_DVFS_STAT 0 2 s.clock.from_).event 0x01 3).dvfsEnd
  else s)

/-! ### Gates (R338, R339) -/

/-- The pages that can be gated. -/
def gateable : List Nat := [0x08, 0x09, 0x12, 0x15, 0x16, 0x17, 0x1D, 0x20]

namespace State

/-- The condition for closing a gate (R338). -/
def gateMayClose (s : State) (page : Nat) : Bool :=
  if page = 0x08 then s.lnkState 0 == 0
  else if page = 0x09 then s.lnkState 1 == 0
  else if page = 0x12 then s.frm.state != 1
  else if page = 0x15 then s.bit (Reg.CAN_CAN_CTRL 0) 0
  else if page = 0x16 then s.bit (Reg.CAN_CAN_CTRL 1) 0
  else if page = 0x17 then !s.bit Reg.ETH_ETH_CFG 0 && !s.bit Reg.ETH_ETH_CFG 1 && s.eth.launches.isEmpty
  else if page = 0x1D then s.upd.boot != .overwriting && s.upd.staging.isNone && s.upd.wrapIn.isNone
  else if page = 0x20 then s.gpio.pulses.isEmpty
  else false

/-- The pages a gate write names: 32 from `lo`. -/
def gatePages (hi : Bool) : List Nat := gateable.filter fun p => decide (32 ≤ p) == hi

end State

/-- A write of CLK_GATE_LO or CLK_GATE_HI (R338, R339): a write that closes a gate whose condition does not hold is refused whole; an opened
block runs for the accesses that follow. -/
def clkGateWrite (s : State) (mid : Mid) (hi : Bool) (v : Word) : State :=
  let a := if hi then Reg.CLK_CLK_GATE_HI else Reg.CLK_CLK_GATE_LO
  let st := if hi then Reg.CLK_CLK_GATE_STAT_HI else Reg.CLK_CLK_GATE_STAT_LO
  let pages := State.gatePages hi
  if pages.any fun p => s.bit a (p % 32) && !v.getLsbD (p % 32) && !s.gateMayClose p then s.err mid a .state
  else pages.foldl (fun s p =>
    let on := v.getLsbD (p % 32)
    let s := s.setBit a (p % 32) on
    if on then s.setBit st (p % 32) true else s) s

/-- CLK_GATE_WRITE. -/
def execClkGateWrite (mid : Mid) (hi : Bool) (value : Word) (s : State) : Out :=
  ok (s.busW mid (if hi then Reg.CLK_CLK_GATE_HI else Reg.CLK_CLK_GATE_LO) fun s => clkGateWrite s mid hi value)

/-- CLK_GATE_STOP (R339): the gated block's interface is idle and its clock stops. -/
def execClkGateStop (page : Fin 64) (s : State) : Out :=
  ok (if gateable.contains page.val && !s.pageOpen page.val then
    if page.val < 32 then s.setBit Reg.CLK_CLK_GATE_STAT_LO page.val false else s.setBit Reg.CLK_CLK_GATE_STAT_HI (page.val - 32) false
  else s)

/-! ### The reset key and the watchdogs (R342, R343) -/

/-- The value that arms RST_KEY. -/
def rstKeyValue : Word := 0x0000A5C3#32

/-- A write of RST_KEY (R342). -/
def rstKeyWrite (s : State) (mid : Mid) (v : Word) : State :=
  { s with rst := { s.rst with key := if v = rstKeyValue then s.rst.key.set mid.code s.tim.odo else s.rst.key } }

/-- RST_KEY. -/
def execRstKey (mid : Mid) (value : Word) (s : State) : Out := ok (s.busW mid Reg.RST_RST_KEY fun s => rstKeyWrite s mid value)

/-- A write of WDT_KICKn (R343): 0x5A5A restarts the period. -/
def wdtKick (s : State) (n : Nat) (v : Word) : State :=
  if v = 0x00005A5A then { s with rst := { s.rst with wdt := s.rst.wdt.set n s.tim.odo } } else s

/-- WDT_KICK. -/
def execWdtKick (n : Fin 5) (mid : Mid) (value : Word) (s : State) : Out :=
  ok (s.busW mid (Reg.RST_WDT_KICK n.val) fun s => wdtKick s n.val value)

/-- A write of WDT_CFGn (R343): EN once set stays; enabling starts the period. -/
def wdtCfgWrite (s : State) (n : Nat) (v : Word) : State :=
  let a := Reg.RST_WDT_CFG n
  let was := s.bit a 31
  let s := s.setReg a ((v &&& 0x8000FFFF) ||| (if was then 0x80000000 else 0))
  if !was && s.bit a 31 then { s with rst := { s.rst with wdt := s.rst.wdt.set n s.tim.odo } } else s

/-! ### Temperature (R376) -/

/-- DIE_TEMP reads a temperature of `lo` to `hi`, 0.01 °C, and which one is a free value (log entry 53). -/
def dieTemp (s : State) (lo hi : Int) : State :=
  (s.setReg Reg.SYS_DIE_TEMP (BitVec.ofInt 32 (lo + ((s.freeWord.toNat % ((hi - lo).toNat + 1) : Nat) : Int)) &&& 0xFFFF)).drawFree

/-- TEMP_HIGH (R376): the die has reached 105 °C. -/
def execTempHigh (s : State) : Out :=
  ok ((dieTemp { s with pair := { s.pair with hot := true } } 10500 32767).event 0x00 3)

/-- TEMP_RESTORED (R376): the die has fallen below 100 °C: TEMP_HIGH and THERMAL_OK are restored. -/
def execTempRestored (s : State) : Out :=
  ok (if s.pair.hot then
    (dieTemp { s with pair := { s.pair with hot := false } } (-32768) 9999).setBit (State.evtAddr 0x00) 3 false
  else s)

end Sys2Proof.Machine
end

