-- ==== Sys2Proof/Machine/AirFrame.lean ====
section
/-! DEFINITION. The frames a radio sends, byte by byte (R49, R50, R52, R53): AES-128-CCM over the block cipher of Config, the keys derived from K_NET,
the nonces, and the air format. -/

namespace Sys2Proof.Machine

open Sys2Proof

/-! ### AES-128-CCM with L = 2 and M = 4 (R52; its block layout is PRESUMED from RFC 3610, log entry 114) -/

/-- The 16-byte blocks of a byte list, the last one filled with zeros, as little-endian numbers. -/
def blocks16 (b : List Nat) : List Nat := (List.range ((b.length + 15) / 16)).map fun i => leNat ((b.drop (16 * i)).take 16)

/-- The CBC-MAC over the first block, the additional data and the body. -/
def ccmMac (key : Nat) (nonce aad body : List Nat) : Nat :=
  let first := leNat ([0x49] ++ nonce ++ beBytes 2 body.length)
  (first :: blocks16 (beBytes 2 aad.length ++ aad) ++ blocks16 body).foldl (fun x b => Config.aes128 key (x ^^^ b)) 0

/-- The key stream block of a counter. -/
def ccmStream (key : Nat) (nonce : List Nat) (i : Nat) : List Nat := leBytes 16 (Config.aes128 key (leNat ([1] ++ nonce ++ beBytes 2 i)))

/-- The exclusive or of two byte lists, as long as the first. -/
def xorBytes (a b : List Nat) : List Nat := (a.zip b).map fun (x, y) => x ^^^ y

/-- The encrypted body and the MIC of 4 bytes. -/
def ccmSeal (key : Nat) (nonce aad body : List Nat) : List Nat :=
  let stream := (List.range ((body.length + 15) / 16)).flatMap fun i => ccmStream key nonce (i + 1)
  xorBytes body stream ++ xorBytes (leBytes 4 (ccmMac key nonce aad body)) (ccmStream key nonce 0)

/-! ### Keys (R52) -/

/-- K_LINK(e). -/
def kLink (kNet e : Nat) : Nat := Config.aes128 kNet (0x4C + 2 ^ 8 * (e % 2 ^ 16))

/-- K_HOP. -/
def kHop (kNet : Nat) : Nat := Config.aes128 kNet 0x48

/-- The network sync word: the first 4 bytes of its block. -/
def netSync (kNet : Nat) : Nat := Config.aes128 kNet 0x53 % 2 ^ 32

/-- The sync word of join and discovery frames (R49). -/
def joinSync : Nat := 0x7E1B4C29

/-- The key under which a frame goes: a link key of an epoch, a node key with its JCTR, or none. -/
inductive AirKey where
  | link (key epoch : Nat)
  | join (key jctr : Nat)
  | clear
  deriving DecidableEq, Repr

/-- What a frame says besides its body: TYPE, SRC, slot number, EP, and where it is sent (R50, R53). -/
structure AirHead where
  typ : Nat
  src : Nat
  slot : Nat
  ep : Bool
  /-- Full cycle number of the superframe. -/
  cycle : Nat
  radio : Nat
  slotB : Bool
  deriving DecidableEq, Repr

/-- HDR (R50). -/
def airHdr (h : AirHead) (len : Nat) : List Nat := [h.typ % 16 + 16 * b2n h.ep, h.src % 256, len % 256, h.cycle % 256]

/-- The nonce (R53); `tail` holds its bytes 8 to 12. -/
def airNonce (h : AirHead) (tail : List Nat) : List Nat :=
  leBytes 4 (h.cycle % 2 ^ 32) ++ [h.typ, h.src, h.slot, h.radio + 2 * b2n h.slotB] ++ tail

/-- The PDU: header, authenticated data, and the body as its key protects it (R50, R52, R53). -/
def airPdu (k : AirKey) (h : AirHead) (aad body : List Nat) : List Nat :=
  let hdr := airHdr h body.length
  match k with
  | .link key e => hdr ++ aad ++ ccmSeal key (airNonce h (leBytes 2 e ++ [0, 0, 0])) (hdr ++ aad) body
  | .join key j => hdr ++ aad ++ ccmSeal key (airNonce h (leBytes 4 j ++ [0x4A])) (hdr ++ aad) body
  | .clear => hdr ++ aad ++ body

/-- The whole frame: PREAMBLE, SYNC, PDU and CRC (R49). -/
def airFrame (sync : Nat) (pdu : List Nat) : List Nat := 0x55 :: leBytes 4 sync ++ pdu ++ leBytes 2 (crc16 pdu)

end Sys2Proof.Machine
end

