-- ==== Sys2Proof/Machine/Float.lean ====
section
/-! DEFINITION. IEEE 754 binary32 as a `Word`: the arithmetic of the estimator (R118) and of the main path of the control engine
(R166, R176). Every operation is exact and then rounded once to nearest, ties to even (log entry 9). -/

namespace Sys2Proof.F32

/-- The quiet NaN the model writes. -/
def nan : Word := 0x7fc00000

/-- Positive infinity. -/
def inf : Word := 0x7f800000

/-- The sign bit. -/
def neg? (x : Word) : Bool := x.toNat.testBit 31

/-- The exponent field. -/
def expo (x : Word) : Nat := bitsOf x.toNat 23 8

/-- The fraction field. -/
def frac (x : Word) : Nat := bitsOf x.toNat 0 23

/-- Neither infinite nor NaN. -/
def finite (x : Word) : Bool := decide (expo x ≠ 255)

/-- NaN. -/
def isNan (x : Word) : Bool := decide (expo x = 255) && decide (frac x ≠ 0)

/-- Change the sign. -/
def neg (x : Word) : Word := x ^^^ 0x80000000

/-- Clear the sign. -/
def abs (x : Word) : Word := x &&& 0x7fffffff

/-- The magnitude of a finite value: an integer mantissa, in units of `2^(unit x)`. -/
def mant (x : Word) : Nat := if expo x = 0 then frac x else 2 ^ 23 + frac x

/-- The exponent of the unit of the mantissa. -/
def unit (x : Word) : Int := (max (expo x) 1 : Nat) - 150

/-- A finite value as a signed mantissa. -/
def smant (x : Word) : Int := if neg? x then -(mant x : Int) else mant x

/-- `2^k` for a non-negative `k`, else 1. -/
def pow2 (k : Int) : Nat := 2 ^ k.toNat

/-- Attach a sign. -/
def withSign (s : Bool) (x : Word) : Word := if s then x ||| 0x80000000 else x

/-- Round `n * 2^e`, and a little more where `sticky`, to the nearest binary32, ties to even. -/
def roundMag (n : Nat) (e : Int) (sticky : Bool) : Word :=
  if n = 0 && !sticky then 0
  else
    let n' := 2 * n + b2n sticky
    let e' := e - 1
    let top : Int := e' + (Nat.log2 n' : Int) - 23
    let u := if top < -149 then -149 else top
    let k := u - e'
    let q :=
      if k ≤ 0 then n' * pow2 (-k)
      else
        let q := n' / pow2 k
        let r := n' % pow2 k
        let half := pow2 (k - 1)
        if half < r ∨ (r = half ∧ q % 2 = 1) then q + 1 else q
    let bits := (u + 149).toNat * 2 ^ 23 + q
    if 0x7f800000 ≤ bits then inf else w32 bits

/-- Round a signed `n * 2^e`. -/
def round (n : Int) (e : Int) (sticky : Bool := false) : Word :=
  withSign (decide (n < 0)) (roundMag n.natAbs e sticky)

/-- Sum. -/
def add (a b : Word) : Word :=
  if isNan a || isNan b then nan
  else if !finite a then (if !finite b && decide (a ≠ b) then nan else a)
  else if !finite b then b
  else
    let u := if unit a ≤ unit b then unit a else unit b
    let n := smant a * pow2 (unit a - u) + smant b * pow2 (unit b - u)
    if n = 0 then (if neg? a && neg? b then 0x80000000 else 0) else round n u

/-- Difference. -/
def sub (a b : Word) : Word := add a (neg b)

/-- Product. -/
def mul (a b : Word) : Word :=
  let s := neg? a != neg? b
  if isNan a || isNan b then nan
  else if !finite a || !finite b then
    (if (finite a && mant a == 0) || (finite b && mant b == 0) then nan else withSign s inf)
  else withSign s (roundMag (mant a * mant b) (unit a + unit b) false)

/-- Quotient. -/
def div (a b : Word) : Word :=
  let s := neg? a != neg? b
  if isNan a || isNan b then nan
  else if !finite a then (if !finite b then nan else withSign s inf)
  else if !finite b then withSign s 0
  else if mant b = 0 then (if mant a = 0 then nan else withSign s inf)
  else
    let n := mant a * 2 ^ 64
    withSign s (roundMag (n / mant b) (unit a - unit b - 64) (decide (n % mant b ≠ 0)))

/-- `a < b`; false with a NaN. -/
def lt (a b : Word) : Bool :=
  if isNan a || isNan b then false
  else
    let key (x : Word) : Int := if neg? x then -((abs x).toNat : Int) else (abs x).toNat
    decide (key a < key b)

/-- `a ≤ b`; false with a NaN. -/
def le (a b : Word) : Bool :=
  if isNan a || isNan b then false else !lt b a

/-- The lesser. -/
def min (a b : Word) : Word := if lt b a then b else a

/-- The greater. -/
def max (a b : Word) : Word := if lt a b then b else a

/-- Keep a value within bounds. -/
def clamp (x lo hi : Word) : Word := if lt hi x then hi else if lt x lo then lo else x

/-- The binary32 nearest to an integer. -/
def ofInt (i : Int) : Word := round i 0

/-- The binary32 nearest to a natural number. -/
def ofNat (n : Nat) : Word := roundMag n 0 false

/-- The binary32 nearest to a fraction; the denominator is positive. -/
def ofFrac (n : Int) (d : Nat) : Word :=
  let m := n.natAbs * 2 ^ 64
  withSign (decide (n < 0)) (roundMag (m / d) (-64) (decide (m % d ≠ 0)))

/-- The integer nearest to a finite value times `k`, a half away from zero; 0 where it is not finite. -/
def toIntScaled (x : Word) (k : Nat) : Int :=
  if !finite x then 0
  else
    let n := mant x * k
    let m := if 0 ≤ unit x then n * pow2 (unit x) else (2 * n + pow2 (-unit x)) / (2 * pow2 (-unit x))
    if neg? x then -(m : Int) else m

/-- The integer nearest to a finite value. -/
def toInt (x : Word) : Int := toIntScaled x 1

/-- The integer part toward zero of a finite value. -/
def trunc (x : Word) : Int :=
  if !finite x then 0
  else
    let m := if 0 ≤ unit x then mant x * pow2 (unit x) else mant x / pow2 (-unit x)
    if neg? x then -(m : Int) else m

/-- The greatest integer at or below a finite value. -/
def floor (x : Word) : Int :=
  if !finite x then 0
  else if 0 ≤ unit x then smant x * pow2 (unit x) else smant x / (pow2 (-unit x) : Int)

/-- A finite value as a fraction with positive denominator. -/
def toFrac (x : Word) : Int × Nat :=
  if !finite x then (0, 1)
  else if 0 ≤ unit x then (smant x * pow2 (unit x), 1) else (smant x, pow2 (-unit x))

/-- One bit of an integer square root: the root so far and the next lower power of two. -/
def isqrtStep (n r k : Nat) : Nat := if (r + 2 ^ k) * (r + 2 ^ k) ≤ n then r + 2 ^ k else r

/-- The integer square root of a number below `2^128`. -/
def isqrt (n : Nat) : Nat := (List.range 64).reverse.foldl (fun r k => isqrtStep n r k) 0

/-- Square root; NaN below 0. -/
def sqrt (x : Word) : Word :=
  if isNan x then nan
  else if mant x = 0 && finite x then x
  else if neg? x then nan
  else if !finite x then x
  else
    let odd := decide (unit x % 2 ≠ 0)
    let n := mant x * (if odd then 2 else 1) * 2 ^ 80
    let e := (unit x - (if odd then 1 else 0) - 80) / 2
    let r := isqrt n
    roundMag r e (decide (r * r ≠ n))

/-- `ln 2` in units of `2^-256`, rounded down. -/
def ln2 : Nat := 80260960185991308862233904206310070533990667611589946606122867505419956976171

/-- `e^r` in units of `2^-256`, for `r` from 0 to below `ln 2` in the same units: the first 65 terms of the series. -/
def expSeries (r : Nat) : Nat :=
  ((List.range 64).foldl (fun (a : Nat × Nat) i =>
    let t := a.2 * r / 2 ^ 256 / (i + 1)
    (a.1 + t, t)) (2 ^ 256, 2 ^ 256)).1

/-- `e^x`, rounded once to nearest (log entry 9). -/
def exp (x : Word) : Word :=
  if isNan x then nan
  else if !finite x then (if neg? x then 0 else inf)
  else if decide (89 ≤ floor x) then inf
  else if decide (floor x < -105) then 0
  else
    let v : Int := (toFrac x).1 * 2 ^ 256 / (toFrac x).2
    let k := v / ln2
    roundMag (expSeries (v % ln2).toNat) (k - 256) (decide (v ≠ 0))

/-- 0. -/
def zero : Word := 0

/-- 1. -/
def one : Word := 0x3f800000

/-- 0.5. -/
def half : Word := 0x3f000000

/-- 2. -/
def two : Word := 0x40000000

/-- 1000. -/
def thousand : Word := 0x447a0000

end Sys2Proof.F32
end

