-- ==== Sys2Proof/Machine/Cells.lean ====
section
/-! DEFINITION. Cells, records and chemistry tables as the stages, the balance planner and the programs read them (R92, R93, R100, R119, R154). -/

namespace Sys2Proof.Machine

open Sys2Proof

namespace State

/-! ### The plan and the cells counted -/

/-- The plan's entry of a node (R81). -/
def planOf (s : State) (n : Nat) : Option PlanEntry := s.link.plan.bind fun p => p.entries.find? (·.node == n)

/-- The node indices named in the lane plan in force, ascending (R154). -/
def planNodes (s : State) : List Nat := (List.range 32).filter fun n => (s.planOf n).isSome

/-- The cells counted (R154). -/
def countedCells (s : State) : List Nat := s.planNodes.flatMap fun n => (List.range 16).map fun c => 16 * n + c

/-- The newest closed record. -/
def newestRec (s : State) : Option SweepRec := s.swp.ring.head?

end State

/-! ### Records -/

/-- The data of a node in a record. -/
def recNode (r : SweepRec) (n : Nat) : Option NodeData := if r.present.testBit n then r.nodes.find? n else none

/-- The reading of a cell, 100 µV (R92). -/
def recV (r : SweepRec) (c : Nat) : Option Nat := (recNode r (c / 16)).map fun d => (d.body.v[c % 16]?).getD 0xFFFF

/-- The SCR byte of a cell (R100); ABSENT stands for a cell without data. -/
def recScr (r : SweepRec) (c : Nat) : Nat :=
  (r.scr.get 0 c) ||| (if (recNode r (c / 16)).isSome then 0 else 1)

/-- A reading whose SCR byte is 0x00 (R100). -/
def cleanV (r : SweepRec) (c : Nat) : Option Nat := if recScr r c = 0 then recV r c else none

/-- QBAL of a cell, µC (R114). -/
def recQbal (r : SweepRec) (c : Nat) : Nat := r.qbal.get 0 c

/-- A bit of RFLAGS (R93). -/
def recFlag (r : SweepRec) (b : Nat) : Bool := r.rflags.testBit b

/-- The record holds a valid current: not both channels BAD (R90). -/
def curValid (r : SweepRec) : Bool := !(recFlag r 1 && recFlag r 2)

/-- The current of the source in use, mA (R90). -/
def recI (r : SweepRec) : Int := if recFlag r 4 then r.iB else r.iA

/-- Set a bit of RFLAGS. -/
def setRecFlag (r : SweepRec) (b : Nat) (v : Bool) : SweepRec :=
  { r with rflags := r.rflags - b2n (recFlag r b) * 2 ^ b + b2n v * 2 ^ b }

/-- Set bits of a cell's SCR. -/
def orScr (r : SweepRec) (c bits : Nat) : SweepRec := { r with scr := r.scr.put 0 c ((r.scr.get 0 c) ||| bits) }

/-! ### Chemistry tables (R119, R137) -/

/-- A constant of the spec in binary32, given as a fraction. -/
def f32c (n : Int) (d : Nat) : Word := F32.ofFrac n d

/-- A voltage in 100 µV as volts. -/
def volts (v : Nat) : Word := F32.ofFrac v 10000

/-- A temperature in 0.01 °C as °C. -/
def degC (t : Int) : Word := F32.ofFrac t 100

/-- Where a temperature lies among the grid temperatures: the lower row and the fraction of the way to the next; an end row outside. -/
def tempAt (temps : List Int) (t : Word) : Nat × Word :=
  let last := temps.length - 1
  let at_ (i : Nat) : Word := degC (temps[i]?.getD 0)
  if F32.le t (at_ 0) then (0, F32.zero)
  else if F32.le (at_ last) t then (last, F32.zero)
  else
    match (List.range last).find? fun i => F32.le (at_ i) t && F32.lt t (at_ (i + 1)) with
    | some i => (i, F32.div (F32.sub t (at_ i)) (F32.sub (at_ (i + 1)) (at_ i)))
    | none => (0, F32.zero)

/-- `a + f * (b - a)`. -/
def lerp (a b f : Word) : Word := F32.add a (F32.mul f (F32.sub b a))

/-- The SOC interval a value lies in: its lower grid point and the fraction; none outside 0 to 1. -/
def socAt (s : Word) : Option (Nat × Word) :=
  if F32.lt s F32.zero || F32.lt F32.one s || F32.isNan s then none
  else
    let x := F32.mul s (F32.ofInt 100)
    let j := min 99 (F32.floor x).toNat
    some (j, F32.sub x (F32.ofNat j))

/-- A grid value, V, interpolated in temperature. -/
def gridT (rows : List (List Nat)) (i : Nat) (f : Word) (j : Nat) : Word :=
  let v (i : Nat) : Word := volts (((rows[i]?).bind (·[j]?)).getD 0)
  if f = F32.zero then v i else lerp (v i) (v (i + 1)) f

/-- A grid read bilinearly (R119). `kind` tells the grids apart where the spec states no value: SOC outside 0 to 1 (log entry 10). -/
def gridAt (kind : Nat) (tab : ChemTable) (rows : List (List Nat)) (s t : Word) : Word :=
  let (i, f) := tempAt tab.temps t
  match socAt s with
  | some (j, g) => lerp (gridT rows i f j) (gridT rows i f (j + 1)) g
  | none => Config.tableBeyond kind tab.id s t

/-- The slope of a grid in SOC (R119). -/
def gridSlope (kind : Nat) (tab : ChemTable) (rows : List (List Nat)) (s t : Word) : Word :=
  let (i, f) := tempAt tab.temps t
  match socAt s with
  | some (j, _) => F32.div (F32.sub (gridT rows i f (j + 1)) (gridT rows i f j)) (f32c 1 100)
  | none => Config.tableBeyond kind tab.id s t

/-- OCV (R119). -/
def ocvAt (tab : ChemTable) (s t : Word) : Word := gridAt 0 tab tab.ocv s t

/-- Hysteresis half-width (R119). -/
def mAt (tab : ChemTable) (s t : Word) : Word := gridAt 1 tab tab.m s t

/-- dOCV/ds (R119). -/
def ocvSlope (tab : ChemTable) (s t : Word) : Word := gridSlope 2 tab tab.ocv s t

/-- dm/ds. -/
def mSlope (tab : ChemTable) (s t : Word) : Word := gridSlope 3 tab tab.m s t

/-- A parameter of the rows, interpolated in temperature (R119). -/
def paramAt (tab : ChemTable) (get : ChemParam → Word) (t : Word) : Word :=
  let (i, f) := tempAt tab.temps t
  let v (i : Nat) : Word := ((tab.params[i]?).map get).getD F32.zero
  if f = F32.zero then v i else lerp (v i) (v (i + 1)) f

/-- The row of the grid temperature nearest 25 °C; the lower one on a tie. -/
def row25 (tab : ChemTable) : Nat :=
  (List.range tab.temps.length).foldl (fun best i =>
    if ((tab.temps[i]?.getD 0) - 2500).natAbs < ((tab.temps[best]?.getD 0) - 2500).natAbs then i else best) 0

/-- A parameter at the grid temperature nearest 25 °C (R137). -/
def param25 (tab : ChemTable) (get : ChemParam → Word) : Word := ((tab.params[row25 tab]?).map get).getD F32.zero

/-- The ratio that scales a cell's 25 °C parameters to its temperature: `rohm_tab(t) / rohm_tab(t25)` (R137). -/
def tempRatio (tab : ChemTable) (t : Word) : Word := F32.div (paramAt tab (·.rohm) t) (param25 tab (·.rohm))

/-- The C_NOM of a table, Ah. -/
def cNomAh (tab : ChemTable) : Word := F32.ofFrac tab.cNom 1000

namespace State

/-- The chemistry table a cell is assigned. -/
def tableOf (s : State) (c : Nat) : Option ChemTable := (s.est.aux.get {} c).table.bind s.est.chems.find?

/-- A cell is estimated: estimation is on, it has its first valid state and a table (R122, R125). -/
def estimated (s : State) (c : Nat) : Bool :=
  s.est.on && (s.est.aux.get {} c).started && (s.tableOf c).isSome

/-- The published state of a cell (R118). -/
def pubCell (s : State) (c : Nat) : Cell := s.est.pub.get {} c

/-- The cell's Rohm at its temperature: from the last Publish, or the table's before that; none without a table (R101). -/
def r0Of (s : State) (c : Nat) (t : Word) : Option Word :=
  (s.tableOf c).map fun tab =>
    let p := s.pubCell c
    if p.rohm25 = 0 then paramAt tab (·.rohm) t else F32.mul p.rohm25 (tempRatio tab t)

/-- The module's mode is a mode that a master asks for as firmware of the controlling module; a shorthand for SHADOW. -/
def isShadow (s : State) : Bool := s.pair.role == .shadow

end State

end Sys2Proof.Machine
end

