-- ==== Sys2Proof/Machine/Beat.lean ====
section
/-! DEFINITION. What a module tells its partner of itself: the heartbeat (R230), the digest of its staged set-points, and the state of
its coil paths (R207). -/

namespace Sys2Proof.Machine

open Sys2Proof

/-- The slot a handle names. -/
def handleSlot (h : Word) : Nat := bitsOf h.toNat 8 12

/-- Insert an entry by ascending key, after equal ones. -/
def insertKey {α : Type} (k : Nat) (v : α) : List (Nat × α) → List (Nat × α)
  | [] => [(k, v)]
  | (k', v') :: r => if k < k' then (k, v) :: (k', v') :: r else (k', v') :: insertKey k v r

namespace State

/-- The target of a staged set-point: that of its waymark entry, 0 once the entry is gone. -/
def stagedTarget (s : State) (h : Word) : Nat :=
  if s.handleOf .waymark (handleSlot h) = h then ((s.gau.wms.get {} (handleSlot h)).target).toNat else 0

/-- STAGE_DIGEST (R230): the CRC-32 over kind, value, limit and target of the staged set-points in order of target (log entry 11 gives the
width of each). -/
def stageDigest (s : State) : Word :=
  let es := s.ctl.staged.foldl (fun l (e : Staged) => insertKey (s.stagedTarget e.handle) e l) []
  crc32 (es.flatMap fun (t, e) =>
    leBytes 1 e.kind ++ leBytes 4 (wInt e.value).toNat ++ leBytes 4 (wInt e.limit).toNat ++ leBytes 8 t)

/-- A channel's state (R206 to R212). -/
def ch (s : State) (k : Nat) : ChSt := s.saf.ch.get {} k

/-- Store a channel's state. -/
def setCh (s : State) (k : Nat) (c : ChSt) : State := { s with saf := { s.saf with ch := s.saf.ch.put {} k c } }

/-- A channel that K_REQ requests. -/
def requested (s : State) (k : Nat) : Bool := s.bit Reg.SAF_K_REQ k

/-- Both switches of this module are on for a channel. -/
def pathOn (s : State) (k : Nat) : Bool := (s.ch k).kh && (s.ch k).kl

/-- The partner holds a channel's coil, as its heartbeat shows. -/
def partnerHolds (s : State) (k : Nat) : Bool := s.partnerAlive && s.pair.hb.path.testBit k

/-- The coil of a channel is energised through this module's path or the partner's (R195). -/
def coilOn (s : State) (k : Nat) : Bool := s.pathOn k || s.partnerHolds k

/-- The feedback of a channel is in use. -/
def fbUsed (s : State) (k : Nat) : Bool :=
  match s.saf.pset with
  | some p => (p.fb[k]?).elim false (·.used)
  | none => true

/-- A channel is closed and proved (R207): both switches on, the coil energised, and both feedback inputs, where they are in use, show the
contacts closed. -/
def chProved (s : State) (k : Nat) : Bool :=
  s.pathOn k && (!s.fbUsed k || ((s.ch k).fbA && (s.ch k).fbB)) && !s.bit Reg.SAF_SW_FAULT (24 + k)

/-- The digest of the parameter set in force (R221). -/
def psetDigest (s : State) : Word := (s.saf.pset.map (·.digest)).getD 0

/-- The string path is closed and proved: channels are requested and each of them is (R207). -/
def pathProved (s : State) : Bool :=
  decide (s.fld Reg.SAF_K_REQ 0 6 ≠ 0) && (List.range 6).all fun k => !s.requested k || s.chProved k

/-- A path of this module is closed. -/
def anyPath (s : State) : Bool := (List.range 6).any fun k => (s.ch k).kh || (s.ch k).kl

/-- The bits of the channels a test names. -/
def chMask (p : Nat → Bool) : Nat := (List.range 6).foldl (fun m k => m + b2n (p k) * 2 ^ k) 0

/-- XTRIP_OUT is static high (R202). -/
def xtripHigh (s : State) : Bool := s.saf.latched || s.saf.gLatch

/-- A new heartbeat (R230). -/
def heartbeat (s : State) : Heartbeat :=
  { rx := { seq := s.pair.cswSeq.get 0 0 }
    role := s.pair.role.code
    mode := s.pair.mode.code
    stopping := s.pair.stop.isSome
    stopTarget := (s.pair.stop.map (·.target.code)).getD 0
    tko := s.pair.tko
    slotB := s.pair.slotB
    leaving := s.pair.leaving
    handover := s.pair.offer.isSome
    xtripOut := !s.xtripHigh
    xtripIn := s.saf.xtripIn == 1
    health := s.reg Reg.RED_HEALTH
    score := s.fld Reg.RED_SCORE 0 8
    kReq := s.fld Reg.SAF_K_REQ 0 6
    path := chMask s.chProved
    psetDigest := s.psetDigest
    image := s.runVer
    cfgTag := s.reg Reg.CSW_CFG_TAG
    stageDigest := s.stageDigest
    present := s.rd Reg.NOD_PRESENT_MASK
    cycle := (s.newestRec.map (·.cycle)).getD 0 % 2 ^ 32
    odo := s.odoLo
    gauCycle := s.gau.cyc % 2 ^ 32
    gauAngle := s.gau.pos / 2 ^ 32 % 2 ^ 32
    ptSec := timeSec s.plant % 2 ^ 32
    ptNs := timeNs s.plant
    epoch := s.nv.epoch
    act := s.upd.armed.getD 0
    knet := s.nv.knet }

/-- The level of RESIGN_OUT (R227). -/
inductive ResignLevel where
  /-- Driven low: this module claims control. -/
  | low
  /-- Driven high. -/
  | high
  /-- Undriven: in reset, unpowered or removed. -/
  | floating
  deriving DecidableEq, Repr

/-- RESIGN_OUT (R227): it floats in OFF, which is a module without power or removed; a reset is over within its command. -/
def resignOut (s : State) : ResignLevel :=
  if s.pair.unpowered || s.pair.mode == .off then .floating else if s.pair.claim then .low else .high

/-- Send a heartbeat (R230), at its period or at once on a change of role, mode, K_REQ or path. -/
def sendBeat (s : State) : State :=
  if !s.cswUp then s
  else
    let h := s.heartbeat
    { s with pair := { s.pair with hbSent := h, hbTxAt := some s.tim.odo } }.cswSend 0 0 [hbPayload h]

end State

end Sys2Proof.Machine
end

