-- ==== Sys2Proof/Machine/Cvl.lean ====
section
/-! DEFINITION. The converter reference link and the ways the control engine stops (R182 to R187). -/

namespace Sys2Proof.Machine

open Sys2Proof

/-- Signed 24-bit REF as its field (R183). -/
def refField (i : Int) : Nat := (i % (2 ^ 24 : Int)).toNat

/-- The value of a CVL frame without its CRC (R183). -/
def cvlWord (f : CvlFrame) : Nat :=
  refField f.ref + f.seq * 2 ^ 24 + f.role * 2 ^ 32 + b2n f.stop * 2 ^ 34 + b2n f.rep * 2 ^ 35 + b2n f.path * 2 ^ 36
    + f.sel * 2 ^ 37 + f.tko * 2 ^ 40

namespace State

/-- A frame can leave: the port is enabled, its clock runs, and the module has a role (R182, R183: ROLE 0b00 is never sent). -/
def cvlSends (s : State) : Bool :=
  s.bit Reg.CVL_CVL_CFG 0 && s.ctl.lineOn && s.pair.role != .none && !s.pair.unpowered

/-- Send a frame (R183): SEQ advances, ROLE and TKO are the module's, REF is 0 in a STOP frame. A repeat keeps PATH and SEL of the frame it repeats
(R184). -/
def sendCvl (s : State) (stop rep : Bool) (ref : Int) : State :=
  if !s.cvlSends then s
  else
    let old := s.ctl.frame
    let f : CvlFrame := { ref := if stop then 0 else ref, seq := (old.seq + 1) % 256, role := s.pair.role.code, stop := stop, rep := rep,
                          path := if rep then old.path else s.ctl.path, sel := if rep then old.sel else s.ctl.sel, tko := s.pair.tko }
    let gap := match s.ctl.frameAt with
      | some t => max s.ctl.gap (s.since t)
      | none => s.ctl.gap
    let w := cvlWord f
    let w := w + crc16 (leBytes 6 w) * 2 ^ 48
    let s := { s with ctl := { s.ctl with frame := f, frameAt := some s.tim.odo, gap := gap } }
    let s := (((s.wr Reg.CVL_CVL_LAST_LO w).wr Reg.CVL_CVL_LAST_HI (w / 2 ^ 32)).wr Reg.CTL_U_OUT (refField f.ref)).bump Reg.CVL_CVL_FRAMES
    let s := if rep then s.bump Reg.CVL_CVL_REPEATS else s
    let s := if stop then s.bump Reg.CVL_CVL_STOPS else s
    let s := s.eventIf (old.role != f.role) 0x11 0
    let s := s.eventIf (stop && !old.stop) 0x11 1
    s.eventIf (old.stop && !stop) 0x11 2

/-- The module controls or follows the converter link with STOP frames from now on (R185): RUN and HOLD are left, and the next frame is
STOP, unless STOP frames are being sent already. -/
def stopFrames (s : State) : State :=
  let was := s.ctl.state
  let st := if s.isShadow then 2 else 0
  let already := s.ctl.stopping
  let s := { s with ctl := { s.ctl with stopping := true, state := st } }
  let s := s.eventIf (was == 1) 0x10 1
  if already then s else s.sendCvl true false 0

/-- The frame of a step: STOP frames continue once they have started (R184, R185). -/
def sendRef (s : State) (ref : Int) : State := s.sendCvl s.ctl.stopping false ref

/-- The conditions of RUN in R184 but for the path; from step 2 of a stop sequence on CTL stays out of RUN (R225). -/
def mayRunOrHold (s : State) : Bool :=
  s.running && s.inControl && s.bit Reg.CTL_CTL_CFG 8 && s.ctl.applied && !s.saf.latched && s.pair.stop.all fun q => decide (q.step < 2)

/-- The conditions of RUN in R184. -/
def mayRun (s : State) : Bool := s.mayRunOrHold && s.pathProved

/-- RUN is left once one of its conditions fails (R184, R185). HOLD is left for every condition but the path (R235). -/
def runCheck (s : State) : State :=
  if s.ctl.state = 1 && !s.mayRun then s.stopFrames
  else if s.ctl.state = 3 && !s.mayRunOrHold then s.stopFrames
  else s

/-- Empty the window of the oscillation detector (R179). -/
def oscEmpty (s : State) : State :=
  { s with ctl := { s.ctl with cross := [], side := 0, oscFrom := s.tim.odo + BitVec.ofNat 64 (msT (10 * s.ctl.set.oscWin)) } }

/-- TKO `a` is later than `b` (R184, R186). -/
def tkoLater (a b : Nat) : Bool :=
  let d := (a + 16 - b) % 16
  decide (1 ≤ d) && decide (d ≤ 7)

/-- The TKO of a module that becomes ACTIVE or SOLO (R184): one more than the later of its own and the partner's; its own where they
differ by 8. -/
def nextTko (s : State) : Nat :=
  let p := s.pair.hb.tko % 16
  ((if tkoLater p s.pair.tko then p else s.pair.tko) + 1) % 16

end State

/-- CVL_REPEAT (R184): no frame has started for 102.4 µs. -/
def execCvlRepeat (s : State) : Out :=
  ok (match s.ctl.frameAt with
    | some t => if decide (25600 ≤ s.since t) then s.sendCvl s.ctl.frame.stop true s.ctl.frame.ref else s
    | none => s)

/-- A read of CVL_GAP (R5): the longest interval between frame starts since the last read, ns; the read clears it. -/
def cvlGapReadOp (s : State) : State := { s with busData := w32 (4 * s.ctl.gap), ctl := { s.ctl with gap := 0 } }

/-- CVL_GAP_READ (R5). -/
def execCvlGapRead (mid : Mid) (s : State) : Out := ok (s.busR mid Reg.CVL_CVL_GAP cvlGapReadOp)

end Sys2Proof.Machine
end

