-- ==== Sys2Proof/Machine/Program.lean ====
section
/-! DEFINITION. FRM: formation and grading programs (R188 to R192), their commands, and the end of a program at a mode change or a demand. -/

namespace Sys2Proof.Machine

open Sys2Proof

/-- Step charge in mAh, to the nearest, from mA times 12.8 µs. -/
def toMah (q : Int) : Int := divRound q 281250000

/-- Step energy in Wh, to the nearest, from µW times 12.8 µs. -/
def toWh (e : Int) : Int := divRound e 281250000000000

/-- Step time in ms from units of 12.8 µs. -/
def stepMs (t : Nat) : Nat := t * 128 / 10000

namespace State

/-- The program running, paused or last run. -/
def frmProg (s : State) : List FrmStep := ((s.frm.slot.bind s.frm.progs.find?)).getD []

/-- The present step. -/
def frmStep (s : State) : Option FrmStep := s.frmProg[s.frm.step]?

/-- Hand CTL a set-point for the next control step; `jump` passes over the ramp (R172, R189). -/
def frmSet (s : State) (kind : Nat) (value limit : Int) (jump : Bool) : State :=
  { s with ctl := { s.ctl with next := some (⟨kind, value, limit, true⟩, jump) } }

/-- A program ends with a state of FRM_STAT and its FAILED bit. -/
def frmIdle (s : State) (st : Nat) (failed : Bool) : State :=
  let s := { s with frm := { s.frm with state := st } }
  ((s.setBit Reg.FRM_FRM_STAT 2 failed).frmSet 1 0 0 false)

/-- The graded charge of a cell, mAh, with the bits CROSSED and EST (R191). -/
def graded (s : State) (p : FrmStep) (c : Nat) : Int × Nat :=
  match s.frm.graded.find? c with
  | some q => (q, 1)
  | none =>
    let x := s.pubCell c
    let q := (toMah s.frm.charge).natAbs
    let rest := if p.iSet < 0 then F32.mul x.socF x.cap else F32.mul (F32.sub F32.one x.socF) x.cap
    (q + F32.toIntScaled rest 1000, 2)

/-- A sense wire of the cell is confirmed broken (R105). -/
def wireConf (s : State) (c : Nat) : Bool :=
  let w (i : Nat) : Bool := (s.swp.wires.get {} (c / 16 * 17 + i)).confirmed
  w (c % 16) || w (c % 16 + 1)

/-- A cell's 16 bytes of a result block (R192). -/
def resCell (s : State) (p : FrmStep) (c : Nat) : List Nat :=
  let (q, fl) := if p.flags.testBit 0 then s.graded p c else (0, 0)
  let r := s.newestRec
  let v := (r.bind (recV · c)).getD 0xFFFF
  let dirty := match r with
    | some r => decide (recScr r c ≠ 0)
    | none => true
  let x := s.pubCell c
  leBytes 4 (wInt q).toNat ++ leBytes 2 v ++ leBytes 4 (F32.toIntScaled x.rohm25 1000000).toNat
    ++ leBytes 2 (fl + 4 * b2n dirty + 8 * b2n (s.wireConf c)) ++ leBytes 2 (wInt (F32.toIntScaled x.t 100)).toNat ++ [0, 0]

/-- A result block (R192). -/
def resBlock (s : State) (p : FrmStep) (cause : Nat) : List Nat :=
  let cells := s.countedCells
  wordBytes (s.reg Reg.FRM_FRM_RUN) ++ [s.frm.step, p.kind, cause, 0] ++ leBytes 4 s.frm.startCycle ++ leBytes 4 s.gau.cyc
    ++ leBytes 4 (wInt (toMah s.frm.charge)).toNat ++ leBytes 4 (wInt (toWh s.frm.energy)).toNat ++ leBytes 4 (stepMs s.frm.time)
    ++ leBytes 2 cells.length ++ [0, 0] ++ cells.flatMap (s.resCell p)

/-- A result block finds no room (R192). -/
def resFull (s : State) : State := (s.bump Reg.FRM_FRM_RES_DROP).event 0x12 4

/-- Write the result block of a step that ends (R192): RES_BLOCK, or RES_FULL where it does not fit, or where the firewall denies the write (R265). -/
def writeRes (s : State) (p : FrmStep) (cause : Nat) : State :=
  if !(p.flags.testBit 0 || p.flags.testBit 1) then s
  else
    let b := s.resBlock p cause
    let ofs := s.rd Reg.FRM_FRM_RES_WOFS
    let at_ := s.rd Reg.FRM_FRM_RES_BASE + ofs
    if s.rd Reg.FRM_FRM_RES_SIZE < ofs + b.length then s.resFull
    else if !s.rangeRight (midColumn (.own .ctl)) at_ b.length true then (s.storeAs (.own .ctl) at_ b).resFull
    else ((s.storeAs (.own .ctl) (s.rd Reg.FRM_FRM_RES_BASE + ofs) b).wr Reg.FRM_FRM_RES_WOFS (ofs + b.length)).event 0x12 3

/-- The end of a step with its cause (R189). -/
def stepEnds (s : State) (cause : Nat) : State :=
  match s.frmStep with
  | some p => (((s.setFld Reg.FRM_FRM_STAT 16 4 cause).event 0x12 0)).writeRes p cause
  | none => s

/-- Begin step `i` (R189). The current of the step before a PULSE is the last reference (log entry 119). A LOOP or END step with GRADE or RECORD writes
its block as it ends, with cause 0 (R192). LOOP steps run in no time: the fuel bounds them (log entry 12). A step number past the last step ends the program. -/
def frmBegin (s : State) (i : Nat) (jump : Bool) : Nat → State
  | 0 => s
  | fuel + 1 =>
    let s := { s with frm := { s.frm with step := i, time := 0, charge := 0, energy := 0, startCycle := s.gau.cyc, startOdo := s.tim.odo
                                          vcMet := false, iMet := false, graded := [] } }
    let s := s.oscEmpty
    match s.frmStep with
    | none => (s.frmIdle 3 false).event 0x12 1
    | some p =>
      if p.kind = 5 then
        let s := s.writeRes p 0
        let n := s.frm.loops.get 0 i
        if n < p.loops then
          frmBegin { s with frm := { s.frm with loops := s.frm.loops.put 0 i (n + 1) } } (if p.nextOk = 0xFF then i + 1 else p.nextOk) jump fuel
        else frmBegin { s with frm := { s.frm with loops := s.frm.loops.put 0 i 0 } } (i + 1) jump fuel
      else if p.kind = 6 then ({ s.writeRes p 0 with frm := { (s.writeRes p 0).frm with state := 3 } }.frmSet 1 0 0 jump).event 0x12 1
      else if p.kind = 1 then s.frmSet 1 p.iSet 0 jump
      else if p.kind = 2 then s.frmSet 3 p.vSet p.iSet jump
      else if p.kind = 4 then
        let prev := s.rdI Reg.CTL_I_REF
        { s with frm := { s.frm with prevI := prev } }.frmSet 1 (prev + p.iSet) 0 true
      else s.frmSet 1 0 0 jump

/-- How many LOOP steps may follow one another. -/
def loopFuel : Nat := 1048576

/-- A mode change or a latched demand ends the program with cause 6 or 7, the STOP command with 5 (R190). -/
def frmEnd (s : State) (cause : Nat) : State :=
  if s.frm.state = 1 ∨ s.frm.state = 2 then ((s.stepEnds cause).frmIdle 0 false).event 0x12 5 else s

/-- The program moves on after a step's end (R189). PULSE takes its amplitude away without the ramp. -/
def frmNext (s : State) (cause : Nat) (failing : Bool) : State :=
  match s.frmStep with
  | none => s
  | some p =>
    let s := s.stepEnds cause
    let pulse := decide (p.kind = 4)
    let back := F32.ofInt s.frm.prevI
    let s := if pulse then { s with ctl := { s.ctl with ramp := back, idNow := back } } else s
    if failing then
      if p.nextFail = 0xFF then (s.frmIdle 0 true).event 0x12 2 else s.frmBegin p.nextFail false loopFuel
    else s.frmBegin (if p.nextOk = 0xFF then s.frm.step + 1 else p.nextOk) false loopFuel

/-- The direction of a step: charge unless I_SET is negative. -/
def stepCharges (p : FrmStep) : Bool := decide (0 ≤ p.iSet)

/-- A reading has passed a voltage in the step's direction. -/
def passed (charge : Bool) (v limit : Nat) : Bool := if charge then decide (limit ≤ v) else decide (v ≤ limit)

/-- The lowest and highest clean reading of a record over the cells counted (V_RANGE). -/
def vRange (s : State) (r : SweepRec) : Option (Nat × Nat) :=
  match s.countedCells.filterMap (cleanV r) with
  | [] => none
  | v :: vs => some (vs.foldl min v, vs.foldl max v)

/-- VC_LIM is found passed at a Publish of a run whose records are `ring` (R189): by the highest reading in charge, the lowest in discharge; in REST since the record before, in either
direction (log entry 13). No clean reading, no end. -/
def vcLimMet (s : State) (ring : List SweepRec) (p : FrmStep) : Bool :=
  match ring.head?.bind s.vRange with
  | none => false
  | some (lo, hi) =>
    if p.vcLim = 0 then false
    else if p.kind = 3 then
      match (ring[1]?).bind s.vRange with
      | some (lo', hi') => (decide (hi' < p.vcLim) && decide (p.vcLim ≤ hi)) || (decide (p.vcLim < lo') && decide (lo ≤ p.vcLim))
      | none => false
    else if stepCharges p then decide (p.vcLim ≤ hi) else decide (lo ≤ p.vcLim)

/-- Mean current of a record, mA: QSUM over NSUM. -/
def meanI (r : SweepRec) : Option Int := if curValid r && decide (r.nsum ≠ 0) then some (divRound r.qsum r.nsum) else none

/-- The tests of R189 that are made at Publish, on the records of its run. -/
def frmPublish (s : State) (ring : List SweepRec) : State :=
  match s.frmStep with
  | some p =>
    if s.frm.state ≠ 1 then s
    else
      let i := match ring.head?.bind meanI with
        | some i => decide (i.natAbs ≤ p.iEnd)
        | none => false
      { s with frm := { s.frm with vcMet := s.vcLimMet ring p, iMet := i } }
  | none => s

/-- The condition of an end cause holds (R189): those of a sweep as the newest Publish of the step found them. -/
def causeMet (s : State) (p : FrmStep) (c : StepCause) : Bool :=
  match c with
  | .vcLim => (p.kind == 1 || p.kind == 2 || p.kind == 3) && s.frm.vcMet
  | .iEnd => p.kind == 2 && s.frm.iMet
  | .tMax => decide (p.tMax ≠ 0) && decide (p.tMax * 10000 ≤ s.frm.time * 128)
  | .qMax => (p.kind == 1 || p.kind == 2) && decide (p.qMax ≠ 0) && decide ((p.qMax : Int) * 281250000 ≤ s.frm.charge.natAbs)

/-- A cause that ends the step failing (R189). -/
def causeFails (p : FrmStep) (c : StepCause) : Bool :=
  match c with
  | .vcLim => p.kind == 3
  | .iEnd => false
  | .tMax => p.kind == 1 || p.kind == 2
  | .qMax => true

/-- The grading of R191 at Publish: a cell whose reading first passes VC_GRADE in a record sampled in this step takes the step charge of its sample
instant. -/
def gradeCross (s : State) (r : SweepRec) : State :=
  match s.frmStep with
  | some p =>
    if s.frm.state = 1 && p.flags.testBit 0 && decide (0 ≤ (r.smpOdo - s.frm.startOdo).toInt) then
      let q : Int := (toMah (if s.frm.smpCycle = r.cycle then s.frm.smpQ else s.frm.charge)).natAbs
      s.countedCells.foldl (fun s c =>
        match cleanV r c with
        | some v =>
          if (s.frm.graded.find? c).isNone && passed (stepCharges p) v p.vcGrade then
            { s with frm := { s.frm with graded := s.frm.graded.set c q } }
          else s
        | none => s) s
    else s
  | none => s

/-! ### Programs -/

/-- One step of a program as it stands in memory (R188). -/
def frmParse (b : List Nat) : FrmStep :=
  { kind := leAt b 0 1, flags := leAt b 1 1, nextOk := leAt b 2 1, nextFail := leAt b 3 1, iSet := leIntAt b 4 4, vSet := leIntAt b 8 4,
    tMax := leAt b 12 4, iEnd := leAt b 16 4, qMax := leAt b 20 4, vcLim := leAt b 24 2, vcGrade := leAt b 26 2, loops := leAt b 28 2 }

/-- A step that R188 accepts. -/
def frmStepOk (count : Nat) (p : FrmStep) : Bool :=
  let next (n : Nat) : Bool := decide (n ≤ count) || n == 0xFF
  decide (1 ≤ p.kind) && decide (p.kind ≤ 6) && next p.nextOk && next p.nextFail && !((p.kind == 1 || p.kind == 2) && decide (p.iSet = 0))

/-- A program as it stands in memory, if it is one (R188). -/
def frmCheck (b : List Nat) : Option (List FrmStep) :=
  let count := leAt b 6 1
  let len := leAt b 8 4
  let steps := (List.range count).map fun i => frmParse ((b.drop (16 + 32 * i)).take 32)
  if leAt b 0 4 = 0x46524D50 && leAt b 4 2 = 1 && decide (1 ≤ count) && decide (count ≤ 64) && decide (len = 20 + 32 * count)
      && decide ((crc32 (b.take (len - 4))).toNat = leAt b (len - 4) 4) && steps.all (frmStepOk count) then some steps
  else none

/-- The longest program: 64 steps. -/
def progMax : Nat := 16 + 32 * 64 + 4

/-- LOAD (R188). -/
def frmLoadOp (s : State) (mid : Mid) : State :=
  match s.frm.progs.firstFree 8 with
  | none => s.err mid Reg.FRM_FRM_CMD .frmFull
  | some i =>
    let a := s.rd Reg.FRM_FRM_ADDR
    let (s, head) := s.fetchAs (.own .ctl) a 16
    let len := min progMax (leAt head 8 4)
    let (s, b) := s.fetchAs (.own .ctl) a len
    match frmCheck b with
    | none => s.err mid Reg.FRM_FRM_CMD .frmBad
    | some p =>
      let s := s.newGen .program i
      ({ s with frm := { s.frm with progs := s.frm.progs.set i p } }).setReg Reg.FRM_FRM_HANDLE (s.handleOf .program i)

/-- The program FRM_HANDLE names (R11). -/
def frmHandle (s : State) : Except ErrCode Nat :=
  s.checkHandle .program (fun i => (s.frm.progs.find? i).isSome) (s.reg Reg.FRM_FRM_HANDLE)

/-- DESTROY (R188). -/
def frmDestroyOp (s : State) (mid : Mid) : State :=
  match s.frmHandle with
  | .error e => s.err mid Reg.FRM_FRM_CMD e
  | .ok i =>
    if s.frm.slot = some i ∧ (s.frm.state = 1 ∨ s.frm.state = 2) then s.err mid Reg.FRM_FRM_CMD .inUse
    else { s with frm := { s.frm with progs := s.frm.progs.erase i, slot := if s.frm.slot = some i then none else s.frm.slot } }

/-- START (R190). -/
def frmStartOp (s : State) (mid : Mid) : State :=
  match s.frmHandle with
  | .error e => s.err mid Reg.FRM_FRM_CMD e
  | .ok i =>
    let p := (s.frm.progs.find? i).getD []
    let vOk (x : FrmStep) : Bool := x.kind != 2 || (decide (s.ctl.set.vMin ≤ x.vSet) && decide (x.vSet ≤ s.ctl.set.vMax))
    if s.pair.mode ≠ .formation ∨ s.ctl.state ≠ 1 then s.err mid Reg.FRM_FRM_CMD .mode
    else if !p.all vOk then s.err mid Reg.FRM_FRM_CMD .range
    else
      let s := { s with frm := { s.frm with slot := some i, state := 1, loops := [] } }
      let s := ((s.setReg Reg.FRM_FRM_RUN (s.handleOf .program i)).wr Reg.FRM_FRM_RES_WOFS 0).setBit Reg.FRM_FRM_STAT 2 false
      s.frmBegin 0 false loopFuel

/-- PAUSE (R190). -/
def frmPauseOp (s : State) (mid : Mid) : State :=
  if s.frm.state = 1 then { s with frm := { s.frm with state := 2 } }.frmSet 1 0 0 false else s.err mid Reg.FRM_FRM_CMD .state

/-- RESUME (R190): the step's set-point comes back. -/
def frmResumeOp (s : State) (mid : Mid) : State :=
  if s.frm.state ≠ 2 then s.err mid Reg.FRM_FRM_CMD .state
  else
    let s := { s with frm := { s.frm with state := 1 } }
    match s.frmStep with
    | none => s
    | some p =>
      if p.kind = 1 then s.frmSet 1 p.iSet 0 false
      else if p.kind = 2 then s.frmSet 3 p.vSet p.iSet false
      else if p.kind = 4 then s.frmSet 1 (s.frm.prevI + p.iSet) 0 true
      else s.frmSet 1 0 0 false

/-- STOP (R190): the program ends with cause 5. -/
def frmStopOp (s : State) (mid : Mid) : State :=
  if s.frm.state = 1 ∨ s.frm.state = 2 then s.frmEnd 5 else s.err mid Reg.FRM_FRM_CMD .state

end State

/-- FRM_LOAD (R188). -/
def execFrmLoad (mid : Mid) (s : State) : Out := ok (s.busW mid Reg.FRM_FRM_CMD fun s => s.frmLoadOp mid)

/-- FRM_DESTROY (R188). -/
def execFrmDestroy (mid : Mid) (s : State) : Out := ok (s.busW mid Reg.FRM_FRM_CMD fun s => s.frmDestroyOp mid)

/-- FRM_START (R190). -/
def execFrmStart (mid : Mid) (s : State) : Out := ok (s.busW mid Reg.FRM_FRM_CMD fun s => s.frmStartOp mid)

/-- FRM_STOP (R190). -/
def execFrmStop (mid : Mid) (s : State) : Out := ok (s.busW mid Reg.FRM_FRM_CMD fun s => s.frmStopOp mid)

/-- FRM_PAUSE (R190). -/
def execFrmPause (mid : Mid) (s : State) : Out := ok (s.busW mid Reg.FRM_FRM_CMD fun s => s.frmPauseOp mid)

/-- FRM_RESUME (R190). -/
def execFrmResume (mid : Mid) (s : State) : Out := ok (s.busW mid Reg.FRM_FRM_CMD fun s => s.frmResumeOp mid)

/-- FRM_STEP_END (R189): the running step meets an end condition. -/
def execFrmStepEnd (cause : StepCause) (s : State) : Out :=
  ok (match s.frmStep with
    | some p =>
      let code := match cause with
        | .vcLim => 1
        | .iEnd => 2
        | .tMax => 3
        | .qMax => 4
      if s.frm.state = 1 && s.causeMet p cause then s.frmNext code (State.causeFails p cause) else s
    | none => s)

end Sys2Proof.Machine
end

