-- ==== Sys2Proof/Machine/Demand.lean ====
section
/-! DEFINITION. The operations that cut across the safety core, the pair and the control engine: entering a mode (R223, R224), opening coil
paths (R196), latching a demand (R205), and changing the role by resignation, yield and takeover (R226 to R238). -/

namespace Sys2Proof.Machine

open Sys2Proof

namespace State

/-! ### Modes -/

/-- Enter a mode (R223, R224): a program in progress ends (R190), OPERATE begins with kind 1 at 0 mA (R175), FORMATION with the program's
set-point, and CTL leaves RUN where the mode no longer allows it (R184). -/
def setMode (s : State) (m : Mode) : State :=
  if s.pair.mode = m then s
  else
    let s := if s.pair.mode = .formation then s.frmEnd 6 else s
    let s := { s with pair := { s.pair with mode := m, stop := none }, ctl := { s.ctl with stopHold := false } }.event 0x1C 1
    let s :=
      if m = .operate then { s with ctl := { s.ctl with now := {}, next := none }, dsp := { s.dsp with spNow := 0 } }
      else if m = .formation then { s with ctl := { s.ctl with now := { fromFrm := true }, next := none }, dsp := { s.dsp with spNow := 0 } }
      else s
    s.runCheck.sendBeat

/-! ### Coil paths -/

/-- The coils whose state has changed since it was `was`, a bit each: FB_TIME begins anew for them (R211). -/
def noteCoils (s : State) (was : Nat) : State :=
  (List.range 6).foldl (fun s k => if was.testBit k == s.coilOn k then s else s.setCh k { s.ch k with changed := some s.tim.odo }) s

/-- The coils that are energised, a bit each. -/
def coilMask (s : State) : Nat := chMask s.coilOn

/-- Open this module's path of a channel (R196, R206): both switches off. -/
def openCh (s : State) (k : Nat) : State :=
  let c := s.ch k
  if c.kh || c.kl then ((s.setCh k { c with kh := false, kl := false, onAt := none }).noteCoils s.coilMask).runCheck.sendBeat else s

/-- Close this module's path of a channel (R206, R242). -/
def closeCh (s : State) (k : Nat) : State :=
  let c := s.ch k
  if c.kh && c.kl then s
  else ((s.setCh k { c with kh := true, kl := true, onAt := some s.tim.odo }).noteCoils s.coilMask).sendBeat

/-- Open every path of this module. -/
def openAll (s : State) : State := (List.range 6).foldl openCh s

/-! ### Demands (R205) -/

/-- The records of a latching SAFE cycle (R205): DEMAND_LATCH, FIRST_CAUSE, LATCH_ODO, the counters and the event. -/
def latchRecord (s : State) (cause g : Nat) : State :=
  let s := { s with saf := { s.saf with latched := true, gLatch := true } }
  let s := (s.wr Reg.SAF_DEMAND_LATCH s.saf.sources).wr Reg.SAF_FIRST_CAUSE cause
  let s := ((s.setReg Reg.SAF_LATCH_ODO_LO s.odoLo).setReg Reg.SAF_LATCH_ODO_HI s.odoHi).bump Reg.SAF_DEMANDS
  let s := ((s.wr Reg.GRD_GRD_CAUSE g).event 0x13 0).event 0x14 0
  s.fixedEvent 0x010 [w32 cause, s.reg Reg.SAF_DEMAND_LATCH, w32 g]

/-- SAFE-HOLD is entered from every mode but OFF and BOOT (R224). -/
def enterSafeHold (s : State) : State :=
  if s.pair.mode == .off || s.pair.mode == .boot then s else s.setMode .safeHold

/-- The partner is told of a demand over the Causeway (R202, R230). -/
def tellDemand (s : State) (cause : Nat) : State :=
  if s.cswUp then
    { s with pair := { s.pair with demandSent := some (w32 cause, w32 s.saf.sources) } }.cswSend 0 1 [demandPayload (w32 cause) (w32 s.saf.sources)]
  else s

/-- Latch a demand in safety core and guardrail in one SAFE cycle (R205): it is recorded, every path opens, a program ends with cause 7
(R190), a stop sequence ends (R225), SAFE-HOLD is entered, STOP frames start (R185), XTRIP_OUT goes high and the partner is told (R202). -/
def latch (s : State) (cause g : Nat) : State :=
  let s := ((s.latchRecord cause g).openAll).frmEnd 7
  let s := { s with pair := { s.pair with stop := none }, ctl := { s.ctl with stopHold := false } }
  (s.enterSafeHold.stopFrames.tellDemand cause).sendBeat

/-- A safety demand (R205) from source `src`, of the input, node or channel `detail`, through the Causeway where `via` says so. A demand
already latched stands; its source is shown in DEMAND. -/
def trip (s : State) (src detail g : Nat) (via : Bool := false) : State :=
  let s := s.activate src g
  if s.saf.latched then { s with saf := { s.saf with gLatch := true } }
  else s.latch (src + 1 + detail * 2 ^ 8 + b2n via * 2 ^ 16) g

/-- The sources the cell link feeds (R200, R201), recomputed from what stands: SF2, SF3, SF4, and the guardrail's LINK line. -/
def linkSources (s : State) : State :=
  let v := decide (s.saf.flagV ≠ 0) || decide (s.saf.readV ≠ 0)
  let t := decide (s.saf.flagT ≠ 0) || decide (s.saf.readT ≠ 0)
  let line := decide (s.saf.flagV ≠ 0) || decide (s.saf.flagT ≠ 0) || s.saf.silent
  let s := if v then s else s.quiet 1 7
  let s := if t then s else s.quiet 2 7
  let s := if s.saf.silent then s else s.quiet 3 7
  if line then s else { s with saf := { s.saf with gSources := s.saf.gSources &&& 59 } }

/-! ### Roles (R226 to R238) -/

/-- RED_CFG.PAIR_EN. -/
def pairEn (s : State) : Bool := s.bit Reg.RED_RED_CFG 0

/-- Take a role (R226, R227): RESIGN_OUT is low in ACTIVE and SOLO. A module that leaves control stops its radios and tracks (R228), and SF8 is no
demand in it (R204). A SHADOW has yet to prove that it follows (R239), and its wait for a heartbeat begins (R234). -/
def setRole (s : State) (r : Role) : State :=
  if s.pair.role = r then s
  else
    let was := s.inControl
    let claims := r == .active || r == .solo
    let s := { s with pair := { s.pair with role := r, claim := claims, claimAt := if claims && !was then s.tim.odo else s.pair.claimAt } }
    let s := s.event 0x1C 0
    let s :=
      if was && !claims then
        { s with link := { s.link with sf := s.link.sf.map fun f => { f with served := false } },
                 pair := { s.pair with offer := none, blocked := [], revertAt := none } }
      else s
    let s :=
      if r = .shadow then
        { s with ctl := { s.ctl with state := 2, fallDue := false, oscDue := none, stopping := s.saf.latched }
                 pair := { s.pair with estOk := 0, ctlOk := false, ctlWhole := false, hbAt := if s.pair.alive then s.pair.hbAt else s.tim.odo } }.quiet 7 7
      else s
    let s := { s with ctl := { s.ctl with mirror := none } }
    s.sendBeat

/-- The partner can take control: its heartbeat shows SHADOW with a SCORE at or above RESIGN_MIN (R233, R243). -/
def partnerFit (s : State) : Bool :=
  s.partnerAlive && s.pair.hb.role == 3 && decide (s.rd Reg.RED_RESIGN_MIN ≤ s.pair.hb.score)

/-- A cause of R233 is noted as not carried out. -/
def noteCause (s : State) (cause : Nat) : State :=
  { s with pair := { s.pair with blocked := if s.pair.blocked.contains cause then s.pair.blocked else s.pair.blocked ++ [cause] } }

/-- An ACTIVE meets a cause of R233: it becomes SHADOW, or keeps control with RESIGN_BLOCKED. A SOLO module has no one to resign to; a cause that
stands is taken up once it is ACTIVE. -/
def resignFor (s : State) (cause : Nat) : State :=
  if s.pair.role = .solo then s.noteCause cause
  else if s.pair.role ≠ .active then s
  else if s.partnerFit then
    let s := ((s.wr Reg.RED_LAST_CAUSE cause).bump Reg.RED_RESIGNS).setRole .shadow
    (s.event 0x1C 3).fixedEvent 0x015 [w32 cause, w32 s.pair.role.code]
  else (s.noteCause cause).event 0x1C 7

/-- A module in control yields (R228). -/
def yield (s : State) : State :=
  if s.inControl then ((s.bump Reg.RED_RESIGNS).setRole .shadow).event 0x1C 4 else s

/-- CTL at a takeover (R184, R235): RUN from TRACK if the path is closed and proved, HOLD if only that is missing, STOPPED otherwise. -/
def ctlTakeOver (s : State) : State :=
  if s.mayRun then
    { s with ctl := { s.ctl with state := 1, stopping := false } }.oscEmpty.event 0x10 0
  else if s.mayRunOrHold then
    { s with ctl := { s.ctl with state := 3, stopping := false, holdAt := s.tim.odo } }
  else { s with ctl := { s.ctl with state := 0, stopping := true } }

/-- Become ACTIVE or SOLO (R184, R226, R235): TKO advances, the role is taken, the key epoch advances at the next beacon (R54), and the
superframe in progress is left unserved. -/
def claimControl (s : State) (solo : Bool) : State :=
  let s := { s with pair := { s.pair with tko := s.nextTko } }.event 0x11 3
  let s := s.setRole (if solo then .solo else .active)
  let s := { s with link := { s.link with epochDue := true } }
  s.ctlTakeOver

/-- The SHADOW takes over (R235): TKO_ODO, TAKEOVERS and SWITCH_TIME are written, and the first frame carries the REF of the last tracked
step. SWITCH_TIME lies within the 250 µs of the rule and is otherwise open (log entry 14). -/
def takeOver (s : State) (solo : Bool) : State :=
  let s := s.claimControl solo
  let s := ((s.setReg Reg.RED_TKO_ODO_LO s.odoLo).setReg Reg.RED_TKO_ODO_HI s.odoHi).bump Reg.RED_TAKEOVERS
  let s := { s with swp := { s.swp with takeover := true } }
  let s := (s.sendCvl (s.ctl.state == 0) false s.ctl.cmd).event 0x1C 2
  let s := (s.wr Reg.RED_SWITCH_TIME (s.freeWord.toNat % 250001)).drawFree
  s.fixedEvent 0x014 [w32 s.pair.role.code, w32 s.pair.tko, s.reg Reg.RED_SWITCH_TIME]

/-- The taker of a planned handover (R237): its frames begin at its next control step. -/
def takeHandover (s : State) : State :=
  let s := s.claimControl false
  let s := ((s.setReg Reg.RED_TKO_ODO_LO s.odoLo).setReg Reg.RED_TKO_ODO_HI s.odoHi).bump Reg.RED_TAKEOVERS
  s.event 0x1C 5

end State

end Sys2Proof.Machine
end

