-- ==== Sys2Proof/Machine/LinkCore.lean ====
section
/-! DEFINITION. The cell link: nodes and lanes, what a command frame carries (R16, R18, R65), the opening of a superframe (R38, R54 to R60,
R66), and the checks a received frame goes through (R51). -/

namespace Sys2Proof.Machine

open Sys2Proof

/-- The radio that is not `l`. -/
def otherRadio (l : Nat) : Nat := 1 - l

/-- Bytes of an entry of a command frame (R65). -/
def entryBytes (e : CmdEntry) : List Nat :=
  match e with
  | .chmask m eff => [6, 9] ++ leBytes 5 m ++ leBytes 4 eff
  | .freeze id c j map =>
    let v := map.foldl (fun a (n, b) => a + (b % 4) * 4 ^ n) 0
    [2, 14, id % 256] ++ leBytes 4 c ++ [j % 256] ++ leBytes 8 v
  | .release n m => [5, 2, n, m]
  | .owt n w => [3, 3, n, w, 0]
  | .lane n r l w0 w1 eff => [4, 9, n, r, l, w0, w1] ++ leBytes 4 eff
  | .rejoin n => [7, 1, n]
  | .bal gs => [1, 4 * gs.length] ++ gs.flatMap fun g => [g.node] ++ leBytes 2 g.mask ++ [g.duty]

/-- The place of an entry's kind in the order of R18. -/
def entryRank (e : CmdEntry) : Nat :=
  match e with
  | .chmask .. => 0
  | .freeze .. => 1
  | .release .. => 2
  | .owt .. => 3
  | .lane .. => 4
  | .rejoin .. => 5
  | .bal .. => 6

/-- The largest body of a command frame (R65). -/
def commandMax : Nat := 125

/-- Place entries in order; one that does not fit is left out and the next is tried (R18, R65). -/
def placeEntries (room : Nat) : List CmdEntry → List CmdEntry
  | [] => []
  | e :: r =>
    let n := (entryBytes e).length
    if n ≤ room then e :: placeEntries (room - n) r else placeEntries room r

namespace State

/-! ### Nodes -/

/-- MISS (R77). -/
def miss (s : State) (n : Nat) : Nat := s.fld (Reg.NOD_NODE_STAT n) 0 8

/-- The radio of a node. -/
def nodeRadio (s : State) (n : Nat) : Nat := s.fld (Reg.NOD_NODE_STAT n) 8 1

/-- The lane of a node. -/
def nodeLane (s : State) (n : Nat) : Nat := s.fld (Reg.NOD_NODE_STAT n) 9 4

/-- The node has joined. -/
def joined (s : State) (n : Nat) : Bool := s.bit (Reg.NOD_NODE_STAT n) 13

/-- The joined nodes. -/
def joinedNodes (s : State) : List Nat := (List.range 32).filter s.joined

/-- What the link keeps of a node. -/
def node (s : State) (n : Nat) : NodeSt := s.link.nodes.get {} n

/-- Store what the link keeps of a node. -/
def setNode (s : State) (n : Nat) (x : NodeSt) : State := { s with link := { s.link with nodes := s.link.nodes.put {} n x } }

/-- Set JOINED, in NODE_STAT and JOINED_MASK. -/
def setJoined (s : State) (n : Nat) (b : Bool) : State := (s.setBit (Reg.NOD_NODE_STAT n) 13 b).setBit Reg.NOD_JOINED_MASK n b

/-- The node a lane belongs to; none where it is free. -/
def laneNode (s : State) (l lane : Nat) : Option Nat :=
  let n := s.fld (Reg.LNK_LANE_Q l lane) 16 8
  if n = 0xFF then none else some n

/-- The occupied lanes of a radio, ascending. -/
def lanesUsed (s : State) (l : Nat) : List Nat := (List.range 16).filter fun i => (s.laneNode l i).isSome

/-- LANES_USED. -/
def countLanes (s : State) (l : Nat) : State := s.setFld (Reg.LNK_LNK_STAT l) 8 8 (s.lanesUsed l).length

/-- Free a lane: its quality word reads as at reset. -/
def freeLane (s : State) (l lane : Nat) : State := (s.setReg (Reg.LNK_LANE_Q l lane) 0x00FF0080).countLanes l

/-- Give a lane to a node: RSSI reads 0x80 until its first uplink there. -/
def giveLane (s : State) (l lane n : Nat) : State := (s.wr (Reg.LNK_LANE_Q l lane) (0x80 + n * 2 ^ 16)).countLanes l

/-- A lane may be given: no node has it, and no lane change that has not settled names it (R82). -/
def laneFree (s : State) (l lane : Nat) : Bool :=
  (s.laneNode l lane).isNone && s.link.nodes.all fun (_, x) => match x.move with
    | some m => !(m.radio == l && m.lane == lane) && !(m.oldRadio == l && m.oldLane == lane)
    | none => true

/-- The lowest lane of a radio that may be given. -/
def freeLaneOf (s : State) (l : Nat) : Option Nat := (List.range 16).find? fun i => s.laneFree l i

/-- Put a node into a lane of a radio. -/
def placeNodeIn (s : State) (n l lane : Nat) : State :=
  ((s.giveLane l lane n).setFld (Reg.NOD_NODE_STAT n) 8 1 l).setFld (Reg.NOD_NODE_STAT n) 9 4 lane

/-- The watchers of a node (R74): those of its NODE_DET; 0xFF stands for the nodes of the next two occupied lanes of its radio. -/
def watcher (s : State) (n k : Nat) : Option Nat :=
  let w := s.fld (Reg.NOD_NODE_DET n) (8 * k) 8
  if w ≠ 0xFF then some w
  else
    let l := s.nodeRadio n
    let lanes := (List.range 15).filterMap fun i => s.laneNode l ((s.nodeLane n + 1 + i) % 16)
    lanes[k]?

/-- A cycle so many superframes ahead of the next one: the effective cycle of CHMASK and LANE entries (R57, R82; log entry 15). -/
def cycleAhead (s : State) (k : Nat) : Nat := (s.gau.cyc + k + 1) % 2 ^ 48

/-- Queue an entry for the command frames, in the order of R18. -/
def queueCmd (s : State) (e : CmdEntry) : State :=
  let before := s.link.cmds.filter fun x => entryRank x ≤ entryRank e
  let after := s.link.cmds.filter fun x => !(entryRank x ≤ entryRank e)
  { s with link := { s.link with cmds := before ++ e :: after } }

/-- Take entries out of the queue. -/
def dropCmd (s : State) (p : CmdEntry → Bool) : State := { s with link := { s.link with cmds := s.link.cmds.filter fun e => !p e } }

/-- The node an entry is for; none where it is for all. -/
def entryNode (e : CmdEntry) : Option Nat :=
  match e with
  | .chmask .. | .freeze .. | .bal .. => none
  | .release n _ => some n
  | .owt n _ => some n
  | .lane n .. => some n
  | .rejoin n => some n

/-- The radio whose command frame carries an entry for a node: the one its lane was on before a change not yet in force, and of a node whose
object was destroyed the one it was on then (R72, R80). -/
def entryRadio (s : State) (n : Nat) : Nat :=
  if s.joined n then s.nodeRadio n else (s.link.parted.find? n).getD (s.nodeRadio n)

/-! ### The command frame (R16, R18, R65) -/

/-- The nodes whose open-wire test has been sent and whose test sweep has not opened: until then their groups carry ON_MASK 0 (R18, R106). -/
def underTest (s : State) : List Nat := (s.swp.owts.filter fun o => o.sent && o.sweep.isNone).map (·.node)

/-- The balance groups of a radio, with ON_MASK 0 for the nodes under test (R18, R106). -/
def balOf (s : State) (l : Nat) (tests : List Nat) : List BalGroup :=
  (s.link.balPlan.filter fun g => s.nodeRadio g.node == l).map fun g => if tests.contains g.node then { g with mask := 0 } else g

/-- The entries a radio's command frame takes: those pending in the order of R18 and the newest balance plan, which goes first behind a CHMASK
once it has waited two superframes. An OWT goes in a sweep superframe (R103). -/
def composeFor (s : State) (l : Nat) (aux : Bool) : List CmdEntry :=
  let mine := s.link.cmds.filter fun e =>
    (match entryNode e with
     | some n => s.entryRadio n == l
     | none => true) && !(aux && entryRank e == 3)
  let tests := s.underTest ++ mine.filterMap fun e => match e with
    | .owt n _ => some n
    | _ => none
  let gs := s.balOf l tests
  let bal : List CmdEntry := if gs.isEmpty then [] else [.bal gs]
  let waited := if l = 0 then s.link.balWait0 else s.link.balWait1
  let list :=
    if waited < 2 then mine ++ bal
    else (mine.filter fun e => entryRank e == 0) ++ bal ++ (mine.filter fun e => entryRank e != 0)
  placeEntries commandMax list

/-- The frame carries the balance plan. -/
def hasBal (f : List CmdEntry) : Bool := f.any fun e => entryRank e == 6

/-! ### Channels (R52, R55, R56) -/

/-- 128 bits of the random source, from a draw on (R52). -/
def draw128 (i : Nat) : Nat :=
  (Config.random i).toNat + 2 ^ 32 * (Config.random (i + 1)).toNat + 2 ^ 64 * (Config.random (i + 2)).toNat
    + 2 ^ 96 * (Config.random (i + 3)).toNat

/-- K_NET (R52). Before the first join the spec names no key, and the model takes an unknown one (log entry 114). -/
def kNet (s : State) : Nat := s.nv.knet.getD (draw128 0)

/-- The enabled channels, ascending. -/
def channels (s : State) : List Nat := (List.range 40).filter s.link.chMask.testBit

/-- The join channel of a radio in a cycle, by CYCLE (R37, R56). -/
def joinPos (l cycle : Nat) : Nat := (cycle % 2 ^ 32 + l) % 3

/-- CH_CUR of a radio in a cycle (R55, R56). -/
def chCur (s : State) (l cycle : Nat) : Nat :=
  let list := s.channels
  let n := list.length
  let blk := Config.aes128 (kHop s.kNet) (cycle % 2 ^ 32)
  let a0 := blk % 2 ^ 32 % n
  let d := 1 + blk / 2 ^ 32 % 2 ^ 32 % (n / 2 - 1)
  let a := if l = 0 then a0 else (a0 + n / 2) % n
  let join := [1, 19, 38]
  (list[a]?).getD 0 + 2 ^ 8 * (list[(a + d) % n]?).getD 0 + 2 ^ 16 * (join[joinPos l cycle]?).getD 0

/-! ### Superframes (R54, R58, R60, R66) -/

/-- A radio receives: enabled, powered, not in FAULT, and the module has not left (R243). -/
def radioHears (s : State) (l : Nat) : Bool := (s.lnkState l == 1 || s.lnkState l == 2) && s.pair.leftAt.isNone

/-- A radio serves the slots of the present superframe. -/
def serves (s : State) (l : Nat) : Bool :=
  s.lnkState l == 2 && (match s.link.sf with
    | some f => f.served
    | none => false)

/-- What a frame of this module in a slot of the present superframe says of itself (R50, R53). -/
def airHead (s : State) (l typ slot : Nat) : AirHead :=
  { typ := typ, src := 0x80 + 2 * b2n s.pair.slotB + l, slot := slot, ep := s.nv.epoch.testBit 0, cycle := (s.link.sf.map (·.cycle)).getD 0
    radio := l, slotB := s.pair.slotB }

/-- A radio sends a frame under a key (R49, R50, R52, R53). -/
def sendFrame (s : State) (l typ slot sync : Nat) (key : AirKey) (aad body : List Nat) : State :=
  let air := airFrame sync (airPdu key (s.airHead l typ slot) aad body)
  let s := s.bump (Reg.LNK_TX_FRAMES l)
  if l = 0 then { s with link := { s.link with sent0 := some (typ, body), air0 := air } }
  else { s with link := { s.link with sent1 := some (typ, body), air1 := air } }

/-- A radio sends a link frame, under K_LINK of the epoch in use (R52). -/
def transmit (s : State) (l typ slot : Nat) (aad body : List Nat) : State :=
  s.sendFrame l typ slot (netSync s.kNet) (.link (kLink s.kNet s.nv.epoch) s.nv.epoch) aad body

/-- Draw a new K_NET; the epoch under it starts at 0 (R54). -/
def newKNet (s : State) : State :=
  { s with draws := s.draws + 4, nv := { s.nv with knet := some (draw128 s.draws), epoch := 0 }, link := { s.link with epochDue := false, epochOld := 0, epochAt := s.gau.cyc } }

/-- Every node of the plan is named by JOIN_ADV (R54, REJOIN_ALL). -/
def nameAll (s : State) : State :=
  { s with link := { s.link with rejoin := s.planNodes.foldl (fun m n => m ||| 2 ^ n) s.link.rejoin } }

/-- Advance the key epoch where it is due at a beacon (R54); past 0xFFFF a new K_NET is drawn instead. -/
def advanceEpoch (s : State) : State :=
  if s.link.epochDue || decide (2 ^ 30 ≤ sdiff 48 s.gau.cyc s.link.epochAt) then
    if s.nv.epoch = 0xFFFF then s.newKNet.nameAll
    else { s with nv := { s.nv with epoch := s.nv.epoch + 1 }, link := { s.link with epochDue := false, epochOld := 3, epochAt := s.gau.cyc } }
  else s

/-- PERIOD: the sweep period in units of 4 µs. -/
def periodField (s : State) : Nat :=
  if s.usesTracked then s.gau.swpDiv * s.gau.tracked / 4000 else s.gau.swpDiv * 250000 / s.fnom

/-- TX_CAL in TIME counts (R66); a TX_CAL that is no multiple of 4 ns is rounded down (DESIGN CHOICE, log entry 114). -/
def txCal (l : Nat) : Nat := (Config.fuse (Reg.LNK_TX_CAL l)).toNat / 4

/-- The body of a beacon (R60). -/
def beaconBody (s : State) (l : Nat) (aux : Bool) (cmdSeq : Nat) : List Nat :=
  let delay := if aux then 0 else 250000 - (10000 + txCal l)
  leBytes 3 delay ++ [s.gau.swpDiv - 1 + 8 * b2n aux + 16 * b2n s.pair.slotB + 32, s.rd Reg.NOD_PLAN_VER % 256, cmdSeq] ++ leBytes 2 s.periodField ++ [0]

/-- A radio begins a superframe: its registers, and its beacon where it transmits (R60, R66). -/
def beginRadio (s : State) (cycle : Nat) (aux : Bool) (cmdSeq l : Nat) : State :=
  if s.lnkState l = 0 ∨ s.lnkState l = 3 then s
  else
    let s := ((s.wr (Reg.LNK_SF_CYCLE l) cycle).wr (Reg.LNK_CH_CUR l) (s.chCur l cycle)).setBit (Reg.LNK_LNK_STAT l) 16 (s.nv.epoch.testBit 0)
    let smp := (s.tim.odo + 250000#64).toNat
    let s := if aux then s else (s.wr (Reg.LNK_SMP_ODO_LO l) smp).wr (Reg.LNK_SMP_ODO_HI l) (smp / 2 ^ 32)
    if s.lnkState l = 2 then
      let t := (s.tim.odo + BitVec.ofNat 64 (10000 + txCal l)).toNat
      ((s.wr (Reg.LNK_BCN_ODO_LO l) t).wr (Reg.LNK_BCN_ODO_HI l) (t / 2 ^ 32)).transmit l 1 0 (leBytes 4 cycle ++ leBytes 2 s.nv.epoch)
        (s.beaconBody l aux cmdSeq)
    else s

/-- What a node's link state starts a superframe with. -/
def nodeFresh (x : NodeSt) : NodeSt :=
  { x with first := false, retries := 0, heard := 0, move := x.move.map fun m => { m with accept := m.accept.map (· - 1) } }

/-- The watcher's failure count of an unanswered detour poll is advanced (R75). -/
def detourFailed (s : State) (target relay : Nat) : State :=
  (List.range 2).foldl (fun s k =>
    if s.watcher target k = some relay then s.bumpSat (Reg.NOD_NODE_DET target) (16 + 8 * k) 8 else s) s

/-- The nodes of a radio in the order that replaces a watcher: lanes n + 1, n - 1, n + 2, n - 2 and so on of the target's lane n (R75). -/
def watcherOrder (s : State) (target : Nat) : List Nat :=
  let l := s.nodeRadio target
  let n := s.nodeLane target
  (List.range 15).filterMap fun i =>
    let d := i / 2 + 1
    s.laneNode l (if i % 2 = 0 then (n + d) % 16 else (n + 16 - d) % 16)

/-- The effective cycle of a LANE entry (R82): 4 superframes ahead or more, and not that of another node's change. -/
def laneEff (s : State) (n : Nat) : Nat :=
  let used (c : Nat) : Bool := s.link.nodes.any fun (k, x) => k != n && (match x.move with
    | some m => m.eff == c
    | none => false)
  (((List.range 33).map fun i => s.cycleAhead (4 + i)).find? fun c => !used c).getD (s.cycleAhead 4)

/-- Order a LANE entry for a node's present or new place (R75, R82). -/
def queueLane (s : State) (n l lane : Nat) : State :=
  let w (k : Nat) : Nat := s.fld (Reg.NOD_NODE_DET n) (8 * k) 8
  let eff := s.laneEff n
  let s := s.dropCmd fun e => match e with
    | .lane m .. => m == n
    | _ => false
  let m : LaneMove := { oldRadio := s.nodeRadio n, oldLane := s.nodeLane n, radio := l, lane := lane, w0 := w 0, w1 := w 1, eff := eff }
  (s.setNode n { s.node n with move := some m }).queueCmd (.lane n l lane (w 0) (w 1) eff)

/-- Order a LANE entry for a node's new place or watchers; a lane change under way ends first, and the node's last place ordered waits (R75, R82). -/
def orderLane (s : State) (n l lane : Nat) : State :=
  if ((s.node n).move).isNone then s.queueLane n l lane else { s with link := { s.link with wants := s.link.wants.set n (l, lane) } }

/-- A LANE entry that tells a node its watchers anew, at the place it has or is moving to (R75). -/
def orderWatchers (s : State) (n : Nat) : State :=
  match s.link.wants.find? n, (s.node n).move with
  | some _, _ => s
  | none, some m => s.orderLane n m.radio m.lane
  | none, none => s.orderLane n (s.nodeRadio n) (s.nodeLane n)

/-- Replace a watcher after 8 failed detours in a row (R75): the next node in the order takes its place, and LANE entries tell both. -/
def replaceWatchers (s : State) (target : Nat) : State :=
  (List.range 2).foldl (fun s k =>
    if s.fld (Reg.NOD_NODE_DET target) (16 + 8 * k) 8 < 8 then s
    else
      let old := s.watcher target k
      let other := s.watcher target (1 - k)
      let order := (s.watcherOrder target).filter fun n => some n != other
      let i := ((order.zipIdx.find? fun (n, _) => some n == old).map (·.2 + 1)).getD 0
      match order[i % order.length]? with
      | none => s
      | some w =>
        let s := (s.setFld (Reg.NOD_NODE_DET target) (8 * k) 8 w).setFld (Reg.NOD_NODE_DET target) (16 + 8 * k) 8 0
        (s.orderWatchers target).orderWatchers w) s

/-- The last poll of a radio. -/
def poll (s : State) (l : Nat) : Option (Nat × Nat × Nat) :=
  s.link.sf.bind fun f => if l = 0 then f.poll0 else f.poll1

/-- Set or clear the poll of a radio. -/
def setPoll (s : State) (l : Nat) (p : Option (Nat × Nat × Nat)) : State :=
  { s with link := { s.link with sf := s.link.sf.map fun f => if l = 0 then { f with poll0 := p } else { f with poll1 := p } } }

/-- The node a radio's JOIN_ADV named. -/
def joinAdv (s : State) (l : Nat) : Option Nat := s.link.sf.bind fun f => if l = 0 then f.join0 else f.join1

/-- Set the node a radio's JOIN_ADV names. -/
def setJoinAdv (s : State) (l : Nat) (n : Option Nat) : State :=
  { s with link := { s.link with sf := s.link.sf.map fun f => if l = 0 then { f with join0 := n } else { f with join1 := n } } }

/-- A poll that no frame has answered by the next slot: a detour so asked has failed (R75). -/
def settlePoll (s : State) (l : Nat) : State :=
  match s.poll l with
  | some (t, 2, relay) => ((s.detourFailed t relay).replaceWatchers t).setPoll l none
  | some _ => s.setPoll l none
  | none => s

/-- FREEZE entries are repeated only while the node's ring can still hold sample -8: 248 ms after the step (R70). -/
def oldFreezes (s : State) : State :=
  s.dropCmd fun e => match e with
    | .freeze id .. => !s.est.caps.any fun c => c.id == id && decide (s.since c.ts ≤ msT 248)
    | _ => false

/-- Begin a superframe that carries `cycle` (R16, R54, R58): both radios start together, and the command frames are composed. -/
def openSuper (s : State) (cycle : Nat) (aux : Bool) : State :=
  let s := ((s.settlePoll 0).settlePoll 1).oldFreezes
  let served := s.inControl
  let s := if served then s.advanceEpoch else s
  let seq := if served then (s.link.cmdSeq + 1) % 256 else s.link.cmdSeq
  let f0 := if served then s.composeFor 0 aux else []
  let f1 := if served then s.composeFor 1 aux else []
  let wait (l w : Nat) (f : List CmdEntry) : Nat := if (s.balOf l []).isEmpty || hasBal f || !served then 0 else w + 1
  let all (l : Nat) (f : List CmdEntry) : Bool := (s.balOf l []).isEmpty || hasBal f
  let sent := s.link.balSent || (served && all 0 f0 && all 1 f1)
  let w0 := wait 0 s.link.balWait0 f0
  let w1 := wait 1 s.link.balWait1 f1
  let nodes := s.link.nodes.map fun (n, x) => (n, nodeFresh x)
  let old := if s.link.epochOld = 0 then 0 else s.link.epochOld - (if s.link.epochAt = s.gau.cyc then 0 else 1)
  let sf : Superframe := { cycle := cycle, aux := aux, start := s.tim.odo, served := served, cmdSeq := seq, frame0 := f0, frame1 := f1 }
  let s := { s with link := { s.link with sf := some sf, cmdSeq := seq, balWait0 := w0, balWait1 := w1, balSent := sent, nodes := nodes, epochOld := old },
                    gau := { s.gau with lastSuper := some cycle } }
  (s.beginRadio cycle aux seq 0).beginRadio cycle aux seq 1

/-- STEP_MAXGAP has passed since a stamp. -/
def gapPassed (s : State) (t : BitVec 64) : Bool := decide (secT (s.rd Reg.EST_STEP_MAXGAP) ≤ s.since t)

/-- A dither is due (R134). A SHADOW starts none (R117), and C_RATE 0 disables dither. -/
def ditherDue (s : State) : Bool :=
  s.bit Reg.EST_EST_CFG 3 && s.pair.mode == .operate && s.inControl && s.bit Reg.DSP_DSP_STAT 2 && decide (s.rd Reg.EST_C_RATE ≠ 0)
    && s.gapPassed s.est.lastFitAt && (match s.est.ditherEarly with
      | some t => s.gapPassed t
      | none => true)

/-- The sweep that opens is the test sweep of the open-wire tests sent since the last one (R103). -/
def testSweep (s : State) (cycle : Nat) : State :=
  { s with swp := { s.swp with owts := s.swp.owts.map fun o => if o.sent && o.sweep.isNone then { o with sweep := some cycle } else o } }

/-- Begin a sweep superframe (R38, R66, R92): the record of its cycle is begun, and the comparison of R239 for the period just ended is taken. -/
def openSweep (s : State) (cycle : Nat) : State :=
  let s := (((s.takeAngle cycle).testSweep cycle).openSuper cycle false).showSweepNext
  let smp := s.tim.odo + 250000#64
  let rec_ : SweepRec :=
    { cycle := cycle, index := cycle / s.gau.swpDiv, smpOdo := smp, angle := (s.gau.pos + s.gauRate * 250000) / 2 ^ 32 % 2 ^ 32,
      freq := s.freqMicroHz, rflags := 256 * b2n (s.gau.src != .phref)
      tests := (s.swp.owts.filter fun o => o.sweep == some cycle).map fun o => (o.node, o.wire) }
  let d := s.ctl.diffMax
  let s := { s with gau := { s.gau with lastSweep := some cycle, lateSweep := none },
                    swp := { s.swp with cur := some rec_, smps := ((cycle, smp) :: s.swp.smps).take 16 },
                    est := { s.est with ditherArm := s.ditherDue, caps := s.est.caps.map fun (c : Capture) => { c with after := (c.after ++ [smp]).take 3 } },
                    link := { s.link with heard0 := s.link.hear0, heard1 := s.link.hear1, hear0 := false, hear1 := false } }
  if s.isShadow then
    let whole := s.pair.ctlWhole
    let ok := whole && decide (d ≤ s.fld Reg.CTL_DIS_CFG 0 24)
    let s := { s with ctl := { s.ctl with diffMax := 0 }, pair := { s.pair with ctlOk := ok, ctlWhole := true } }
    if whole then s.wr Reg.CSW_CTL_DIFF d else s
  else { s with ctl := { s.ctl with diffMax := 0 } }

/-- A sweep waymark that a forward jump of the grid position has passed fires at once and LATE, and its superframe opens (R389). -/
def fireLate (s : State) : State :=
  match s.gau.lateSweep with
  | some c => (s.event 0x07 5).openSweep c
  | none => s

end State

namespace State

/-- A radio hears a valid frame in the superframe (R239). -/
def heard (s : State) (l : Nat) : State :=
  if l = 0 then { s with link := { s.link with hear0 := true } } else { s with link := { s.link with hear1 := true } }

/-- A radio that listens takes in a beacon of the partner (R15, R239). -/
def hearBeacon (s : State) (l : Nat) : State := if s.lnkState l == 1 && s.radioHears l then (s.bump (Reg.LNK_RX_OK l)).heard l else s

end State

/-- SWEEP_WAYMARK (R38): the waymark of the newest sweep cycle not yet opened. -/
def execSweepWaymark (s : State) : Out :=
  ok (let c := s.newestFired s.gau.pos
      let fresh := match s.gau.lastSweep with
        | some l => decide (0 < sdiff 48 c l)
        | none => true
      if c % s.gau.swpDiv = 0 && fresh then s.openSweep c else s)

/-- AUX_SUPERFRAME (R58): in a cycle between sweeps. -/
def execAuxSuperframe (s : State) : Out :=
  ok (let c := s.newestFired s.gau.pos
      let fresh := match s.gau.lastSuper with
        | some l => decide (0 < sdiff 48 c l)
        | none => true
      if c % s.gau.swpDiv ≠ 0 && fresh then s.openSuper c true else s)

end Sys2Proof.Machine
end

