-- ==== Sys2Proof/Machine/Streams.lean ====
section
/-! DEFINITION. SNS: the modulator streams (R85 to R90), what EST sees of them (R131, R132), and the comparison of SF8 (R204). -/

namespace Sys2Proof.Machine

open Sys2Proof

/-- A stamp is at or before another (R21). -/
def atOrBefore (a b : BitVec 64) : Bool := decide (0 ≤ (b - a).toInt)

/-- A stamp is after another. -/
def isAfter (a b : BitVec 64) : Bool := !atOrBefore a b

/-- The value of a stream at an instant, between the two outputs that lie on either side of it (R94); none where there are none. -/
def interpolate (outs : List (BitVec 64 × Int)) (t : BitVec 64) : Option Int :=
  match outs with
  | [] => none
  | [(a, v)] => if a = t then some v else none
  | (b, w) :: (a, v) :: r =>
    if b = t then some w
    else if isAfter t b then none
    else if atOrBefore a t then some (v + divRound ((w - v) * (t - a).toNat) (b - a).toNat)
    else interpolate ((a, v) :: r) t

namespace State

/-- A modulator channel: 0 ISNS_A, 1 ISNS_B, 2 VSNS. -/
def snsCh (s : State) (c : Nat) : SnsCh := if c = 0 then s.sns.a else if c = 1 then s.sns.b else s.sns.v

/-- Store a modulator channel. -/
def setSnsCh (s : State) (c : Nat) (x : SnsCh) : State :=
  if c = 0 then { s with sns := { s.sns with a := x } }
  else if c = 1 then { s with sns := { s.sns with b := x } } else { s with sns := { s.sns with v := x } }

/-- The channel's EN bit (R89). -/
def snsEn (s : State) (c : Nat) : Bool := s.bit Reg.SNS_SNS_CFG c

/-- A channel is BAD (R89). -/
def snsBad (s : State) (c : Nat) : Bool :=
  let x := s.snsCh c
  !s.snsEn c || x.stuck || x.ovr || decide (x.tail ≠ 0)

/-- The current channel that SWP uses (R90): PRIMARY, or the other one where that is BAD and the other is not. -/
def srcWanted (s : State) : Bool :=
  let p := s.bit Reg.SNS_SNS_CFG 4
  let c := b2n p
  if s.snsBad c && !s.snsBad (1 - c) then !p else p

/-- The stream SWP uses. -/
def srcCh (s : State) : SnsCh := if s.sns.useB then s.sns.b else s.sns.a

/-- The source is chosen anew (R90): from a new source only the outputs stamped after the last one taken are taken. -/
def chooseSrc (s : State) : State :=
  let w := s.srcWanted
  if w = s.sns.useB then s
  else
    let s := { s with sns := { s.sns with useB := w } }
    let fresh := s.srcCh.outs.filter fun (t, _) => isAfter t s.sns.taken
    let s := match fresh with
      | (t, v) :: r => { s with sns := { s.sns with pend := ((t, v) :: r) ++ s.sns.pend, taken := t } }
      | [] => s
    s.event 0x0C 7

/-! ### SF8 (R204) -/

/-- The channels disagree (R204). Without a parameter set in force there is no threshold to exceed. -/
def sf8Disagree (s : State) : Bool :=
  match s.saf.pset, s.sns.a.outs, s.sns.b.outs with
  | some p, (_, a) :: _, (_, b) :: _ =>
    (s.snsBad 0 && s.snsBad 1) || decide (((p.sf8Abs : Int) * 10000 + (p.sf8Rel : Int) * a.natAbs < (a - b).natAbs * 10000))
  | some _, _, _ => s.snsBad 0 && s.snsBad 1
  | none, _, _ => false

/-- The timers of SF8 (R204): a lapse resets them, and the source with them. In a SHADOW the condition lowers HEALTH and is no demand. -/
def sf8Watch (s : State) : State :=
  if s.sf8Disagree then
    let s := { s with sns := { s.sns with sf8Since := some (s.sns.sf8Since.getD s.tim.odo), sf8Low := s.isShadow } }
    if s.isShadow then s.quiet 7 7 else s
  else ({ s with sns := { s.sns with sf8Since := none, sf8Low := false } }).quiet 7 7

/-- The latest `x` of a channel against OVR_TH, as a write of OVR_TH finds it (R89). -/
def judgeOvr (s : State) (c : Nat) : State :=
  let old := s.snsCh c
  let ovr := decide (s.rd Reg.SNS_OVR_TH < (s.rdI (Reg.SNS_RAW_A + 4 * c)).natAbs)
  if !s.snsEn c || old.outs.isEmpty then s
  else
    (s.setSnsCh c { old with ovr := ovr, tail := if ovr || old.ovr then 256 else old.tail }).eventIf (ovr && !old.ovr) 0x0C (2 * c + 1)

/-- A write of OVR_TH: the conditions are judged anew, and with them the source and SF8 (R89, R90, R204). -/
def ovrThOp (s : State) (v : Word) : State := ((((s.setReg Reg.SNS_OVR_TH v).judgeOvr 0).judgeOvr 1).judgeOvr 2).chooseSrc.sf8Watch

/-! ### Steps (R131, R132) -/

/-- Sum of the values of a list of outputs. -/
def sumOuts (l : List (BitVec 64 × Int)) : Int := l.foldl (fun a x => a + x.2) 0

/-- STEP_MIN times C_RATE in µA: the threshold of a step. -/
def stepThreshold (s : State) : Nat := s.fld Reg.EST_STEP_CFG 0 16 * s.rd Reg.EST_C_RATE

/-- The instant of the sample `q` of a node's ring from a sample instant on: the ring restarts at each later one, and its samples lie 1 ms apart
(R69). -/
def ringInstant (base : BitVec 64) : List (BitVec 64) → Nat → BitVec 64
  | [], q => base + BitVec.ofNat 64 (msT q)
  | n :: r, q =>
    let held := ((n - base).toNat + 249999) / 250000
    if q < held then base + BitVec.ofNat 64 (msT q) else ringInstant n r (q - held)

/-- The instant of sample `j` of a capture, counted from sample (k, J) along the node's ring (R69, R132). -/
def sampleInstant (c : Capture) (j : Int) : BitVec 64 :=
  let q := (c.j : Int) + j
  if 0 ≤ q then ringInstant c.sk c.after q.toNat
  else
    match c.before with
    | some p =>
      let held := ((c.sk - p).toNat + 249999) / 250000
      p + BitVec.ofInt 64 (250000 * ((held : Int) + q))
    | none => c.sk + BitVec.ofInt 64 (250000 * q)

/-- Add to the traces the samples that the outputs have reached (R132). -/
def extendTraces (s : State) : State :=
  let outs := s.srcCh.outs
  let newest := (outs.head?.map (·.1)).getD 0
  let add (c : Capture) : Capture :=
    if c.trace.length < 32 then
      let t := sampleInstant c ((c.trace.length : Int) - 8)
      if atOrBefore t newest then { c with trace := c.trace ++ [(interpolate outs t).getD 0] } else c
    else c
  { s with est := { s.est with caps := s.est.caps.map fun c => (List.range 32).foldl (fun c _ => add c) c } }

/-- A buffer of a node that NOD last reported FREE and that no pending capture holds (R132). -/
def freeBuffer (s : State) (n : Nat) : Option Nat :=
  (List.range 2).find? fun b =>
    decide (s.fld (Reg.NOD_NODE_STAT n) (20 + 2 * b) 2 = 0) && !s.est.caps.any fun c =>
      !c.gone.testBit n && (match c.nodes.find? n with
        | some x => x.buf == b
        | none => false)

/-- Name cells that no capture among those of a test may fit (R136). -/
def markCaptures (s : State) (p : Capture → Bool) (cells : List Nat) : State :=
  let mark (c : Capture) : Capture := if p c then { c with badCells := c.badCells ++ cells.filter fun i => !c.badCells.contains i } else c
  { s with est := { s.est with caps := s.est.caps.map mark } }

/-- The cells that carry RANGE, WIRE_SUSPECT or WIRE_CONFIRMED in a screened record: no capture of a step in its sweep fits them (R136). -/
def flagCaptures (s : State) (r : SweepRec) : State :=
  s.markCaptures (·.cycle == r.cycle) ((r.scr.filter fun (_, f) => f &&& 0xC4 != 0).map (·.1))

/-- A pending capture of a step at `ts`, J whole milliseconds after the sample instant of a cycle (R132). -/
def newCapture (s : State) (id cyc j : Nat) (ts sk : BitVec 64) (map : Tab Nat) : Capture :=
  let later := (s.swp.smps.takeWhile fun (_, t) => isAfter t sk).map (·.2)
  { id := id, cycle := cyc, j := j, ts := ts, sk := sk, trace := [], nodes := map.map fun (n, b) => (n, { buf := b })
    before := (s.swp.smps.find? fun (_, t) => isAfter sk t).map (·.2), after := later.reverse.take 3 }

/-- A capture joins those pending; cells flagged in the sweep of the step are marked (R136). -/
def addCapture (s : State) (c : Capture) : State :=
  let s := { s with est := { s.est with caps := s.est.caps ++ [c], nextCap := (c.id + 1) % 256 } }
  let s := match s.swp.ring.find? (·.cycle == c.cycle) with
    | some r => s.flagCaptures r
    | none => s
  s.extendTraces

/-- A capture is requested for a step at `ts` (R132). -/
def requestCapture (s : State) (ts : BitVec 64) : State :=
  match s.swp.smps.find? fun (_, t) => atOrBefore t ts with
  | none => s.bump Reg.EST_CAP_SKIP
  | some (cyc, sk) =>
    let all := s.joinedNodes
    let map : Tab Nat := all.filterMap fun n => (s.freeBuffer n).map fun b => (n, b)
    if 8 ≤ s.est.caps.length || map.isEmpty then s.bump Reg.EST_CAP_SKIP
    else
      let j := (ts - sk).toNat / 250000
      let id := s.est.nextCap
      let s := s.addCapture (s.newCapture id cyc j ts sk map)
      let s := s.bump Reg.EST_CAP_SKIP (all.length - map.length)
      (s.queueCmd (.freeze id (cyc % 2 ^ 32) j (map.map fun (n, b) => (n, b + 1)))).event 0x0D 1

/-- A FREEZE entry that a SHADOW hears in the partner's command frame: it takes the capture as its own, and a repetition tells it the CMDSEQ to look
for (R117). The step instant is that of its own detection where one lies within 1 ms of sample J, else the instant of sample J (log entry 104). -/
def hearFreeze (s : State) (l seq : Nat) (f : FreezeEntry) : State :=
  let map : Tab Nat := (List.range 32).filterMap fun n =>
    let b := f.map / 4 ^ n % 4
    if b = 1 ∨ b = 2 then some (n, b - 1) else none
  let note (c : Capture) : Capture :=
    { c with nodes := c.nodes.map fun (n, x) => (n, if s.nodeRadio n = l then { x with seqs := seq :: x.seqs } else x) }
  if s.est.caps.any fun c => c.id == f.id && c.cycle % 2 ^ 32 == f.cycle then
    { s with est := { s.est with caps := s.est.caps.map fun c => if c.id = f.id then note c else c } }
  else
    match s.swp.smps.find? fun (k, _) => k % 2 ^ 32 == f.cycle with
    | some (cyc, sk) =>
      if 8 ≤ s.est.caps.length then s
      else
        let at_ := sk + BitVec.ofNat 64 (msT f.j)
        let own := BitVec.ofNat 64 (s.rd Reg.EST_STEP_LAST_ODO_LO + 2 ^ 32 * s.rd Reg.EST_STEP_LAST_ODO_HI)
        let ts := if atOrBefore at_ own && isAfter (at_ + BitVec.ofNat 64 (msT 1)) own then own else at_
        s.addCapture (note (s.newCapture f.id cyc f.j ts sk map))
    | none => s

/-- The detection of a step at a new source output (R131, R132). -/
def stepDetect (s : State) : State :=
  let outs := s.srcCh.outs
  let held := match s.sns.stepAt with
    | some t => decide (s.since t < msT (s.fld Reg.EST_STEP_CFG 16 8))
    | none => false
  match outs with
  | [] => s
  | (now, _) :: _ =>
    if !s.bit Reg.EST_EST_CFG 2 || decide (s.rd Reg.EST_C_RATE = 0) || held then s
    else
      let new := outs.take 64
      let edge := now - 500000#64
      let old := (outs.dropWhile fun (t, _) => isAfter t edge).take 64
      if new.length < 64 ∨ old.length < 64 then s
      else
        let d := sumOuts new - sumOuts old
        if d.natAbs * 1000 < 64 * s.stepThreshold then s
        else
          let mid := sumOuts new + sumOuts old
          let span := (outs.takeWhile fun (t, _) => isAfter t edge).reverse
          let hit := span.find? fun (_, v) => if 0 < d then decide (mid ≤ 128 * v) else decide (128 * v ≤ mid)
          let ts := (hit.map (·.1)).getD now
          let s := { s with sns := { s.sns with stepAt := some s.tim.odo } }
          let s := (s.wr Reg.EST_STEP_LAST_ODO_LO ts.toNat).wr Reg.EST_STEP_LAST_ODO_HI (ts.toNat / 2 ^ 32)
          let s := (s.bump Reg.EST_STEP_COUNT).event 0x0D 0
          if s.inControl then s.requestCapture ts else s

/-! ### Outputs (R86 to R89) -/

/-- An output enters the stream SWP and EST read, if its channel is the source. -/
def takeOutput (s : State) (c : Nat) (t : BitVec 64) (v : Int) : State :=
  if (c = 0 && !s.sns.useB) || (c = 1 && s.sns.useB) then
    let s := if isAfter t s.sns.taken then { s with sns := { s.sns with pend := (t, v) :: s.sns.pend, taken := t } } else s
    s.extendTraces.stepDetect
  else s

/-- The value of a channel at the sample instant enters the record being assembled once an output lies at or after it (R90, R94): a BAD
channel gives 0 and sets its flag. -/
def captureSample (s : State) (c : Nat) (t : BitVec 64) : State :=
  match s.swp.cur with
  | none => s
  | some r =>
    if r.got.testBit c || !atOrBefore r.smpOdo t then s
    else
      let v := if s.snsBad c then none else interpolate (s.snsCh c).outs r.smpOdo
      let x := v.getD 0
      let r := setRecFlag { r with got := r.got + 2 ^ c } (1 + c) v.isNone
      let r := if c = 0 then { r with iA := x } else if c = 1 then { r with iB := x } else { r with vStr := x }
      let r := if c = 2 then r else setRecFlag r 4 s.sns.useB
      { s with swp := { s.swp with cur := some r } }

/-- The output of a channel at a filter value `r` (R86 to R89): `x`, the scaled value and the stamp. A delay that is no whole number of TIME cycles
is rounded down (DESIGN CHOICE, log entry 117). -/
def snsSample (s : State) (c r : Nat) : Int × Int × BitVec 64 :=
  let slow := s.bit Reg.SNS_SNS_CFG 3
  let m := if slow then 128 else 256
  let x : Int := ((min r (m * m * m) : Nat) : Int) * (2 ^ 24 / (m * m * m) : Nat) - 2 ^ 23
  let x := if s.bit Reg.SNS_SNS_CFG (5 + c) then -x else x
  let base := Reg.SNS_GAIN_A + 12 * c
  let v := divRound ((x - s.rdI (base + 4)) * s.rdI base) (2 ^ 23)
  let delay := ((if slow then 19050 else 19125) + s.rd (base + 8)) / 4
  (x, v, s.tim.odo - BitVec.ofNat 64 delay)

/-- The registers of the latest values (SNS registers). -/
def snsLive (s : State) (c : Nat) (x v : Int) (t : BitVec 64) : State :=
  let s := (s.wrI (Reg.SNS_I_A_LIVE + 4 * c) v).wrI (Reg.SNS_RAW_A + 4 * c) x
  s.wr Reg.SNS_LIVE_ODO t.toNat

end State

/-- SNS_OUTPUT (R86 to R89, R131, R132, R204): a channel that is enabled delivers a value. -/
def execSnsOutput (ch : Fin 3) (r : Nat) (s : State) : Out :=
  ok (if !s.snsEn ch.val then s
    else
      let (x, v, t) := s.snsSample ch.val r
      let old := s.snsCh ch.val
      let ovr := decide (s.rd Reg.SNS_OVR_TH < x.natAbs)
      let tail := if ovr || old.stuck || old.ovr then 256 else old.tail - 1
      let s := s.setSnsCh ch.val { old with outs := ((t, v) :: old.outs).take 2600, ovr := ovr, tail := tail }
      let s := (s.snsLive ch.val x v t).eventIf (ovr && !old.ovr) 0x0C (2 * ch.val + 1)
      let s := (s.chooseSrc.takeOutput ch.val t v).captureSample ch.val t
      let s := if s.sns.useB == (ch.val == 1) && ch.val != 2 then { s with ctl := { s.ctl with outs := s.ctl.outs + 1 } } else s
      if ch.val = 2 then s else s.sf8Watch)

/-- SNS_STUCK (R89): 64 modulator clocks without a transition, or a transition after that. A disabled channel shows neither. -/
def execSnsStuck (ch : Fin 3) (stuck : Bool) (s : State) : Out :=
  ok (if !s.snsEn ch.val then s
    else
      let old := s.snsCh ch.val
      let s := s.setSnsCh ch.val { old with stuck := stuck, tail := if stuck || old.stuck then 256 else old.tail }
      (s.eventIf (stuck && !old.stuck) 0x0C (2 * ch.val)).chooseSrc.sf8Watch)

/-- SNS_BAD_END (R89): 256 outputs after both conditions have ended the channel is no longer BAD. -/
def execSnsBadEnd (ch : Fin 3) (s : State) : Out :=
  ok (if s.snsEn ch.val && !s.snsBad ch.val then s.chooseSrc.sf8Watch else s)

/-- SF8_RESIGN (R204): in ACTIVE a disagreement has lasted half of SF8_TIME. -/
def execSf8Resign (s : State) : Out :=
  ok (match s.sns.sf8Since, s.saf.pset with
    | some t, some p => if s.pair.role == .active && decide (msT p.sf8Time ≤ 2 * s.since t) then s.resignFor 4 else s
    | _, _ => s)

/-- SF8_DEMAND (R204): in ACTIVE or SOLO a disagreement has lasted SF8_TIME. -/
def execSf8Demand (s : State) : Out :=
  ok (match s.sns.sf8Since, s.saf.pset with
    | some t, some p => if s.inControl && decide (msT p.sf8Time ≤ s.since t) then s.trip 7 0 7 else s
    | _, _ => s)

end Sys2Proof.Machine
end

