-- ==== Sys2Proof/Machine/Screen.lean ====
section
/-! DEFINITION. Sweep records as bytes (R93), the checks of Screen (R100, R101), the wire signature (R102) and the judgement of an
open-wire test (R103 to R105). -/

namespace Sys2Proof.Machine

open Sys2Proof

/-! ### The record in memory (R93) -/

/-- A list of numbers as fields of `n` bytes, padded with zeros to `k` fields. -/
def leFields (n k : Nat) (l : List Nat) : List Nat := (List.range k).flatMap fun i => leBytes n ((l[i]?).getD 0)

/-- NINFO of a node block (R93). -/
def ninfo (d : NodeData) : Nat := d.path + d.age % 8 * 4 + b2n d.owt * 32 + b2n d.freeLoose * 64

/-- A node block (R93). -/
def nodeBytes (r : SweepRec) (n : Nat) : List Nat :=
  match recNode r n with
  | none => List.replicate 64 0xFF
  | some d =>
    let b := d.body
    leFields 2 16 b.v ++ ((List.range 4).flatMap fun i => leInt 2 ((b.t[i]?).getD 0)) ++ leInt 2 b.tdie ++ leBytes 2 b.ov ++ leBytes 2 b.uv
      ++ [b.tflag % 256, b.nstat % 256] ++ leInt 1 b.sampleErr ++ [ninfo d] ++ leBytes 2 b.balOn ++ leBytes 2 d.balCmd
      ++ [d.balDuty % 256, d.tscr % 16] ++ List.replicate 8 0

/-- A record, 3,648 bytes (R93). -/
def recordBytes (r : SweepRec) : List Nat :=
  leBytes 4 r.cycle ++ leBytes 8 r.smpOdo.toNat ++ leBytes 4 r.angle ++ leBytes 4 r.freq ++ leInt 4 r.iA ++ leInt 4 r.iB ++ leInt 4 r.vStr
    ++ leInt 8 r.qsum ++ leBytes 4 r.nsum ++ leBytes 4 r.present ++ leBytes 4 r.late ++ leBytes 4 r.iSpan ++ leBytes 4 r.rflags ++ leBytes 4 0
    ++ ((List.range 32).flatMap (nodeBytes r)) ++ ((List.range 512).map (recScr r)) ++ ((List.range 512).flatMap fun c => leBytes 2 (recQbal r c))

namespace State

/-- Store a record in its ring slot (R92): the sparse copy replaces the one of the same sweep index, and the bytes go to memory. SWP is no master that
R262 gives a column, and its writes are not checked (DEDUCED, log entry 123). -/
def storeRec (s : State) (r : SweepRec) : State :=
  let s := { s with swp := { s.swp with ring := s.swp.ring.map fun (x : SweepRec) => if x.index = r.index then r else x } }
  s.writeBytes (s.rd Reg.SWP_REC_BASE + r.index % 8 * 0x1000) (recordBytes r)

/-- The record of a sweep index in the ring. -/
def recOf (s : State) (index : Nat) : Option SweepRec := s.swp.ring.find? (·.index == index)

/-! ### Temperatures (R101) -/

/-- T_LO to T_HI. -/
def tempInRange (s : State) (t : Int) : Bool :=
  decide (s.fldI Reg.SWP_T_LIM 0 16 ≤ t) && decide (t ≤ s.fldI Reg.SWP_T_LIM 16 16)

/-- Insert a number into a rising list. -/
def insertInt (x : Int) : List Int → List Int
  | [] => [x]
  | a :: r => if x ≤ a then x :: a :: r else a :: insertInt x r

/-- Twice the median of a list. -/
def median2 (l : List Int) : Int :=
  let a := l.foldl (fun r x => insertInt x r) []
  let n := a.length
  (a[(n - 1) / 2]?).getD 0 + (a[n / 2]?).getD 0

/-- TSCR of a node's sensors, given its previous temperatures (R101). -/
def tempFlags (s : State) (prev : Option (List Int)) (t : List Int) : Nat :=
  let good := t.filter s.tempInRange
  let m2 := median2 good
  let step : Int := s.fld Reg.SWP_T_STEP_DEV 0 16
  let dev : Int := s.fld Reg.SWP_T_STEP_DEV 16 16
  (t.zipIdx).foldl (fun acc (x, i) =>
    let jump := match prev.bind (·[i]?) with
      | some p => decide (step < ((x - p).natAbs : Int))
      | none => false
    let far := decide (3 ≤ good.length) && decide (2 * dev < ((2 * x - m2).natAbs : Int))
    acc + b2n (!s.tempInRange x || jump || far) * 2 ^ i) 0

/-- Previous temperatures of a node for data of a sweep index: those of the newest older record that holds it. -/
def tempsBefore (s : State) (n index : Nat) : Option (List Int) :=
  (s.swp.ring.filter fun r => decide (r.index < index)).findSome? fun r => (recNode r n).map (·.body.t)

/-! ### Cell checks (R101) -/

/-- The cell's temperature, °C: that of the working set (R123). -/
def cellTemp (s : State) (c : Nat) : Option Word := (s.est.aux.get {} c).tHeld

/-- R0 of a cell (R101, R137). -/
def cellR0 (s : State) (c : Nat) : Option Word := (s.cellTemp c).bind fun t => s.r0Of c t

/-- V_prev of the JUMP check: the cell's last unflagged reading, at most 2 sweeps old, with its record. -/
def prevReading (s : State) (c index : Nat) : Option (Nat × SweepRec) :=
  let at_ (k : Nat) : Option (Nat × SweepRec) :=
    if index < k then none else (s.recOf (index - k)).bind fun r => (cleanV r c).map fun v => (v, r)
  (at_ 1).orElse fun _ => at_ 2

/-- RANGE (R101). -/
def rangeBad (s : State) (v : Nat) : Bool :=
  decide (v < s.rd Reg.SWP_V_LO) || decide (s.rd Reg.SWP_V_HI < v) || v == 0xFFFF

/-- JUMP (R101). -/
def jumpBad (s : State) (r : SweepRec) (c v : Nat) : Bool :=
  match s.prevReading c r.index, s.cellR0 c with
  | some (vp, rp), some r0 =>
    curValid r && curValid rp &&
      (let dv := F32.ofFrac ((v : Int) - vp) 10000
       let di := F32.ofFrac (recI r - recI rp) 1000
       F32.lt (F32.ofFrac (s.rd Reg.SWP_JUMP_TH) 10000) (F32.abs (F32.sub dv (F32.mul r0 di))))
  | _, _ => false

/-- TIMING (R101). -/
def timingBad (d : NodeData) : Bool :=
  d.body.nstat.testBit 3 || (!d.body.nstat.testBit 7 && decide (63 < d.body.sampleErr.natAbs)) || d.freeLoose

/-- The source current spanned STUCK_DI over the last STUCK_N present sweeps of a node (R101). -/
def stuckWide (s : State) (n : Nat) : Bool :=
  match ((s.swp.nodeI.get [] n).take (s.rd Reg.SWP_STUCK_N)).filterMap id with
  | [] => false
  | a :: r => decide ((s.rd Reg.SWP_STUCK_DI : Int) ≤ r.foldl max a - r.foldl min a)

/-- The run of equal codes of a cell (R101 STUCK) after one more present sweep. -/
def stuckNext (s : State) (n v : Nat) (x : CellScreen) : CellScreen :=
  if x.run = 0 ∨ x.code ≠ v then { x with code := v, run := 1, stuck := decide (s.rd Reg.SWP_STUCK_N ≤ 1) && s.stuckWide n }
  else { x with run := x.run + 1, stuck := x.stuck || (decide (s.rd Reg.SWP_STUCK_N ≤ x.run + 1) && s.stuckWide n) }

/-- The source current of a present sweep is kept for the nodes in its record (R101 STUCK). -/
def noteCurrents (s : State) (r : SweepRec) : State :=
  let i := if curValid r then some (recI r) else none
  { s with swp := { s.swp with nodeI := r.nodes.foldl (fun t (n, _) => t.set n ((i :: t.get [] n).take 65535)) s.swp.nodeI } }

/-! ### Wires -/

/-- The cells on a wire: w - 1 and w. -/
def wireCells (node w : Nat) : List Nat := ((if w = 0 then [] else [w - 1]) ++ (if w = 16 then [] else [w])).map fun c => 16 * node + c

/-- The cell whose switch an open-wire test uses (R103). -/
def owtCell (node w : Nat) : Nat := 16 * node + min w 15

/-- What Screen keeps of a wire. -/
def wire (s : State) (node w : Nat) : WireSt := s.swp.wires.get {} (node * 17 + w)

/-- Store what Screen keeps of a wire. -/
def setWire (s : State) (node w : Nat) (x : WireSt) : State := { s with swp := { s.swp with wires := s.swp.wires.put {} (node * 17 + w) x } }

/-- WIRE_SUSPECT and WIRE_CONFIRMED of a cell (R100), with the tests of the record's sweep (R103). -/
def wireFlags (s : State) (r : SweepRec) (c : Nat) : Nat :=
  let n := c / 16
  let ws := [s.wire n (c % 16), s.wire n (c % 16 + 1)]
  let testing := r.tests.any fun (k, w) => k == n && (wireCells n w).contains c
  b2n (testing || ws.any (·.suspect)) * 64 + b2n (ws.any (·.confirmed)) * 128

/-- Request an open-wire test; it merges with one that waits (R106). -/
def requestOwt (s : State) (node w : Nat) : State :=
  if s.swp.owts.any fun o => o.node == node && o.wire == w then s
  else
    let o : Owt := { node := node, wire := w }
    { s with swp := { s.swp with owts := s.swp.owts ++ [o] } }.queueCmd (.owt node w)

/-- The SCR bits of a cell with data, but for ABSENT and STALE (R101). -/
def cellFlags (s : State) (r : SweepRec) (d : NodeData) (c : Nat) (stuck : Bool) : Nat :=
  let v := (d.body.v[c % 16]?).getD 0xFFFF
  b2n (s.rangeBad v || d.body.nstat.testBit 1) * 4 + b2n (s.jumpBad r c v) * 8 + b2n stuck * 16 + b2n (timingBad d) * 32
    + s.wireFlags r c

/-- Screen one cell of the newest record. -/
def screenCell (s : State) (r : SweepRec) (c : Nat) : State × Nat :=
  let x := s.swp.cells.get {} c
  match recNode r (c / 16) with
  | none => (s, b2n (decide (2 ≤ s.miss (c / 16))) * 2 + b2n x.stuck * 16 + s.wireFlags r c)
  | some d =>
    let v := (d.body.v[c % 16]?).getD 0xFFFF
    let y := s.stuckNext (c / 16) v x
    let f := s.cellFlags r d c y.stuck + b2n (decide (2 ≤ s.miss (c / 16))) * 2
    let y := if f = 0 then { y with last := some v } else y
    (({ s with swp := { s.swp with cells := s.swp.cells.put {} c y } }).eventIf (y.stuck && !x.stuck) 0x0B 7, f)

/-- Screen late data of a node as it arrives (R98, R101): ABSENT and STALE do not hold for it, and the run of codes does not move. -/
def screenLate (s : State) (r : SweepRec) (n : Nat) (d : NodeData) : SweepRec :=
  let scr := (List.range 16).foldl (fun (t : Tab Nat) i =>
    let c := 16 * n + i
    let x := s.swp.cells.get {} c
    t.put 0 c (s.cellFlags r d c (x.stuck && x.code == (d.body.v[i]?).getD 0xFFFF))) r.scr
  { r with scr := scr }

/-! ### The checks of the record (R101) -/

/-- Current: CUR_DIS. -/
def curDis (s : State) (r : SweepRec) : Bool :=
  !recFlag r 1 && !recFlag r 2 &&
    decide ((s.fld Reg.SNS_I_DIFF 16 16 * 1000000 + s.fld Reg.SNS_I_DIFF 0 16 * (recI r).natAbs : Int) < ((r.iA - r.iB).natAbs : Int) * 10000)

/-- Sum: none where it is not evaluated, else whether it mismatches. -/
def sumCheck (s : State) (r : SweepRec) : Option Bool :=
  let ns := s.joinedNodes
  let cells := ns.flatMap fun n => (List.range 16).map fun i => 16 * n + i
  let good := ns.all (fun n => (recNode r n).isSome) && cells.all (fun c => r.scr.get 0 c / 4 % 2 == 0 && r.scr.get 0 c / 32 % 2 == 0)
  if good && !recFlag r 3 && curValid r then
    let sum : Int := cells.foldl (fun a c => a + ((recV r c).getD 0 : Nat)) 0
    some (decide ((s.rd Reg.SWP_SUM_TH * 1000000 : Nat) < (r.vStr * 1000000 - (sum * 100000 + recI r * s.rd Reg.SWP_R_LINK)).natAbs))
  else none

/-! ### The wire signature (R102) -/

/-- Screen's pair condition of R102: present, with no RANGE, STUCK or TIMING flag. -/
def wireUsable (r : SweepRec) (c : Nat) : Bool :=
  (recNode r (c / 16)).isSome && r.scr.get 0 c / 4 % 2 == 0 && r.scr.get 0 c / 16 % 4 == 0

/-- Does the window show the signature? Sums in units of 100 µV, mA; none where it is not evaluated. -/
def wireSignature (s : State) (node w : Nat) (win : List (Int × Int × Int)) : Option Bool :=
  let n := s.fld Reg.SWP_WIRE_CFG 0 8
  let d2 : Int := win.foldl (fun a (_, _, d) => a + d * d) 0
  match s.cellR0 (16 * node + w - 1), s.cellR0 (16 * node + w) with
  | some ra, some rb =>
    if win.length < n ∨ d2 = 0 ∨ d2 < ((n * (s.rd Reg.SWP_WIRE_DI * s.rd Reg.SWP_WIRE_DI) : Nat) : Int) then none
    else
      let ga := F32.ofFrac (win.foldl (fun a (x, _, d) => a + x * d) 0) (10 * d2.toNat)
      let gb := F32.ofFrac (win.foldl (fun a (_, y, d) => a + y * d) 0) (10 * d2.toNat)
      let sumf := F32.ofFrac (s.fld Reg.SWP_WIRE_CFG 16 8) 256
      let devf := F32.ofFrac (s.fld Reg.SWP_WIRE_CFG 24 8) 64
      let r := F32.add ra rb
      let da := F32.sub ga ra
      let db := F32.sub gb rb
      some (F32.le (F32.abs (F32.sub (F32.add ga gb) r)) (F32.mul sumf r) && F32.le (F32.mul devf ra) (F32.abs da)
        && F32.lt (F32.mul da db) F32.zero)
  | _, _ => none

/-- The signature is evaluated: no WIRE_HOLDOFF runs (R102, R104). -/
def wireLive (s : State) (x : WireSt) : Bool :=
  match x.holdoff with
  | some t => decide (secT (s.rd Reg.SWP_WIRE_HOLDOFF) ≤ s.since t)
  | none => true

/-- Evaluate one inner wire of a node after a sweep (R102). -/
def screenWire (s : State) (r : SweepRec) (rp : Option SweepRec) (node w : Nat) : State :=
  let a := 16 * node + w - 1
  let b := 16 * node + w
  let dv (p : SweepRec) (c : Nat) : Int := ((recV r c).getD 0 : Int) - ((recV p c).getD 0 : Nat)
  match rp with
  | none => s
  | some p =>
    if !(wireUsable r a && wireUsable r b && wireUsable p a && wireUsable p b && curValid r && curValid p) then s
    else
      let x := s.wire node w
      let x := { x with win := ((dv p a, dv p b, recI r - recI p) :: x.win).take (s.fld Reg.SWP_WIRE_CFG 0 8) }
      match (if s.wireLive x then s.wireSignature node w x.win else none) with
      | none => s.setWire node w x
      | some false => s.setWire node w { x with hits := 0 }
      | some true =>
        if x.hits + 1 < s.fld Reg.SWP_WIRE_CFG 8 8 then s.setWire node w { x with hits := x.hits + 1 }
        else ((s.setWire node w { x with hits := 0, suspect := true }).event 0x0B 2).requestOwt node w

/-! ### Open-wire tests (R104) -/

/-- A test is repeated; after OWT_RETRY repeats it is given up, and the wire stays WIRE_SUSPECT until a later test (R104). -/
def owtRepeat (s : State) (o : Owt) : State :=
  if o.tries < s.fld Reg.SWP_OWT_ROUTINE 16 4 then
    let o' : Owt := { o with tries := o.tries + 1, sent := false, sweep := none }
    { s with swp := { s.swp with owts := s.swp.owts ++ [o'] } }.queueCmd (.owt o.node o.wire)
  else (s.setWire o.node o.wire { s.wire o.node o.wire with suspect := true }).event 0x0B 5

/-- The last 2 ms before the sample instant of a test sweep, in which the test current flows, fall within the 32 samples of a capture (R103,
R136). -/
def owtTouches (sq : BitVec 64) (c : Capture) : Bool :=
  atOrBefore (sq - BitVec.ofNat 64 (msT 2)) (sampleInstant c 23) && atOrBefore (sampleInstant c (-8)) sq

/-- Judge a test by the record of its sweep (R104). Where the cell never had an unflagged reading there is no V_pre, and the test counts as one of any
other result (DESIGN CHOICE, log entry 117). -/
def owtJudge (s : State) (r : SweepRec) (o : Owt) : State :=
  let s := { s with swp := { s.swp with owts := s.swp.owts.filter fun x => !(x.node == o.node && x.wire == o.wire) } }
  let c := owtCell o.node o.wire
  let x := s.wire o.node o.wire
  let v := if r.cycle = o.sweep.getD 0 then recV r c else none
  let s := s.markCaptures (owtTouches r.smpOdo) [16 * o.node + min o.wire 15, 16 * o.node + (o.wire - 1)]
  match v, (s.swp.cells.get {} c).last with
  | some test, some pre =>
    let drop : Int := (pre : Int) - test
    let need : Int := s.fld Reg.SWP_OWT_CFG 0 16
    if drop < need then ((s.setWire o.node o.wire { x with suspect := false, hits := 0, holdoff := some s.tim.odo }).event 0x0B 4)
    else if test < s.fld Reg.SWP_OWT_CFG 16 16 then (s.setWire o.node o.wire { x with confirmed := true }).event 0x0B 3
    else s.owtRepeat o
  | _, _ => s.owtRepeat o

/-- Judge the tests whose sweep has come (R104). -/
def owtJudgeAll (s : State) (r : SweepRec) : State :=
  let due := s.swp.owts.filter fun o => match o.sweep with
    | some k => decide (0 ≤ sdiff 48 r.cycle k)
    | none => false
  due.foldl (fun s o => s.owtJudge r o) s

end State

end Sys2Proof.Machine
end

