-- ==== Sys2Proof/Machine/LinkRx.lean ====
section
/-! DEFINITION. Frames received from the nodes (R51, R61 to R64, R71 to R80, R95 to R99): the checks, what a report does, and the commands. -/

namespace Sys2Proof.Machine

open Sys2Proof

namespace State

/-! ### The checks of R51 -/

/-- The epoch that a frame's EP selects is accepted (R54). -/
def epochOk (s : State) (ep : Bool) : Bool := ep == s.nv.epoch.testBit 0 || decide (s.link.epochOld ≠ 0)

/-- The low bits of the cycle of the present superframe. -/
def sfCyc8 (s : State) : Option Nat := s.link.sf.map (·.cycle % 256)

/-- The present superframe is auxiliary. -/
def sfAux (s : State) : Bool := match s.link.sf with
  | some f => f.aux
  | none => false

/-- The module's own polls decide which answers are taken; a module that does not serve the superframe takes the answers to its partner's polls. -/
def sfServed (s : State) : Bool := match s.link.sf with
  | some f => f.served
  | none => false

/-- The checks of R51 in order; `permitted` says that TYPE and SRC fit the slot or poll, `mic` that the protection holds. -/
def rxGate (s : State) (l : Nat) (info : RxInfo) (permitted mic : Bool) (take : State → State) : State :=
  if !s.radioHears l then s
  else if !info.crcOk then s.bump (Reg.LNK_RX_CRC l)
  else if s.sfCyc8 != some info.cyc8 || !permitted then s.bump (Reg.LNK_RX_REJECT l)
  else if !mic then (s.bump (Reg.LNK_RX_MIC l)).event (8 + l) 3
  else take ((s.bump (Reg.LNK_RX_OK l)).heard l)

/-- The MIC of a link frame under an accepted epoch (R51, R54). -/
def linkMic (s : State) (info : RxInfo) : Bool := info.micOk && s.epochOk info.ep

/-! ### What a node's report does -/

/-- Put a bit of a mask. -/
def putBit (m n : Nat) (b : Bool) : Nat := m - b2n (m.testBit n) * 2 ^ n + b2n b * 2 ^ n

/-- The safety flags of an authenticated frame (R99, R200): a set flag trips SF2 or SF3 by both paths. `clears` says that the frame is the
node's newest word, which ends a flag it no longer shows. -/
def nodeFlags (s : State) (n ov uv tflag : Nat) (clears : Bool) : State :=
  let v := decide (ov ≠ 0) || decide (uv ≠ 0)
  let t := decide (tflag ≠ 0)
  let fv := if v || clears then putBit s.saf.flagV n v else s.saf.flagV
  let ft := if t || clears then putBit s.saf.flagT n t else s.saf.flagT
  let s := { s with saf := { s.saf with flagV := fv, flagT := ft } }.linkSources
  let s := if v then s.trip 1 n 3 else s
  if t then s.trip 2 n 3 else s

/-- RELEASE for a buffer of a node. -/
def queueRelease (s : State) (n buf : Nat) : State := if s.inControl then s.queueCmd (.release n (2 ^ buf)) else s

/-- End a node's part of a capture. -/
def dropCapNode (s : State) (id n : Nat) : State :=
  { s with est := { s.est with caps := s.est.caps.map fun c =>
      if c.id = id then { c with gone := c.gone ||| 2 ^ n, nodes := c.nodes.erase n } else c } }

/-- A node's part of a capture is abandoned (R72): counted, and its buffer released. -/
def abandonCap (s : State) (id n buf : Nat) : State :=
  (((s.dropCapNode id n).bump Reg.NOD_CAP_ABANDON).event 0x0A 5).queueRelease n buf

/-- Every capture of a node is abandoned (R72). -/
def abandonNode (s : State) (n : Nat) : State :=
  s.est.caps.foldl (fun s c => match c.nodes.find? n with
    | some x => if x.frags.length < 22 then s.abandonCap c.id n x.buf else s
    | none => s) s

/-- The acceptance of FREEZE entries as a node's STAT and CMDECHO show it (R70), and its loss: a buffer that is FREE again, or not READY any more
(R72). -/
def captureReport (s : State) (n stat echo : Nat) : State :=
  s.est.caps.foldl (fun s c => match c.nodes.find? n with
    | none => s
    | some x =>
      let st := bitsOf stat (4 + 2 * x.buf) 2
      let put (s : State) (x : NodeCap) : State :=
        { s with est := { s.est with caps := s.est.caps.map fun (d : Capture) => if d.id = c.id then { d with nodes := d.nodes.set n x } else d } }
      if x.accepted then
        if x.frags.length < 22 ∧ (st = 0 ∨ (x.ready ∧ st ≠ 2)) then s.abandonCap c.id n x.buf
        else put s { x with ready := x.ready || st == 2 }
      else if !x.seqs.contains echo then s
      else if st = 0 then ((s.dropCapNode c.id n).bump Reg.NOD_CAP_REFUSED).event 0x0A 6
      else put s { x with accepted := true, ready := st == 2 }) s

/-- FREEZE entries that every named node has echoed are repeated no more (R70). -/
def dropFreezes (s : State) : State :=
  s.dropCmd fun e => match e with
    | .freeze id .. => !s.est.caps.any fun c => c.id == id && c.nodes.any fun (_, x) => !x.accepted
    | _ => false

/-- NSTAT, STAT and CMDECHO of a node's newest frame (R61, R64, R70, R82, R113). -/
def nodeReport (s : State) (n : Nat) (b : UplinkBody) : State :=
  let reset := b.nstat.testBit 4
  let s := if reset && !s.bit (Reg.NOD_NODE_STAT n) 25 then (s.setBit (Reg.NOD_NODE_STAT n) 25 true).event 0x0A 4 else s
  let s := if reset then s.abandonNode n else s
  let s := s.setFld (Reg.NOD_NODE_STAT n) 16 8 b.stat
  let s := (s.captureReport n b.stat b.cmdEcho).dropFreezes
  let x := s.node n
  let echoed := match x.move with
    | some m => m.seqs.contains b.cmdEcho
    | none => false
  let s := if echoed then s.dropCmd fun e => match e with
      | .lane m .. => m == n
      | _ => false
    else s
  let x := { x with nstat := b.nstat, echo := b.cmdEcho, move := x.move.map fun m => { m with echoed := m.echoed || echoed },
                    groups := x.groups.map fun g => if g.seq = b.cmdEcho then { g with shown := true } else g }
  s.setNode n x

/-! ### Cell limits (R200) -/

/-- Cells and temperatures of a node outside the limits of the parameter set: cells in bits 0 to 15, sensors from bit 16. -/
def outsideBits (p : Pset) (b : UplinkBody) : Nat :=
  let v := (b.v.zipIdx).foldl (fun a (x, i) => a + b2n (decide (p.cellOv < x) || decide (x < p.cellUv)) * 2 ^ i) 0
  (b.t.zipIdx).foldl (fun a (x, i) => a + b2n (decide (p.cellOt < x) || decide (x < p.cellUt)) * 2 ^ (16 + i)) v

/-- The readings of a node against the limits in two consecutive present sweeps (R200). -/
def limitNode (s : State) (n : Nat) (d : NodeData) : State :=
  match s.saf.pset with
  | none => s
  | some p =>
    let x := s.node n
    let now := outsideBits p d.body
    let both := now &&& x.outside
    let v := decide (both % 2 ^ 16 ≠ 0)
    let t := decide (both / 2 ^ 16 ≠ 0)
    let s := s.setNode n { x with outside := now }
    let s := { s with saf := { s.saf with readV := putBit s.saf.readV n v, readT := putBit s.saf.readT n t } }.linkSources
    let s := if v then s.trip 1 n 7 else s
    if t then s.trip 2 n 7 else s

/-- Readings that arrive late are judged with the node's present sweeps on either side of theirs (R93, R200). -/
def limitLate (s : State) (n index : Nat) (d : NodeData) : State :=
  match s.saf.pset with
  | none => s
  | some p =>
    let bits (r : SweepRec) : Option Nat := (recNode r n).map fun x => outsideBits p x.body
    let newer := (s.swp.ring.filter fun r => decide (index < r.index)).filterMap bits
    match newer.reverse with
    | [] => s.limitNode n d
    | next :: _ =>
      let now := outsideBits p d.body
      let both := (now &&& next) ||| (now &&& (((s.swp.ring.filter fun r => decide (r.index < index)).findSome? bits).getD 0))
      let s := if newer.length ≠ 1 then s
        else
          let last := now &&& next
          { s with saf := { s.saf with readV := putBit s.saf.readV n (decide (last % 2 ^ 16 ≠ 0))
                                       readT := putBit s.saf.readT n (decide (last / 2 ^ 16 ≠ 0)) } }.linkSources
      let s := if both % 2 ^ 16 ≠ 0 then s.trip 1 n 7 else s
      if both / 2 ^ 16 ≠ 0 then s.trip 2 n 7 else s

/-! ### The record being assembled (R92, R95, R96) -/

/-- The data of a node with what SWP adds to it (R93, R96). -/
def nodeData (s : State) (r : SweepRec) (n : Nat) (b : UplinkBody) (path age : Nat) : NodeData :=
  let loose := b.nstat.testBit 7 && decide (s.rd Reg.SWP_FREE_DI < r.iSpan)
  let g := (r.bal.find? n).getD (0, 0)
  { body := b, path := path, age := age, freeLoose := loose, tscr := s.tempFlags (s.tempsBefore n r.index) b.t
    balCmd := g.1, balDuty := g.2, owt := r.tests.any fun (k, _) => k == n }

/-- A later copy of a node's data (R95). -/
def duplicate (s : State) (old : NodeData) (b : UplinkBody) : State :=
  if old.body = b then s else (s.bump Reg.SWP_DUP_MISMATCH).event 0x0B 8

/-- A node's data for the present sweep enters the record at its index (R92, R95). -/
def placeData (s : State) (n : Nat) (b : UplinkBody) (path : Nat) : State :=
  match s.swp.cur with
  | none => s
  | some r =>
    match recNode r n with
    | some d => s.duplicate d b
    | none =>
      let d : NodeData := { body := b, path := path }
      { s with swp := { s.swp with cur := some { r with present := r.present ||| 2 ^ n, nodes := r.nodes.set n d } } }

/-- The die temperature a node last reported: that of its newest sweep (R110). -/
def noteTdie (s : State) (n cycle : Nat) (t : Int) : State :=
  let x := s.node n
  let newer := match x.tdieAt with
    | some k => decide (0 ≤ sdiff 48 cycle k)
    | none => true
  if newer then s.setNode n { x with tdie := t, tdieAt := some cycle } else s

/-- An UPLINK, RETRY_UP or inner UPLINK of a DETOUR: flags, report, and data. -/
def takeUplink (s : State) (n : Nat) (b : UplinkBody) (path : Nat) : State :=
  let s := (s.nodeFlags n b.ov b.uv b.tflag true).nodeReport n b
  let s := s.setBit (Reg.NOD_NODE_STAT n) 24 (b.nstat.testBit 7)
  (s.noteTdie n ((s.swp.cur.map (·.cycle)).getD 0) b.tdie).placeData n b path

/-! ### Late data (R97 to R99) -/

/-- The record that a BACKFILL's CYC8 names (R97), with its place in the ring. -/
def backfillRec (s : State) (cyc8 : Nat) : Option (SweepRec × Nat) := s.swp.ring.zipIdx.find? fun (r, _) => r.cycle % 256 == cyc8

/-- The age of late data (R98): the difference of the sweep indices; across a rise of SWP_DIV, which lowers them, sweeps are counted. -/
def lateAge (s : State) (r : SweepRec) (place : Nat) : Nat :=
  match s.newestRec with
  | some m => if r.index ≤ m.index then m.index - r.index else place
  | none => place

/-- A node no longer misses a sweep (R76). -/
def notMissed (s : State) (n cycle : Nat) : State :=
  s.setNode n { s.node n with missed := (s.node n).missed.filter (· != cycle) }

/-- Late data of a node (R97, R98). -/
def lateData (s : State) (n cyc8 : Nat) (b : UplinkBody) : State :=
  match s.backfillRec cyc8 with
  | none => s.bump Reg.SWP_BF_DROP
  | some (r, place) =>
    let s := (s.notMissed n r.cycle).noteTdie n r.cycle b.tdie
    match recNode r n with
    | some d => s.duplicate d b
    | none =>
      let a := s.lateAge r place
      if 8 ≤ a then s.bump Reg.SWP_BF_DROP
      else
        let d := s.nodeData r n b 3 a
        let r := { r with present := r.present ||| 2 ^ n, late := r.late ||| 2 ^ n, nodes := r.nodes.set n d }
        let s := ((s.storeRec (s.screenLate r n d)).event 0x0B 1).limitLate n r.index d
        if a ≤ s.fld Reg.SWP_SWP_CFG 8 3 ∧ s.swp.gathered.get 0 n ≤ r.index then
          { s with swp := { s.swp with latePend := s.swp.latePend.set n (max r.index (s.swp.latePend.get 0 n)) } }.bump Reg.SWP_BF_LATE
        else s.bump Reg.SWP_BF_HIST

/-! ### NODE_STATE (R230) -/

/-- The NODE_STATE frame of this module: joined mask, plan version, lane and radio of each node. -/
def nodeState (s : State) : NodeState :=
  { rx := { seq := s.pair.cswSeq.get 0 (cswKey 0 2) }, joined := s.rd Reg.NOD_JOINED_MASK, planVer := s.rd Reg.NOD_PLAN_VER % 256
    nodes := (List.range 32).map fun n => (s.nodeLane n, s.nodeRadio n) }

/-- Send NODE_STATE: every 100 ms and at each join or lane change (R230). -/
def sendNodeState (s : State) : State :=
  if s.cswUp && s.inControl then
    { s with pair := { s.pair with nodeSent := s.nodeState, nodeSentAt := s.tim.odo } }.cswSend 0 2 [nodePayload s.nodeState]
  else s

/-! ### Slots and polls -/

/-- The lane of an uplink or status slot belongs to the sender (R82: either lane while a change settles). -/
def laneSender (s : State) (l slot src : Nat) : Bool :=
  decide (1 ≤ slot) && decide (slot ≤ 16) && decide (src < 32) && s.joined src &&
    (s.laneNode l (slot - 1) == some src || (match (s.node src).move with
      | some m => (m.accept.getD 0) != 0 && m.oldRadio == l && m.oldLane + 1 == slot
      | none => false))

/-- Note the lane a node used while a change settles (R82). -/
def noteLane (s : State) (l slot n : Nat) : State :=
  let x := s.node n
  s.setNode n { x with move := x.move.map fun m => { m with usedNew := m.radio == l && m.lane + 1 == slot } }

/-- A backfill slot of the present superframe (R58). -/
def backfillSlotNo (s : State) (slot : Nat) : Bool :=
  decide (23 ≤ slot) && decide (slot ≤ if s.sfAux then 32 else 28)

/-- An answer fits the poll of the slot: by its own poll where this module serves the superframe, else any joined node may answer. -/
def pollFits (s : State) (l kind src : Nat) (arg : Nat → Bool) : Bool :=
  decide (src < 32) && s.joined src &&
    (if s.sfServed then
      (match s.poll l with
       | some (t, k, a) => k == kind && t == src && arg a
       | none => false)
     else s.nodeRadio src == l)

end State

/-- UPLINK_RX (R51, R61). -/
def execUplinkRx (radio : Fin 2) (info : RxInfo) (body : UplinkBody) (s : State) : Out :=
  ok (let l := radio.val
      s.rxGate l info (!s.sfAux && s.laneSender l info.slot info.src) (s.linkMic info) fun s =>
        let n := info.src
        let s := (s.takeUplink n body 0).noteLane l info.slot n
        let s := s.setNode n { s.node n with first := true, heard := bitsOf body.nstat 5 2 }
        s.setFld (Reg.LNK_LANE_Q l (info.slot - 1)) 0 8 (info.rssi % 256).toNat)

/-- RETRY_UP_RX (R73). -/
def execRetryUpRx (radio : Fin 2) (info : RxInfo) (body : UplinkBody) (s : State) : Out :=
  ok (let l := radio.val
      s.rxGate l info (!s.sfAux && decide (17 ≤ info.slot) && decide (info.slot ≤ 20) && s.pollFits l 1 info.src fun _ => true) (s.linkMic info)
        fun s => (s.takeUplink info.src body 1).setPoll l none)

/-- DETOUR_RX (R63): the outer header's sender is not checked; the inner PDU must be the uplink of the target in its own slot. -/
def execDetourRx (radio : Fin 2) (info : RxInfo) (inner : RxInfo) (body : UplinkBody) (s : State) : Out :=
  ok (let l := radio.val
      let n := inner.src
      let target := if s.sfServed then (match s.poll l with
          | some (t, k, _) => k == 2 && t == n
          | none => false) else true
      s.rxGate l info (!s.sfAux && decide (21 ≤ info.slot) && decide (info.slot ≤ 22) && target && s.laneSender l inner.slot n)
        (s.linkMic inner) fun s =>
        let s := (List.range 2).foldl (fun s k => if s.watcher n k = some info.src then s.setFld (Reg.NOD_NODE_DET n) (16 + 8 * k) 8 0 else s) s
        (s.takeUplink n body 2).setPoll l none)

/-- BACKFILL_RX (R97 to R99): the safety flags count whatever the age of the data. -/
def execBackfillRx (radio : Fin 2) (info : RxInfo) (data : Nat) (body : UplinkBody) (s : State) : Out :=
  ok (let l := radio.val
      s.rxGate l info (s.backfillSlotNo info.slot && s.pollFits l 3 info.src fun _ => true) (s.linkMic info) fun s =>
        ((s.nodeFlags info.src body.ov body.uv body.tflag false).lateData info.src data body).setPoll l none)

/-- FRAGMENT_RX (R71): stored if ID and buffer match; the 22nd releases the buffer. -/
def execFragmentRx (radio : Fin 2) (info : RxInfo) (id : Nat) (buf : Fin 2) (frag : Nat) (values : List Nat) (s : State) : Out :=
  ok (let l := radio.val
      let n := info.src
      s.rxGate l info (s.backfillSlotNo info.slot && s.pollFits l 4 n fun _ => true) (s.linkMic info) fun s =>
        let s := s.setPoll l none
        match (s.est.caps.find? fun c => c.id == id).bind fun c => c.nodes.find? n with
        | none => s
        | some x =>
          if x.buf ≠ buf.val ∨ 22 ≤ frag ∨ 22 ≤ x.frags.length then s
          else
            let y := { x with frags := x.frags.set frag (values.take 24) }
            let caps := s.est.caps.map fun (c : Capture) => if c.id = id then { c with nodes := c.nodes.set n y } else c
            let s := { s with est := { s.est with caps := caps } }
            if y.frags.length = 22 then (s.bump Reg.NOD_CAP_DONE).queueRelease n buf.val else s)

/-- NOT_HELD_RX (R63, R72, R75, R76). -/
def execNotHeldRx (radio : Fin 2) (info : RxInfo) (reason : Nat) (s : State) : Out :=
  ok (let l := radio.val
      let fits := match s.poll l with
        | some (_, 2, relay) => decide (21 ≤ info.slot) && decide (info.slot ≤ 22) && relay == info.src
        | some (t, 3, _) => s.backfillSlotNo info.slot && t == info.src
        | some (t, 4, _) => s.backfillSlotNo info.slot && t == info.src
        | _ => !s.sfServed && s.joined info.src && s.nodeRadio info.src == l &&
            ((decide (21 ≤ info.slot) && decide (info.slot ≤ 22) && !s.sfAux) || s.backfillSlotNo info.slot)
      s.rxGate l info (decide (info.src < 32) && fits) (s.linkMic info) fun s =>
        match s.poll l with
        | some (t, 2, relay) => ((s.detourFailed t relay).replaceWatchers t).setPoll l none
        | some (t, 3, arg) =>
          let s := if reason = 2 then s.setNode t { s.node t with missed := (s.node t).missed.filter (· % 256 != arg) } else s
          s.setPoll l none
        | some (t, _, arg) =>
          let s := s.setPoll l none
          if reason = 3 then
            s.est.caps.foldl (fun s c => match c.nodes.find? t with
              | some x => if x.buf == arg / 128 && x.accepted && decide (x.frags.length < 22) then s.abandonCap c.id t x.buf else s
              | none => s) s
          else s
        | none => s)

/-- STATUS_RX (R64). -/
def execStatusRx (radio : Fin 2) (info : RxInfo) (body : UplinkBody) (s : State) : Out :=
  ok (let l := radio.val
      s.rxGate l info (s.sfAux && s.laneSender l info.slot info.src) (s.linkMic info) fun s =>
        let n := info.src
        ((s.nodeFlags n body.ov body.uv body.tflag true).nodeReport n body).noteLane l info.slot n)

/-! ### Joining (R78 to R80) -/

namespace State

/-- A node object is created (R80). -/
def createNode (s : State) (n : Nat) : State :=
  if s.link.objs.testBit n then s
  else ({ s with link := { s.link with objs := s.link.objs ||| 2 ^ n } }.newGen .node n).event 0x0A 1

/-- The LANE entry of a node is repeated no more. -/
def dropLane (s : State) (n : Nat) : State :=
  s.dropCmd fun e => match e with
    | .lane k .. => k == n
    | _ => false

/-- A node object is destroyed (R80): its captures are abandoned, its lane is free, it is no longer joined. What is still queued for it goes out on
the radio it was on. -/
def destroyNode (s : State) (n : Nat) : State :=
  let s := (s.abandonNode n).dropLane n
  let s := { s with link := { s.link with parted := s.link.parted.set n (s.nodeRadio n), wants := s.link.wants.erase n } }
  let s := if s.laneNode (s.nodeRadio n) (s.nodeLane n) = some n then s.freeLane (s.nodeRadio n) (s.nodeLane n) else s
  let s := (((s.setJoined n false).setReg (Reg.NOD_NODE_STAT n) 0).setBit Reg.NOD_STALE_MASK n false).setBit Reg.NOD_LOST_MASK n false
  { s with link := { s.link with objs := putBit s.link.objs n false, nodes := s.link.nodes.erase n } }

/-- The place a joining node is given (R78, "Link loss"): the lane it holds, that of the plan, or a free one; on the other radio where its own
has failed. -/
def joinPlace (s : State) (l n : Nat) (e : PlanEntry) : Option (Nat × Nat) :=
  if s.lnkState e.radio = 3 then (s.freeLaneOf l).map fun k => (l, k)
  else if s.laneNode (s.nodeRadio n) (s.nodeLane n) = some n then some (s.nodeRadio n, s.nodeLane n)
  else if s.laneFree e.radio e.lane then some (e.radio, e.lane)
  else (s.freeLaneOf e.radio).map fun k => (e.radio, k)

/-- The body of JOIN_ACCEPT (R78). -/
def acceptBody (s : State) (n l lane : Nat) (e : PlanEntry) (nnonce : Word) : List Nat :=
  leBytes 16 s.kNet ++ leBytes 2 s.nv.epoch ++ [n, l, lane, e.w0, e.w1, s.rd Reg.NOD_PLAN_VER % 256] ++ leBytes 5 s.link.chMask ++ wordBytes nnonce

/-- The wires of a node proven broken are forgotten when it rejoins after a reset (R105). -/
def wiresForgotten (s : State) (n : Nat) : State :=
  (List.range 17).foldl (fun s w => s.setWire n w { s.wire n w with confirmed := false }) s

/-- A join succeeds (R54, R78, R80, R105). -/
def joinNode (s : State) (l n lr lane : Nat) (e : PlanEntry) (nnonce : Word) : State :=
  let s := if s.nv.knet.isNone then s.newKNet else s
  let s := if s.bit (Reg.NOD_NODE_STAT n) 25 then (s.wiresForgotten n).setBit (Reg.NOD_NODE_STAT n) 25 false else s
  let s := if s.laneNode (s.nodeRadio n) (s.nodeLane n) = some n then s.freeLane (s.nodeRadio n) (s.nodeLane n) else s
  let s := ((s.placeNodeIn n lr lane).setJoined n true).wr (Reg.NOD_NODE_DET n) (e.w0 + 256 * e.w1)
  let x := s.node n
  let s := (s.setNode n { x with move := none, lostAt := none, missed := [], groups := [] }).dropLane n
  let s := s.dropCmd fun e => match e with
    | .rejoin k => k == n
    | _ => false
  let s := { s with link := { s.link with rejoin := putBit s.link.rejoin n false } }
  let slot := if s.sfAux then 34 else 30
  let s := (s.sendFrame l 0xD slot joinSync (.join e.key s.nv.jctr) [] (s.acceptBody n lr lane e nnonce)).event 0x0A 0
  (s.createNode n).sendNodeState

end State

/-- JOIN_REQ_RX (R78): the node JOIN_ADV named answers under K_NODE. A module that has ceased to transmit sends no JOIN_ACCEPT (R15). -/
def execJoinReqRx (radio : Fin 2) (info : RxInfo) (nnonce : Word) (_fwver : Nat) (_rcause : Nat) (s : State) : Out :=
  ok (let l := radio.val
      let named := match s.joinAdv l with
        | some n => decide (n < 32)
        | none => false
      let fit := named && info.slot == (if s.sfAux then 34 else 30)
      let s' := if s.radioHears l && info.crcOk && s.sfCyc8 == some info.cyc8 && fit && !info.micOk then s.event 0x0A 8 else s
      s'.rxGate l info fit info.micOk fun s =>
        match (if s.serves l then s.joinAdv l else none) with
        | none => s
        | some n =>
          match s.planOf n with
          | none => s
          | some e =>
            match s.joinPlace l n e with
            | none => s
            | some (lr, lane) => (s.joinNode l n lr lane e nnonce).setJoinAdv l none)

/-- DISC_REPLY_RX (R79): a serial enters the discovery FIFO of 16 entries. -/
def execDiscReplyRx (radio : Fin 2) (info : RxInfo) (serial : Nat) (s : State) : Out :=
  ok (let l := radio.val
      s.rxGate l info (s.joinAdv l == some 32 && info.slot == (if s.sfAux then 34 else 30)) true fun s =>
        if 16 ≤ s.link.disc.length then s
        else { s with link := { s.link with disc := s.link.disc ++ [serial % 2 ^ 64] } }.event 0x0A 7)

end Sys2Proof.Machine
end

