-- ==== Sys2Proof/Machine/LinkSlots.lean ====
section
/-! DEFINITION. The slots a module serves (R58, R65, R70 to R79), lane changes (R82), the channel mask in force (R57), and radio faults. -/

namespace Sys2Proof.Machine

open Sys2Proof

namespace State

/-- The record being assembled holds a node's data. -/
def hasData (s : State) (n : Nat) : Bool := match s.swp.cur with
  | some r => (recNode r n).isSome
  | none => true

/-- The joined nodes of a radio whose data for the present sweep is missing (R73). -/
def missingNodes (s : State) (l : Nat) : List Nat := s.joinedNodes.filter fun n => s.nodeRadio n == l && !s.hasData n

/-- Highest MISS first, then lowest lane, within a round (R73). -/
def retryKey (s : State) (round n : Nat) : Nat := round * 2 ^ 16 + (255 - s.miss n) * 16 + s.nodeLane n

/-- Order nodes by a key. -/
def sortNodes (key : Nat → Nat) (l : List Nat) : List Nat := (l.foldl (fun r n => insertKey (key n) n r) []).map (·.2)

/-- Send a POLL (R62). -/
def sendPoll (s : State) (l slot target kind arg : Nat) : State :=
  (s.setPoll l (some (target, kind, arg))).transmit l 3 slot [] [target, kind, arg]

/-- The relays asked for a target in this superframe. -/
def askedFor (s : State) (t : Nat) : List Nat := match s.link.sf with
  | some f => (f.asked.filter fun (a, _) => a == t).map (·.2)
  | none => []

/-- The relay of a target: the first watcher whose own uplink came, not asked before, and which reported HEARD where its slot lies after the
target's (R75). HEARDk of a watcher speaks of the node whose watcher Wk it is (DESIGN CHOICE, log entry 115). -/
def relayFor (s : State) (t : Nat) : Option Nat :=
  ((List.range 2).filterMap fun k => (s.watcher t k).map fun w => (k, w)).findSome? fun (k, w) =>
    let x := s.node w
    let after := decide (s.nodeLane t < s.nodeLane w)
    if x.first && !(s.askedFor t).contains w && (!after || x.heard.testBit k) then some w else none

/-- Note a relay asked. -/
def noteAsked (s : State) (t w : Nat) : State :=
  { s with link := { s.link with sf := s.link.sf.map fun f => { f with asked := f.asked ++ [(t, w)] } } }

/-! ### Backfill (R76) -/

/-- The age of a missed sweep in sweeps, from the newest one opened. -/
def missedAge (s : State) (c : Nat) : Nat := ((s.gau.lastSweep.getD c + 2 ^ 48 - c) % 2 ^ 48) / s.gau.swpDiv

/-- The missed sweeps of a radio's nodes still in their buffers, oldest first: age, node, cycle. -/
def missedSweeps (s : State) (l : Nat) : List (Nat × Nat × Nat) :=
  let all := (s.joinedNodes.filter fun n => s.nodeRadio n == l).flatMap fun n =>
    ((s.node n).missed.filter fun c => decide (s.missedAge c ≤ 7)).map fun c => (s.missedAge c, n, c)
  (all.foldl (fun r (a, n, c) => insertKey ((7 - a) * 32 + n) (a, n, c) r) []).map (·.2)

/-- The fragment to ask for next: oldest capture first, lowest missing fragment of a node whose buffer is READY (R71, R76). -/
def nextFragment (s : State) (l : Nat) : Option (Nat × Nat) :=
  s.est.caps.findSome? fun c => c.nodes.findSome? fun (n, x) =>
    if x.accepted && s.joined n && s.nodeRadio n == l && s.fld (Reg.NOD_NODE_STAT n) (20 + 2 * x.buf) 2 == 2 then
      ((List.range 22).find? fun f => (x.frags.find? f).isNone).map fun f => (n, x.buf * 128 + f)
    else none

/-- What a backfill slot asks for (R76): target, KIND, ARG. -/
def backfillAsk (s : State) (l : Nat) : Option (Nat × Nat × Nat) :=
  let sweeps := s.missedSweeps l
  let ask (x : Nat × Nat × Nat) : Nat × Nat × Nat := (x.2.1, 3, x.2.2 % 256)
  match sweeps.find? fun (a, _, _) => decide (6 ≤ a) with
  | some x => some (ask x)
  | none =>
    match s.nextFragment l with
    | some (n, a) => some (n, 4, a)
    | none => sweeps.head?.map ask

/-! ### The command frame leaves (R65, R70, R103, R113) -/

/-- What follows from an entry having been sent in the frame of CMDSEQ `seq`. -/
def entrySent (seq l : Nat) (s : State) (e : CmdEntry) : State :=
  match e with
  | .chmask .. => s
  | .freeze id _ _ map =>
    let note (n : Nat) (x : NodeCap) : NodeCap := if s.nodeRadio n = l then { x with seqs := seq :: x.seqs } else x
    let caps := s.est.caps.map fun (c : Capture) =>
      if c.id = id then { c with nodes := c.nodes.map fun (n, x) => (n, if (map.find? n).isSome then note n x else x) } else c
    { s with est := { s.est with caps := caps } }
  | .lane n .. => s.setNode n { s.node n with move := (s.node n).move.map fun m => { m with seqs := seq :: m.seqs } }
  | .bal gs => gs.foldl (fun s g =>
      s.setNode g.node { s.node g.node with groups := ({ group := g, seq := seq, sent := s.tim.odo } :: (s.node g.node).groups).take 16 }) s
  | .owt n w =>
    let owts := s.swp.owts.map fun (o : Owt) => if o.node = n ∧ o.wire = w then { o with sent := true } else o
    ({ s with swp := { s.swp with owts := owts } }.dropCmd (· == e)).bump Reg.SWP_OWT_RUN
  | .release .. => s.dropCmd (· == e)
  | .rejoin _ => s.dropCmd (· == e)

/-! ### Join slots (R78, R79) -/

/-- The radio a node is assigned to: that of the lane it holds, else the plan's. -/
def assignedRadio (s : State) (n : Nat) : Nat :=
  if s.laneNode (s.nodeRadio n) (s.nodeLane n) = some n then s.nodeRadio n else ((s.planOf n).map (·.radio)).getD 0

/-- A node waits to be named by a radio (R79); where the other radio of a SOLO module has failed, its nodes wait here while a lane is free. -/
def waitsFor (s : State) (l n : Nat) : Bool :=
  let r := s.assignedRadio n
  if r = l then !s.joined n || s.bit Reg.NOD_LOST_MASK n || s.link.rejoin.testBit n
  else s.pair.role == .solo && s.lnkState r == 3 && (s.freeLaneOf l).isSome

/-- The next node a radio names on the join channel of this superframe (R79). -/
def nextNamed (s : State) (l pos : Nat) : Option Nat :=
  let wait := s.planNodes.filter (s.waitsFor l)
  let last := s.link.turn.get 32 (l * 3 + pos)
  match wait.find? fun n => decide (last < n) with
  | some n => some n
  | none => wait.head?

/-- JOIN_ADV is sent (R78, R79): JCTR advances (R54), and the frame names the serial of a node under its K_NODE, or none in a DISCOVER. -/
def sendJoinAdv (s : State) (l n : Nat) : State :=
  let s := { s with nv := { s.nv with jctr := (s.nv.jctr + 1) % 2 ^ 32 } }
  let aad (serial : Nat) : List Nat := leBytes 4 ((s.link.sf.map (·.cycle)).getD 0) ++ leBytes 8 serial ++ leBytes 4 s.nv.jctr
  let slot := if s.sfAux then 34 else 30
  let t := s.setJoinAdv l (some n)
  match s.planOf n with
  | some e => t.sendFrame l 0xB slot joinSync (.join e.key s.nv.jctr) (aad e.serial) []
  | none => t.sendFrame l 0xB slot joinSync .clear (aad (2 ^ 64 - 1)) []

/-! ### Lane changes (R81, R82) -/

/-- LANE entries for the places that wait, where the lane is free (R82). -/
def tryWants (s : State) : State :=
  s.link.wants.foldl (fun s (n, r, lane) =>
    let same := s.nodeRadio n == r && s.nodeLane n == lane
    if ((s.node n).move).isNone && (same || s.laneFree r lane) then
      { s with link := { s.link with wants := s.link.wants.erase n } }.queueLane n r lane
    else s) s

end State

/-- RETRY_SLOT (R73). -/
def execRetrySlot (radio : Fin 2) (slot : Nat) (s : State) : Out :=
  ok (let l := radio.val
      if !s.serves l || s.sfAux || slot < 17 || 20 < slot then s
      else
        let s := s.settlePoll l
        let wait := (s.missingNodes l).filter fun n => decide ((s.node n).retries < 2)
        match (State.sortNodes (fun n => s.retryKey (s.node n).retries n) wait).head? with
        | none => s
        | some n => (s.setNode n { s.node n with retries := (s.node n).retries + 1 }).sendPoll l slot n 1 0)

/-- DETOUR_SLOT (R75). -/
def execDetourSlot (radio : Fin 2) (slot : Nat) (s : State) : Out :=
  ok (let l := radio.val
      if !s.serves l || s.sfAux || slot < 21 || 22 < slot then s
      else
        let s := s.settlePoll l
        let order := State.sortNodes (fun n => s.retryKey (s.askedFor n).length n) (s.missingNodes l)
        match order.findSome? fun n => (s.relayFor n).map fun w => (n, w) with
        | none => s
        | some (n, w) => (s.noteAsked n w).sendPoll l slot n 2 w)

/-- BACKFILL_SLOT (R76). -/
def execBackfillSlot (radio : Fin 2) (slot : Nat) (s : State) : Out :=
  ok (let l := radio.val
      if !s.serves l || !s.backfillSlotNo slot then s
      else
        let s := s.settlePoll l
        match s.backfillAsk l with
        | none => s
        | some (n, k, a) => s.sendPoll l slot n k a)

/-- COMMAND_SLOT (R65): the frame composed at the waymark is sent. A radio that listens has heard the partner's beacon (R15), and a SHADOW's the CMDSEQ
and the FREEZE entries of its command frame (R117). -/
def execCommandSlot (slot : CmdSlot) (s : State) : Out :=
  ok (let l := slot.radio.val
      match s.link.sf with
      | none => s
      | some f =>
        if !s.serves l then
          let s := if slot.beacon then s.hearBeacon l else s
          match slot.frame with
          | some (seq, fs) =>
            if s.isShadow && s.lnkState l == 1 && s.radioHears l then fs.foldl (fun s f => s.hearFreeze l seq f) ((s.bump (Reg.LNK_RX_OK l)).heard l)
            else s
          | none => s
        else
          let s := s.settlePoll l
          let frame := if l = 0 then f.frame0 else f.frame1
          let s := s.transmit l 0xA (if f.aux then 33 else 29) [] (frame.flatMap entryBytes)
          frame.foldl (State.entrySent f.cmdSeq l) s)

/-- JOIN_SLOT (R79): the last slot of a superframe. -/
def execJoinSlot (radio : Fin 2) (s : State) : Out :=
  ok (let l := radio.val
      match s.link.sf with
      | none => s
      | some f =>
        if !s.radioHears l then s
        else
          let s := (s.settlePoll l).event (8 + l) 0
          let pos := State.joinPos l f.cycle
          if !s.serves l then s
          else
            match (if s.bit Reg.NOD_NOD_CFG 0 then s.nextNamed l pos else none) with
            | some n =>
              let s := { s with link := { s.link with turn := s.link.turn.put 32 (l * 3 + pos) n } }
              s.sendJoinAdv l n
            | none =>
              if s.bit Reg.NOD_NOD_CFG 1 && (s.pair.mode == .commission || s.pair.mode == .service) then s.sendJoinAdv l 32
              else s.setJoinAdv l none)

/-- RADIO_TX_FAULT (R233, "Link loss and takeover in the middle of a sweep"). -/
def execRadioTxFault (radio : Fin 2) (s : State) : Out :=
  ok (let l := radio.val
      if !s.bit (Reg.LNK_LNK_CFG l) 0 then s
      else
        (((s.setBit (Reg.LNK_LNK_STAT l) 3 true).event (8 + l) 1).setPoll l none).resignFor 1)

/-- CAPTURE_ABANDON (R72): the step of a capture lies more than CAP_MAXAGE in the past. -/
def execCaptureAbandon (id : Nat) (s : State) : Out :=
  ok (match s.est.caps.find? fun c => c.id == id with
    | none => s
    | some c =>
      if s.since c.ts ≤ msT (s.rd Reg.NOD_CAP_MAXAGE) then s
      else c.nodes.foldl (fun s (n, x) => if x.frags.length < 22 then s.abandonCap id n x.buf else s) s)

/-- NODE_FORGET (R80): a node has been LOST for NODE_FORGET. -/
def execNodeForget (node : Fin 32) (s : State) : Out :=
  ok (let n := node.val
      match (s.node n).lostAt with
      | some t =>
        if s.link.objs.testBit n && s.bit Reg.NOD_LOST_MASK n && decide (secT (s.rd Reg.NOD_NODE_FORGET) ≤ s.since t) then
          (s.destroyNode n).sendNodeState
        else s
      | none => s)

/-- LANE_CHANGE (R82): the effective cycle of a LANE entry has come. -/
def execLaneChange (node : Fin 32) (s : State) : Out :=
  ok (let n := node.val
      match (s.node n).move with
      | none => s
      | some m =>
        if m.accept.isSome || sdiff 48 s.gau.cyc m.eff < 0 then s
        else if m.radio = m.oldRadio ∧ m.lane = m.oldLane then
          let s := if m.echoed then s.setNode n { s.node n with move := none } else s.setNode n { s.node n with move := some { m with accept := some 8, usedNew := true } }
          s.tryWants
        else
          let s := (s.freeLane m.oldRadio m.oldLane).placeNodeIn n m.radio m.lane
          let s := s.setNode n { s.node n with move := some { m with accept := some 8 }, movedAt := some (s.gau.cyc / s.gau.swpDiv) }
          (s.event (8 + m.radio) 4).sendNodeState.tryWants)

/-- LANE_ACCEPT_END (R82): 8 superframes after the change the lane the node used is kept; a new LANE entry follows if that is the old one, and the
entry of a node in its new lane is repeated until it is echoed. A node heard in neither lane counts as one in its old lane (DESIGN CHOICE, log
entry 116). -/
def execLaneAcceptEnd (node : Fin 32) (s : State) : Out :=
  ok (let n := node.val
      match (s.node n).move with
      | some m =>
        if m.accept ≠ some 0 then s
        else
          if m.usedNew && !m.echoed then
            s.setNode n { s.node n with move := some { m with oldRadio := m.radio, oldLane := m.lane, accept := none } }
          else if m.usedNew then (s.setNode n { s.node n with move := none }).tryWants
          else
            let s := (s.setNode n { s.node n with move := none }).dropLane n
            let s := (s.freeLane m.radio m.lane).placeNodeIn n m.oldRadio m.oldLane
            (s.sendNodeState).queueLane n m.radio m.lane
      | none => s)

/-- CHMASK_EFFECTIVE (R57). -/
def execChmaskEffective (s : State) : Out :=
  ok (match s.link.chMaskPend with
    | none => s
    | some (m, eff) =>
      if sdiff 48 s.gau.cyc eff < 0 then s
      else { s with link := { s.link with chMask := m, chMaskPend := none } }.dropCmd fun e => entryRank e == 0)

/-- PLL_UNLOCK (LNK_STAT.PLL_LOCK, R239). -/
def execPllUnlock (radio : Fin 2) (locked : Bool) (s : State) : Out :=
  ok (let l := radio.val
      if !s.bit (Reg.LNK_LNK_CFG l) 0 then s
      else
        let was := s.bit (Reg.LNK_LNK_STAT l) 2
        (s.setBit (Reg.LNK_LNK_STAT l) 2 locked).eventIf (was && !locked) (8 + l) 2)

/-- LOOPBACK_TEST (R240): the result of a SHADOW's transmit loopback on a radio. -/
def execLoopbackTest (radio : Fin 2) (pass : Bool) (s : State) : Out :=
  ok (let l := radio.val
      if s.pair.role != .shadow || s.lnkState l != 1 then s
      else if l = 0 then { s with link := { s.link with loop0 := pass } } else { s with link := { s.link with loop1 := pass } })

end Sys2Proof.Machine
end

