-- ==== Sys2Proof/Machine/LinkPlan.lean ====
section
/-! DEFINITION. Lane plans and the node objects (R54, R79 to R81, R350), the channel mask (R57), and the discovery FIFO (R79). -/

namespace Sys2Proof.Machine

open Sys2Proof

/-- An entry of a lane plan as it stands in memory, without its key (R81). -/
def planEntry (b : List Nat) : PlanEntry :=
  { node := leAt b 0 1, radio := leAt b 1 1, lane := leAt b 2 1, w0 := leAt b 3 1, w1 := leAt b 4 1, serial := leAt b 8 8, key := 0 }

/-- The key of an entry, unwrapped under the fleet key (R350). -/
def planKey (fleet : Nat) (b : List Nat) : Option Nat :=
  (Config.gcmOpen fleet (leAt b 16 12) (b.take 16) ((b.drop 28).take 16) (leAt b 44 16)).map leNat

/-- An entry with its key; none where the key fails to unwrap. -/
def planUnwrap (fleet : Nat) (b : List Nat) : Option PlanEntry := (planKey fleet b).map fun k => { planEntry b with key := k }

/-- All of a list, or none. -/
def allSome {α : Type} : List (Option α) → Option (List α)
  | [] => some []
  | none :: _ => none
  | some a :: r => (allSome r).map (a :: ·)

/-- No two entries agree in a key. -/
def distinctBy (key : PlanEntry → Nat) : List PlanEntry → Bool
  | [] => true
  | e :: r => (r.all fun x => key x != key e) && distinctBy key r

/-- The longest lane plan. -/
def planMax : Nat := 16 + 64 * 32 + 96

/-- The plan in a block of memory, if it is one (R81). -/
def planCheck (fleet bench : Nat) (b : List Nat) : Option LanePlan :=
  let count := leAt b 6 1
  let len := leAt b 8 4
  let raw := (List.range count).map fun i => (b.drop (16 + 64 * i)).take 64
  match allSome (raw.map (planUnwrap fleet)) with
  | none => none
  | some es =>
    if leAt b 0 4 = 0x4E4C504C && leAt b 4 2 = 1 && decide (1 ≤ count) && decide (count ≤ 32) && decide (len = 16 + 64 * count + 96)
        && (es.all fun e => decide (e.node < 32) && decide (e.radio < 2) && decide (e.lane < 16))
        && distinctBy (·.node) es && distinctBy (fun e => e.radio * 16 + e.lane) es
        && Config.ecdsaOk bench (b.take (len - 96)) ((b.drop (len - 96)).take 96)
    then some { ver := leAt b 7 1, entries := es }
    else none

namespace State

/-- A node object exists in a slot. -/
def hasNode (s : State) (n : Nat) : Bool := s.link.objs.testBit n

/-- A REJOIN entry, from the module that transmits. -/
def queueRejoin (s : State) (n : Nat) : State := if s.inControl then s.queueCmd (.rejoin n) else s

/-- A refused plan load. -/
def planRefused (s : State) (mid : Mid) (e : ErrCode) : State := (s.err mid Reg.NOD_PLAN_CMD e).event 0x0A 9

/-- A joined node and its entries in two plans: it leaves, or it is told its new place (R81). -/
def planNode (old : State) (s : State) (n : Nat) : State :=
  let was := old.planOf n
  match s.planOf n with
  | none => if s.joined n || s.hasNode n then ((if s.joined n then s.queueRejoin n else s).destroyNode n) else s
  | some e =>
    let same := match was with
      | some o => o.serial == e.serial && o.key == e.key
      | none => false
    if !same then (if s.joined n || s.hasNode n then ((if s.joined n then s.queueRejoin n else s).destroyNode n) else s)
    else if !s.joined n then s
    else
      let det := s.fld (Reg.NOD_NODE_DET n) 0 16
      if s.nodeRadio n = e.radio ∧ s.nodeLane n = e.lane ∧ det = e.w0 + 256 * e.w1 then s
      else
        let s := s.setFld (Reg.NOD_NODE_DET n) 0 16 (e.w0 + 256 * e.w1)
        if s.inControl then { s with link := { s.link with wants := s.link.wants.set n (e.radio, e.lane) } } else s

/-- A plan that omits a joined node or changes a serial (R81). -/
def planDisturbs (s : State) (p : LanePlan) : Bool :=
  (s.joinedNodes.any fun n => !p.entries.any fun e => e.node == n) ||
    p.entries.any fun e => match s.planOf e.node with
      | some o => o.serial != e.serial
      | none => false

/-- LOAD (R81). -/
def planLoadOp (s : State) (mid : Mid) : State :=
  let a := s.rd Reg.NOD_PLAN_ADDR
  let (s, head) := s.fetchAs (.own .link) a 16
  let (s, b) := s.fetchAs (.own .link) a (min planMax (leAt head 8 4))
  match s.nv.keys.find? 1, s.nv.keys.find? 3 with
  | some fleet, some bench =>
    match planCheck fleet bench b with
    | none => s.planRefused mid .planBad
    | some p =>
      if s.running && s.planDisturbs p then s.planRefused mid .mode
      else
        let old := s
        let s := { s with link := { s.link with plan := some p, wants := [] } }.wr Reg.NOD_PLAN_VER p.ver
        ((List.range 32).foldl (planNode old) s).tryWants.sendNodeState
  | _, _ => s.planRefused mid .planBad

/-- The node NOD_HANDLE names (R11). -/
def nodHandle (s : State) : Except ErrCode Nat := s.checkHandle .node s.hasNode (s.reg Reg.NOD_NOD_HANDLE)

/-- REMOVE (R80). -/
def planRemoveOp (s : State) (mid : Mid) : State :=
  match s.nodHandle with
  | .error e => s.err mid Reg.NOD_PLAN_CMD e
  | .ok n => ((s.queueRejoin n).destroyNode n).sendNodeState

/-- REJOIN (R79). -/
def planRejoinOp (s : State) (mid : Mid) : State :=
  match s.nodHandle with
  | .error e => s.err mid Reg.NOD_PLAN_CMD e
  | .ok n => { s with link := { s.link with rejoin := s.link.rejoin ||| 2 ^ n } }

/-- REJOIN_ALL (R54): a new K_NET, and every node is named. -/
def rejoinAllOp (s : State) (mid : Mid) : State := if s.running then s.err mid Reg.NOD_PLAN_CMD .mode else s.newKNet.nameAll

/-- HANDLE: the handle of the node at NOD_INDEX, 0 if it has no object. -/
def planHandleOp (s : State) : State :=
  let n := s.fld Reg.NOD_NOD_INDEX 0 5
  s.setReg Reg.NOD_NOD_HANDLE (if s.hasNode n then s.handleOf .node n else 0)

/-- How many channels a mask enables. -/
def channelCount (m : Nat) : Nat := ((List.range 40).filter m.testBit).length

/-- A write of CH_MASK (R57). -/
def chMaskOp (s : State) (mid : Mid) (hi : Bool) (v : Word) : State :=
  let lo := if hi then s.rd Reg.NOD_CH_MASK_LO else v.toNat
  let up := if hi then v.toNat % 256 else s.rd Reg.NOD_CH_MASK_HI
  let m := lo + 2 ^ 32 * up
  let a := if hi then Reg.NOD_CH_MASK_HI else Reg.NOD_CH_MASK_LO
  if channelCount m < 15 then s.err mid a .chFew
  else if s.running then s.err mid a .mode
  else
    let eff := s.cycleAhead 8
    let s := (s.wr Reg.NOD_CH_MASK_LO lo).wr Reg.NOD_CH_MASK_HI up
    let s := s.dropCmd fun e => entryRank e == 0
    { s with link := { s.link with chMaskPend := some (m, eff) } }.queueCmd (.chmask m (eff % 2 ^ 32))

end State

/-- PLAN_LOAD (R81). -/
def execPlanLoad (mid : Mid) (s : State) : Out := ok (s.busW mid Reg.NOD_PLAN_CMD fun s => s.planLoadOp mid)

/-- PLAN_REMOVE (R80). -/
def execPlanRemove (mid : Mid) (s : State) : Out := ok (s.busW mid Reg.NOD_PLAN_CMD fun s => s.planRemoveOp mid)

/-- PLAN_REJOIN (R79). -/
def execPlanRejoin (mid : Mid) (s : State) : Out := ok (s.busW mid Reg.NOD_PLAN_CMD fun s => s.planRejoinOp mid)

/-- REJOIN_ALL (R54). -/
def execRejoinAll (mid : Mid) (s : State) : Out := ok (s.busW mid Reg.NOD_PLAN_CMD fun s => s.rejoinAllOp mid)

/-- PLAN_HANDLE (R80). -/
def execPlanHandle (mid : Mid) (s : State) : Out := ok (s.busW mid Reg.NOD_PLAN_CMD fun s => s.planHandleOp)

/-- CH_MASK_WRITE (R57). -/
def execChMaskWrite (mid : Mid) (hi : Bool) (value : Word) (s : State) : Out :=
  ok (s.busW mid (if hi then Reg.NOD_CH_MASK_HI else Reg.NOD_CH_MASK_LO) fun s => s.chMaskOp mid hi value)

/-- A read of DISC_LO (R79): the low half of the head's serial; the read removes the entry. -/
def discReadOp (s : State) : State :=
  { s with busData := w32 (s.link.disc.head?.getD 0), link := { s.link with disc := s.link.disc.drop 1 } }

/-- DISC_READ (R79). -/
def execDiscRead (mid : Mid) (s : State) : Out := ok (s.busR mid Reg.NOD_DISC_LO discReadOp)

end Sys2Proof.Machine
end

