-- ==== Sys2Proof/Machine/Sweep.lean ====
section
/-! DEFINITION. The close of a sweep record (R91 to R94, R96): the currents, MISS and SF4 (R77, R201), the cell limits (R200), the balance
checks (R113, R114) and lane moves (R83); the commands of SWP but for the record close itself, which starts the pipeline. -/

namespace Sys2Proof.Machine

open Sys2Proof

/-- Bits set in a number below `2^n`. -/
def popcount (n x : Nat) : Nat := ((List.range n).filter x.testBit).length

/-- Bits of `a` that `b` lacks. -/
def bitsLack (a b : Nat) : Nat := a - (a &&& b)

/-- The cap of R110 as a DUTY, at a temperature in 0.01 °C, from breakpoints T1, T2, T3 in 0.01 °C and L2 in 0.01 %. -/
def balCap (t1 t2 t3 : Int) (l2 : Nat) (t : Int) : Nat :=
  if t ≤ t1 then 256
  else if t ≤ t2 then (256 * (10000 * (t2 - t1) - (10000 - (l2 : Int)) * (t - t1)) / (10000 * (t2 - t1))).toNat
  else if t ≤ t3 then (256 * (l2 * (t3 - t)) / (10000 * (t3 - t2))).toNat
  else 0

namespace State

/-! ### Periods and currents -/

/-- The sweep period in TIME cycles. -/
def sweepPeriod (s : State) : Nat :=
  if s.usesTracked then s.gau.swpDiv * s.gau.tracked / 4 else s.gau.swpDiv * 250000000 / s.fnom

/-- The previous sample instant of a record: that of the sweep before, else one period earlier. -/
def prevSmp (s : State) (r : SweepRec) : BitVec 64 :=
  match s.swp.smps.find? fun (_, t) => t != r.smpOdo && atOrBefore t r.smpOdo with
  | some (_, t) => t
  | none => r.smpOdo - BitVec.ofNat 64 s.sweepPeriod

/-- I_SPAN: the spread of the record's source current within 12.8 µs of the sample instant (R90, R93). -/
def spanAt (s : State) (useB : Bool) (t : BitVec 64) : Nat :=
  let near := ((if useB then s.sns.b else s.sns.a).outs.filter fun (x, _) => decide ((x - t).toInt.natAbs ≤ 3200)).map (·.2)
  match near with
  | [] => 0
  | v :: r => (r.foldl max v - r.foldl min v).toNat

/-- The currents of a record at its close (R90, R93, R94). -/
def closeCurrents (s : State) (r : SweepRec) : State × SweepRec :=
  let prev := s.prevSmp r
  let mine := s.sns.pend.filter fun (t, _) => atOrBefore t r.smpOdo
  let used := mine.filter fun (t, _) => isAfter t prev
  let s := { s with sns := { s.sns with pend := s.sns.pend.filter fun (t, _) => isAfter t r.smpOdo } }
  let late (r : SweepRec) (c : Nat) : SweepRec := if r.got.testBit c then r else setRecFlag r (1 + c) true
  let r := late (late (late r 0) 1) 2
  let r := if r.got % 4 = 0 then setRecFlag r 4 s.sns.useB else r
  let r := setRecFlag (setRecFlag r 6 (s.lnkState 0 == 3 || s.lnkState 1 == 3)) 7 s.swp.takeover
  (s, { r with qsum := sumOuts used, nsum := used.length, iSpan := s.spanAt (recFlag r 4) r.smpOdo })

/-! ### Balance groups (R113, R114) -/

/-- The group in force over the period of a record: the newest one sent before the instant that opens it (R113). -/
def groupInForce (s : State) (n : Nat) (opening : BitVec 64) : Option SentGroup :=
  (s.node n).groups.find? fun g => atOrBefore g.sent opening

/-- ON_MASK as the checks take it: a group with DUTY 0 commands no switch on (R113). -/
def groupOn (g : BalGroup) : Nat := if g.duty = 0 then 0 else g.mask

/-- The node's default limit (R110, R114). -/
def defaultCap (t : Int) : Nat := balCap 7000 9500 10500 2000 t

/-- QBAL of a cell for an on-time of `duty / 256` of a period (R114), µC. -/
def qbalOf (s : State) (c duty period : Nat) : Nat :=
  let v := ((s.swp.cells.get {} c).last).getD 0
  min 0xFFFF ((divRound (v * 100 * duty * period * 4 : Nat) (256 * s.rd Reg.BAL_BAL_R * 1000 : Nat)).toNat)

/-- QBAL of the 16 cells of a node (R114). -/
def nodeQbal (s : State) (r : SweepRec) (n : Nat) (opening : BitVec 64) : Tab Nat :=
  match s.groupInForce n opening with
  | none => []
  | some g =>
    let period := (r.smpOdo - opening).toNat
    let duty := min g.group.duty (defaultCap (s.node n).tdie)
    let on := match recNode r n with
      | some d => groupOn g.group &&& d.body.balOn
      | none => if (s.node n).silent ≤ 4 then groupOn g.group else 0
    (List.range 16).filterMap fun i => if on.testBit i then some (16 * n + i, s.qbalOf (16 * n + i) duty period) else none

/-- BAL_CHECK of a present node (R113). -/
def balCheck (s : State) (n : Nat) (d : NodeData) (opening : BitVec 64) : State :=
  let x := s.node n
  match s.groupInForce n opening with
  | none => s.setNode n { x with notOn1 := 0, notOn2 := 0 }
  | some g =>
    if !g.shown then s.setNode n { x with notOn1 := 0, notOn2 := 0 }
    else
      let on := groupOn g.group
      let s := if bitsLack d.body.balOn on ≠ 0 then (s.setBit Reg.BAL_BAL_FAULT n true).event 0x0F 1 else s
      let off := if d.body.nstat.testBit 2 then 0 else bitsLack on d.body.balOn
      let s := s.eventIf (decide (off &&& x.notOn2 ≠ 0)) 0x0F 2
      s.setNode n { s.node n with notOn1 := off, notOn2 := off &&& x.notOn1 }

/-- The groups in force over the period a closing record reports (R93, R113). -/
def balOfRec (s : State) (r : SweepRec) (opening : BitVec 64) : SweepRec :=
  { r with bal := (List.range 32).filterMap fun n => (s.groupInForce n opening).map fun g => (n, g.group.mask, g.group.duty) }

/-- Every node of a closing record: the checks, QBAL and the count of R114. A sweep without the node's data ends a run of NOT_ON (R113). -/
def balNode (opening : BitVec 64) (acc : State × SweepRec) (n : Nat) : State × SweepRec :=
  let (s, r) := acc
  match recNode r n with
  | some d =>
    let s := s.balCheck n d opening
    let s := s.setNode n { s.node n with silent := 0 }
    let q := s.nodeQbal r n opening
    (s, { r with qbal := q.foldl (fun t (c, v) => t.put 0 c v) r.qbal })
  | none =>
    if !s.joined n then (s, r)
    else
      let s := s.setNode n { s.node n with silent := (s.node n).silent + s.gau.swpDiv, notOn1 := 0, notOn2 := 0 }
      let q := s.nodeQbal r n opening
      (s, { r with qbal := q.foldl (fun t (c, v) => t.put 0 c v) r.qbal })

/-! ### MISS and SF4 (R77, R201) -/

/-- A node's data of a sweep arrived, here or, in a SHADOW, at the partner. -/
def missNode (cycle mask : Nat) (s : State) (n : Nat) : State :=
  if !s.joined n then s
  else
    let a := Reg.NOD_NODE_STAT n
    let mark (s : State) (stale lost : Bool) : State :=
      (((s.setBit a 14 stale).setBit Reg.NOD_STALE_MASK n stale).setBit a 15 lost).setBit Reg.NOD_LOST_MASK n lost
    if mask.testBit n then
      let s := (s.setFld a 0 8 0)
      (mark s false false).setNode n { s.node n with lostAt := none }
    else
      let was := s.miss n
      let m := min 255 (was + 1)
      let lost := decide (s.fld Reg.NOD_NOD_CFG 8 8 ≤ m)
      let wasLost := s.bit a 15
      let x := s.node n
      let s := mark (s.setFld a 0 8 m) (decide (2 ≤ m)) lost
      let s := s.setNode n { x with missed := (cycle :: x.missed).take 8,
                                    lostAt := if lost && !wasLost then some s.tim.odo else x.lostAt }
      (s.eventIf (decide (was < 2) && decide (2 ≤ m)) 0x0A 3).eventIf (lost && !wasLost) 0x0A 2

/-- The joined nodes whose MISS has reached SIL_LIMIT. -/
def silentNodes (s : State) : List Nat :=
  match s.saf.pset with
  | some p => s.joinedNodes.filter fun n => decide (p.silLimit ≤ s.miss n)
  | none => []

/-- SF4 (R201): it acts in OPERATE and FORMATION. -/
def sf4Check (s : State) : State :=
  match (if s.running then s.silentNodes else []) with
  | [] => { s with saf := { s.saf with silent := false } }.linkSources
  | n :: _ => { s with saf := { s.saf with silent := true } }.trip 3 n 3

/-- MISS of every node at the close of a sweep, from the nodes that arrived (R77), and SF4. -/
def evalMiss (s : State) (cycle mask : Nat) : State := ((List.range 32).foldl (missNode cycle mask) s).sf4Check

/-- MISS at the record close: a SHADOW whose partner is alive combines its own reception with the PRESENT mask of the same cycle, and waits for it
where it has not come yet (R201, R230). -/
def missAtClose (s : State) (r : SweepRec) : State :=
  let low := r.cycle % 2 ^ 32
  if s.isShadow && s.partnerAlive then
    if s.pair.hb.cycle = low then s.evalMiss r.cycle (r.present ||| s.pair.hb.present)
    else { s with link := { s.link with maskWait := some (r.cycle, s.tim.odo) } }
  else s.evalMiss r.cycle r.present

/-! ### Lane quality and automatic moves (R83) -/

/-- A node's first-attempt loss in the sweep just closed. -/
def lossNode (s : State) (n : Nat) : State :=
  if !s.joined n then s
  else
    let x := s.node n
    let bits := (x.lossBits * 2 + b2n (!x.first)) % 2 ^ 256
    let s := s.setNode n { x with lossBits := bits }
    s.setFld (Reg.LNK_LANE_Q (s.nodeRadio n) (s.nodeLane n)) 8 8 (min 255 (popcount 256 bits))

/-- A node is moved to the other radio (R83). -/
def autoLane (s : State) (index n : Nat) : State :=
  let x := s.node n
  let l := otherRadio (s.nodeRadio n)
  let rested := match x.movedAt with
    | some k => decide (k + 3000 ≤ index)
    | none => true
  let busy := s.est.caps.any fun c => (c.nodes.find? n).any fun x => x.accepted && decide (x.frags.length < 22)
  if s.joined n && s.inControl && s.bit Reg.NOD_NOD_CFG 2 && x.move.isNone && rested && !busy
      && decide (s.rd Reg.NOD_LANE_LOSS_TH < popcount 256 x.lossBits) && s.lnkState l == 2 then
    match s.freeLaneOf l with
    | some k => s.queueLane n l k
    | none => s
  else s

/-! ### The close -/

/-- The blocks of a closing record: BAL_CMD, BAL_DUTY, NINFO and TSCR (R93, R96, R103). -/
def closeNodes (s : State) (r : SweepRec) : SweepRec :=
  { r with nodes := r.nodes.map fun (n, d) => (n, s.nodeData r n d.body d.path d.age) }

/-- NODE_STAT.PATH of the last sweep: 3 for none. -/
def notePaths (s : State) (r : SweepRec) : State :=
  (List.range 32).foldl (fun s n => s.setFld (Reg.NOD_NODE_STAT n) 26 2 (((recNode r n).map (·.path)).getD 3)) s

/-- Close the record being assembled (R92): the ring and memory hold it, and what the close evaluates is evaluated. -/
def closeRecord (s : State) (r : SweepRec) : State :=
  let opening := s.prevSmp r
  let (s, r) := s.closeCurrents r
  let r := s.closeNodes (s.balOfRec r opening)
  let (s, r) := (List.range 32).foldl (balNode opening) (s, r)
  let ring := (r :: s.swp.ring.filter fun x => x.index % 8 != r.index % 8).take 8
  let s := { s with swp := { s.swp with cur := none, ring := ring, takeover := false, gapCount := s.swp.gapCount + 1 } }.storeRec r
  let s := ((s.wr Reg.NOD_PRESENT_MASK r.present).notePaths r).event 0x0B 0
  let s := r.nodes.foldl (fun s (n, d) => s.limitNode n d) s
  let s := (s.missAtClose r)
  let s := (List.range 32).foldl lossNode s
  (List.range 32).foldl (fun s n => s.autoLane r.index n) s

/-! ### Screen (R101) -/

/-- Store the SCR byte of a cell. -/
def putScr (r : SweepRec) (c f : Nat) : SweepRec := { r with scr := r.scr.put 0 c f }

/-- Screen of the newest record (R100 to R104): the state and the screened record. -/
def screen (s : State) (r : SweepRec) : State × SweepRec :=
  let rp := s.recOf (r.index - 1)
  let s := s.noteCurrents r
  let (s, r) := (List.range 512).foldl (fun (acc : State × SweepRec) c =>
    let (s, f) := acc.1.screenCell acc.2 c
    (s, putScr acc.2 c f)) (s, r)
  let s := s.joinedNodes.foldl (fun s n => (List.range 15).foldl (fun s i => s.screenWire r (if r.index = 0 then none else rp) n (i + 1)) s) s
  let s := s.owtJudgeAll r
  let r := (List.range 512).foldl (fun r c => putScr r c (r.scr.get 0 c ||| s.wireFlags r c)) r
  let s := s.flagCaptures r
  let dis := s.curDis r
  let s := s.eventIf dis 0x0C 6
  let s := s.setBit Reg.SNS_SNS_STAT 16 dis
  let r := setRecFlag r 0 dis
  match s.sumCheck r with
  | none => (s, r)
  | some false => ({ s with swp := { s.swp with sumRun := 0 } }, setRecFlag r 5 false)
  | some true =>
    let n := min 6 (s.swp.sumRun + 1)
    ({ s with swp := { s.swp with sumRun := n } }.eventIf (n == 5) 0x0B 6, setRecFlag r 5 true)

/-- A stage of a run sees the records as its Gather found them, and leaves the ring as it is (R98). -/
def onRun (s : State) (done : Nat) (f : Run → SweepRec → State → State) : State :=
  match s.est.run with
  | none => s
  | some r =>
    match r.ring.head? with
    | none => s
    | some x =>
      if r.done = done then
        let t := f r x { s with swp := { s.swp with ring := r.ring } }
        { t with swp := { t.swp with ring := s.swp.ring } }
      else s

/-- The screened record with the late data that has come since its Gather: those nodes keep what Screen gave them at arrival (R98, R101). -/
def mergeLate (live x : SweepRec) : SweepRec :=
  let came (c : Nat) : Bool := live.late.testBit (c / 16) && !x.late.testBit (c / 16)
  { live with rflags := x.rflags, scr := (List.range 512).foldl (fun t c => if came c then t else t.put 0 c (x.scr.get 0 c)) live.scr }

/-- Screen of a run: its own copy of the record and the ring's take the results (R101). -/
def screenRun (s : State) : State :=
  let t := s.onRun 1 fun run r s =>
    let (s, x) := s.screen r
    { s with est := { s.est with run := some { run with done := 2, ring := run.ring.map fun y => if y.index = x.index then x else y } } }
  match s.est.run, (t.est.run.bind fun r => r.ring.head?) with
  | some r, some x => if r.done = 1 then
      (match t.recOf x.index with
       | some live => t.storeRec (mergeLate live x)
       | none => t)
      else t
  | _, _ => t

/-! ### Commands -/

/-- WIRE_CMD (R103, R105): node, wire and operation. A wire above 16 is refused with RANGE (DESIGN CHOICE, log entry 117). -/
def wireCmdOp (s : State) (mid : Mid) (v op : Nat) : State :=
  let n := bitsOf v 0 5
  let w := bitsOf v 8 5
  if 16 < w then s.err mid Reg.SWP_WIRE_CMD .range
  else if op = 1 then s.requestOwt n w
  else if op = 2 then s.setWire n w { s.wire n w with confirmed := false }
  else s.err mid Reg.SWP_WIRE_CMD .cmdBad

/-- A write of SWP_CFG (R91). -/
def swpCfgOp (s : State) (mid : Mid) (v : Word) : State :=
  let new := bitsOf v.toNat 0 3
  let word := v &&& 0x707
  if new = s.fld Reg.SWP_SWP_CFG 0 3 then s.setReg Reg.SWP_SWP_CFG word
  else if s.pair.mode == .ready || s.pair.mode == .commission || s.pair.mode == .service then
    { s.setReg Reg.SWP_SWP_CFG word with gau := { s.gau with swpDivPend := some (new + 1, s.gau.cyc) } }
  else s.err mid Reg.SWP_SWP_CFG .mode

/-- The cycle whose superframe may open now: the present one, or the next where the waymark fires before the crossing. -/
def openingCycle (s : State) : Nat := if s.fireAngleInt (s.sampleAngle (s.gau.cyc + 1)) < 0 then (s.gau.cyc + 1) % 2 ^ 48 else s.gau.cyc

end State

/-- SCREEN_STAGE (R101). -/
def execScreenStage (s : State) : Out :=
  ok s.screenRun

/-- SWP_CFG_WRITE (R91). -/
def execSwpCfgWrite (mid : Mid) (value : Word) (s : State) : Out := ok (s.busW mid Reg.SWP_SWP_CFG fun s => s.swpCfgOp mid value)

/-- SWP_DIV_CHANGE (R91). -/
def execSwpDivChange (s : State) : Out :=
  ok (match s.gau.swpDivPend with
    | none => s
    | some (d, w) =>
      let c := s.openingCycle
      if sdiff 48 c w < 2 ∨ c % d ≠ 0 then s
      else { s with gau := { s.gau with swpDiv := d, swpDivPend := none } }.event 0x0B 9)

/-- WIRE_TEST (R103). -/
def execWireTest (mid : Mid) (value : Word) (s : State) : Out := ok (s.busW mid Reg.SWP_WIRE_CMD fun s => s.wireCmdOp mid value.toNat 1)

/-- WIRE_CLEAR (R105). -/
def execWireClear (mid : Mid) (value : Word) (s : State) : Out := ok (s.busW mid Reg.SWP_WIRE_CMD fun s => s.wireCmdOp mid value.toNat 2)

/-- OWT_ROUTINE (R106): every GAP sweeps the next wire of the joined nodes. -/
def execOwtRoutine (s : State) : Out :=
  ok (let gap := s.fld Reg.SWP_OWT_ROUTINE 0 16
      let all := s.joinedNodes.flatMap fun n => (List.range 17).map fun w => n * 17 + w
      if gap = 0 || decide (s.swp.gapCount < gap) || !s.inControl then s
      else
        match (all.find? fun k => decide (s.swp.gapWire ≤ k)).orElse fun _ => all.head? with
        | none => s
        | some k => { s with swp := { s.swp with gapCount := 0, gapWire := k + 1 } }.requestOwt (k / 17) (k % 17))

/-- WIRE_HOLDOFF_END (R104). -/
def execWireHoldoffEnd (node : Fin 32) (wire : Fin 17) (s : State) : Out :=
  ok (let x := s.wire node.val wire.val
      match x.holdoff with
      | some t => if secT (s.rd Reg.SWP_WIRE_HOLDOFF) ≤ s.since t then s.setWire node.val wire.val { x with holdoff := none } else s
      | none => s)

end Sys2Proof.Machine
end

