-- ==== Sys2Proof/Machine/Trips.lean ====
section
/-! DEFINITION. The sources of safety demands that are not the cell link's: IHALL (SF1, R199), the safety inputs and test pulses (SF5,
R213 to R218), the cross-trip (SF6, R202), and the supervision of safety core and guardrail (SF7, R203). -/

namespace Sys2Proof.Machine

open Sys2Proof

namespace State

/-! ### SF1 (R199) -/

/-- IHALL lies outside the guardrail's fixed window. -/
def ihGuard (mv : Nat) : Bool := decide (mv < 500) || decide (4500 < mv)

/-- IHALL lies outside the safety core's window, 2,500 mV ± IH_TRIP; without a parameter set in force there is none. -/
def ihCore (s : State) (mv : Nat) : Bool :=
  match s.saf.pset with
  | some p => decide (mv + p.ihTrip < 2500) || decide (2500 + p.ihTrip < mv)
  | none => false

/-! ### SF5 (R213, R216 to R218) -/

/-- An input's parameters, if it is used. -/
def siParam (s : State) (i : Nat) : Option SiParam :=
  match s.saf.pset with
  | some p => (p.si[i]?).filter (·.used)
  | none => none

/-- An input's state. -/
def si (s : State) (i : Nat) : SiSt := s.saf.si.get {} i

/-- Store an input's state. -/
def setSi (s : State) (i : Nat) (x : SiSt) : State := { s with saf := { s.saf with si := s.saf.si.put {} i x } }

/-- An input demands in the safety core: either filtered channel is 0 (R216), DISC is latched (R218), or a TP fault stands (R217). -/
def siDemands (s : State) (i : Nat) : Bool :=
  (s.siParam i).isSome && ((s.si i).a == .low || (s.si i).b == .low || (s.si i).disc || (s.si i).tpFault)

/-- SF5 is active in the safety core. -/
def anySi (s : State) : Bool := (List.range 12).any s.siDemands

/-- SF5 where an input's state has changed: a demand of the input trips, and the source ends when no input demands. -/
def siJudge (s : State) (i : Nat) : State :=
  if s.siDemands i then s.trip 4 (i + 1) 7
  else if s.anySi || decide (s.saf.gLow ≠ 0) then s
  else s.quiet 4 7

/-- DISC is latched (R218). -/
def latchDisc (s : State) (i : Nat) : State :=
  if (s.si i).disc then s
  else (s.setSi i { s.si i with disc := true, bothLow := false, parted := none }).event 0x13 2

/-- Every used input demands or not as it stands: SF5 over all inputs. -/
def siAll (s : State) : State := (List.range 12).foldl (fun s i => if s.siDemands i then s.siJudge i else s) s

/-- DISC is due: the other channel has not followed within D (R218). -/
def discDue (s : State) (i : Nat) : Bool :=
  match (s.si i).parted, s.siParam i with
  | some t, some p => decide (msT p.disc < s.since t)
  | _, _ => false

/-- The start-up test of SI1 or SI2 (R213): demand on both channels, then none on both. -/
def startupStep (s : State) (i : Nat) : State :=
  let x := s.si i
  let u := s.saf.startup
  if decide (2 ≤ i) || !u.testBit i then s
  else if x.a == .low && x.b == .low then { s with saf := { s.saf with startup := u ||| 2 ^ (i + 2) } }
  else if x.a == .high && x.b == .high && u.testBit (i + 2) then
    let u := u &&& (15 - 2 ^ i - 2 ^ (i + 2))
    { s with saf := { s.saf with startup := u } }.eventIf (u % 4 == 0) 0x13 13
  else s

/-- The start-up tests the parameter set asks for are pending (R213). -/
def startupArm (s : State) : State :=
  let need (i : Nat) : Bool := (s.siParam i).elim false (·.startup)
  { s with saf := { s.saf with startup := b2n (need 0) + 2 * b2n (need 1) } }

/-- DISC clears after both channels have shown 0 together and then 1 together (R218). -/
def discClear (x : SiSt) : SiSt :=
  if !x.disc then x
  else if x.a == .low && x.b == .low then { x with bothLow := true }
  else if x.a == .high && x.b == .high && x.bothLow then { x with disc := false, bothLow := false }
  else x

/-- A filtered channel changes (R216): the discrepancy count starts or ends, and the input is judged. -/
def siFilter (s : State) (i : Nat) (chB level : Bool) : State :=
  let s := if s.discDue i then s.latchDisc i else s
  let l : SiLevel := if level then .high else .low
  let x := s.si i
  let x := if chB then { x with b := l } else { x with a := l }
  let parted := if x.a == x.b then none else match x.parted with
    | some t => some t
    | none => if x.disc then none else some s.tim.odo
  let s := s.setSi i (discClear { x with parted := parted })
  (s.siJudge i).startupStep i

/-! ### Test pulses (R214, R217) -/

/-- A TP output belongs to the pulse of one parity. -/
def tpIn (even : Bool) (tp : Nat) : Bool := (tp % 2 == 0) == even

/-- Units of `2^-32` ns in the 20 ms of the pulse schedule. -/
def tpPeriod : Nat := 20000000 * fracPerNs

/-- How far the schedule of the odd, or the even, outputs is past its last off edge: each multiple of 20 ms of plant time, and 10 ms later
(R214). A SHADOW in slot B reads slot A's plant time. -/
def tpPhase (s : State) (even : Bool) : Nat :=
  (((s.plant : Int) + s.saf.tpShift * fracPerNs - b2n even * (tpPeriod / 2 : Nat)) % (tpPeriod : Int)).toNat

/-- An off edge is due: its instant came within this TIME cycle; in a SHADOW of slot B within 10 µs of it (R214). -/
def tpDue (s : State) (even : Bool) : Bool :=
  let w := if s.isShadow && s.pair.slotB then 10000 * fracPerNs else 0
  decide ((s.tpPhase even + w) % tpPeriod ≤ 2 * w + 4 * fracPerNs)

/-- A SHADOW aligns its schedule to slot A's, by the plant time in its heartbeats (R214). -/
def tpAlign (s : State) (h : Heartbeat) : State :=
  let d : Int := sdiff 32 h.ptSec (timeSec s.plant) * 1000000000 + ((h.ptNs : Int) - timeNs s.plant)
  { s with saf := { s.saf with tpShift := if s.isShadow && s.pair.slotB && !h.slotB then d else 0 } }

/-- Pulses missed in a row on a channel, after a pulse of its TP. -/
def missCount (old : Nat) (missed : Bool) : Nat := if missed then old + 1 else 0

/-- A feedback input's parameters, if it is used. -/
def fbParam (s : State) (k : Nat) : Option FbParam :=
  match s.saf.pset with
  | some p => (p.fb[k]?).filter (·.used)
  | none => none

/-- The pulse window of a feedback input's channels ends: they are checked exactly as safety inputs are (08, contactor feedback). The bits of
feedback input `k + 1` follow those of the 12 safety inputs. A fault of it is no demand (log entry 76). -/
def tpFeedback (even : Bool) (missA missB : Nat) (s : State) (k : Nat) : State :=
  match s.fbParam k with
  | none => s
  | some p =>
    let x := s.ch k
    let a := if tpIn even p.tpA then missCount x.missA (missA.testBit (12 + k)) else x.missA
    let b := if tpIn even p.tpB then missCount x.missB (missB.testBit (12 + k)) else x.missB
    let f := decide (2 ≤ a) || decide (2 ≤ b)
    (s.setCh k { x with missA := a, missB := b, tpFault := f }).eventIf (f && !x.tpFault) 0x13 3

/-- The pulse window of an input's channels ends (R217): two missed pulses in a row are a TP fault. -/
def tpInput (even : Bool) (missA missB : Nat) (s : State) (i : Nat) : State :=
  match s.siParam i with
  | none => s
  | some p =>
    let x := s.si i
    let a := if tpIn even p.tpA then missCount x.missA (missA.testBit i) else x.missA
    let b := if tpIn even p.tpB then missCount x.missB (missB.testBit i) else x.missB
    let f := decide (2 ≤ a) || decide (2 ≤ b)
    let s := (s.setSi i { x with missA := a, missB := b, tpFault := f }).eventIf (f && !x.tpFault) 0x13 3
    if f != x.tpFault then s.siJudge i else s

/-- TP outputs of the parity that failed to go off or to return (R214). -/
def tpOutput (even : Bool) (faults : Nat) (s : State) (k : Nat) : State :=
  if !tpIn even (k + 1) then s
  else
    let was := s.saf.tpFault.testBit k
    let f := faults.testBit k
    let s := { s with saf := { s.saf with tpFault := if f then s.saf.tpFault ||| 2 ^ k else s.saf.tpFault &&& (255 - 2 ^ k) } }
    if f then (s.eventIf (!was) 0x13 3).trip 10 (k + 1) 7
    else if s.saf.tpFault = 0 then s.quiet 10 7 else s

/-! ### Guardrail inputs -/

/-- The guardrail's filter of an input changes (R216). -/
def grdFilter (s : State) (i : Nat) (level : Bool) : State :=
  let m := 2 ^ i
  let hi := if level then s.saf.gSi ||| m else s.saf.gSi &&& (4095 - m)
  let lo := if level then s.saf.gLow &&& (4095 - m) else s.saf.gLow ||| m
  let s := { s with saf := { s.saf with gSi := hi, gLow := lo } }
  if !level then s.trip 4 (i + 1) 2
  else if lo ≠ 0 then s
  else if s.anySi then { s with saf := { s.saf with gSources := s.saf.gSources &&& 61 } }
  else s.quiet 4 2

/-! ### SF6 (R202) -/

/-- Both modules declare XTRIP_FAULT: the partner's heartbeat shows its own XTRIP_IN not pulsing. -/
def xtripBoth (s : State) : Bool := !s.pair.hb.xtripIn

/-- XTRIP_FAULT is declared (R202): this module's paths open and stay open, but for slot A where both declare; an ACTIVE resigns. -/
def declareXtripFault (s : State) : State :=
  let s := { s with saf := { s.saf with xtripFault := true } }.event 0x13 8
  let s := if s.xtripBoth && !s.pair.slotB then s else s.openAll
  s.resignFor 6

/-- XTRIP_IN takes a decoded state (R202). -/
def xtripTake (s : State) (v : Nat) : State :=
  let was := s.saf.xtripIn
  let fault := s.saf.xtripFault && v == 0
  let at_ := if v = 0 ∧ was ≠ 0 then some s.tim.odo else if v = 0 then s.saf.xtripLow else none
  let s := { s with saf := { s.saf with xtripIn := v, xtripFault := fault, xtripLow := at_ } }
  if v = 2 then s.trip 5 0 4 else if was = 2 then s.quiet 5 4 else s

end State

/-! ### The commands -/

/-- IHALL_TRIP (R199). -/
def execIhallTrip (mv : Nat) (s : State) : Out :=
  ok (if State.ihGuard mv then s.trip 0 0 1 else if s.ihCore mv then s.trip 0 0 7 else s)

/-- IHALL_CLEAR (R199): inside the guardrail's window its source ends, inside both SF1 does. -/
def execIhallClear (mv : Nat) (s : State) : Out :=
  ok (if State.ihGuard mv then s
      else if s.ihCore mv then { s with saf := { s.saf with gSources := s.saf.gSources &&& 62 } }
      else s.quiet 0 1)

/-- SI_FILTER (R216). -/
def execSiFilter (input : Fin 12) (chB level : Bool) (s : State) : Out := ok (s.siFilter input.val chB level)

/-- GRD_SI_FILTER (R216). -/
def execGrdSiFilter (input : Fin 12) (level : Bool) (s : State) : Out := ok (s.grdFilter input.val level)

/-- SI_DISC (R218). -/
def execSiDisc (input : Fin 12) (s : State) : Out :=
  ok (if s.discDue input.val then (s.latchDisc input.val).siJudge input.val else s)

/-- TP_PULSE (R214): the outputs of one parity go off, at their instant of the schedule. -/
def execTpPulse (even : Bool) (s : State) : Out :=
  ok (if s.saf.tpOff.isNone && s.tpDue even then { s with saf := { s.saf with tpOff := some even, tpAt := s.tim.odo } } else s)

/-- TP_PULSE_CHECK (R214, R217): the outputs have returned after 400 µs, and 300 µs later the pulse is judged. -/
def execTpPulseCheck (missA missB outFault : Nat) (s : State) : Out :=
  ok (match s.saf.tpOff with
    | none => s
    | some even =>
      if s.since s.saf.tpAt < usT 700 then s
      else
      let s := { s with saf := { s.saf with tpOff := none } }
      let s := (List.range 12).foldl (State.tpInput even missA missB) s
      let s := (List.range 8).foldl (State.tpOutput even outFault) s
      (List.range 6).foldl (State.tpFeedback even missA missB) s)

/-- XTRIP_DECODE (R202): static high is a demand, static low none. -/
def execXtripDecode (level : LineLevel) (s : State) : Out := ok (s.xtripTake (if level = .high then 2 else 0))

/-- XTRIP_PULSE_RETURN (R202): no demand any more, and XTRIP_FAULT clears. -/
def execXtripPulseReturn (s : State) : Out := ok (s.xtripTake 1)

/-- XTRIP_FAULT (R202): static low for 10 ms while the partner is alive with its XTRIP_OUT pulsing. -/
def execXtripFault (s : State) : Out :=
  ok (match s.saf.xtripLow with
    | some t =>
      if decide (msT 10 ≤ s.since t) && s.partnerAlive && s.pair.hb.xtripOut && !s.saf.xtripFault then s.declareXtripFault else s
    | none => s)

/-- DEMAND_RX (R202): a demand message of the partner is a demand, which has no lasting state. -/
def execDemandRx (_cause : Word) (demand : Csw Word) (s : State) : Out :=
  ok (s.cswTake 0 1 demand.rx fun s =>
    let s := s.trip 5 0 7 true
    if s.saf.xtripIn = 2 then s else s.quiet 5 7)

/-- WD_TIMEOUT (R203): a token came early or is late. The source lasts while the safety core is frozen and can send none. -/
def execWdTimeout (_early : Bool) (s : State) : Out :=
  ok (let s := ((s.bump Reg.GRD_GRD_WDMISS).event 0x14 1).trip 6 0 5
      if s.bit Reg.FWL_FROZEN 4 || s.saf.gSources.testBit 5 then s else s.quiet 6 5)

/-- LOCKSTEP_ERROR (R203). -/
def execLockstepError (s : State) : Out := ok ((s.event 0x14 2).trip 6 0 6)

/-- GRD_MISMATCH (R203): the guardrail's state and the safety core's view of source SFn have differed for 10 ms. -/
def execGrdMismatch (_sf : Nat) (s : State) : Out :=
  ok (let s := s.trip 6 0 7
      if s.saf.gSources.testBit 4 || s.saf.gSources.testBit 5 then s else s.quiet 6 7)

end Sys2Proof.Machine
end

