-- ==== Sys2Proof/Machine/Contactors.lean ====
section
/-! DEFINITION. Closing and opening the contactor channels (R206 to R208), the switch tests and faults (R209, R210), the feedback and the
proof of the contactors (R211, R212), and the safety parameter set (R219 to R221). -/

namespace Sys2Proof.Machine

open Sys2Proof

namespace State

/-! ### The parameter set (R219) -/

/-- An input entry of a set. -/
def siEntry (b : List Nat) (k : Nat) : SiParam :=
  let o := 0x10 + 8 * k
  { used := (b.getD o 0).testBit 0, startup := (b.getD o 0).testBit 1, tpA := b.getD (o + 1) 0, tpB := b.getD (o + 2) 0,
    filter := b.getD (o + 3) 0, disc := leAt b (o + 4) 2 }

/-- A feedback entry of a set. -/
def fbEntry (b : List Nat) (k : Nat) : FbParam :=
  let o := 0x70 + 8 * k
  { used := (b.getD o 0).testBit 0, tpA := b.getD (o + 1) 0, tpB := b.getD (o + 2) 0, fbTime := leAt b (o + 4) 2 }

/-- The fields of a set (R219). -/
def psetOf (b : List Nat) : Pset :=
  { setId := leAt b 0x006 2, stringId := leAt b 0x00C 4
    si := (List.range 12).map (siEntry b), fb := (List.range 6).map (fbEntry b)
    kUsed := b.getD 0xA0 0, silLimit := b.getD 0xA1 0, proofInt := leAt b 0xA2 2, proofWarn := leAt b 0xA4 2
    cellOv := leAt b 0xA8 2, cellUv := leAt b 0xAA 2
    cellOt := (BitVec.ofNat 16 (leAt b 0xAC 2)).toInt, cellUt := (BitVec.ofNat 16 (leAt b 0xAE 2)).toInt
    ihTrip := leAt b 0xB0 2, sf8Time := leAt b 0xB2 2, sf8Abs := leAt b 0xB4 4, sf8Rel := leAt b 0xB8 2
    digest := Config.sha384Word b }

/-- A value lies in a range. -/
def within (lo x hi : Nat) : Bool := decide (lo ≤ x) && decide (x ≤ hi)

/-- The two TPs of an entry: 1 to 8, of opposite parity (R215, R219). -/
def tpPair (a b : Nat) : Bool := within 1 a 8 && within 1 b 8 && (a + b) % 2 == 1

/-- An input entry's ranges, whether the input is used or not (R219; DEDUCED, log entry 79). -/
def siEntryOk (k : Nat) (e : SiParam) : Bool :=
  (!e.startup || decide (k < 2)) && tpPair e.tpA e.tpB && within 5 e.filter 80 && within 10 e.disc 1000

/-- A feedback entry's ranges, whether it is used or not (R219; DEDUCED, log entry 79). -/
def fbEntryOk (e : FbParam) : Bool := tpPair e.tpA e.tpB && within 20 e.fbTime 1000

/-- The ranges and the parity rule of a set (R219, R221). -/
def psetRanges (b : List Nat) : Bool :=
  let p := psetOf b
  leAt b 0 4 == 0x54455350 && leAt b 4 2 == 1 && leAt b 8 4 == 352
    && (p.si.zipIdx.all fun e => siEntryOk e.2 e.1) && p.fb.all fbEntryOk
    && decide (p.kUsed < 64) && within 2 p.silLimit 10 && within 1 p.proofInt 365 && within 1 p.proofWarn p.proofInt
    && within 100 p.ihTrip 2000 && within 1 p.sf8Time 100 && (((b.drop 0xBA).take 70).all (· == 0))

/-- A set's signature by the Workbench safety key holds, and so do its ranges (R219, R221). -/
def psetValid (s : State) (b : List Nat) : Bool :=
  psetRanges b && (match s.nv.keys.find? 4 with
    | some k => Config.ecdsaOk k (b.take 0x100) (b.drop 0x100)
    | none => false)

/-- PSET_LOAD (R221): the safety core reads the set. -/
def psetLoad (s : State) (mid : Mid) : State :=
  if !(s.pair.mode == .commission || s.pair.mode == .service) then s.err mid Reg.SAF_SAF_CMD .mode
  else if s.anyPath then s.err mid Reg.SAF_SAF_CMD .state
  else
    let (s, b) := s.fetchAs (.own .safety) (s.rd Reg.SAF_PSET_ADDR) 352
    if s.psetValid b then { s with saf := { s.saf with pending := some b } }
    else (s.event 0x13 12).err mid Reg.SAF_SAF_CMD .psetBad

/-- The channels a set uses. -/
def usedChannels (p : Option Pset) : Nat := (p.map (·.kUsed)).getD 0

/-- Channels newly brought into use have no proof on record (R212). -/
def forgetProofs (s : State) (fresh : Nat) : State :=
  { s with nv := { s.nv with proofs := s.nv.proofs.drop fun k => fresh.testBit k, closedOnce := s.nv.closedOnce &&& (63 - fresh % 64) } }

/-- PSET_CONFIRM (R221): the pending set is stored and in force, and BLK_LOCK of the page is set. -/
def psetConfirm (s : State) (mid : Mid) : State :=
  match s.saf.pending with
  | none => s.err mid Reg.SAF_SAF_CMD .state
  | some b =>
    let p := psetOf b
    if s.reg Reg.SAF_PSET_CONFIRM ≠ p.digest then s.err mid Reg.SAF_SAF_CMD .psetConfirm
    else
      let s := s.forgetProofs (p.kUsed &&& (63 - usedChannels s.saf.pset % 64))
      let s := { s with saf := { s.saf with pset := some p, pending := none }, nv := { s.nv with pset := some b } }
      let s := (s.setBit 0x1300c 0 true).event 0x13 11
      s.startupArm.siAll

/-! ### Closing (R206) -/

/-- Days since the last proof of a channel (R212); none if never proved. -/
def proofAge (s : State) (k : Nat) : Option Nat := (s.nv.proofs.find? k).map fun t => (timeSec s.plant - t) / 86400

/-- The channel's proof lets it close (R206 condition 9, R212). -/
def proofAllows (s : State) (k : Nat) : Bool :=
  match s.proofAge k, s.saf.pset with
  | some d, some p => decide (d < p.proofInt)
  | some _, none => false
  | none, _ => !s.nv.closedOnce.testBit k

/-- A switch fault is latched on a channel. -/
def swFault (s : State) (k : Nat) : Bool :=
  s.bit Reg.SAF_SW_FAULT k || s.bit Reg.SAF_SW_FAULT (8 + k) || s.bit Reg.SAF_SW_FAULT (16 + k) || s.bit Reg.SAF_SW_FAULT (24 + k)

/-- FB_DISC is latched on a channel (R211). -/
def fbDisc (s : State) (k : Nat) : Bool := s.bit Reg.SAF_FB_STATE (16 + k)

/-- The code of the first condition of R206 that fails for a channel; 0 if all hold. -/
def closeCode (s : State) (k : Nat) : Nat :=
  if !s.running then 1
  else if s.saf.latched || s.saf.gLatch then 2
  else if s.saf.startup % 4 != 0 then 3
  else if !(usedChannels s.saf.pset).testBit k then 4
  else if s.partnerAlive && s.pair.hb.psetDigest != s.psetDigest && !s.anyPath then 5
  else if (s.fbUsed k && ((s.ch k).fbA || (s.ch k).fbB)) || s.fbDisc k then 6
  else if s.nv.weld != 0 then 7
  else if s.swFault k then 8
  else if !s.proofAllows k then 9
  else if !(s.joinedNodes.all fun n => s.miss n == 0 && !s.bit (Reg.NOD_NODE_STAT n) 14) then 10
  else 0

/-- This module keeps its own paths open for a reason of R196: XTRIP_FAULT, leaving, SEATED open, an image overwrite. -/
def heldOpen (s : State) : Bool :=
  s.saf.xtripFault || s.pair.leftAt.isSome || s.pair.unseated || s.upd.boot == .overwriting

/-- Close a channel and, where it has no proof on record, use up its one close (R212). -/
def closeUsed (s : State) (k : Nat) : State :=
  let s := if (s.nv.proofs.find? k).isSome then s else { s with nv := { s.nv with closedOnce := s.nv.closedOnce ||| 2 ^ k } }
  s.closeCh k

/-- A channel is requested and not closed: the conditions of R206 are checked, and it closes or the code goes to REFUSE. -/
def tryClose (s : State) (k : Nat) : State :=
  if s.pathOn k || s.heldOpen then s
  else
    let c := s.closeCode k
    if c = 0 then s.closeUsed k else (s.wr Reg.SAF_REFUSE (c + k * 2 ^ 8)).event 0x13 14

/-- Withdraw the channels a mask does not name, then close those it names (R18, R206). -/
def serveRequest (s : State) (mask : Nat) (close : State → Nat → State) : State :=
  let s := (List.range 6).foldl (fun s k => if mask.testBit k then s else s.openCh k) s
  (List.range 6).foldl (fun s k => if mask.testBit k then close s k else s) s

/-- K_REQ takes a value, and the paths follow (R206). -/
def setKReq (s : State) (mask : Nat) (close : State → Nat → State) : State :=
  let was := s.fld Reg.SAF_K_REQ 0 6
  let s := (s.wr Reg.SAF_K_REQ (mask % 64)).serveRequest (mask % 64) close
  let s := s.runCheck
  if was = mask % 64 then s else s.sendBeat

/-- A channel's request is withdrawn (R210, R211), and the partner is told of the K_REQ that has changed (R230). -/
def withdrawCh (s : State) (k : Nat) : State :=
  let was := s.requested k
  let s := ((s.setBit Reg.SAF_K_REQ k false).openCh k).runCheck
  if was then s.sendBeat else s

/-! ### Switch faults (R210) -/

/-- FAILED_CLOSED: the other switch opens this module's path; in SOLO a demand with cause SWITCH, and an ACTIVE resigns. -/
def failedClosed (s : State) (k : Nat) (low : Bool) : State :=
  let s := (s.setBit Reg.SAF_SW_FAULT (k + 8 * b2n low) true).event 0x13 4
  let s := s.openCh k
  match s.pair.role with
  | .solo => s.trip 8 k 7
  | .active => s.resignFor 5
  | _ => s

/-- FAILED_OPEN: the path of the channel opens. -/
def failedOpen (s : State) (k : Nat) : State := ((s.setBit Reg.SAF_SW_FAULT (16 + k) true).event 0x13 4).openCh k

/-- The slot of the switch tests: 24 in 10 s of plant time (R209), by number since plant time 0. -/
def testSlot (s : State) : Nat := s.plant * 24 / (10 * fracPerSec)

/-- The next switch is tested (R209, R210): an off-pulse with readback if it is on, its readback alone if it is off. `cut`: the guardrail cut the
pulse of a KL switch at 300 µs. -/
def switchTest (s : State) (finding : SwFinding) (cut : Bool) : State :=
  let t := s.saf.nextTest
  let k := t / 2
  let low := t % 2 == 1
  let on := if low then (s.ch k).kl else (s.ch k).kh
  let slot := s.testSlot
  let gap := match s.saf.lastSlot with
    | some l => l + 2 != slot
    | none => false
  let missed := (s.saf.slotMissed && t != 0) || gap
  let s := { s with saf := { s.saf with nextTest := (t + 1) % 12, lastSlot := some slot, slotMissed := missed,
                                        cycleOk := if t = 11 then !missed else s.saf.cycleOk } }
  let s := s.bump Reg.SAF_SW_TESTS
  let s := if low && on then (s.bump Reg.GRD_GRD_TESTS).eventIf cut 0x14 3 else s
  match finding with
  | .pass => s
  | .failedClosed => s.failedClosed k low
  | .failedOpen => if on then s.failedOpen k else s

/-! ### Feedback and proof (R211, R212) -/

/-- WELD is latched: a demand, and close is refused on every channel until WELD_CLEAR. -/
def latchWeld (s : State) (k : Nat) : State :=
  ({ s with nv := { s.nv with weld := s.nv.weld ||| 2 ^ k } }.eventIf (!s.nv.weld.testBit k) 0x13 5).trip 9 k 7

/-- A channel is proved: the plant time is stored. -/
def storeProof (s : State) (k : Nat) : State :=
  { s with nv := { s.nv with proofs := s.nv.proofs.set k (timeSec s.plant), closedOnce := s.nv.closedOnce &&& (63 - 2 ^ k) },
           saf := { s.saf with proofDue := s.saf.proofDue &&& (63 - 2 ^ k), proofOver := s.saf.proofOver &&& (63 - 2 ^ k) } }

/-- The feedback of a channel as it reads now. -/
def takeFeedback (s : State) (k : Nat) (a b : Bool) : State :=
  let was := s.chProved k
  let s := s.setCh k { s.ch k with fbA := a, fbB := b }
  let s := if s.chProved k == was then s else s.sendBeat
  if !a && !b && s.saf.sources.testBit 9 && (List.range 6).all fun j => s.coilOn j || !((s.ch j).fbA || (s.ch j).fbB) then s.quiet 9 7 else s

/-- FB_TIME after a change of the coil state (R211, R212). -/
def judgeFeedback (s : State) (k : Nat) (a b : Bool) : State :=
  let s := s.setCh k { s.ch k with changed := none }
  let s := if a != b && !s.fbDisc k then (s.setBit Reg.SAF_FB_STATE (16 + k) true).event 0x13 7 else s
  if s.coilOn k then (if !a && !b then (s.event 0x13 6).withdrawCh k else s)
  else if a || b then s.latchWeld k
  else s.storeProof k

/-- The time FB_TIME gives a channel; none where its feedback is not in use. -/
def fbTime (s : State) (k : Nat) : Option Nat := s.saf.pset.bind fun p => ((p.fb[k]?).filter (·.used)).map (·.fbTime)

/-! ### Reset of a demand (R208) -/

/-- Every demand source of the module has been inactive for 100 ms, and XTRIP_IN shows no demand. -/
def resetAllowed (s : State) : Bool :=
  (s.saf.latched || s.saf.gLatch) && s.saf.sources == 0 && decide (msT 100 ≤ s.since s.saf.quietAt) && s.saf.xtripIn != 2

/-- SAF_CMD RESET. -/
def safReset (s : State) (mid : Mid) : State :=
  if !s.resetAllowed then s.err mid Reg.SAF_SAF_CMD .state
  else if s.saf.gSources ≠ 0 then (s.event 0x14 4).err mid Reg.SAF_SAF_CMD .state
  else
    let s := { s with saf := { s.saf with latched := false, gLatch := false } }.event 0x13 1
    let s := s.startupArm
    if s.pair.mode = .safeHold then s.setMode .ready else s.sendBeat

/-- SAF_NONCE. -/
def safNonce (s : State) : Word := Config.random s.saf.nonce

/-- WELD_CLEAR (R211): in SERVICE, with a token over SAF_NONCE, which is renewed. -/
def weldClear (s : State) (mid : Mid) : State :=
  if s.pair.mode ≠ .service then s.err mid Reg.SAF_SAF_CMD .mode
  else
    let (s, b) := s.tokenRead (s.rd Reg.SAF_TOKEN_ADDR)
    let good := s.tokenOk b 2 s.safNonce 4
    let s := { s with draws := s.draws + 1, saf := { s.saf with nonce := s.draws } }
    if good then { s with nv := { s.nv with weld := 0 } } else (s.event 0x1E 2).err mid Reg.SAF_SAF_CMD .tokenBad

end State

/-! ### The commands -/

/-- K_REQ_WRITE (R206): firmware of a SHADOW is refused with ROLE. -/
def kReqWrite (s : State) (mid : Mid) (v : Word) : State :=
  if s.pair.role = .shadow then s.err mid Reg.SAF_K_REQ .role else s.setKReq (v.toNat % 64) State.tryClose

/-- K_REQ_WRITE. -/
def execKReqWrite (mid : Mid) (value : Word) (s : State) : Out := ok (s.busW mid Reg.SAF_K_REQ fun s => kReqWrite s mid value)

/-- SWITCH_TEST (R209): slot A tests in even slots, slot B in odd ones, one switch in each. -/
def execSwitchTest (test : SwTest) (s : State) : Out :=
  ok (if (s.testSlot % 2 == 1) == s.pair.slotB && s.saf.lastSlot != some s.testSlot then s.switchTest test.finding test.cut else s)

/-- SWITCH_READBACK_FAULT (R210, R368). -/
def execSwitchReadbackFault (ch : Fin 6) (low : Bool) (kind : ReadbackFault) (s : State) : Out :=
  let on := if low then (s.ch ch.val).kl else (s.ch ch.val).kh
  ok (match kind with
    | .stuckOn => if on then s else s.failedClosed ch.val low
    | .stuckOff => if on then s.failedOpen ch.val else s
    | .overcurrent => if on then s.failedOpen ch.val else s)

/-- COIL_OPEN (R210): no coil voltage with both switches on for 5 ms. -/
def execCoilOpen (ch : Fin 6) (s : State) : Out :=
  let k := ch.val
  ok (if s.pathOn k && (s.ch k).onAt.elim true (fun t => decide (msT 5 ≤ s.since t)) then
    ((s.setBit Reg.SAF_SW_FAULT (24 + k) true).event 0x13 4).withdrawCh k
  else s)

/-- FB_CHECK (R211, R212): the feedback as it reads; FB_TIME after a change of the coil state it is judged. -/
def execFbCheck (ch : Fin 6) (closedA closedB : Bool) (s : State) : Out :=
  let k := ch.val
  let due := match (s.ch k).changed, s.fbTime k with
    | some t, some d => decide (msT d ≤ s.since t)
    | _, _ => false
  let s := s.takeFeedback k closedA closedB
  ok (if due then s.judgeFeedback k closedA closedB else s).runCheck

/-- PROOF_DUE (R212): a used channel's proof age has reached PROOF_WARN. -/
def execProofDue (ch : Fin 6) (s : State) : Out :=
  let k := ch.val
  ok (match s.proofAge k, s.saf.pset with
    | some d, some p =>
      if decide (p.proofWarn ≤ d) && p.kUsed.testBit k && !s.saf.proofDue.testBit k then
        { s with saf := { s.saf with proofDue := s.saf.proofDue ||| 2 ^ k } }.event 0x13 9
      else s
    | _, _ => s)

/-- PROOF_OVERDUE (R212): it has reached PROOF_INT; no path opens. -/
def execProofOverdue (ch : Fin 6) (s : State) : Out :=
  let k := ch.val
  ok (match s.proofAge k, s.saf.pset with
    | some d, some p =>
      if decide (p.proofInt ≤ d) && p.kUsed.testBit k && !s.saf.proofOver.testBit k then
        { s with saf := { s.saf with proofOver := s.saf.proofOver ||| 2 ^ k } }.event 0x13 10
      else s
    | _, _ => s)

/-- SAF_RESET (R208). -/
def execSafReset (mid : Mid) (s : State) : Out := ok (s.busW mid Reg.SAF_SAF_CMD fun s => s.safReset mid)

/-- PSET_LOAD (R221). -/
def execPsetLoad (mid : Mid) (s : State) : Out := ok (s.busW mid Reg.SAF_SAF_CMD fun s => s.psetLoad mid)

/-- PSET_CONFIRM (R221). -/
def execPsetConfirm (mid : Mid) (s : State) : Out := ok (s.busW mid Reg.SAF_SAF_CMD fun s => s.psetConfirm mid)

/-- WELD_CLEAR (R211). -/
def execWeldClear (mid : Mid) (s : State) : Out := ok (s.busW mid Reg.SAF_SAF_CMD fun s => s.weldClear mid)

end Sys2Proof.Machine
end

