-- ==== Sys2Proof/Machine/Gather.lean ====
section
/-! DEFINITION. Chemistry tables (R120 to R122), core state as words (R138, R147), and Gather (R116, R122 to R125, R130, R232) with the
record close that starts it. -/

namespace Sys2Proof.Machine

open Sys2Proof

/-! ### Chemistry tables in memory (R120, R121) -/

/-- A parameter row. -/
def chemParam (b : List Nat) : ChemParam :=
  let f (i : Nat) : Word := w32 (leAt b (4 * i) 4)
  { rohm := f 0, rp1 := f 1, cp1 := f 2, rp2 := f 3, cp2 := f 4, sd := f 5 }

/-- A grid of 9 rows of 101 points. -/
def chemGrid (b : List Nat) : List (List Nat) :=
  (List.range 9).map fun t => (List.range 101).map fun s => leAt b (2 * (101 * t + s)) 2

/-- A table as it stands in memory. -/
def chemParse (b : List Nat) : ChemTable :=
  { id := leAt b 6 2, cNom := leAt b 12 4, temps := (List.range 9).map fun i => leIntAt b (16 + 2 * i) 2
    vMin := leAt b 0x22 2, vMax := leAt b 0x24 2, gamma := w32 (leAt b 0x28 4), etaC := w32 (leAt b 0x2C 4)
    params := (List.range 9).map fun t => chemParam ((b.drop (0x30 + 32 * t)).take 32)
    ocv := chemGrid (b.drop 0x150), m := chemGrid (b.drop 0x86A) }

/-- Strictly ascending. -/
def ascending : List Int → Bool
  | a :: b :: r => decide (a < b) && ascending (b :: r)
  | _ => true

/-- Nowhere decreasing. -/
def nonDecreasing : List Nat → Bool
  | a :: b :: r => decide (a ≤ b) && nonDecreasing (b :: r)
  | _ => true

/-- A parameter row that R121 accepts. -/
def paramOk (p : ChemParam) : Bool :=
  ([p.rohm, p.rp1, p.cp1, p.rp2, p.cp2].all fun x => F32.finite x && F32.lt F32.zero x) && F32.finite p.sd && F32.le F32.zero p.sd

/-- The bytes are a table that R121 accepts, under the Workbench key. -/
def chemOk (bench : Nat) (b : List Nat) : Bool :=
  let t := chemParse b
  decide (leAt b 0 4 = 0x43484D54) && decide (leAt b 4 2 = 1) && decide (leAt b 8 4 = 4068)
    && Config.ecdsaOk bench (b.take 0xF84) ((b.drop 0xF84).take 96)
    && ascending t.temps && t.ocv.all nonDecreasing && (t.ocv.all fun r => r.all fun v => decide (t.vMin ≤ v) && decide (v ≤ t.vMax))
    && t.params.all paramOk && decide (t.cNom ≠ 0) && F32.finite t.etaC && F32.le (f32c 9 10) t.etaC && F32.le t.etaC F32.one
    && F32.finite t.gamma && F32.le F32.zero t.gamma && decide (t.vMin < t.vMax)

namespace State

/-- A refused table load. -/
def chemRefused (s : State) (mid : Mid) (e : ErrCode) : State := (s.err mid Reg.EST_CHEM_CMD e).event 0x0D 9

/-- LOAD (R121). -/
def chemLoadOp (s : State) (mid : Mid) : State :=
  match s.est.chems.firstFree 4 with
  | none => s.chemRefused mid .chemFull
  | some i =>
    let (s, b) := s.fetchAs (.own .pipe) (s.rd Reg.EST_CHEM_ADDR) 4068
    match s.nv.keys.find? 3 with
    | some bench =>
      if chemOk bench b then
        let s := { s with est := { s.est with chems := s.est.chems.set i (chemParse b) } }.newGen .chem i
        (s.setReg Reg.EST_CHEM_HANDLE (s.handleOf .chem i)).setBit Reg.EST_CHEM_MAP i true
      else s.chemRefused mid .chemBad
    | none => s.chemRefused mid .chemBad

/-- The table CHEM_HANDLE names (R11). -/
def chemHandle (s : State) : Except ErrCode Nat :=
  s.checkHandle .chem (fun i => (s.est.chems.find? i).isSome) (s.reg Reg.EST_CHEM_HANDLE)

/-- A cell is assigned a table, now or at the next Gather. -/
def chemInUse (s : State) (i : Nat) : Bool :=
  (s.est.aux.any fun (_, x) => x.table == some i) || s.est.assigns.any fun (t, _, _) => t == i

/-- DESTROY (R122). -/
def chemDestroyOp (s : State) (mid : Mid) : State :=
  match s.chemHandle with
  | .error e => s.err mid Reg.EST_CHEM_CMD e
  | .ok i =>
    if s.chemInUse i then s.err mid Reg.EST_CHEM_CMD .inUse
    else { s with est := { s.est with chems := s.est.chems.erase i } }.setBit Reg.EST_CHEM_MAP i false

/-- ASSIGN (R122): it takes effect at the next Gather. -/
def chemAssignOp (s : State) (mid : Mid) : State :=
  match s.chemHandle with
  | .error e => s.err mid Reg.EST_CHEM_CMD e
  | .ok i =>
    let first := s.fld Reg.EST_CHEM_RANGE 0 9
    let last := s.fld Reg.EST_CHEM_RANGE 16 9
    if last < first then s.err mid Reg.EST_CHEM_CMD .range
    else { s with est := { s.est with assigns := s.est.assigns ++ [(i, first, last)] } }

end State

/-! ### FLAGS of the core state (R138, R147) -/

/-- FLAGS bits (R138, R147). -/
def fCold : Nat := 2 ^ 0
/-- RESTORED. -/
def fRestored : Nat := 2 ^ 1
/-- The bits that tell of one run: QGAP, QSCALED, CLAMP, LATE_USED, WIN_Q, WIN_V, CONFLICT, REANCHOR. -/
def fRun : Nat := 2 ^ 2 + 2 ^ 3 + 2 ^ 4 + 2 ^ 7 + 2 ^ 24 + 2 ^ 25 + 2 ^ 26 + 2 ^ 27

/-- Set or clear a bit of FLAGS. -/
def Cell.flag (x : Cell) (b : Nat) (v : Bool) : Cell := { x with flags := State.putBit x.flags b v }

/-- A bit of FLAGS. -/
def Cell.has (x : Cell) (b : Nat) : Bool := x.flags.testBit b

/-- The Fuse extension cleared (R147). -/
def Cell.clearExt (x : Cell) : Cell :=
  { x with anchorPt := 0, socAnchor := 0, qAnchor := 0, conflictN := 0, lowSpan := 0, runValid := false, varAnchor := 0 }

namespace State

/-- A cell's working state. -/
def workCell (s : State) (c : Nat) : Cell := s.est.work.get {} c

/-- Store a cell's working state. -/
def setWork (s : State) (c : Nat) (x : Cell) : State := { s with est := { s.est with work := s.est.work.put {} c x } }

/-- What the estimator keeps of a cell beside the core state. -/
def cellAux (s : State) (c : Nat) : CellAux := s.est.aux.get {} c

/-- Store it. -/
def setAux (s : State) (c : Nat) (x : CellAux) : State := { s with est := { s.est with aux := s.est.aux.put {} c x } }

/-- The cells estimated, ascending. -/
def estCells (s : State) : List Nat := (List.range 512).filter s.estimated

/-- The covariance of a cold start (R125): P00 and VAR_Q at P_INIT, P11 and P22 at R_MEAS, the cross terms 0. -/
def coldCov (s : State) (x : Cell) : Cell :=
  let p := s.reg Reg.EST_P_INIT
  let r := s.reg Reg.EST_R_MEAS
  { x with p00 := p, varQ := p, p11 := r, p22 := r, p01 := 0, p02 := 0, p12 := 0 }

/-- The parameters of a table taken by a cell at a temperature (R122). -/
def tableParams (tab : ChemTable) (t : Word) (x : Cell) : Cell :=
  { x with rohm25 := param25 tab (·.rohm), rp125 := param25 tab (·.rp1), rp225 := param25 tab (·.rp2), cp1 := paramAt tab (·.cp1) t
           cp2 := paramAt tab (·.cp2) t, sdRate := paramAt tab (·.sd) t }

/-! ### Gather -/

/-- A cell takes the parameters, covariance and extension of a table given to it (R122), as of the run in progress. -/
def retable (s : State) (tab : ChemTable) (c : Nat) : State :=
  let a := s.cellAux c
  if a.started then
    (s.setWork c (s.coldCov (tableParams tab (a.tHeld.getD 0) (s.workCell c))).clearExt).setAux c { a with retable := true }
  else s

/-- A table change of a run that was stopped is made again, since that run's state is lost (R116, R122). -/
def retableStopped (s : State) : State :=
  s.est.aux.foldl (fun s (c, (a : CellAux)) => match a.retable, s.tableOf c with
    | true, some tab => s.retable tab c
    | _, _ => s) s

/-- Give a cell a table (R122). -/
def assignCell (slot : Nat) (s : State) (c : Nat) : State :=
  let a := s.cellAux c
  if a.table = some slot then s
  else
    match s.est.chems.find? slot with
    | none => s
    | some tab =>
      (s.setAux c { a with table := some slot, hist := [], used := none, span := 0 }).retable tab c

/-- The ASSIGNs that wait take effect (R122). -/
def applyAssigns (s : State) : State :=
  let s := s.est.assigns.foldl (fun s (t, f, l) => ((List.range (l + 1 - f)).map (· + f)).foldl (assignCell t) s) s
  { s with est := { s.est with assigns := [] } }

/-- Estimation of every cell ends; its state is not kept (R125). -/
def endEstimation (s : State) : State :=
  let aux := s.est.aux.map fun (c, (x : CellAux)) => (c, ({ table := x.table, tHeld := x.tHeld } : CellAux))
  { s with est := { s.est with on := false, work := [], aux := aux.filter fun (_, x) => x ≠ {}, carry := none,
                               taperHi := 0, taperLo := 0, firedHi := false, firedLo := false } }

/-- The valid checkpoint slots, newest first (R326, R328). -/
def validCkpts (s : State) : List Ckpt :=
  let all := s.nv.ckpts.filter fun e => ckptValid e.2
  let newest := all.foldl (fun (b : Option Nat) e => match b with
    | some q => if 0 < sdiff 32 e.2.seq q then some e.2.seq else some q
    | none => some e.2.seq) none
  ((all.foldl (fun r (_, k) => insertKey ((newest.getD 0 + 2 ^ 32 - k.seq) % 2 ^ 32) k r) []).map (·.2))

/-- The age of a checkpoint in hours (R125). -/
def ckptHours (s : State) (k : Ckpt) : Word :=
  let was := (k.ptSec * 1000000000 + k.ptNs) * fracPerNs
  if was < s.plant then F32.ofFrac (s.plant - was : Nat) (3600 * fracPerSec) else F32.ofNat (s.rd Reg.FUS_ANCHOR_MAX)

/-- A cell taken from its checkpoint entry (R125). -/
def restoredCell (s : State) (k : Ckpt) (x : Cell) : Cell :=
  let d := F32.mul x.sdRate (s.ckptHours k)
  let v := F32.mul d d
  ({ x with varQ := F32.add x.varQ v, p00 := F32.add x.p00 v, flags := x.flags - (x.flags &&& (fRun + fCold)) }).flag 1 true

/-- One cell at the first Gather after EN is set: whether its entry came from the newest slot, an older one, or none (R125, R328). -/
def restoreCell (ks : List Ckpt) (acc : State × Nat × Nat) (c : Nat) : State × Nat × Nat :=
  let (s, cold, older) := acc
  match s.tableOf c with
  | none => acc
  | some tab =>
    match ks.zipIdx.findSome? fun (k, i) => (ckptEntry k c).map fun e => (k, i, e) with
    | none => (s, cold + 1, older)
    | some (k, i, e) =>
      let x := e.cell
      let serial := (s.planOf (c / 16)).map (·.serial)
      let older := if i = 0 then older else older + 1
      if e.chem = tab.id && serial.isSome && k.serials.find? (c / 16) == serial then
        let a := s.cellAux c
        ((s.setWork c (s.restoredCell k x)).setAux c { a with started := true, span := secT x.lowSpan }, cold, older)
      else (s, cold, older)

/-- The Scale state of a checkpoint (R125, R155). -/
def restoreScale (s : State) (k : Ckpt) : State :=
  { s with est := { s.est with rep := k.rep, raw := k.raw, repOk := !F32.isNan k.rep, rawOk := !F32.isNan k.raw, pfDis := k.pfDis,
                               pfChg := k.pfChg, taperHi := k.taperHi, taperLo := k.taperLo } }

/-- Estimation starts: each cell is restored or waits to start cold (R125, R328). -/
def startEstimation (s : State) : State :=
  let s := s.endEstimation
  let s := { s with est := { s.est with on := true } }
  let ks := s.validCkpts
  let (s, cold, older) := (List.range 512).foldl (restoreCell ks) (s, 0, 0)
  let s := match ks with
    | k :: _ => s.restoreScale k
    | [] => s
  if cold = 0 ∧ older = 0 then s
  else ((s.bump Reg.REC_CKPT_FAILS (cold + older)).event 0x0D 11).fixedEvent 0x023 [w32 cold, w32 older]

/-- A mean of temperatures in 0.01 °C, as °C. -/
def meanDeg (l : List Int) : Word := F32.ofFrac (l.foldl (· + ·) 0) (100 * l.length)

/-- The temperature of a cell of a record (R123). -/
def gatherTemp (r : SweepRec) (s : State) (c : Nat) : State :=
  let a := s.cellAux c
  let good : List Nat := match recNode r (c / 16) with
    | some d => (List.range 4).filter fun i => !d.tscr.testBit i
    | none => []
  let t (i : Nat) : Int := ((recNode r (c / 16)).bind (·.body.t[i]?)).getD 0
  let k := c % 16 / 4
  let old := good.isEmpty
  let s := if old then s.setAux c { a with tempOld := true }
    else s.setAux c { a with tempOld := false, tHeld := some (if good.contains k then meanDeg [t k] else meanDeg (good.map t)) }
  if a.started then s.setWork c ((s.workCell c).flag 5 old) else s

/-- What one run left on a cell is cleared as the next begins. -/
def freshCell (s : State) (c : Nat) : State :=
  let a := s.cellAux c
  let s := s.setAux c { a with usedNow := false, dq := 0, fusedNow := false, confirmed := false }
  if a.started then
    let x := s.workCell c
    s.setWork c { x with flags := x.flags - (x.flags &&& fRun) }
  else s

/-- A SHADOW's run starts from the snapshot it has taken (R232). -/
def adoptSnapshot (s : State) : State :=
  match s.pair.snapNext with
  | none => s
  | some f =>
    let s := f.cells.foldl (fun s (k : SnapCell) =>
      let x := cellOfSnap k
      let a := s.cellAux k.cell
      if s.est.on && a.table.isSome && (x.has 0 || x.has 1) then
        (s.setWork k.cell x).setAux k.cell { a with started := true, span := secT x.lowSpan }
      else s) s
    { s with pair := { s.pair with snapNext := none },
             est := { s.est with rep := f.rep, raw := f.raw, repOk := !F32.isNan f.rep, rawOk := !F32.isNan f.raw, pfDis := f.pfDis,
                                 pfChg := f.pfChg, taperHi := f.taperHi, taperLo := f.taperLo } }

/-- Gather (R115, R116, R122 to R125, R130): the working buffer starts from the published one. -/
def gather (s : State) (r : SweepRec) (opening : BitVec 64) : State :=
  let s := { s with est := { s.est with work := s.est.pub } }
  let s := s.adoptSnapshot.retableStopped.applyAssigns
  let en := s.bit Reg.EST_EST_CFG 0
  let s := if en && !s.est.on then s.startEstimation else if !en && s.est.on then s.endEstimation else s
  let s := (List.range 512).foldl (fun s c => (s.gatherTemp r c).freshCell c) s
  let got := r.nodes.foldl (fun t (n, _) => t.set n (r.index + 1)) s.swp.gathered
  let got := s.swp.latePend.foldl (fun (t : Tab Nat) (n, k) => t.set n (max (t.get 0 n) (k + 1))) got
  let (cdt, cq, cn, cb) := s.est.carry.getD (0, 0, 0, [])
  let run : Run :=
    { done := 1, cycle := r.cycle, index := r.index, start := s.tim.odo, dt := (r.smpOdo - opening).toNat + cdt, qsum := r.qsum + cq
      nsum := r.nsum + cn, qbal := cb.foldl (fun (t : Tab Nat) (c, v) => t.put 0 c (t.get 0 c + v)) r.qbal, curOk := curValid r
      late := s.swp.latePend, ring := s.swp.ring }
  { s with est := { s.est with run := some run, carry := none }, swp := { s.swp with gathered := got, latePend := [] } }

/-- A cell started in a stopped run, none of whose states has been published: it starts again at the next Gather (R125). -/
def unstart (s : State) (c : Nat) : State :=
  let a := s.cellAux c
  let p := s.pubCell c
  if a.started && !(p.has 0 || p.has 1) then s.setAux c { a with started := false, hist := [], used := none } else s

/-- A run is stopped (R116, R159): its charge goes to the next run; the second within 100 sweeps is a cause for resignation; PLIM_HOLD runs in a
row without Publish are counted. -/
def stopRun (s : State) (r : Run) : State :=
  let second := match s.est.overrunAt with
    | some k => decide (r.index < k + 100)
    | none => false
  let restored := s.est.aux.any fun (c, a) => a.started && (s.workCell c).has 1 && !((s.pubCell c).has 0 || (s.pubCell c).has 1)
  let s := (List.range 512).foldl unstart s
  let on := s.est.on && (!restored || s.est.aux.any fun (_, a) => a.started)
  let s := { s with est := { s.est with run := none, overrunAt := some r.index, noPub := s.est.noPub + 1, on := on,
                                        carry := some (r.dt, r.qsum, r.nsum, r.qbal) } }
  let s := s.event 0x0D 7
  if second then s.resignFor 2 else s

end State

/-- CHEM_LOAD (R121). -/
def execChemLoad (mid : Mid) (s : State) : Out := ok (s.busW mid Reg.EST_CHEM_CMD fun s => s.chemLoadOp mid)

/-- CHEM_DESTROY (R122). -/
def execChemDestroy (mid : Mid) (s : State) : Out := ok (s.busW mid Reg.EST_CHEM_CMD fun s => s.chemDestroyOp mid)

/-- CHEM_ASSIGN (R122). -/
def execChemAssign (mid : Mid) (s : State) : Out := ok (s.busW mid Reg.EST_CHEM_CMD fun s => s.chemAssignOp mid)

/-- EST_CFG_WRITE (R125): EN takes effect at the next Gather. -/
def execEstCfgWrite (mid : Mid) (value : Word) (s : State) : Out := ok (s.busW mid Reg.EST_EST_CFG fun s => s.regWrite mid Reg.EST_EST_CFG value)

/-- A tap entry that has not drained by the record close is dropped (R163). -/
def State.dropStaying (s : State) : State :=
  s.est.taps.foldl (fun s (i, t) =>
    if t.stays then
      { s with est := { s.est with taps := s.est.taps.set i { t with stays := false, drops := (t.drops + 1) % 2 ^ 32 } } }.event 0x0E 13
    else s) s

/-- RECORD_CLOSE (R92): the record closes and the pipeline starts with Gather (R115). A run still unpublished by then is stopped (R116). -/
def execRecordClose (s : State) : Out :=
  ok (match s.swp.cur with
    | none => s
    | some r =>
      let s := s.dropStaying
      let s := match s.est.run with
        | some run => s.stopRun run
        | none => s
      let opening := s.prevSmp r
      let s := s.closeRecord r
      match s.newestRec with
      | some r => s.gather r opening
      | none => s)

/-- PIPELINE_OVERRUN (R116): the run has not finished Publish 2.0 ms after its record closed. -/
def execPipelineOverrun (s : State) : Out :=
  ok (match s.est.run with
    | some r => if msT 2 ≤ s.since r.start then s.stopRun r else s
    | none => s)

end Sys2Proof.Machine
end

