-- ==== Sys2Proof/Machine/Estim.lean ====
section
/-! DEFINITION. The estimator's stages Charge (R126, R127), Model (R125, R128 to R130) and Step (R133, R135 to R137), the dither of R134, and the
power limits of a pipeline that does not publish (R159). Arithmetic is binary32, one rounding an operation, in the order of the formulas
(log entry 9). -/

namespace Sys2Proof.Machine

open Sys2Proof

/-- A capacity in Ah as As. -/
def capAs (x : Cell) : Word := F32.mul x.cap (F32.ofInt 3600)

/-- A time in TIME cycles as seconds. -/
def secF (n : Nat) : Word := F32.ofFrac n 250000000

/-- `exp(-t / (r * c))`. -/
def decay (t r c : Word) : Word := F32.exp (F32.neg (F32.div t (F32.mul r c)))

namespace State

/-! ### Charge (R126, R127) -/

/-- The run's charge, As, whether it stands for a missing current, and whether it is scaled (R126, R127): NSUM may part from dt / 12.8 µs, 3,200
TIME cycles, by 4. -/
def runCharge (s : State) (r : Run) : Word × Bool × Bool :=
  let q := F32.ofFrac (r.qsum * 128) 10000000000
  if !r.curOk || r.nsum = 0 then (F32.mul s.est.lastIbar (secF r.dt), true, false)
  else if 12800 < ((r.nsum * 3200 : Nat) - (r.dt : Int)).natAbs then
    (F32.div (F32.mul q (F32.ofFrac r.dt 3200)) (F32.ofNat r.nsum), false, true)
  else (q, false, false)

/-- The net charge of a cell in a run, As (R126): efficiency on charge only, less balancing and self-discharge. -/
def netCharge (r : Run) (q : Word) (tab : ChemTable) (x : Cell) (c : Nat) : Word :=
  let qn := if F32.lt F32.zero q then F32.mul q tab.etaC else q
  let qbal := F32.ofFrac (r.qbal.get 0 c) 1000000
  let qsd := F32.div (F32.mul (F32.mul x.sdRate (capAs x)) (secF r.dt)) (F32.ofInt 3600)
  F32.sub (F32.sub qn qbal) qsd

/-- The growth of VAR_Q in a run (R126, R127). -/
def varGrowth (s : State) (r : Run) (q : Word) (gap : Bool) (x : Cell) : Word :=
  let e := F32.div (F32.mul (s.reg Reg.EST_CUR_EPS) q) (capAs x)
  let v := F32.add (F32.mul (s.reg Reg.EST_Q_S) (secF r.dt)) (F32.mul e e)
  let g := F32.div q (capAs x)
  if gap then F32.add v (F32.mul g g) else v

/-- Charge for one cell (R126, R127). -/
def chargeCell (r : Run) (q : Word) (gap scaled : Bool) (s : State) (c : Nat) : State :=
  match s.tableOf c with
  | none => s
  | some tab =>
    let a := s.cellAux c
    let x := s.workCell c
    let t := a.tHeld.getD x.t
    let x := { x with t := t, sdRate := paramAt tab (·.sd) t, cp1 := paramAt tab (·.cp1) t, cp2 := paramAt tab (·.cp2) t
                      cycle := r.cycle % 2 ^ 32 }
    let dq := netCharge r q tab x c
    let x := { x with socQ := F32.add x.socQ (F32.div dq (capAs x)), varQ := F32.add x.varQ (s.varGrowth r q gap x) }
    (s.setWork c ((x.flag 2 gap).flag 3 scaled)).setAux c { a with dq := dq }

/-- Charge for the string: the charge, its mean current, and every estimated cell, whatever its SCR (R126, R127). -/
def chargeRun (s : State) (r : Run) : State :=
  let (q, gap, scaled) := s.runCharge r
  let ibar := F32.div q (secF r.dt)
  let s := s.estCells.foldl (chargeCell r q gap scaled) s
  let s := (s.eventIf gap 0x0D 8).setBit Reg.EST_EST_STAT 4 gap
  { s with est := { s.est with run := some { r with done := 3, q := q, ibar := ibar }
                               lastIbar := if gap then s.est.lastIbar else ibar } }

/-! ### Model (R128 to R130) -/

/-- The predicted terminal voltage at a current (R128). -/
def yhatOf (tab : ChemTable) (x : Cell) (i : Word) : Word :=
  let rohm := F32.mul x.rohm25 (tempRatio tab x.t)
  F32.add (F32.add (F32.add (F32.add (ocvAt tab x.socV x.t) (F32.mul x.h (mAt tab x.socV x.t))) (F32.mul rohm i)) x.v1) x.v2

/-- The first entry of the Jacobian row (R128). -/
def hj0Of (tab : ChemTable) (x : Cell) : Word :=
  F32.add (ocvSlope tab x.socV x.t) (F32.mul x.h (mSlope tab x.socV x.t))

/-- Hysteresis (R128, Step 1). -/
def hystStep (en : Bool) (gamma d : Word) (x : Cell) : Cell :=
  if !en then { x with h := 0 }
  else
    let kappa := F32.exp (F32.neg (F32.mul (F32.abs d) gamma))
    let sign := if F32.lt F32.zero d then F32.one else if F32.lt d F32.zero then F32.neg F32.one else F32.zero
    { x with h := F32.add (F32.mul kappa x.h) (F32.mul (F32.sub F32.one kappa) sign) }

/-- Prediction (R128, Step 2). -/
def predict (qs qv dt ibar d ratio : Word) (x : Cell) : Cell :=
  let rp1 := F32.mul x.rp125 ratio
  let rp2 := F32.mul x.rp225 ratio
  let a1 := decay dt rp1 x.cp1
  let a2 := decay dt rp2 x.cp2
  { x with socV := F32.add x.socV d
           v1 := F32.add (F32.mul a1 x.v1) (F32.mul (F32.mul rp1 (F32.sub F32.one a1)) ibar)
           v2 := F32.add (F32.mul a2 x.v2) (F32.mul (F32.mul rp2 (F32.sub F32.one a2)) ibar)
           p00 := F32.add x.p00 (F32.mul qs dt)
           p01 := F32.mul x.p01 a1
           p02 := F32.mul x.p02 a2
           p11 := F32.add (F32.mul (F32.mul a1 x.p11) a1) (F32.mul qv dt)
           p12 := F32.mul (F32.mul a1 x.p12) a2
           p22 := F32.add (F32.mul (F32.mul a2 x.p22) a2) (F32.mul qv dt) }

/-- The innovation variance of a reading with noise `rn` (R128, Step 5). -/
def innovVar (x : Cell) (h rn : Word) : Word :=
  let p0 := F32.add (F32.add (F32.mul x.p00 h) x.p01) x.p02
  let p1 := F32.add (F32.add (F32.mul x.p01 h) x.p11) x.p12
  let p2 := F32.add (F32.add (F32.mul x.p02 h) x.p12) x.p22
  F32.add (F32.add (F32.add (F32.mul h p0) p1) p2) rn

/-- The update of a reading that the gate lets in, with innovation `e` of variance `sv` (R128, Step 5). The covariance is kept symmetric. -/
def kalman (x : Cell) (e h sv : Word) : Cell :=
  let p0 := F32.add (F32.add (F32.mul x.p00 h) x.p01) x.p02
  let p1 := F32.add (F32.add (F32.mul x.p01 h) x.p11) x.p12
  let p2 := F32.add (F32.add (F32.mul x.p02 h) x.p12) x.p22
  let k0 := F32.div p0 sv
  let k1 := F32.div p1 sv
  let k2 := F32.div p2 sv
  let mean (p ka pb kb pa : Word) : Word :=
    F32.mul F32.half (F32.add (F32.sub p (F32.mul ka pb)) (F32.sub p (F32.mul kb pa)))
  { x with socV := F32.add x.socV (F32.mul k0 e), v1 := F32.add x.v1 (F32.mul k1 e), v2 := F32.add x.v2 (F32.mul k2 e)
           p00 := F32.sub x.p00 (F32.mul k0 p0), p11 := F32.sub x.p11 (F32.mul k1 p1), p22 := F32.sub x.p22 (F32.mul k2 p2)
           p01 := mean x.p01 k0 p1 k1 p0, p02 := mean x.p02 k0 p2 k2 p0, p12 := mean x.p12 k1 p2 k2 p1 }

/-- Consecutive refusals (R138). -/
def refusals (x : Cell) : Nat := bitsOf x.flags 16 8

/-- Set the consecutive refusals. -/
def setRefusals (x : Cell) (n : Nat) : Cell := { x with flags := x.flags - bitsOf x.flags 16 8 * 2 ^ 16 + min 255 n * 2 ^ 16 }

/-- The gate refuses an innovation (R128): `e * e > gate^2 * s`. -/
def gated (s : State) (e sv : Word) : Bool :=
  let g := F32.ofFrac (s.fld Reg.EST_GATE_CFG 0 8) 16
  F32.lt (F32.mul (F32.mul g g) sv) (F32.mul e e)

/-- One reading offered to the filter (R128 Step 5, R130): refused by the gate, or applied. Answers whether it was applied. -/
def reading (s : State) (c : Nat) (x : Cell) (e h rn : Word) : State × Cell × Bool :=
  let sv := innovVar x h rn
  let x := { x with innov := e, innovVar := sv }
  if s.gated e sv then (s.bump Reg.EST_GATE_REJ, (setRefusals x (refusals x + 1)).flag 6 true, false)
  else
    let a := s.cellAux c
    (s.setAux c { a with usedNow := true }, (setRefusals (kalman x e h sv) 0).flag 6 false, true)

/-- A covariance reset (R129). -/
def gateResetCell (s : State) (x : Cell) : Cell :=
  setRefusals { x with p00 := s.reg Reg.EST_P_INIT, p01 := 0, p02 := 0, p12 := 0 } 0

/-- A cell has been refused GATE_N times in a row (R129). -/
def gateDue (s : State) (x : Cell) : Bool := decide (s.fld Reg.EST_GATE_CFG 8 8 ≤ refusals x)

/-- Reset the covariance of a cell that is due (R129). -/
def gateReset (s : State) (c : Nat) : State :=
  let x := s.workCell c
  if s.estimated c && s.gateDue x then (s.setWork c (s.gateResetCell x)).event 0x0D 6 else s

/-- The late reading of a cell, if there is one that R130 lets in: its reading, its age, and the prediction stored for its sweep. -/
def lateReading (s : State) (r : Run) (c : Nat) : Option (Nat × Nat × Word × Word) :=
  let a := s.cellAux c
  match r.late.find? (c / 16) with
  | none => none
  | some k =>
    match s.recOf k, (a.hist.find? (·.1 == k)).bind (·.2) with
    | some rec_, some (yhat, hj0) =>
      let fresh := match a.used with
        | some u => decide (u < k)
        | none => true
      match cleanV rec_ c with
      | some v =>
        if s.bit Reg.EST_EST_CFG 1 && fresh then some (v, ((recNode rec_ (c / 16)).map (·.age)).getD 0, yhat, hj0) else none
      | none => none
    | _, _ => none

/-- Step 4 of R128: the late reading (R130). Its refusals count, and a covariance reset stands before the present reading is gated (R129). -/
def lateStep (r : Run) (c : Nat) (s : State) (x : Cell) : State × Cell × Bool :=
  match s.lateReading r c with
  | none => (s, x, false)
  | some (v, age, yhat, hj0) =>
    let rn := F32.mul (s.reg Reg.EST_R_MEAS) (F32.ofNat (1 + age))
    let (s, x, applied) := s.reading c x (F32.sub (volts v) yhat) hj0 rn
    let (s, x) := if s.gateDue x then (s.event 0x0D 6, s.gateResetCell x) else (s, x)
    if applied then (s.bump Reg.EST_LATE_USED, x.flag 7 true, true) else (s, x, false)

/-- Step 6 of R128: SOC_V is kept within -0.05 to 1.05. -/
def clampStep (s : State) (x : Cell) : State × Cell :=
  let v := F32.clamp x.socV (f32c (-1) 20) (f32c 21 20)
  if v = x.socV then (s, x) else (s.event 0x0D 10, { x with socV := v }.flag 4 true)

/-- A cell's present reading meets Step 5 of R128: SCR 0x00, TEMP_OLD clear, a valid current in the record. -/
def presentReading (s : State) (rec_ : SweepRec) (c : Nat) : Option Nat :=
  if (s.cellAux c).tempOld || !curValid rec_ then none else cleanV rec_ c

/-- Steps 4 to 6 of R128 for a cell whose data is not flagged: the late reading, the present one, the clamp. `yhat` and `hj0` are those of Step 3. -/
def voltageSteps (s : State) (r : Run) (rec_ : SweepRec) (tab : ChemTable) (c : Nat) (i yhat hj0 : Word) (x : Cell) : State × Cell :=
  let (s, x, again) := lateStep r c s x
  let (s, x) := match s.presentReading rec_ c with
    | none => (s, x)
    | some v =>
      let y := if again then yhatOf tab x i else yhat
      let h := if again then hj0Of tab x else hj0
      let (s, x, applied) := s.reading c x (F32.sub (volts v) y) h (s.reg Reg.EST_R_MEAS)
      let a := s.cellAux c
      (if applied then s.setAux c { a with used := some r.index } else s, { x with vLast := volts v })
  s.clampStep x

/-- Model for one cell (R128). A cell whose data is flagged runs steps 1 to 3 only (R129). -/
def modelCell (r : Run) (rec_ : SweepRec) (s : State) (c : Nat) : State :=
  match s.tableOf c with
  | none => s
  | some tab =>
    let a := s.cellAux c
    let x := s.workCell c
    let dt := secF r.dt
    let d := F32.div a.dq (capAs x)
    let i := F32.ofFrac (recI rec_) 1000
    let x := hystStep (s.bit Reg.EST_EST_CFG 4) tab.gamma d x
    let x := predict (s.reg Reg.EST_Q_S) (s.reg Reg.EST_Q_V) dt r.ibar d (tempRatio tab x.t) x
    let yhat := yhatOf tab x i
    let hj0 := hj0Of tab x
    let s := s.setAux c { a with hist := ((r.index, if curValid rec_ then some (yhat, hj0) else none) :: a.hist).take 8 }
    let (s, x) := if (cleanV rec_ c).isNone then (s, x) else s.voltageSteps r rec_ tab c i yhat hj0 x
    s.setWork c { x with slope := ocvSlope tab x.socV x.t, iLast := if curValid rec_ then i else x.iLast }

/-! ### The cold start (R125) -/

/-- The SOC, on the table's grid, whose OCV at a temperature comes nearest a voltage; the middle of the interval where several tie (R125). -/
def socNearest (tab : ChemTable) (t v : Word) : Word :=
  let (i, f) := tempAt tab.temps t
  let g (j : Nat) : Word := gridT tab.ocv i f j
  let v := F32.clamp v (g 0) (g 100)
  let at_ (j : Nat) : Word := F32.div (F32.add (F32.ofNat j) (F32.div (F32.sub v (g j)) (F32.sub (g (j + 1)) (g j)))) (F32.ofInt 100)
  let lo := match (List.range 101).find? fun j => F32.le v (g j) with
    | some 0 => F32.zero
    | some (j + 1) => if g (j + 1) = v then F32.ofFrac (j + 1 : Nat) 100 else at_ j
    | none => F32.one
  let hi := match (List.range 101).reverse.find? fun j => F32.le (g j) v with
    | some 100 => F32.one
    | some j => if g j = v then F32.ofFrac j 100 else at_ j
    | none => F32.zero
  if lo = hi then lo else F32.mul F32.half (F32.add lo hi)

/-- A cell's state as it starts cold at a reading (R125, R145, R147, R150). -/
def coldCell (s : State) (r : Run) (tab : ChemTable) (t i : Word) (v : Nat) : Cell :=
  let soc := socNearest tab t (F32.sub (volts v) (F32.mul (paramAt tab (·.rohm) t) i))
  let cn := cNomAh tab
  let cv := F32.mul (f32c 1 10) cn
  let x : Cell := { socQ := soc, socV := soc, cap := cn, capVar := F32.mul cv cv, t := t, vLast := volts v, iLast := i, cycle := r.cycle % 2 ^ 32
                    slope := ocvSlope tab soc t, flags := fCold, anchorPt := timeSec s.plant % 2 ^ 32 }
  s.coldCov (tableParams tab t x)

/-- A cell that waits for its first reading starts cold if this run has one (R125). -/
def coldStart (r : Run) (rec_ : SweepRec) (s : State) (c : Nat) : State :=
  let a := s.cellAux c
  if a.started then s
  else
    match s.tableOf c, a.tHeld, s.presentReading rec_ c with
    | some tab, some t, some v =>
      (s.setWork c (s.coldCell r tab t (F32.ofFrac (recI rec_) 1000) v)).setAux c { a with started := true, hist := [], used := some r.index, dq := 0, span := 0 }
    | _, _, _ => s

/-- Model for every estimated cell, then the cold starts. -/
def modelRun (s : State) (r : Run) (rec_ : SweepRec) : State :=
  let s := s.estCells.foldl (modelCell r rec_) s
  let s := if s.est.on then (List.range 512).foldl (coldStart r rec_) s else s
  { s with est := { s.est with run := some { r with done := 4 } } }

/-! ### Step (R133, R135 to R137) -/

/-- A sample of a cell in a node's part of a capture; none where it is missing. -/
def capSample (n : NodeCap) (cell sample : Nat) : Option Nat :=
  let i := 16 * sample + cell
  match (n.frags.get [] (i / 24))[i % 24]? with
  | some v => if v = 0xFFFF then none else some v
  | none => none

/-- A capture is ready for Step (R133): every node left has delivered its 22 fragments, and the trace reaches its end. -/
def capReady (c : Capture) : Bool := decide (c.trace.length = 32) && c.nodes.all fun (_, n) => decide (n.frags.length = 22)

/-- `9 Σ(+1 to +23) - 23 Σ(-8 to 0)` over a trace: 207 times the mean of Δi, mA (R136). -/
def capMeanN (c : Capture) : Int := 9 * ((c.trace.drop 9).foldl (· + ·) 0) - 23 * ((c.trace.take 9).foldl (· + ·) 0)

/-- The greatest less the least of a list. -/
def spanOf : List Int → Int
  | [] => 0
  | a :: r => r.foldl max a - r.foldl min a

/-- The capture as a whole is refused (R136). -/
def capRefused (s : State) (c : Capture) : Bool :=
  let n := (capMeanN c).natAbs
  decide (n * 1000 < s.stepThreshold * 207) || decide ((n : Int) < 2070 * spanOf (c.trace.take 9)) || decide ((n : Int) < 2070 * spanOf (c.trace.drop 9))

/-- The five sums of the least-squares fit. -/
structure FitSums where
  s11 : Word := 0
  s12 : Word := 0
  s22 : Word := 0
  b1 : Word := 0
  b2 : Word := 0
  deriving DecidableEq, Repr

/-- The samples of a fit: Δi, its slow part and Δv of samples +1 to +23 (R135). -/
def fitRows (c : Capture) (tau : Word) (v : List Nat) : List (Word × Word × Word) :=
  let vs : Int := (v.take 9).foldl (fun (a : Int) (x : Nat) => a + x) 0
  let is_ : Int := (c.trace.take 9).foldl (· + ·) 0
  (List.range 23).map fun k =>
    let j : Nat := k + 1
    let di := F32.ofFrac (9 * (c.trace[8 + j]?).getD 0 - is_) 9000
    let dv := F32.ofFrac (9 * ((v[8 + j]?).getD 0 : Nat) - vs) 90000
    let t := F32.ofFrac (sampleInstant c j - c.ts).toInt 250000000
    let e := F32.exp (F32.neg (F32.div t tau))
    (di, F32.mul (F32.sub F32.one e) di, dv)

/-- The fit of R135: Rohm, Rp1 and the residual. -/
def fitOf (rows : List (Word × Word × Word)) : Word × Word × Word :=
  let m := rows.foldl (fun (m : FitSums) (p, q, y) =>
    { s11 := F32.add m.s11 (F32.mul p p), s12 := F32.add m.s12 (F32.mul p q), s22 := F32.add m.s22 (F32.mul q q)
      b1 := F32.add m.b1 (F32.mul p y), b2 := F32.add m.b2 (F32.mul q y) : FitSums }) {}
  let det := F32.sub (F32.mul m.s11 m.s22) (F32.mul m.s12 m.s12)
  let ro := F32.div (F32.sub (F32.mul m.b1 m.s22) (F32.mul m.b2 m.s12)) det
  let rp := F32.div (F32.sub (F32.mul m.s11 m.b2) (F32.mul m.s12 m.b1)) det
  let sq := rows.foldl (fun a (p, q, y) =>
    let d := F32.sub y (F32.add (F32.mul p ro) (F32.mul q rp))
    F32.add a (F32.mul d d)) F32.zero
  (ro, rp, F32.sqrt (F32.div sq (F32.ofInt 23)))

/-- A fit that R136 does not refuse. -/
def fitGood (s : State) (f : Word × Word × Word) : Bool :=
  F32.lt F32.zero f.1 && F32.le F32.zero f.2.1 && F32.le f.2.2 (F32.ofFrac (s.fld Reg.EST_FIT_CFG 8 16) 1000000)

/-- An accepted fit moves the cell's parameters (R137). -/
def takeFit (s : State) (tab : ChemTable) (cyc : Nat) (f : Word × Word × Word) (x : Cell) : Cell :=
  let r25 := param25 tab (·.rohm)
  let n := F32.div r25 (paramAt tab (·.rohm) x.t)
  let gain := F32.ofFrac (s.fld Reg.EST_FIT_CFG 0 8) 256
  let move (old fit : Word) : Word := F32.add old (F32.mul gain (F32.sub (F32.mul fit n) old))
  let ro := move x.rohm25 f.1
  { x with rohm25 := ro, rp125 := move x.rp125 f.2.1, rp225 := F32.div (F32.mul (param25 tab (·.rp2)) ro) r25
           fitCount := (x.fitCount + 1) % 2 ^ 32, lastFit := cyc % 2 ^ 32 }

/-- Step for one cell of a capture (R135 to R137). -/
def fitCell (r : Run) (cap : Capture) (n : NodeCap) (s : State) (c : Nat) : State :=
  match s.tableOf c with
  | none => s
  | some tab =>
    let x := s.workCell c
    let v := (List.range 32).map fun k => capSample n (c % 16) k
    let tau := F32.clamp (F32.mul (F32.mul x.rp125 (tempRatio tab x.t)) x.cp1) (f32c 1 2000) (f32c 1 20)
    let f := fitOf (fitRows cap tau (v.map fun o => o.getD 0))
    if v.all (·.isSome) && !cap.badCells.contains c && s.fitGood f then
      let a := s.cellAux c
      let di := F32.ofFrac (capMeanN cap) 207000
      ((s.setWork c (s.takeFit tab r.cycle f x)).setAux c { a with fits := ((cap.ts, di, f.2.2, f.1, f.2.1) :: a.fits).take 16 }).bump Reg.EST_FIT_OK
    else s.bump Reg.EST_FIT_REJ

/-- Take a capture away. -/
def dropCapture (s : State) (c : Capture) : State := { s with est := { s.est with caps := s.est.caps.filter (·.id != c.id) } }

/-- A capture is refused or discarded (R133, R136). -/
def rejectCapture (s : State) (c : Capture) : State := ((s.dropCapture c).bump Reg.EST_FIT_REJ).event 0x0D 3

/-- Fit a ready capture (R135 to R137). -/
def fitCapture (r : Run) (s : State) (c : Capture) : State :=
  if s.capRefused c then s.rejectCapture c
  else
    let s := c.nodes.foldl (fun s (n, x) =>
      (((List.range 16).map fun i => 16 * n + i).filter s.estimated).foldl (fitCell r c x) s) s
    let s := s.dropCapture c
    { s with est := { s.est with lastFitAt := s.tim.odo } }.event 0x0D 2

/-- Captures by step instant. -/
def insertCap (c : Capture) : List Capture → List Capture
  | [] => [c]
  | d :: r => if isAfter d.ts c.ts then c :: d :: r else d :: insertCap c r

/-- Step (R133): captures too old or with every node abandoned are discarded, and at most 4 ready ones are fitted in the order of their step
instants. A covariance reset still due is made first (R129). -/
def stepRun (s : State) (r : Run) : State :=
  let s := (List.range 512).foldl gateReset s
  let gone := s.est.caps.filter fun c => c.nodes.isEmpty || (capReady c && decide (msT (s.rd Reg.NOD_CAP_MAXAGE) < s.since c.ts))
  let s := gone.foldl rejectCapture s
  let ready := (s.est.caps.filter capReady).foldl (fun l c => insertCap c l) []
  let s := (ready.take 4).foldl (fitCapture r) s
  { s with est := { s.est with run := some { r with done := 5 } } }

/-! ### Dither (R134) -/

/-- An activation is scheduled within the next 100 ms (R18, R134). -/
def activationNear (s : State) : Bool :=
  s.ctl.staged.any fun e =>
    let d := sdiff 64 (s.stagedTarget e.handle) (s.gau.pos / 2 ^ 32 % 2 ^ 64)
    decide (0 ≤ d) && decide (d * 2 ^ 32 ≤ (s.gauRate * msT 100 : Nat))

/-- The mean SOC_F of the published cells is below 50 % (R134; the reading of `the fused SOC of the string` is a log entry). -/
def fusedLow (s : State) : Bool :=
  let cs := s.estCells.map fun c => (s.pubCell c).socF
  decide (cs ≠ []) && F32.lt (F32.div (cs.foldl F32.add F32.zero) (F32.ofNat cs.length)) F32.half

/-- The signed amplitude of a dither, mA (R134). -/
def ditherAmp (s : State) : Int :=
  let amp : Int := s.rd Reg.EST_DITHER_AMP
  let i := (s.srcCh.outs.head?.map (·.2)).getD 0
  if amp ≤ i.natAbs then (if 0 < i then -amp else amp) else if s.fusedLow then amp else -amp

/-- A dither ends, at term or early (R134). -/
def endDither (s : State) (early : Bool) : State :=
  match s.est.dither with
  | none => s
  | some _ => { s with est := { s.est with dither := none, ditherEarly := if early then some s.tim.odo else none } }.event 0x0D 5

end State

/-- CHARGE_STAGE (R126, R127). -/
def execChargeStage (s : State) : Out :=
  ok (match s.est.run with
    | some r => if r.done = 2 then s.chargeRun r else s
    | none => s)

/-- MODEL_STAGE (R128 to R130). -/
def execModelStage (s : State) : Out :=
  ok (s.onRun 3 fun r rec_ s => s.modelRun r rec_)

/-- GATE_RESET (R129). -/
def execGateReset (cell : Fin 512) (s : State) : Out :=
  ok (match s.est.run with
    | some r => if r.done = 4 then s.gateReset cell.val else s
    | none => s)

/-- STEP_STAGE (R133, R135 to R137). -/
def execStepStage (s : State) : Out :=
  ok (match s.est.run with
    | some r => if r.done = 4 then s.stepRun r else s
    | none => s)

/-- DITHER_START (R134): 5 ms after the sample instant of the sweep that opened with a dither due, the dither begins. -/
def execDitherStart (s : State) : Out :=
  ok (match s.swp.smps with
    | (_, t) :: _ =>
      if s.est.ditherArm && s.ditherDue && s.est.dither.isNone && decide (s.tim.odo = t + BitVec.ofNat 64 (msT 5)) && !s.activationNear then
        { s with est := { s.est with dither := some (s.tim.odo, s.ditherAmp), ditherEarly := none } }.event 0x0D 4
      else s
    | [] => s)

/-- DITHER_END (R134): after 100 ms, or as soon as the module no longer runs the dispatch. -/
def execDitherEnd (s : State) : Out :=
  ok (match s.est.dither with
    | some (t, _) =>
      if msT 100 ≤ s.since t then s.endDither false
      else if s.pair.mode == .operate && s.inControl then s else s.endDither true
    | none => s)

/-- LIMITS_ZEROED (R159): PLIM_HOLD runs in a row have ended without Publish. -/
def execLimitsZeroed (s : State) : Out :=
  ok (if s.est.noPub < s.rd Reg.FUS_PLIM_HOLD then s
    else
      let s := { s with ctl := { s.ctl with plim := [0, 0, 0, 0, 0, 0] } }
      (s.setBit Reg.FUS_STR_FLAGS 5 true).event 0x0E 12)

end Sys2Proof.Machine
end

