-- ==== Sys2Proof/Machine/Fuse.lean ====
section
/-! DEFINITION. Fuse (R139 to R150): the taper check, the end and conflict rules, fusion and write-back, anchors and capacity, and confidence. -/

namespace Sys2Proof.Machine

open Sys2Proof

/-- EMPTY_MARGIN as a fraction. -/
def State.emptyMargin (s : State) : Word := F32.ofFrac (s.fld Reg.FUS_FUSE_CFG 24 8) 1000

/-- SLOPE_LO, V. -/
def State.slopeLo (s : State) : Word := F32.ofFrac (s.fld Reg.FUS_FUSE_SLOPE 0 16) 1000

/-- SLOPE_HI, V. -/
def State.slopeHi (s : State) : Word := F32.ofFrac (s.fld Reg.FUS_FUSE_SLOPE 16 16) 1000

/-- The `g` of R140. -/
def State.fuseG (s : State) (x : Cell) : Word :=
  F32.clamp (F32.div (F32.sub x.slope s.slopeLo) (F32.sub s.slopeHi s.slopeLo)) F32.zero F32.one

/-- The weight of the voltage path (R140). -/
def fuseWeight (g : Word) (x : Cell) : Word := F32.div (F32.mul g x.varQ) (F32.add x.varQ x.p00)

/-- SOC_F, kept within 0 to 1 (R141). -/
def socClamp (v : Word) : Word := F32.clamp v F32.zero F32.one

/-- Fusion and write-back (R141). -/
def fuseWith (w : Word) (x : Cell) : Cell :=
  let f := F32.add x.socQ (F32.mul w (F32.sub x.socV x.socQ))
  let u := F32.sub F32.one w
  let v := F32.add (F32.mul (F32.mul u u) x.varQ) (F32.mul (F32.mul w w) x.p00)
  let x := { x with socF := socClamp f, socQ := f, varQ := v }
  if F32.mant w = 0 then x.flag 24 true else if F32.le (f32c 19 20) w then x.flag 25 true else x

/-- CAP_SUSPECT (R142): CAP_VAR is at least (0.05 CAP)². -/
def suspect (x : Cell) : Cell :=
  let m := F32.mul (f32c 1 20) x.cap
  { x with capVar := F32.max x.capVar (F32.mul m m) }.flag 30 true

/-- The state of a cell at an end of its range (R142 rows 2 and 3). -/
def atEnd (edge : Word) (x : Cell) : Cell := { x with socF := edge, socQ := edge, socV := edge, varQ := x.p00 }.flag 25 true

/-- The state of a cell a taper found at its end (R149). -/
def atTaper (edge : Word) (x : Cell) : Cell :=
  { x with socF := edge, socQ := edge, socV := edge, varQ := f32c 25 1000000, p00 := f32c 25 1000000, p01 := 0, p02 := 0 }.flag 25 true

/-- The state of a cell that takes its voltage path (R142 rows 4 and 5). -/
def takeVoltage (x : Cell) : Cell := (suspect { x with socF := socClamp x.socV, socQ := x.socV, varQ := x.p00 }).flag 25 true

namespace State

/-- The capacity sample of an anchor with a valid run (R150), its CAP and CAP_VAR. -/
def capSample_ (s : State) (tab : ChemTable) (x : Cell) : State × Cell :=
  let ds := F32.sub x.socF x.socAnchor
  if !x.runValid || F32.lt (F32.abs ds) (F32.ofFrac (s.fld Reg.FUS_CAP_CFG 0 8) 100) then (s, x)
  else
    let smp := F32.div x.qAnchor (F32.mul (F32.ofInt 3600) ds)
    let cn := cNomAh tab
    let lo := F32.mul (F32.ofFrac (s.fld Reg.FUS_CAP_CFG 16 8) 100) cn
    let hi := F32.mul (F32.ofFrac (s.fld Reg.FUS_CAP_CFG 24 8) 100) cn
    if !(F32.le lo smp && F32.le smp hi) then ((s.bump Reg.FUS_CAP_REJ).event 0x0E 10, x)
    else
      let vs := F32.div (F32.mul (F32.mul smp smp) (F32.add x.varQ x.varAnchor)) (F32.mul ds ds)
      let k := F32.div x.capVar (F32.add x.capVar vs)
      let fl := F32.mul (F32.ofFrac (s.fld Reg.FUS_CAP_CFG 8 8) 1000) cn
      let x := { x with cap := F32.add x.cap (F32.mul k (F32.sub smp x.cap))
                        capVar := F32.max (F32.mul (F32.sub F32.one k) x.capVar) (F32.mul fl fl) }
      ((s.bump Reg.FUS_CAP_SAMPLES).event 0x0E 9, x.flag 30 false)

/-- An anchor (R145, R150): the capacity sample of the run that ends, then a new run. -/
def anchorCell (s : State) (tab : ChemTable) (x : Cell) : State × Cell :=
  let (s, x) := s.capSample_ tab x
  (s, { x with anchorPt := timeSec s.plant % 2 ^ 32, socAnchor := x.socF, varAnchor := x.varQ, qAnchor := 0, runValid := true }.flag 29 false)

/-- Steps 4 and 5 of R139 for a cell whose outcome stands: Q_ANCHOR, the anchor, and CONF. `w` is the weight of R141 where it applied, `anchor`
says that a row names an anchor, `cut` that the capacity run is broken (R150). -/
def finishCell (r : Run) (s : State) (c : Nat) (tab : ChemTable) (x : Cell) (w : Option Word) (anchor cut : Bool) : State :=
  let a := s.cellAux c
  let x := { x with qAnchor := F32.add x.qAnchor a.dq, runValid := x.runValid && !(x.has 2 || x.has 3 || cut) }
  let wide := match w with
    | some w => F32.le (F32.ofFrac (s.fld Reg.FUS_FUSE_CFG 0 8) 256) w
    | none => false
  let (s, x) := if anchor || wide then s.anchorCell tab x else (s, x)
  let conf := F32.mul F32.two (F32.sqrt x.varQ)
  let low := F32.lt (F32.ofFrac (s.fld Reg.FUS_CONF_CFG 0 16) 10000) conf
  let span := if low then a.span + r.dt else 0
  let x := { x with conf := conf, lowSpan := min 65535 (span / secT 1) }
  (s.setWork c (if low then x else x.flag 28 false)).setAux c { a with span := span, fusedNow := true, confirmed := false }

/-! ### Tapers (R148, R149) -/

/-- The clean readings of the counted cells. -/
def cleanReads (s : State) (rec_ : SweepRec) : List Nat := s.countedCells.filterMap (cleanV rec_)

/-- The condition of a taper (R148). -/
def taperCond (s : State) (r : Run) (rec_ : SweepRec) (full : Bool) : Bool :=
  let lim := F32.ofFrac (s.fld Reg.FUS_TAPER_CFG 0 16 * s.rd Reg.EST_C_RATE) 1000000
  let dir := if full then F32.le F32.zero r.ibar else F32.le r.ibar F32.zero
  let edge := (s.cleanReads rec_).any fun v =>
    if full then decide (s.fld Reg.FUS_TAPER_V 16 16 ≤ v) else decide (v ≤ s.fld Reg.FUS_TAPER_V 0 16)
  curValid rec_ && decide (s.rd Reg.EST_C_RATE ≠ 0) && dir && F32.le (F32.abs r.ibar) lim && edge

/-- A taper fires in this run (R148). -/
def taperDue (s : State) (r : Run) (rec_ : SweepRec) (full : Bool) : Bool :=
  let fired := if full then s.est.firedHi else s.est.firedLo
  let timer := if full then s.est.taperHi else s.est.taperLo
  s.taperCond r rec_ full && !fired && F32.le (F32.ofNat (s.fld Reg.FUS_TAPER_CFG 16 16)) (F32.add timer (secF r.dt))

/-- A cell in a run in which a taper fires (R149). -/
def taperCell (r : Run) (rec_ : SweepRec) (full : Bool) (s : State) (c : Nat) : State :=
  match s.tableOf c, cleanV rec_ c with
  | some tab, some v =>
    let x := s.workCell c
    let a := s.cellAux c
    let x := if a.usedNow then x.flag 31 false else x
    let x := x.flag 26 (decide (s.fld Reg.FUS_FUSE_CFG 16 8 ≤ x.conflictN))
    let near := if full then decide (s.fld Reg.FUS_TAPER_V 16 16 ≤ v + s.rd Reg.FUS_TAPER_DV)
      else decide (v ≤ s.fld Reg.FUS_TAPER_V 0 16 + s.rd Reg.FUS_TAPER_DV)
    if a.fusedNow then s
    else if near then s.finishCell r c tab (atTaper (if full then F32.one else F32.zero) x) none true false
    else if F32.le s.slopeHi x.slope then
      let w := fuseWeight F32.one x
      s.finishCell r c tab (fuseWith w x) (some w) false false
    else s
  | _, _ => s

/-- A taper fires (R148, R149). -/
def taperFire (s : State) (r : Run) (rec_ : SweepRec) (full : Bool) : State :=
  let s := s.event 0x0E (if full then 7 else 8)
  let r := if full then { r with full := true } else { r with empty := true }
  let s := { s with est := { s.est with run := some r, firedHi := s.est.firedHi || full, firedLo := s.est.firedLo || !full } }
  s.estCells.foldl (taperCell r rec_ full) s

/-- The timers of the tapers after the check of a run (R148). -/
def taperTimers (s : State) (r : Run) (rec_ : SweepRec) : State :=
  let hi := s.taperCond r rec_ true
  let lo := s.taperCond r rec_ false
  { s with est := { s.est with taperHi := if hi then F32.add s.est.taperHi (secF r.dt) else 0, firedHi := s.est.firedHi && hi,
                               taperLo := if lo then F32.add s.est.taperLo (secF r.dt) else 0, firedLo := s.est.firedLo && lo } }

/-! ### Conflicts (R143, R144) -/

/-- The resolution of a conflict by the slope at SOC_V (R144), with the end of the cell's run. -/
def resolve (r : Run) (s : State) (c : Nat) (tab : ChemTable) (x : Cell) : State :=
  if F32.lt x.slope s.slopeLo then
    let x := { x with socV := x.socQ, p00 := x.varQ, p01 := 0, p02 := 0, conflictN := 0 }
    s.finishCell r c tab (fuseWith F32.zero x) (some F32.zero) false false
  else if F32.le s.slopeHi x.slope then
    let x := { x with socQ := x.socV, varQ := x.p00, conflictN := 0 }
    let w := fuseWeight (s.fuseG x) x
    let s := (s.bump Reg.FUS_REANCHORS).event 0x0E 2
    s.finishCell r c tab (((fuseWith w x).flag 27 true).flag 25 true) (some w) true true
  else
    let w := fuseWeight (s.fuseG x) x
    s.finishCell r c tab (fuseWith w x) (some w) false false

/-- The conflict count after an evaluated run (R143). -/
def conflictCount (s : State) (x : Cell) : Nat :=
  let z := F32.div (F32.abs (F32.sub x.socV x.socQ)) (F32.sqrt (F32.add x.p00 x.varQ))
  if F32.lt (F32.ofFrac (s.fld Reg.FUS_FUSE_CFG 8 8) 16) z then min 255 (x.conflictN + 1) else 0

/-- A conflict is confirmed (R143): it is counted, and R144 decides it. -/
def confirmConflict (r : Run) (s : State) (c : Nat) : State :=
  match s.tableOf c with
  | some tab => if (s.cellAux c).confirmed then ((s.bump Reg.FUS_CONFLICTS).event 0x0E 1).resolve r c tab (s.workCell c) else s
  | none => s

/-! ### The rows of R142 -/

/-- Rows 2 to 9 of R142 for a cell. A conflict confirmed in this run waits for its confirmation. -/
def fuseCell (r : Run) (s : State) (c : Nat) : State :=
  match s.tableOf c with
  | none => s
  | some tab =>
    let a := s.cellAux c
    let n := s.fld Reg.FUS_FUSE_CFG 16 8
    let m := s.emptyMargin
    let top := F32.sub F32.one m
    let x := s.workCell c
    let x := if a.usedNow then x.flag 31 false else x
    let x := x.flag 26 (decide (n ≤ x.conflictN))
    let low := F32.le x.socQ F32.zero
    let high := F32.le F32.one x.socQ
    if a.fusedNow then s
    else if a.usedNow && F32.le x.socV F32.zero then
      s.finishCell r c tab (if F32.lt m x.socQ then suspect (atEnd F32.zero x) else atEnd F32.zero x) none true false
    else if a.usedNow && F32.le F32.one x.socV then
      s.finishCell r c tab (if F32.lt x.socQ top then suspect (atEnd F32.one x) else atEnd F32.one x) none true false
    else if a.usedNow && low && F32.le m x.socV then (s.event 0x0E 3).finishCell r c tab (takeVoltage x) none true true
    else if a.usedNow && high && F32.le x.socV top then (s.event 0x0E 4).finishCell r c tab (takeVoltage x) none true true
    else if a.usedNow && (low || high) then
      let w := fuseWeight F32.one x
      s.finishCell r c tab (fuseWith w x) (some w) false false
    else if low || high then
      s.finishCell r c tab ({ x with socF := if low then F32.zero else F32.one }.flag 31 true) none false false
    else
      let was := x.conflictN
      let x := if a.usedNow then { x with conflictN := s.conflictCount x } else x
      let stands := decide (n ≤ x.conflictN)
      let x := x.flag 26 stands
      if a.usedNow && stands && decide (was < n) then (s.setWork c x).setAux c { a with confirmed := true }
      else if a.usedNow && stands then s.resolve r c tab x
      else
        let w := fuseWeight (s.fuseG x) x
        s.finishCell r c tab (fuseWith w x) (some w) false false

/-- Fuse (R139): tapers first, then each estimated cell. -/
def fuseRun (s : State) (rec_ : SweepRec) : State :=
  let run (s : State) : Run := s.est.run.getD { done := 0, cycle := 0, index := 0, start := 0, dt := 0, qsum := 0, nsum := 0, qbal := [], curOk := false }
  let s := if s.taperDue (run s) rec_ true then s.taperFire (run s) rec_ true else s
  let s := if s.taperDue (run s) rec_ false then s.taperFire (run s) rec_ false else s
  let s := s.taperTimers (run s) rec_
  let s := s.estCells.foldl (fuseCell (run s)) s
  { s with est := { s.est with run := s.est.run.map fun (r : Run) => { r with done := 6 } } }

/-- A cell has had no anchor for ANCHOR_MAX (R145). -/
def anchorOld (s : State) (c : Nat) : State :=
  let x := s.workCell c
  if s.estimated c && !x.has 29 && !(s.cellAux c).confirmed
      && decide ((s.rd Reg.FUS_ANCHOR_MAX * 3600 : Nat) ≤ sdiff 32 (timeSec s.plant) x.anchorPt) then
    (s.setWork c (x.flag 29 true)).event 0x0E 6
  else s

/-- A cell's CONF has exceeded CONF_TH for CONF_TIME (R146). -/
def lowConf (s : State) (c : Nat) : State :=
  let x := s.workCell c
  let a := s.cellAux c
  if s.estimated c && !x.has 28 && !a.confirmed && decide (a.span ≠ 0) && decide (secT (s.fld Reg.FUS_CONF_CFG 16 16) ≤ a.span) then
    (s.setWork c (x.flag 28 true)).event 0x0E 5
  else s

/-- What Fuse has left open before Scale begins: conflicts confirmed, then ANCHOR_OLD and LOW_CONF. -/
def fuseRest (s : State) (r : Run) : State :=
  let s := s.estCells.foldl (confirmConflict r) s
  s.estCells.foldl (fun s c => (s.anchorOld c).lowConf c) s

end State

/-- FUSE_STAGE (R139 to R150). -/
def execFuseStage (s : State) : Out :=
  ok (s.onRun 5 fun _ rec_ s => s.fuseRun rec_)

/-- TAPER_FIRE (R148, R149): the taper check is the first step of Fuse. -/
def execTaperFire (full : Bool) (s : State) : Out :=
  ok (s.onRun 5 fun r rec_ s => if s.taperDue r rec_ full then s.taperFire r rec_ full else s)

/-- CONFLICT_CONFIRM (R143, R144). -/
def execConflictConfirm (cell : Fin 512) (s : State) : Out :=
  ok (match s.est.run with
    | some r => if r.done = 6 && s.estimated cell.val then s.confirmConflict r cell.val else s
    | none => s)

/-- ANCHOR_OLD (R145). -/
def execAnchorOld (cell : Fin 512) (s : State) : Out :=
  ok (match s.est.run with
    | some r => if r.done = 6 then s.anchorOld cell.val else s
    | none => s)

/-- LOW_CONF (R146). -/
def execLowConf (cell : Fin 512) (s : State) : Out :=
  ok (match s.est.run with
    | some r => if r.done = 6 then s.lowConf cell.val else s
    | none => s)

end Sys2Proof.Machine
end

