-- ==== Sys2Proof/Machine/Scale.lean ====
section
/-! DEFINITION. Scale (R151 to R158): reported SOC, energies, power limits and health of the string, gathered for Publish. -/

namespace Sys2Proof.Machine

open Sys2Proof

/-- What Scale works out of a counted cell: its state, its table, and its impedance at its temperature. -/
structure ScaleRow where
  cell : Nat
  x : Cell
  tab : ChemTable
  rohm : Word
  rp1 : Word
  rp2 : Word
  tau1 : Word
  tau2 : Word
  rdc : Word
  deriving DecidableEq, Repr

/-- The row of a cell (R153, R158). -/
def scaleRow (c : Nat) (x : Cell) (tab : ChemTable) : ScaleRow :=
  let k := tempRatio tab x.t
  let ro := F32.mul x.rohm25 k
  let r1 := F32.mul x.rp125 k
  let r2 := F32.mul x.rp225 k
  { cell := c, x := x, tab := tab, rohm := ro, rp1 := r1, rp2 := r2, tau1 := F32.mul r1 x.cp1, tau2 := F32.mul r2 x.cp2
    rdc := F32.add (F32.add ro r1) r2 }

/-- `ocv + h * m` at a grid point of a cell's table. -/
def curvePoint (r : ScaleRow) (j : Nat) : Word :=
  let (i, f) := tempAt r.tab.temps r.x.t
  F32.add (gridT r.tab.ocv i f j) (F32.mul r.x.h (gridT r.tab.m i f j))

/-- The point of the interval above a grid point at which the curve takes a value. -/
def curveAt (r : ScaleRow) (j : Nat) (y : Word) : Word :=
  let a := curvePoint r j
  F32.div (F32.add (F32.ofNat j) (F32.div (F32.sub y a) (F32.sub (curvePoint r (j + 1)) a))) (F32.ofInt 100)

/-- The lowest SOC at which the curve reaches a voltage (R153). -/
def sZero (r : ScaleRow) (y : Word) : Word :=
  match (List.range 101).find? fun j => F32.le y (curvePoint r j) with
  | some 0 => F32.zero
  | some (j + 1) => curveAt r j y
  | none => F32.one

/-- The highest SOC at which the curve does not pass a voltage (R153). -/
def sFull (r : ScaleRow) (y : Word) : Word :=
  match (List.range 101).reverse.find? fun j => F32.le (curvePoint r j) y with
  | some 100 => F32.one
  | some j => curveAt r j y
  | none => F32.zero

/-- The steepest 1 % slope of OCV in a window of SOC given in hundredths, as fractions of a denominator (R158). -/
def steepest (r : ScaleRow) (lo hi : Int) (den : Nat) : Word :=
  let a := min 99 (max 0 (lo / den)).toNat
  let b := min 100 (max ((a : Int) + 1) (-(-hi / den))).toNat
  let (i, f) := tempAt r.tab.temps r.x.t
  let slope (j : Nat) : Word := F32.div (F32.sub (gridT r.tab.ocv i f (j + 1)) (gridT r.tab.ocv i f j)) (f32c 1 100)
  (List.range (b - a)).foldl (fun m k => F32.max m (slope (a + k))) (slope a)

/-- The sum of a list. -/
def sumF (l : List Word) : Word := l.foldl F32.add F32.zero

/-- The least of a list that has an entry. -/
def minF : List Word → Word
  | [] => F32.zero
  | a :: r => r.foldl F32.min a

/-- The least value of a list with the first cell that gives it. -/
def leastOf : List (Word × Nat) → Word × Nat
  | [] => (F32.zero, 0)
  | a :: r => r.foldl (fun m x => if F32.lt x.1 m.1 then x else m) a

/-- The greatest value of a list with the first cell that gives it. -/
def greatestOf : List (Word × Nat) → Word × Nat
  | [] => (F32.zero, 0)
  | a :: r => r.foldl (fun m x => if F32.lt m.1 x.1 then x else m) a

/-- A value as an unsigned field of `n` bits in units of `1 / k`, to the nearest, saturating. -/
def unsignedField (n k : Nat) (x : Word) : Nat := min (2 ^ n - 1) (max 0 (F32.toIntScaled x k)).toNat

/-- A value as a two's-complement field of `n` bits in units of `1 / k`, to the nearest, saturating. -/
def signedField (n k : Nat) (x : Word) : Int := max (-(2 ^ (n - 1) : Nat)) (min ((2 ^ (n - 1) : Nat) - 1) (F32.toIntScaled x k))

/-- An SOC in 0.01 % (R3). -/
def socField (x : Word) : Nat := min 10000 (unsignedField 16 10000 x)

/-- A power rounded down to 1 W (R158). -/
def watts (p : Word) : Nat := min (2 ^ 31 - 1) (max 0 (F32.floor p)).toNat

/-- Two 16-bit halves of a register. -/
def halves (lo hi : Nat) : Word := w32 (lo % 2 ^ 16 + hi % 2 ^ 16 * 2 ^ 16)

namespace State

/-- The rows of the counted cells; none under R154. -/
def scaleRows (s : State) : Option (List ScaleRow) :=
  let rows := s.countedCells.map fun c =>
    let x := s.workCell c
    match s.tableOf c with
    | some tab => if s.estimated c && F32.finite x.socF then some (scaleRow c x tab) else none
    | none => none
  if rows.isEmpty then none else if rows.all (·.isSome) then some (rows.filterMap id) else none

/-- Publish's value of a register of the page. -/
def put (s : State) (a : Nat) (v : Word) : State :=
  { s with est := { s.est with run := s.est.run.map fun (r : Run) => { r with out := r.out.set a v } } }

/-- A register of the page whose value the spec does not state for the case: a free value in the register's bits (log entry 4). -/
def putOpen (s : State) (a : Nat) : State := (s.put a (s.freeWord &&& ((regRow? a).elim 0 (·.mask)))).drawFree

/-! ### Filter (R152) -/

/-- V_STR of the record, V. -/
def vStr (rec_ : SweepRec) : Word := F32.ofFrac rec_.vStr 1000

/-- The filtered powers (R152). -/
def powerFilter (s : State) (r : Run) (rec_ : SweepRec) : State :=
  let p := F32.mul r.ibar (vStr rec_)
  let k := F32.div (secF r.dt) (F32.ofNat (s.rd Reg.FUS_ZP_TAU))
  let step (f x : Word) : Word := F32.add f (F32.mul k (F32.sub (F32.max x F32.zero) f))
  { s with est := { s.est with pfDis := step s.est.pfDis (F32.neg p), pfChg := step s.est.pfChg p } }

/-- i_zero and i_full (R152). -/
def zeroCurrents (s : State) (rec_ : SweepRec) : Word × Word :=
  if rec_.vStr ≤ 0 then (F32.zero, F32.zero) else (F32.div s.est.pfDis (vStr rec_), F32.div s.est.pfChg (vStr rec_))

/-! ### Reported SOC (R153, R155, R156) -/

/-- a_i and b_i of a cell, Ah (R153). -/
def window (s : State) (iz : Word × Word) (r : ScaleRow) : Word × Word :=
  let vs := volts (s.fld Reg.FUS_SHUT_V 0 16)
  let vc := volts (s.fld Reg.FUS_SHUT_V 16 16)
  let z := sZero r (F32.add vs (F32.mul iz.1 r.rdc))
  let f := sFull r (F32.sub vc (F32.mul iz.2 r.rdc))
  let c := if r.x.has 28 then r.x.conf else F32.zero
  let a := F32.max F32.zero (F32.sub (F32.sub r.x.socF c) z)
  let b := F32.max F32.zero (F32.sub f (F32.add r.x.socF c))
  (F32.mul a r.x.cap, F32.mul b r.x.cap)

/-- RATCHET_I × C_RATE, A. -/
def ratchetI (s : State) : Word := F32.ofFrac (s.fld Reg.FUS_RATCHET_CFG 16 16 * s.rd Reg.EST_C_RATE) 1000000

/-- The ratchet of R155 from `rep` toward `raw`. -/
def ratchet (s : State) (r : Run) (rep raw dnat : Word) : Word :=
  let cu := F32.div (F32.mul (F32.ofFrac (s.fld Reg.FUS_RATCHET_CFG 0 16) 10000) (secF r.dt)) (F32.ofInt 3600)
  let ri := s.ratchetI
  if F32.lt ri r.ibar then
    F32.add rep (F32.clamp (F32.sub raw rep) F32.zero (F32.add (F32.max dnat F32.zero) cu))
  else if F32.lt r.ibar (F32.neg ri) then
    F32.sub rep (F32.clamp (F32.sub rep raw) F32.zero (F32.add (F32.max (F32.neg dnat) F32.zero) cu))
  else F32.add rep (F32.clamp (F32.sub raw rep) (F32.neg cu) cu)

/-- The end that an event of R156 moves rep to. -/
def repEnd (s : State) (r : Run) (reads : List Nat) : Option Word :=
  if r.full then some F32.one
  else if r.empty then some F32.zero
  else if F32.lt s.ratchetI r.ibar && reads.any fun v => decide (s.fld Reg.FUS_SHUT_V 16 16 ≤ v) then some F32.one
  else if F32.lt r.ibar (F32.neg s.ratchetI) && reads.any fun v => decide (v ≤ s.fld Reg.FUS_SHUT_V 0 16) then some F32.zero
  else none

/-- Raw and rep of a valid run (R153, R155, R156), and whether the clamp holds rep. A window of 0 leaves the natural change open (log
entry 4). -/
def reported (s : State) (r : Run) (reads : List Nat) (aMin bMin : Word) : State × Bool :=
  let tot := F32.add aMin bMin
  let none_ := F32.mant tot = 0
  let raw := if none_ then s.est.raw else F32.div aMin tot
  if none_ && !s.est.rawOk then ({ s with est := { s.est with rawOk := false, repOk := false } }, false)
  else
    let dnat := if none_ then s.freeWord else F32.div r.q (F32.mul (F32.ofInt 3600) tot)
    let s := if none_ then s.drawFree else s
    let rep := if s.est.repOk then s.ratchet r s.est.rep raw dnat else raw
    let (rep, hold) := match s.repEnd r reads with
      | some e => (e, false)
      | none => (rep, decide (rep ≠ raw))
    ({ s with est := { s.est with raw := raw, rep := rep, rawOk := true, repOk := true } }, hold)

/-! ### Energies and limits (R157, R158) -/

/-- The energies, Wh (R157). -/
def energies (rows : List ScaleRow) (aMin bMin : Word) (iz : Word × Word) : Nat × Nat :=
  let rdc := sumF (rows.map (·.rdc))
  let two (r : ScaleRow) : Word := F32.mul F32.two r.x.cap
  let od := sumF (rows.map fun r => ocvAt r.tab (F32.sub r.x.socF (F32.div aMin (two r))) r.x.t)
  let oc := sumF (rows.map fun r => ocvAt r.tab (F32.add r.x.socF (F32.div bMin (two r))) r.x.t)
  (unsignedField 32 1 (F32.mul aMin (F32.sub od (F32.mul iz.1 rdc))), unsignedField 32 1 (F32.mul bMin (F32.add oc (F32.mul iz.2 rdc))))

/-- u, rd and rc of a cell at a horizon in seconds (R158). -/
def limitRow (t : Nat) (r : ScaleRow) : Word × Word × Word :=
  let e1 := F32.exp (F32.neg (F32.div (F32.ofNat t) r.tau1))
  let e2 := F32.exp (F32.neg (F32.div (F32.ofNat t) r.tau2))
  let u := F32.add (F32.add (F32.add (ocvAt r.tab r.x.socF r.x.t) (F32.mul r.x.h (mAt r.tab r.x.socF r.x.t))) (F32.mul r.x.v1 e1)) (F32.mul r.x.v2 e2)
  let rk := F32.add (F32.add r.rohm (F32.mul r.rp1 (F32.sub F32.one e1))) (F32.mul r.rp2 (F32.sub F32.one e2))
  let (n, d) := F32.toFrac r.x.socF
  let sd := steepest r (100 * n - 5 * (d : Int)) (100 * n) d
  let sc := steepest r (100 * n) (100 * n + 5 * (d : Int)) d
  let q := capAs r.x
  (u, F32.add rk (F32.div (F32.mul sd (F32.ofNat t)) q), F32.add rk (F32.div (F32.mul sc (F32.ofNat t)) q))

/-- The power limits of a horizon, W: discharge and charge (R158). -/
def limitsAt (s : State) (rows : List ScaleRow) (t : Nat) : Nat × Nat :=
  let ls := rows.map (limitRow t)
  let cap (f : Nat) : Word := F32.ofFrac (f * s.rd Reg.EST_C_RATE) 1000000
  let vs := volts (s.fld Reg.FUS_SHUT_V 0 16)
  let vc := volts (s.fld Reg.FUS_SHUT_V 16 16)
  let id := F32.clamp (minF (ls.map fun (u, rd, _) => F32.div (F32.sub u vs) rd)) F32.zero (cap (s.fld Reg.FUS_PLIM_IMAX 0 16))
  let cold := rows.any fun r => F32.lt r.x.t (degC (s.fldI Reg.FUS_PLIM_TCHG 0 16))
  let ic := if cold then F32.zero
    else F32.clamp (minF (ls.map fun (u, _, rc) => F32.div (F32.sub vc u) rc)) F32.zero (cap (s.fld Reg.FUS_PLIM_IMAX 16 16))
  (watts (F32.mul id (sumF (ls.map fun (u, rd, _) => F32.sub u (F32.mul id rd)))),
   watts (F32.mul ic (sumF (ls.map fun (u, _, rc) => F32.add u (F32.mul ic rc)))))

/-! ### The stage -/

/-- The limits of the run: P_DIS at 2 s, 10 s and 60 s, then P_CHG. -/
def putLimits (s : State) (l : List Nat) : State :=
  (l.zipIdx).foldl (fun s (v, i) => s.put (Reg.FUS_P_DIS_2S + 4 * i) (w32 v)) s

/-- What does not depend on the counted cells being valid (R145 to R152). -/
def scaleCommon (s : State) (r : Run) (reads : List Nat) : State :=
  let cells := s.estCells.map fun c => (c, s.workCell c)
  let s := s.put Reg.FUS_STR_CYCLE (w32 r.cycle)
  let s := s.put Reg.FUS_PF_DIS (w32 (unsignedField 32 1 s.est.pfDis))
  let s := s.put Reg.FUS_PF_CHG (w32 (unsignedField 32 1 s.est.pfChg))
  let s := match reads with
    | [] => s.putOpen Reg.FUS_V_RANGE
    | v :: t => s.put Reg.FUS_V_RANGE (halves (t.foldl min v) (t.foldl max v))
  let low := (cells.filter fun (_, x) => x.has 28).length
  let old := (cells.filter fun (_, x) => x.has 29).length
  let s := s.put Reg.FUS_FUSE_COUNT (halves (min 1023 low) (min 1023 old))
  if cells.isEmpty then ((s.putOpen Reg.FUS_CONF_MAX).putOpen Reg.FUS_SOH).putOpen Reg.FUS_RGROW
  else
    let tab (c : Nat) : ChemTable := (s.tableOf c).getD { id := 0, cNom := 1, temps := [], vMin := 0, vMax := 0, gamma := 0, etaC := 0, params := [], ocv := [], m := [] }
    let cm := greatestOf (cells.map fun (c, x) => (x.conf, c))
    let soh := leastOf (cells.map fun (c, x) => (F32.div x.cap (cNomAh (tab c)), c))
    let rg := greatestOf (cells.map fun (c, x) => (F32.div x.rohm25 (param25 (tab c) (·.rohm)), c))
    let s := s.put Reg.FUS_CONF_MAX (halves (unsignedField 16 10000 cm.1) cm.2)
    (s.put Reg.FUS_SOH (halves (unsignedField 16 10000 soh.1) soh.2)).put Reg.FUS_RGROW (halves (unsignedField 16 100 rg.1) rg.2)

/-- The run's part of STR_FLAGS. -/
def strFlags (s : State) (r : Run) (zero fb hold : Bool) : Word :=
  let wanted := s.estCells.any fun c => (s.workCell c).has 29
  w32 (b2n zero + 2 * b2n r.full + 4 * b2n r.empty + 8 * b2n wanted + 16 * b2n fb + 64 * b2n hold)

/-- Scale of a run whose counted cells are not all valid (R154). -/
def scaleInvalid (s : State) (r : Run) : State :=
  let e := s.est
  let s := { s with est := { e with rawOk := e.rawOk && !e.validOnce, repOk := e.repOk && !e.validOnce } }
  let s := (s.put Reg.FUS_SOC_REP 0xFFFFFFFF).put Reg.FUS_SOC_RANGE 0xFFFFFFFF
  let s := (s.put Reg.FUS_E_DIS 0).put Reg.FUS_E_CHG 0
  let s := ((s.putOpen Reg.FUS_CELL_IDX).putOpen Reg.FUS_A_MIN).putOpen Reg.FUS_B_MIN
  (s.putLimits (List.replicate 6 (min (2 ^ 31 - 1) (s.rd Reg.FUS_PLIM_FALLBACK)))).put Reg.FUS_STR_FLAGS (s.strFlags r false true false)

/-- Scale of a valid run (R153 to R158). -/
def scaleValid (s : State) (r : Run) (rec_ : SweepRec) (reads : List Nat) (rows : List ScaleRow) : State :=
  let iz := s.zeroCurrents rec_
  let ws := rows.map fun x => (s.window iz x, x.cell)
  let (aMin, ca) := leastOf (ws.map fun (w, c) => (w.1, c))
  let (bMin, cb) := leastOf (ws.map fun (w, c) => (w.2, c))
  let zero := decide (F32.mant (F32.add aMin bMin) = 0)
  let s := s.eventIf zero 0x0E 11
  let (s, hold) := s.reported r reads aMin bMin
  let s := { s with est := { s.est with validOnce := true } }
  let rep := if s.est.repOk then socField s.est.rep else 0xFFFF
  let raw := if s.est.rawOk then socField s.est.raw else 0xFFFF
  let s := s.put Reg.FUS_SOC_REP (halves rep raw)
  let socs := rows.map fun x => socField x.x.socF
  let s := s.put Reg.FUS_SOC_RANGE (halves (socs.foldl min 10000) (socs.foldl max 0))
  let s := s.put Reg.FUS_CELL_IDX (halves ca cb)
  let s := (s.put Reg.FUS_A_MIN (w32 (unsignedField 32 1000 aMin))).put Reg.FUS_B_MIN (w32 (unsignedField 32 1000 bMin))
  let (ed, ec) := energies rows aMin bMin iz
  let s := (s.put Reg.FUS_E_DIS (w32 ed)).put Reg.FUS_E_CHG (w32 ec)
  let ls := [2, 10, 60].map (s.limitsAt rows)
  (s.putLimits (ls.map (·.1) ++ ls.map (·.2))).put Reg.FUS_STR_FLAGS (s.strFlags r zero false hold)

/-- Scale (R151 to R158). What Fuse has left open is completed first. -/
def scaleRun (s : State) (r : Run) (rec_ : SweepRec) : State :=
  let s := (s.fuseRest r).powerFilter r rec_
  let reads := s.cleanReads rec_
  let s := s.scaleCommon r reads
  let s := match s.scaleRows with
    | some rows => s.scaleValid r rec_ reads rows
    | none => s.scaleInvalid r
  { s with est := { s.est with run := s.est.run.map fun (r : Run) => { r with done := 7 } } }

end State

/-- SCALE_STAGE (R151 to R158). -/
def execScaleStage (s : State) : Out :=
  ok (s.onRun 6 fun r rec_ s => s.scaleRun r rec_)

end Sys2Proof.Machine
end

