-- ==== Sys2Proof/Machine/Publish.lean ====
section
/-! DEFINITION. Publish (R107 to R110, R118, R160): the buffer swap, the balance plan, the taps (R161 to R163), the checkpoint (R327), the
snapshot (R232), and the commands of the taps. -/

namespace Sys2Proof.Machine

open Sys2Proof

/-- The least integer at or above a value; a bound above any duty where it is not finite. -/
def ceilNat (x : Word) : Nat := if F32.finite x then (-(F32.floor (F32.neg x))).toNat else 65536

namespace State

/-! ### The balance plan (R107 to R110) -/

/-- The mode forces an ON_MASK of 0 for every node (R107). -/
def balModeOff (s : State) : Bool :=
  match s.pair.mode with
  | .off | .boot | .commission | .safeHold => true
  | .formation => !s.bit Reg.BAL_BAL_CFG 4
  | _ => false

/-- A cell's reading, if it may be balanced (R107). -/
def balReading (s : State) (r : SweepRec) (c : Nat) : Option Nat :=
  let n := c / 16
  let soc := decide (s.fld Reg.BAL_BAL_CFG 0 2 = 1)
  match recV r c with
  | some v =>
    if recScr r c &&& 0xD7 = 0 && decide (s.rd Reg.BAL_BAL_VMIN ≤ v) && !s.bit Reg.BAL_BAL_INHIBIT n && !s.bit Reg.BAL_BAL_FAULT n
        && (!soc || (s.estimated c && F32.finite (s.pubCell c).socF)) then some v
    else none
  | none => none

/-- The cells that may be balanced, with their readings. -/
def balCells (s : State) (r : SweepRec) : List (Nat × Nat) :=
  (s.joinedNodes.flatMap fun n => (List.range 16).map fun i => 16 * n + i).filterMap fun c => (s.balReading r c).map fun v => (c, v)

/-- The cells that qualify, with the duty each wants (R108). -/
def balWants (s : State) (r : SweepRec) : List (Nat × Nat) :=
  let cells := s.balCells r
  if s.fld Reg.BAL_BAL_CFG 0 2 = 1 then
    let (lo, _) := leastOf (cells.map fun (c, _) => ((s.pubCell c).socF, c))
    let dead := F32.ofFrac (s.fld Reg.BAL_BAL_DEAD 0 16) 10000
    cells.filterMap fun (c, v) =>
      let x := s.pubCell c
      let d := F32.sub x.socF lo
      if F32.lt dead d then
        let i := F32.div (F32.ofNat (v * 100)) (F32.ofNat (s.rd Reg.BAL_BAL_R))
        some (c, ceilNat (F32.div (F32.mul (F32.ofInt 256) (F32.mul d (capAs x))) (F32.mul i (F32.ofNat (s.rd Reg.BAL_BAL_HORIZON)))))
      else none
  else
    let lo := cells.foldl (fun m (_, v) => min m v) 65535
    cells.filterMap fun (c, v) => if s.fld Reg.BAL_BAL_DEAD 16 16 < v - lo then some (c, 65536) else none

/-- The die-temperature cap of a node (R110). -/
def nodeCapDuty (s : State) (n : Nat) : Nat :=
  balCap (s.fldI Reg.BAL_BAL_TBP0 0 16) (s.fldI Reg.BAL_BAL_TBP0 16 16) (s.fldI Reg.BAL_BAL_TBP1 0 16) (s.fld Reg.BAL_BAL_TBP1 16 16) (s.node n).tdie

/-- dmax (R108). -/
def dutyMax (s : State) : Nat := 256 * (s.sweepPeriod - 550000) / s.sweepPeriod

/-- A cell of the plan is on in a sweep: a qualifying neighbour in the node leaves it to the sweeps of its own parity (R109). -/
def balOn (wants : List (Nat × Nat)) (index c : Nat) : Bool :=
  let q (d : Nat) : Bool := wants.any fun (x, _) => x == d
  let beside := (decide (c % 16 ≠ 0) && q (c - 1)) || (decide (c % 16 ≠ 15) && q (c + 1))
  !beside || c % 2 == index % 2

/-- The group of a node (R108 to R110). -/
def balGroup (s : State) (wants : List (Nat × Nat)) (index n : Nat) : BalGroup :=
  let on := wants.filter fun (c, _) => c / 16 == n && balOn wants index c
  let duty := on.foldl (fun d (_, w) => min d w) (min s.dutyMax (s.nodeCapDuty n))
  { node := n, mask := on.foldl (fun m (c, _) => m + 2 ^ (c % 16)) 0, duty := if on.isEmpty then 0 else duty }

/-- The plan of a Publish (R107): it replaces one that still waits (R18). -/
def planBalance (s : State) (r : SweepRec) : State :=
  let off := s.balModeOff || decide (s.fld Reg.BAL_BAL_CFG 0 2 = 0)
  let wants := if off then [] else s.balWants r
  let plan := s.joinedNodes.map (s.balGroup wants r.index)
  let lost := s.inControl && !s.link.balSent && !s.link.balPlan.isEmpty
  let s := if lost then s.bump Reg.BAL_BAL_REPLACED else s
  let s := { s with link := { s.link with balPlan := plan, balSent := false } }
  let active := plan.foldl (fun m g => if g.mask = 0 then m else m + 2 ^ g.node) 0
  let derated := plan.any fun g => g.mask != 0 && decide (g.duty = s.nodeCapDuty g.node) && decide (s.nodeCapDuty g.node < s.dutyMax)
  let s := ((s.wr Reg.BAL_BAL_ACTIVE active).bump Reg.BAL_BAL_PLANS).event 0x0F 0
  (s.eventIf derated 0x0F 3).eventIf s.balModeOff 0x0F 4

/-! ### Taps (R161 to R163) -/

/-- Bytes of a tap field (R162). -/
def tapFieldSize (b : Nat) : Nat := if b = 8 ∨ b = 9 then 4 else if b < 12 then 2 else 0

/-- The size of an entry (R162). -/
def tapSize (fields first last : Nat) : Nat :=
  let per := (List.range 12).foldl (fun a b => if fields.testBit b then a + tapFieldSize b else a) 0
  (16 + (if fields.testBit 15 then 64 else 0) + (last + 1 - first) * per + 7) / 8 * 8

/-- Bytes of the tap buffer in use (R161). -/
def tapUsed (s : State) : Nat := s.est.taps.foldl (fun a (_, t) => a + t.size) 0

/-- CREATE (R161). -/
def tapCreateOp (s : State) (mid : Mid) : State :=
  let fields := s.fld Reg.FUS_TAP_CFG 0 16
  let decim := s.fld Reg.FUS_TAP_CFG 16 8
  let first := s.fld Reg.FUS_TAP_RANGE 0 9
  let last := s.fld Reg.FUS_TAP_RANGE 16 9
  let depth := s.rd Reg.FUS_TAP_DEPTH
  let base := s.rd Reg.FUS_TAP_BASE
  let size := tapSize fields first last
  match s.est.taps.firstFree 32 with
  | none => s.err mid Reg.FUS_TAP_CMD .tapFull
  | some i =>
    if fields = 0 ∨ decim = 0 ∨ last < first ∨ depth < 2 ∨ 65535 < depth then s.err mid Reg.FUS_TAP_CMD .range
    else if 131072 < size + s.tapUsed then s.err mid Reg.FUS_TAP_CMD .tapSpace
    else if !s.rangeRight (midColumn (.own .pipe)) base (8 + depth * size) true then s.err mid Reg.FUS_TAP_CMD .fwlDeny
    else
      let t : Tap := { fields := fields, decim := decim, first := first, last := last, base := base, depth := depth, size := size }
      let s := { s with est := { s.est with taps := s.est.taps.set i t } }.newGen .tap i
      let s := (s.setReg Reg.FUS_TAP_HANDLE (s.handleOf .tap i)).wr Reg.FUS_TAP_ESIZE size
      (s.wr Reg.FUS_TAP_SPACE (131072 - s.tapUsed)).wr Reg.FUS_TAP_COUNT s.est.taps.length

/-- The tap TAP_HANDLE names (R11). -/
def tapHandle (s : State) : Except ErrCode Nat :=
  s.checkHandle .tap (fun i => (s.est.taps.find? i).isSome) (s.reg Reg.FUS_TAP_HANDLE)

/-- DESTROY (R161). -/
def tapDestroyOp (s : State) (mid : Mid) : State :=
  match s.tapHandle with
  | .error e => s.err mid Reg.FUS_TAP_CMD e
  | .ok i =>
    let s := { s with est := { s.est with taps := s.est.taps.erase i } }
    (s.wr Reg.FUS_TAP_SPACE (131072 - s.tapUsed)).wr Reg.FUS_TAP_COUNT s.est.taps.length

/-- QUERY (R161). -/
def tapQueryOp (s : State) (mid : Mid) : State :=
  match s.tapHandle with
  | .error e => s.err mid Reg.FUS_TAP_CMD e
  | .ok i =>
    let t := (s.est.taps.find? i).getD { fields := 0, decim := 0, first := 0, last := 0, base := 0, depth := 0, size := 0 }
    (s.wr Reg.FUS_TAP_ESIZE t.size).wr Reg.FUS_TAP_DROPS t.drops

/-- A field of a cell in a tap entry (R162). -/
def tapField (s : State) (r : SweepRec) (c b : Nat) : List Nat :=
  let x := s.pubCell c
  let ok := s.estimated c
  let sgn (i : Int) : List Nat := leBytes 2 ((i % (2 ^ 16 : Int)).toNat)
  match b with
  | 0 => leBytes 2 ((recV r c).getD 0xFFFF)
  | 1 => sgn (signedField 16 100 x.t)
  | 2 => leBytes 2 (recScr r c + 256 * b2n (r.late.testBit (c / 16)))
  | 3 => leBytes 2 (if ok then socField x.socF else 0xFFFF)
  | 4 => if ok then sgn (signedField 16 10000 x.socQ) else [0xFF, 0xFF]
  | 5 => if ok then sgn (signedField 16 10000 x.socV) else [0xFF, 0xFF]
  | 6 => leBytes 2 (unsignedField 16 10000 x.conf)
  | 7 => leBytes 2 (x.flags / 2 ^ 16)
  | 8 => leBytes 4 (unsignedField 32 1000000 x.rohm25)
  | 9 => leBytes 4 (unsignedField 32 1000 x.cap)
  | 10 => sgn (signedField 16 10000 x.innov)
  | 11 => leBytes 2 (recQbal r c)
  | _ => []

/-- A tap entry (R162). -/
def tapEntry (s : State) (r : SweepRec) (t : Tap) : List Nat :=
  let cells := (List.range (t.last + 1 - t.first)).map (· + t.first)
  let bits := (List.range 12).filter t.fields.testBit
  let str := if t.fields.testBit 15 then (List.range 16).flatMap fun i => leBytes 4 (s.rd (0xE080 + 4 * i)) else []
  let body := leBytes 4 r.cycle ++ leBytes 4 r.smpOdo.toNat ++ leBytes 4 t.seq ++ leBytes 2 r.rflags ++ leBytes 2 cells.length ++ str
    ++ cells.flatMap fun c => bits.flatMap fun b => s.tapField r c b
  body ++ List.replicate (t.size - body.length) 0

/-- An entry finds no room: it is dropped (R163). -/
def tapDrop (s : State) (i : Nat) (t : Tap) : State :=
  { s with est := { s.est with taps := s.est.taps.set i { t with seq := (t.seq + 1) % 2 ^ 32, drops := (t.drops + 1) % 2 ^ 32 } } }.event 0x0E 13

/-- Post an entry to a tap that is due, or drop it (R163): a ring that is full, or that the firewall denies to the sequencer (R265), takes none. When
an entry drains from the tap buffer the spec leaves open: a free value tells whether it does before the next record close (log entry 118). -/
def tapPost (r : SweepRec) (s : State) (i : Nat) : State :=
  match s.est.taps.find? i with
  | none => s
  | some t =>
    if r.index % t.decim ≠ 0 then s
    else
      let (s, b) := s.fetchAs (.own .pipe) (t.base + 4) 4
      let next := (t.widx + 1) % t.depth
      let at_ := t.base + 8 + t.widx * t.size
      let col := midColumn (.own .pipe)
      if next = leAt b 0 4 then s.tapDrop i t
      else if !s.rangeRight col at_ t.size true then (s.storeAs (.own .pipe) at_ (s.tapEntry r t)).tapDrop i t
      else if !s.rangeRight col t.base 4 true then (s.storeAs (.own .pipe) t.base (leBytes 4 next)).tapDrop i t
      else
        let drains := s.freeWord.getLsbD 0
        let s := s.drawFree
        let t' : Tap := { t with seq := (t.seq + 1) % 2 ^ 32 }
        if drains then
          let s := (s.storeAs (.own .pipe) at_ (s.tapEntry r t)).storeAs (.own .pipe) t.base (leBytes 4 next)
          { s with est := { s.est with taps := s.est.taps.set i { t' with widx := next } } }
        else { s with est := { s.est with taps := s.est.taps.set i { t' with stays := true } } }

/-! ### Checkpoints (R327) -/

/-- The checkpoint at a Publish (R327): one that is still being written is abandoned and restarts; one starts once CKPT_PERIOD has elapsed. None is
written while EN is 0 (R125), and none starts during hold-up (R325) or before the scan has given CKPT_SEQ (R314). -/
def ckptPublish (s : State) : State :=
  let may := s.bit Reg.EST_EST_CFG 0 && s.bit Reg.REC_REC_CFG 0 && !s.recd.scanning && s.pair.lossAt.isNone
  if s.recd.ckpt.isSome then
    let s := { s with recd := { s.recd with ckpt := none } }
    if may then (s.bumpSat Reg.REC_REC_STAT 11 5).ckptStart (s.rd Reg.FUS_PUB_SEQ) else s
  else if may && decide (secT (s.rd Reg.EST_CKPT_PERIOD) ≤ s.since s.recd.ckptLast) then s.ckptStart (s.rd Reg.FUS_PUB_SEQ)
  else s

/-! ### Publish (R160) -/

/-- Steps 1 and 2 of R160. -/
def swapBuffers (s : State) (r : Run) : State :=
  let aux := s.est.aux.map fun (c, (a : CellAux)) => (c, { a with retable := false })
  let s := { s with est := { s.est with pub := s.est.work, run := none, noPub := 0, pubAt := s.tim.odo, aux := aux } }
  let s := r.out.foldl (fun s (a, v) => s.setReg a v) s
  let s := (s.bump Reg.FUS_PUB_SEQ).wr Reg.EST_PIPE_CYCLE r.cycle
  let us := min 65535 (s.since r.start / 250)
  let s := s.wr Reg.EST_PIPE_TIME (us + 2 ^ 16 * max us (s.fld Reg.EST_PIPE_TIME 16 16))
  let p (i : Nat) : Int := s.rd (Reg.FUS_P_DIS_2S + 4 * i)
  { s with ctl := { s.ctl with plim := [p 0, p 1, p 2, p 3, p 4, p 5] } }

/-- The snapshot of the published state (R232): the counted cells in order. -/
def snapshot (s : State) : Snapshot :=
  let e := s.est
  { complete := true, pubSeq := s.rd Reg.FUS_PUB_SEQ, cycle := s.rd Reg.FUS_STR_CYCLE
    rep := if e.repOk then e.rep else 0x7fc00000, raw := if e.rawOk then e.raw else 0x7fc00000, pfDis := e.pfDis, pfChg := e.pfChg
    taperHi := e.taperHi, taperLo := e.taperLo, cells := s.countedCells.map fun c => snapOfCell c (s.pubCell c) }

/-- The snapshot is handed to CSW, which sends it in segments (R232). -/
def sendSnapshot (s : State) : State :=
  if s.inControl && s.cswUp then
    { s with pair := { s.pair with snapSent := some s.snapshot } }.cswSend 2 0 (snapSegments s.snapshot) true
  else s

/-- Publish (R160): `x` is the record of the run, and `rec_` that record with the late data that has come since, for the taps (R98). -/
def publish (s : State) (r : Run) (x rec_ : SweepRec) : State :=
  let s := (s.swapBuffers r).planBalance x
  let s := (List.range 32).foldl (tapPost rec_) s
  let s := ((s.ckptPublish.sendSnapshot).gradeCross x).frmPublish r.ring
  s.event 0x0E 0

end State

/-- PUBLISH (R160). -/
def execPublish (s : State) : Out :=
  ok (match s.est.run, s.newestRec with
    | some r, some rec_ => if r.done = 7 then s.publish r (r.ring.head?.getD rec_) rec_ else s
    | _, _ => s)

/-- TAP_CREATE (R161). -/
def execTapCreate (mid : Mid) (s : State) : Out := ok (s.busW mid Reg.FUS_TAP_CMD fun s => s.tapCreateOp mid)

/-- TAP_DESTROY (R161). -/
def execTapDestroy (mid : Mid) (s : State) : Out := ok (s.busW mid Reg.FUS_TAP_CMD fun s => s.tapDestroyOp mid)

/-- TAP_QUERY (R161). -/
def execTapQuery (mid : Mid) (s : State) : Out := ok (s.busW mid Reg.FUS_TAP_CMD fun s => s.tapQueryOp mid)

end Sys2Proof.Machine
end

