-- ==== Sys2Proof/Machine/Loops.lean ====
section
/-! DEFINITION. The arithmetic of the control engine: the PID law in binary32 (R166, R168, R169) and in fixed point (R176), the conversion of
gains, the budgets and limits of R170, and the ramp (R171, R172). -/

namespace Sys2Proof.Machine

open Sys2Proof

/-! ### Gains (R176) -/

/-- The fixed-point term nearest to the fraction `n / d`; none where it needs a shift outside 1 to 62. -/
def gainX (n : Int) (d : Nat) : Option GainX :=
  if n = 0 then some { m := 0, sh := 1 }
  else
    let a := n.natAbs
    let k : Int := (Nat.log2 a : Int) - Nat.log2 d
    let low := a * 2 ^ (-k).toNat < d * 2 ^ k.toNat
    let sh : Int := 30 - (if low then k - 1 else k)
    let m := (2 * (a * 2 ^ sh.toNat) + d * 2 ^ (-sh).toNat) / (2 * (d * 2 ^ (-sh).toNat))
    let (m, sh) := if m = 2 ^ 31 then (2 ^ 30, sh - 1) else (m, sh)
    if 1 ≤ sh ∧ sh ≤ 62 then some { m := if n < 0 then -(m : Int) else m, sh := sh.toNat } else none

/-- The fixed-point term of a scaled gain (R180): where it needs a shift above 62 it is kept at shift 62 (DESIGN CHOICE, log entry 119). -/
def gainXLow (n : Int) (d : Nat) : GainX := (gainX n d).getD { m := (2 * (n * 2 ^ 62) + d) / (2 * d), sh := 62 }

/-- CUR's gains scaled by OSC_GSCALE (R180), for N outputs a step. -/
def derateGains (g : LoopGains) (scale n : Nat) : LoopGains :=
  let (pn, pd) := F32.toFrac g.kp
  let (iN, iD) := F32.toFrac g.ki
  let (dn, dd) := F32.toFrac g.kd
  let (fn, fd) := F32.toFrac g.tf
  let sc (x : Word) : Word := F32.mul x (F32.ofFrac scale 256)
  { g with kp := sc g.kp, ki := sc g.ki, kd := sc g.kd, xp := gainXLow (pn * (scale * 2 ^ 30 : Nat)) (pd * 256 * 1000)
           xi := gainXLow (iN * (scale * n * 2 ^ 30 : Nat)) (iD * 78125 * 256 * 1000)
           xd := gainXLow (dn * (scale * fd * 78125 * 2 ^ 30 : Nat)) (dd * (fn.toNat * 78125 + n * fd) * 256 * 1000) }

/-- The gains of an instance as APPLY takes them (R176): the registers, and the fixed-point terms in units of `un` / `ud`, for N outputs a step; none
where a term does not convert. -/
def gainsOf (kp ki kd tf : Word) (n un ud : Nat) : Option LoopGains :=
  let (pn, pd) := F32.toFrac kp
  let (iN, iD) := F32.toFrac ki
  let (dn, dd) := F32.toFrac kd
  let (fn, fd) := F32.toFrac tf
  let den := (fn.toNat * 78125 + n * fd)
  match gainX (pn * (un : Nat)) (pd * ud), gainX (iN * (n * un : Nat)) (iD * 78125 * ud),
      gainX (dn * (fd * 78125 * un : Nat)) (dd * den * ud), gainX (fn * 78125) den with
  | some xp, some xi, some xd, some xf =>
    some { kp := kp, ki := ki, kd := kd, tf := tf, xp := xp, xi := xi, xd := xd, xf := xf }
  | _, _, _, _ => none

/-! ### The main path (R166, R168) -/

/-- A value a loop works on in one step: error, proportional and derivative terms. -/
structure Pid where
  e : Word
  p : Word
  d : Word
  deriving DecidableEq, Repr

/-- The terms of R166. `ts` is the step period. -/
def pidOf (g : LoopGains) (ts r y : Word) (l : Loop) : Pid :=
  let e := F32.sub r y
  let q := F32.add g.tf ts
  { e := e, p := F32.mul g.kp e
    d := F32.sub (F32.mul (F32.div g.tf q) l.d) (F32.mul (F32.div g.kd q) (F32.sub y l.y)) }

/-- `p + i + d`. -/
def pidV (x : Pid) (i : Word) : Word := F32.add (F32.add x.p i) x.d

/-- The integrator that makes the output of a step `s` (R168, R169). -/
def trackI (x : Pid) (s : Word) : Word := F32.sub (F32.sub s x.p) x.d

/-- A selected loop integrates (R168), but not where a later stage changed the value derived from its output (`v` against `out`) and the error drives it
further beyond. -/
def integrate (g : LoopGains) (ts : Word) (x : Pid) (i v out : Word) (up dn : Bool) : Word :=
  let inc := F32.mul (F32.mul g.ki ts) x.e
  let block := ((F32.lt out v || up) && F32.lt F32.zero inc) || ((F32.lt v out || dn) && F32.lt inc F32.zero)
  if block then i else F32.add i inc

/-- The inputs of a control step on the main path: A, V, W, the bounds, and what is in force. -/
structure StepIn where
  ts : Word
  i : Word
  v : Word
  p : Word
  kind : Nat
  ramp : Word
  target : Word
  dither : Word
  iHi : Word
  iLo : Word
  lim : Word × Word
  u0 : Word
  deriving DecidableEq, Repr

/-- The results of a control step on the main path. -/
structure StepOut where
  cur : Loop
  vol : Loop
  pwr : Loop
  iD : Word
  iRef : Word
  u : Word
  sel : Nat
  hi : Bool
  lo : Bool
  charge : Bool
  finite : Bool
  deriving DecidableEq, Repr

/-- The control step of the main path (R166 to R169). -/
def mainStep (c : Ctl) (x : StepIn) : StepOut :=
  let g := c.set
  let lo := x.lim.1
  let hi := x.lim.2
  let p := pidOf g.pwr x.ts (if x.kind = 2 then x.ramp else x.p) x.p c.pwr
  let pi := if c.presetU0 then F32.clamp (trackI p x.i) lo hi else if c.presetPrev then trackI p c.pwr.u else c.pwr.i
  let pv := pidV p pi
  let pu := F32.clamp pv lo hi
  let d0 := if x.kind = 2 then pu else x.ramp
  let iD := F32.add d0 x.dither
  let charge := if F32.lt F32.zero iD then true else if F32.lt iD F32.zero then false else c.charge
  let vt := if x.kind = 3 then x.target else F32.ofFrac (if charge then g.vMax else g.vMin) 1000
  let q := pidOf g.vol x.ts vt x.v c.vol
  let qi := if c.presetU0 then F32.clamp (trackI q x.i) lo hi else if c.presetPrev then trackI q c.vol.u else c.vol.i
  let qv := pidV q qi
  let qu := F32.clamp qv lo hi
  let iV := if charge then F32.min iD qu else F32.max iD qu
  let iRef := F32.clamp iV x.iLo x.iHi
  let hiB := F32.lt iRef iV
  let loB := F32.lt iV iRef
  let sel := if hiB then 2 else if loB then 3 else if iV = iD then 0 else 1
  let w := pidOf g.cur x.ts iRef x.i c.cur
  let wi := if c.presetU0 then trackI w x.u0 else if c.presetPrev then trackI w c.cur.u else c.cur.i
  let wv := pidV w wi
  let u := F32.clamp wv g.umin g.umax
  let up := F32.lt u wv
  let dn := F32.lt wv u
  let pi' := if x.kind = 2 then integrate g.pwr x.ts p pi iD iRef up dn else F32.clamp (trackI p iRef) lo hi
  let qi' := if sel = 1 then integrate g.vol x.ts q qi qu iRef up dn else F32.clamp (trackI q iRef) lo hi
  let wi' := integrate g.cur x.ts w wi wv u false false
  { cur := { i := wi', d := w.d, y := x.i, u := u }, vol := { i := qi', d := q.d, y := x.v, u := qu }
    pwr := { i := pi', d := p.d, y := x.p, u := pu }, iD := iD, iRef := iRef, u := u, sel := sel, hi := hiB, lo := loB, charge := charge
    finite := [pv, qv, iD, iV, iRef, wv, u, wi', qi', pi'].all F32.finite }

/-! ### The fixed-point path (R176) -/

/-- A saturating 32-bit value and whether a clip has set sat_step. -/
structure Sx where
  v : Int := 0
  s : Bool := false
  deriving DecidableEq, Repr

/-- `sat32` (R176). -/
def sat32 (x : Int) (s : Bool := false) : Sx :=
  if 2 ^ 31 - 1 < x then ⟨2 ^ 31 - 1, true⟩ else if x < -(2 ^ 31) then ⟨-(2 ^ 31), true⟩ else ⟨x, s⟩

/-- `add` (R176). -/
def addX (a b : Sx) : Sx := sat32 (a.v + b.v) (a.s || b.s)

/-- A difference, by the same rule. -/
def subX (a b : Sx) : Sx := sat32 (a.v - b.v) (a.s || b.s)

/-- `mul` by a gain term (R176). -/
def mulX (a : Sx) (g : GainX) : Sx := sat32 ((a.v * g.m + 2 ^ (g.sh - 1)) / 2 ^ g.sh) a.s

/-- Keep a value within bounds. -/
def clampX (x : Sx) (lo hi : Int) : Sx := ⟨if hi < x.v then hi else if x.v < lo then lo else x.v, x.s⟩

/-- A loop's terms in fixed point. -/
structure PidX where
  e : Sx
  p : Sx
  d : Sx
  deriving DecidableEq, Repr

/-- The terms of R166 in fixed point. -/
def pidXOf (g : LoopGains) (r y : Int) (l : LoopX) : PidX :=
  let e := subX ⟨r, false⟩ ⟨y, false⟩
  { e := e, p := mulX e g.xp, d := subX (mulX ⟨l.d, false⟩ g.xf) (mulX (subX ⟨y, false⟩ ⟨l.y, false⟩) g.xd) }

/-- `p + i + d` in fixed point. -/
def pidXV (x : PidX) (i : Sx) : Sx := addX (addX x.p i) x.d

/-- The integrator that makes the output `s` in fixed point. -/
def trackX (x : PidX) (s : Int) : Sx := subX (subX ⟨s, false⟩ x.p) x.d

/-- A selected loop integrates in fixed point (R168). -/
def integrateX (g : LoopGains) (x : PidX) (i v : Sx) (out : Int) (up dn : Bool) : Sx :=
  let inc := mulX x.e g.xi
  let block := ((decide (out < v.v) || up) && decide (0 < inc.v)) || ((decide (v.v < out) || dn) && decide (inc.v < 0))
  if block then ⟨i.v, i.s || inc.s⟩ else addX i inc

/-- The inputs of a control step on the fixed-point path: mA, mV, W, 2^-30. -/
structure StepInX where
  i : Int
  v : Int
  p : Int
  kind : Nat
  ramp : Int
  target : Int
  dither : Int
  iHi : Int
  iLo : Int
  lim : Int × Int
  uLim : Int × Int
  u0 : Int
  deriving DecidableEq, Repr

/-- The results of a control step on the fixed-point path. -/
structure StepOutX where
  cur : LoopX
  vol : LoopX
  pwr : LoopX
  iRef : Int
  u : Int
  sat : Bool
  deriving DecidableEq, Repr

/-- The control step of the fixed-point path (R166 to R169, R176). -/
def fixStep (c : Ctl) (x : StepInX) : StepOutX :=
  let g := c.set
  let lo := x.lim.1
  let hi := x.lim.2
  let p := pidXOf g.pwr (if x.kind = 2 then x.ramp else x.p) x.p c.pwrX
  let pi : Sx := if c.presetU0 then clampX (trackX p x.i) lo hi else if c.presetPrev then trackX p c.pwrX.u else ⟨c.pwrX.i, false⟩
  let pv := pidXV p pi
  let pu := clampX pv lo hi
  let iD := addX (if x.kind = 2 then pu else ⟨x.ramp, false⟩) ⟨x.dither, false⟩
  let charge := if 0 < iD.v then true else if iD.v < 0 then false else c.charge
  let vt := if x.kind = 3 then x.target else if charge then g.vMax else g.vMin
  let q := pidXOf g.vol vt x.v c.volX
  let qi : Sx := if c.presetU0 then clampX (trackX q x.i) lo hi else if c.presetPrev then trackX q c.volX.u else ⟨c.volX.i, false⟩
  let qv := pidXV q qi
  let qu := clampX qv lo hi
  let iV := if charge then min iD.v qu.v else max iD.v qu.v
  let iRef := if x.iHi < iV then x.iHi else if iV < x.iLo then x.iLo else iV
  let vSel := iRef = iV ∧ iV ≠ iD.v
  let w := pidXOf g.cur iRef x.i c.curX
  let wi : Sx := if c.presetU0 then trackX w x.u0 else if c.presetPrev then trackX w c.curX.u else ⟨c.curX.i, false⟩
  let wv := pidXV w wi
  let u := clampX wv x.uLim.1 x.uLim.2
  let up := decide (u.v < wv.v)
  let dn := decide (wv.v < u.v)
  let pi' := if x.kind = 2 then integrateX g.pwr p pi iD iRef up dn else clampX (trackX p iRef) lo hi
  let qi' := if vSel then integrateX g.vol q qi qu iRef up dn else clampX (trackX q iRef) lo hi
  let wi' := integrateX g.cur w wi wv u.v false false
  { cur := { i := wi'.v, d := w.d.v, y := x.i, u := u.v }, vol := { i := qi'.v, d := q.d.v, y := x.v, u := qu.v }
    pwr := { i := pi'.v, d := p.d.v, y := x.p, u := pu.v }, iRef := iRef, u := u.v
    sat := pu.s || iD.s || qu.s || u.s || pi'.s || qi'.s || wi'.s }

/-! ### From one path to the other (R177, R178) -/

/-- A fixed-point loop in the units of the main path. -/
def loopOfX (uDen yDen : Nat) (l : LoopX) : Loop :=
  { i := F32.ofFrac l.i uDen, d := F32.ofFrac l.d uDen, y := F32.ofFrac l.y yDen, u := F32.ofFrac l.u uDen }

/-- A main loop in the units of the fixed-point path. -/
def loopXOf (uMul yMul : Nat) (l : Loop) : LoopX :=
  let f (x : Word) (k : Nat) : Int := (sat32 (F32.toIntScaled x k)).v
  { i := f l.i uMul, d := f l.d uMul, y := f l.y yMul, u := f l.u uMul }

/-- The main path's states loaded from the fixed-point path (R178). -/
def loadMain (c : Ctl) : Ctl :=
  { c with cur := loopOfX (2 ^ 30) 1000 c.curX, vol := loopOfX 1000 1000 c.volX, pwr := loopOfX 1000 1 c.pwrX }

/-- The fixed-point path loaded from the main path's states (R177). -/
def loadFix (c : Ctl) : Ctl :=
  { c with curX := loopXOf (2 ^ 30) 1000 c.cur, volX := loopXOf 1000 1000 c.vol, pwrX := loopXOf 1000 1 c.pwr }

/-! ### Budgets and limits (R170) -/

/-- L60, L10 and L2 of a direction: `k` is 0 for discharge, 3 for charge. -/
def limitSet (plim : List Int) (k : Nat) : Int × Int × Int :=
  let p (i : Nat) : Int := (plim[k + i]?).getD 0
  (min (p 2) (min (p 1) (p 0)), min (p 1) (p 0), p 0)

/-- The budgets of a direction after a step, in units of 12.8 / 30 µs, and the limit in force, W: `p` is the power in the direction, µW. -/
def budgetStep (n : Nat) (l : Int × Int × Int) (p : Int) (b10 b2 : Nat) : Nat × Nat × Int :=
  let b10 := if l.1 * 1000000 < p then b10 - 30 * n else min 23437500 (b10 + 5 * n)
  let b2 := if l.2.1 * 1000000 < p then b2 - 30 * n else min 4687500 (b2 + 6 * n)
  (b10, b2, if b10 = 0 then l.1 else if b2 = 0 then l.2.1 else l.2.2)

/-! ### The ramp (R171, R172) -/

/-- The ramp state one step on, without dwell: `up` and `dn` are the largest changes of the step. -/
def rampMove (steps : Nat) (up dn t : Word) (c : Ctl) : Ctl :=
  let r := c.ramp
  let m := F32.abs r
  let pos := F32.lt F32.zero r
  let opposed := (pos && F32.lt t F32.zero) || (F32.lt r F32.zero && F32.lt F32.zero t)
  if opposed then
    if F32.le m dn then { c with ramp := F32.zero, dwelling := decide (steps ≠ 0), dwell := steps, dwellFrom := pos }
    else { c with ramp := if pos then F32.sub r dn else F32.add r dn }
  else
    let gap := F32.abs (F32.sub t r)
    let by_ := if F32.lt m (F32.abs t) then up else dn
    { c with ramp := if F32.le gap by_ then t else if F32.lt r t then F32.add r by_ else F32.sub r by_ }

/-- The ramp of a step with its dwell at zero (R172). -/
def rampStep (steps : Nat) (up dn t : Word) (c : Ctl) : Ctl :=
  if c.dwelling && decide (1 < c.dwell) then { c with dwell := c.dwell - 1 }
  else rampMove steps up dn t { c with dwelling := false, dwell := 0 }

end Sys2Proof.Machine
end

