-- ==== Sys2Proof/Machine/Mirror.lean ====
section
/-! DEFINITION. What a SHADOW takes from the controlling module's control-state frames (R231): the control engine's and FRM's states, the stop
sequence, and K_REQ (R206, R242). -/

namespace Sys2Proof.Machine

open Sys2Proof

namespace State

/-- PSET_STAT.PARTNER_MATCH (R221): the partner is alive and its digest equals this module's. -/
def psetMatch (s : State) : Bool := s.partnerAlive && s.saf.pset.isSome && s.pair.hb.psetDigest == s.psetDigest

/-- XTRIP_IN pulsing and XTRIP_OUT pulsing. -/
def xtripOk (s : State) : Bool := s.saf.xtripIn == 1 && !s.xtripHigh

/-- The units of 12.8 / 30 µs in a budget given in µs. -/
def budgetUnits (us : Nat) : Nat := us * 300 / 128

/-- A fixed-point loop as a mirrored frame gives it: its integrator, the other states from the main path. -/
def mirrorX (uMul yMul : Nat) (l : Loop) (i : Int) (old : LoopX) : LoopX := { loopXOf uMul yMul l with i := i, u := old.u }

/-- The control engine's part of a mirrored frame. -/
def loadCtl (c : Ctl) (f : CtlFrame) : Ctl :=
  let cur : Loop := { i := f.curI, d := f.curD, y := f.curY, u := c.cur.u }
  let vol : Loop := { i := f.volI, d := f.volD, y := f.volY, u := c.vol.u }
  let pwr : Loop := { i := f.pwrI, d := f.pwrD, y := f.pwrY, u := c.pwr.u }
  let from_ := if c.dwelling then c.dwellFrom else f.charge
  let set := { c.set with cur := if f.oscDerate then derateGains c.set.base c.set.oscScale c.set.n else c.set.base }
  { c with path := f.path, set := set, dwelling := f.zeroDwell, dwell := f.dwellLeft, dwellFrom := from_, derate := f.oscDerate, oscStop := f.oscStop
           srcB := f.srcB, now := { kind := f.kind, value := f.spValue, limit := f.spLimit, fromFrm := f.fromFrm }, charge := f.charge
           cur := cur, vol := vol, pwr := pwr, curX := mirrorX (2 ^ 30) 1000 cur f.fixCur c.curX
           volX := mirrorX 1000 1000 vol f.fixVol c.volX, pwrX := mirrorX 1000 1 pwr f.fixPwr c.pwrX, ramp := f.ramp
           b10Chg := budgetUnits f.b10Chg, b2Chg := budgetUnits f.b2Chg, b10Dis := budgetUnits f.b10Dis, b2Dis := budgetUnits f.b2Dis
           stopHold := f.stopping }

/-- FRM's part of a mirrored frame. -/
def loadFrm (f : Frm) (c : CtlFrame) : Frm :=
  let slot := if c.frmState = 1 ∨ c.frmState = 2 then some (handleSlot c.frmHandle) else f.slot
  let step := (slot.bind f.progs.find?).bind (·[c.frmStep]?)
  let prev := match step with
    | some p => if p.kind = 4 then c.spValue - p.iSet else f.prevI
    | none => f.prevI
  { f with slot := slot, state := c.frmState, step := c.frmStep, prevI := prev, loops := f.loops.put 0 c.frmStep c.frmLoop
           time := c.frmTime * 10000 / 128, charge := divRound (c.frmCharge * 10000) 128 }

/-- The dither of a mirrored frame: its remaining time; the amplitude is this module's own. -/
def loadDither (s : State) (f : CtlFrame) : State :=
  if !f.dither then { s with est := { s.est with dither := none } }
  else
    let left := min (msT 100) (f.ditherLeft * 3200 * max 1 s.ctl.set.n)
    let amp := match s.est.dither with
      | some (_, a) => a
      | none => s.ditherAmp
    { s with est := { s.est with dither := some (s.tim.odo - BitVec.ofNat 64 (msT 100 - left), amp) } }

/-- The stop sequence of a mirrored frame: its step follows from what the controlling module has done already, which has left RUN and HOLD in
step 2 and K_REQ in step 3 (DEDUCED, log entry 121: the frame has no field for the step). The target is SERVICE or else READY, the two of R225. -/
def loadStop (s : State) (f : CtlFrame) : State :=
  if !f.stopping then { s with pair := { s.pair with stop := none } }
  else
    let step := if f.state = 1 ∨ f.state = 3 then 1 else if f.kReq ≠ 0 then 2 else 3
    let q : StopSeq := { target := if f.stopTarget % 8 = 6 then .service else .ready, step := step, since := s.tim.odo - BitVec.ofNat 64 (msT f.stopTimer) }
    { s with pair := { s.pair with stop := some q } }

/-- The own tracked command against the mirrored REF of the same step (R239). -/
def noteDiff (s : State) (f : CtlFrame) : State :=
  if s.rd Reg.CTL_STEPS ≠ f.steps then s
  else { s with ctl := { s.ctl with diffMax := max s.ctl.diffMax (s.ctl.cmd - f.ref).natAbs } }

/-- A SHADOW joins its path to a coil that the partner energises (R242). -/
def joinPath (s : State) (k : Nat) : State :=
  if s.pathOn k || s.heldOpen || s.swFault k then s
  else if s.saf.powerTest && s.psetMatch && s.xtripOk && !s.saf.latched && !s.saf.gLatch && s.partnerHolds k then s.closeCh k
  else s

/-- A SHADOW's channel that the controlling module newly requests: joined where the partner holds it, else closed under R206. -/
def shadowClose (was : Nat) (s : State) (k : Nat) : State :=
  if was.testBit k then s else if s.partnerHolds k then s.joinPath k else s.tryClose k

/-- A control-state frame is loaded (R184, R206, R231). -/
def loadFrame (s : State) (f : CtlFrame) : State :=
  let s := s.noteDiff f
  let begun := decide (f.frmState = 1) && (s.frm.state != 1 || s.frm.step != f.frmStep)
  let frm := if !s.clockRuns 0x12 then s.frm else if begun then { loadFrm s.frm f with startOdo := s.tim.odo, startCycle := s.gau.cyc, graded := [], vcMet := false, iMet := false } else loadFrm s.frm f
  let s := { s with ctl := loadCtl s.ctl f, frm := frm, pair := { s.pair with hb := { s.pair.hb with tko := f.tko } } }
  let s := ((s.wr Reg.CTL_STEPS f.steps).setReg Reg.FRM_FRM_RUN f.frmHandle).loadDither f
  let s := s.loadStop f
  let was := s.fld Reg.SAF_K_REQ 0 6
  if was = f.kReq % 64 then s else s.setKReq f.kReq (shadowClose was)

/-- A control-state frame that has waited for this module's step of the same STEPS is loaded at its end (R231). -/
def takeMirror (s : State) : State :=
  match s.ctl.mirror with
  | some f => if s.isShadow && s.rd Reg.CTL_STEPS == f.steps then { s with ctl := { s.ctl with mirror := none } }.loadFrame f else s
  | none => s

/-- A control-state frame that has come (R184, R231): one of the step that this module has done is loaded, one of its next step waits for it. A
handover takes the frame as it comes (R237), and a module whose count of steps is another's takes that over with the frame (DEDUCED, log entry
121). -/
def placeFrame (s : State) (f : CtlFrame) : State :=
  if !f.handover && f.steps == (s.rd Reg.CTL_STEPS + 1) % 2 ^ 32 then { s with ctl := { s.ctl with mirror := some f } }
  else { s with ctl := { s.ctl with mirror := none } }.loadFrame f

end State

end Sys2Proof.Machine
end

