-- ==== Sys2Proof/Machine/Waymark.lean ====
section
/-! DEFINITION. Waymark entries (R39 to R43) and the GPIO pins they pulse (R375): the shared operations on entries, which Dispatch also uses, and
the commands. The report a firing sends is in Machine/Dsp.lean. -/

namespace Sys2Proof.Machine

/-- WM_CTRL.PERIOD. -/
def Waymark.period (w : Waymark) : Nat := w.ctrl.toNat % 2 ^ 16

/-- An ACTION bit of WM_CTRL. -/
def Waymark.action (w : Waymark) (bit : Nat) : Bool := w.ctrl.toNat.testBit bit

/-- The bits of WM_CTRL that exist. -/
def wmCtrlMask : Word := 0x010FFFFF#32

namespace State

/-- Create an entry (R39), or say why not: the slot it takes, with a new generation. The spec does not say which free slot a CREATE takes; the model
takes the lowest (DESIGN CHOICE, log entry 110). -/
def wmCreate (s : State) (cycle angle : Nat) (ctrl : Word) : Except ErrCode (State × Nat) :=
  let target : BitVec 64 := BitVec.ofNat 64 (cycle * 2 ^ 32 + angle)
  let d := sdiff 64 target.toNat s.gridPos.toNat
  match s.gau.wms.firstFree HClass.waymark.limit with
  | none => .error .waymarkFull
  | some i =>
    if 2 ^ 62 < d then .error .waymarkRange
    else if d ≤ 0 ∧ !ctrl.toNat.testBit 24 then .error .waymarkPast
    else
      let s := s.newGen .waymark i
      .ok ({ s with gau := { s.gau with wms := s.gau.wms.set i { target := target, ctrl := ctrl, late := decide (d ≤ 0) } } }, i)

/-- Destroy an entry: its slot is freed. -/
def wmErase (s : State) (i : Nat) : State := { s with gau := { s.gau with wms := s.gau.wms.erase i } }

/-- A waymark handle names an entry (R11). -/
def wmHandle (s : State) (h : Word) : Except ErrCode Nat :=
  s.checkHandle .waymark (fun i => (s.gau.wms.find? i).isSome) h

/-- TIME cycles since an entry's target, at the present rate. -/
def wmAge (s : State) (w : Waymark) : Nat :=
  let d := sdiff 64 s.gridPos.toNat w.target.toNat
  if d < 0 then 0 else d.toNat * 2 ^ 32 / (max 1 s.gauRate)

/-- The order of the comparators (R40): by target, ties by INDEX. -/
def wmBefore (a b : Nat × Waymark) : Bool :=
  let d := sdiff 64 a.2.target.toNat b.2.target.toNat
  if d = 0 then decide (a.1 < b.1) else decide (d < 0)

/-- Insert by the order of the comparators. -/
def wmInsert (x : Nat × Waymark) : List (Nat × Waymark) → List (Nat × Waymark)
  | [] => [x]
  | y :: r => if wmBefore x y then x :: y :: r else y :: wmInsert x r

/-- The comparators that have fired and have not yet taken their next entry (R40: within 16 TIME cycles; the model takes 16, DESIGN CHOICE, log
entry 113). -/
def refilling (s : State) : List (BitVec 64) := s.gau.refill.filter fun t => decide (s.since t < 16)

/-- The entries on comparators 1 to 15 (R40). -/
def onComparators (s : State) : List (Nat × Waymark) :=
  (s.gau.wms.foldl (fun l e => wmInsert e l) []).take (15 - s.refilling.length)

/-- Entries whose target is reached. -/
def wmDue (s : State) (w : Waymark) : Bool := decide (0 ≤ sdiff 64 s.gridPos.toNat w.target.toNat)

/-- A GPIO firing (R375): the pin is driven to the inverse of its GPIO_OUT bit, a firing during a pulse restarts the width; on an input nothing is
driven and PULSE_LOST is set. -/
def gpioFire (s : State) : State :=
  let pin := s.fld Reg.GAU_WM_GPIO 0 3
  if !s.bit Reg.CLK_CLK_GATE_STAT_HI 0 then s
  else if !s.bit Reg.GPIO_GPIO_DIR pin then s.event 0x20 8
  else
    let level := (s.gpio.pulses.find? pin).elim (!s.bit Reg.GPIO_GPIO_OUT pin) (·.2)
    { s with gpio := { s.gpio with pulses := s.gpio.pulses.set pin (s.tim.odo, level) } }

/-- LOG of a firing (R43). -/
def wmLog (s : State) (f : WmFiring) : State :=
  if 64 ≤ s.gau.wmFifo.length then s.event 0x07 6
  else { s with gau := { s.gau with wmFifo := s.gau.wmFifo ++ [f] } }.event 0x07 4

/-- The target after a firing (R42): the first occurrence still ahead, and the occurrences left out, saturating at 255. -/
def wmNext (s : State) (w : Waymark) : Waymark :=
  let d := sdiff 64 s.gridPos.toNat w.target.toNat
  let step := w.period * 2 ^ 32
  let k := if d < 0 then 0 else d.toNat / step
  { w with target := w.target + BitVec.ofNat 64 ((k + 1) * step), late := false, skip := min 255 k }

/-- An entry fires (R41 to R43): LOG, CTL and GPIO are carried out here; the answer says whether it has the DSP action. -/
def fireEntry (s : State) (i : Nat) (w : Waymark) : State × Bool :=
  let late := w.late || decide (1 < s.wmAge w)
  let h := s.handleOf .waymark i
  let next := s.wmNext w
  let skip := if w.period = 0 then 0 else next.skip
  let s := { s with gau := { s.gau with refill := s.tim.odo :: s.refilling } }.eventIf late 0x07 5
  let s := if w.period = 0 then s.wmErase i else { s with gau := { s.gau with wms := s.gau.wms.set i { next with skip := 0 } } }
  let s := if w.action 16 then s.wmLog ⟨h, late, skip⟩ else s
  let s := if w.action 17 then { s with gau := { s.gau with ctlFired := s.gau.ctlFired ++ [h] } } else s
  let s := if w.action 19 then s.gpioFire else s
  (s, w.action 18)

/-- The entry that fires now: among those due on a comparator, the lowest INDEX (R40). -/
def wmNow (s : State) : Option (Nat × Waymark) :=
  (s.onComparators.filter fun e => s.wmDue e.2).foldl (fun b e => match b with
    | none => some e
    | some x => if e.1 < x.1 then some e else some x) none

/-- Entries due that stand on no comparator wait and will fire LATE (R41). -/
def wmMarkLate (s : State) : State :=
  let held := s.onComparators.map (·.1)
  let mark (e : Nat × Waymark) : Nat × Waymark :=
    if s.wmDue e.2 && !held.contains e.1 then (e.1, { e.2 with late := true }) else e
  { s with gau := { s.gau with wms := s.gau.wms.map mark } }

end State

/-- A write of CREATE to WM_CMD (R39). -/
def wmCmdCreate (s : State) (mid : Mid) : State :=
  match s.wmCreate (s.rd Reg.GAU_WM_TGT_CYCLE) (s.rd Reg.GAU_WM_TGT_ANGLE) (s.reg Reg.GAU_WM_CTRL &&& wmCtrlMask) with
  | .error e => s.err mid Reg.GAU_WM_CMD e
  | .ok (s, i) => s.setReg Reg.GAU_WM_HANDLE (s.handleOf .waymark i)

/-- WM_CREATE. -/
def execWmCreate (mid : Mid) (s : State) : Out := ok (s.busW mid Reg.GAU_WM_CMD fun s => wmCmdCreate s mid)

/-- A write of DESTROY to WM_CMD (R39). -/
def wmCmdDestroy (s : State) (mid : Mid) : State :=
  match s.wmHandle (s.reg Reg.GAU_WM_HANDLE) with
  | .error e => s.err mid Reg.GAU_WM_CMD e
  | .ok i => s.wmErase i

/-- A write of QUERY to WM_CMD (R39): the next target and WM_CTRL come back into the WM_ registers. -/
def wmCmdQuery (s : State) (mid : Mid) : State :=
  match s.wmHandle (s.reg Reg.GAU_WM_HANDLE) with
  | .error e => s.err mid Reg.GAU_WM_CMD e
  | .ok i =>
    let w := s.gau.wms.get {} i
    ((s.wr Reg.GAU_WM_TGT_CYCLE (w.target.toNat / 2 ^ 32)).wr Reg.GAU_WM_TGT_ANGLE w.target.toNat).setReg Reg.GAU_WM_CTRL w.ctrl

/-- WM_QUERY. -/
def execWmQuery (mid : Mid) (s : State) : Out := ok (s.busW mid Reg.GAU_WM_CMD fun s => wmCmdQuery s mid)

/-- A read of WM_FIFO (R43): the oldest firing is removed and its flags go to WM_FIFO_INFO; an empty FIFO reads 0. -/
def wmFifoRead (s : State) : State :=
  match s.gau.wmFifo with
  | [] => { s with busData := 0 }
  | f :: r =>
    { s with busData := f.handle, gau := { s.gau with wmFifo := r } }.wr Reg.GAU_WM_FIFO_INFO (b2n f.late + 256 * f.skip)

/-- WM_FIFO_READ (R43). -/
def execWmFifoRead (mid : Mid) (s : State) : Out := ok (s.busR mid Reg.GAU_WM_FIFO wmFifoRead)

/-! ### GPIO (R375) -/

/-- GPIO_EDGE (R375): an edge at the contact of an input pin is sampled; an enabled edge sets its EVT bit, and on the stamped pin captures the
odometer 20 ns to 50 ns later (log entry 4: which count of that span is a free value). -/
def execGpioEdge (pin : Fin 8) (rising : Bool) (s : State) : Out :=
  ok (if s.bit Reg.CLK_CLK_GATE_STAT_HI 0 && !s.bit Reg.GPIO_GPIO_DIR pin.val then
    let s := { s with gpio := { s.gpio with pins := (bitsOf s.gpio.pins 0 8 &&& (255 - 2 ^ pin.val)) + b2n rising * 2 ^ pin.val } }
    if s.bit Reg.GPIO_GPIO_EDGE (if rising then pin.val else 8 + pin.val) then
      let s := s.event 0x20 pin.val
      if s.fld Reg.GPIO_GPIO_STAMP_SEL 0 3 = pin.val then
        let t := s.tim.odo + 5 + BitVec.ofNat 64 (s.freeWord.toNat % 8)
        let s := s.drawFree
        (s.setReg Reg.GPIO_GPIO_STAMP_LO (t.setWidth 32)).setReg Reg.GPIO_GPIO_STAMP_HI ((t >>> 32).setWidth 32)
      else s
    else s
  else s)

/-- GPIO_PULSE_END (R375): the WM_GPIO width has passed since the last firing on the pin, which returns to GPIO_OUT. -/
def execGpioPulseEnd (pin : Fin 8) (s : State) : Out :=
  ok (match s.gpio.pulses.find? pin.val with
    | some (t, _) =>
      if usT (s.fld Reg.GAU_WM_GPIO 16 16) ≤ s.since t then
        { s with gpio := { s.gpio with pulses := s.gpio.pulses.erase pin.val } }
      else s
    | none => s)

end Sys2Proof.Machine
end

