-- ==== Sys2Proof/Machine/Control.lean ====
section
/-! DEFINITION. CTL: set-points (R172 to R175), the control step (R164 to R171, R177), fall-over and restore (R177, R178), the oscillation detector
(R179, R180), entry to RUN (R184), and the commands of CTL_CMD and SP_CMD. -/

namespace Sys2Proof.Machine

open Sys2Proof

namespace State

/-! ### Inputs (R165) -/

/-- The current channel CTL uses: PRIMARY, or with SRC_AUTO the other one where PRIMARY is BAD and the other is not; none where none is usable. -/
def ctlSource (s : State) : Option Bool :=
  let p := s.bit Reg.SNS_SNS_CFG 4
  if !s.snsBad (b2n p) then some p
  else if s.bit Reg.CTL_CTL_CFG 9 && !s.snsBad (1 - b2n p) then some (!p) else none

/-- i_meas, mA, with its stamp, and v_meas, mV; none is NOMEAS (R165). -/
def ctlMeas (s : State) : Option (Bool × BitVec 64 × Int × Int) :=
  match s.ctlSource with
  | none => none
  | some b =>
    match (s.snsCh (b2n b)).outs, s.sns.v.outs with
    | (t, i) :: _, (_, v) :: _ => if s.snsBad 2 then none else some (b, t, i, v)
    | _, _ => none

/-- p_meas in W, rounded to nearest (R176). -/
def powerX (i v : Int) : Int := (i * v + 500000) / 1000000

/-! ### Set-points (R172 to R175) -/

/-- The direction a set-point asks for: kind 3 takes it from its limit. -/
def spTarget (sp : SpNow) : Int := if sp.kind = 3 then sp.limit else sp.value

/-- Put a set-point in force (R169, R172, R310): a change of kind presets the ramp, `jump` passes over it, a dwell ends at the old direction. -/
def putSp (s : State) (sp : SpNow) (jump : Bool) : State :=
  let c := s.ctl
  let pm : Word := match s.ctlMeas with
    | some (_, _, i, v) => F32.ofInt (powerX i v)
    | none => F32.zero
  let ramp := if c.now.kind = sp.kind then c.ramp else if sp.kind = 2 then pm else c.idNow
  let ramp := if jump then F32.ofInt (spTarget sp) else ramp
  let t := spTarget sp
  let old := c.dwelling && (if c.dwellFrom then decide (0 < t) else decide (t < 0))
  let c := { c with now := sp, ramp := ramp, dwelling := c.dwelling && !old && !jump, dwell := if old || jump then 0 else c.dwell }
  { s with ctl := c, dsp := { s.dsp with spNow := 0 } }.oscEmpty

/-- DSP no longer counts the set-point of a handle among those it staged. -/
def dspForget (s : State) (h : Word) : State :=
  { s with dsp := { s.dsp with staged := List.filter (fun (x : Nat × DspSp) => x.2.handle != h) s.dsp.staged } }

/-- What DSP keeps of a set-point whose waymark entry has fired (R306): it no longer stands as staged, and the permission of the dither follows the
one that is put in force. -/
def dspFired (s : State) (h : Word) (inForce : Bool) : State :=
  let mine := List.find? (fun (x : Nat × DspSp) => x.2.handle == h) s.dsp.staged
  let s := s.dspForget h
  if !inForce then s
  else
    match mine with
    | some (id, e) => { s with dsp := { s.dsp with spNow := id } }.setBit Reg.DSP_DSP_STAT 2 e.ditherOk
    | none => { s with dsp := { s.dsp with spNow := 0 } }.setBit Reg.DSP_DSP_STAT 2 false

/-- A firing with the CTL action (R174, R175). -/
def spFire (s : State) (h : Word) : State :=
  match s.ctl.staged.find? (·.handle == h) with
  | none => (s.bump Reg.CTL_SP_MISSING).event 0x10 3
  | some e =>
    let s := if e.keep then s else { s with ctl := { s.ctl with staged := s.ctl.staged.filter (·.handle != h) } }
    if s.pair.mode != .operate || s.ctl.oscStop || s.ctl.stopHold then ((s.bump Reg.CTL_SP_DROPPED).event 0x10 4).dspFired h false
    else
      let s := (s.putSp { kind := e.kind, value := e.value, limit := e.limit } false).endDither true
      ((s.wr Reg.CTL_SP_NOW_CYCLE s.gau.cyc).event 0x10 2).dspFired h true

/-- The firings that CTL has not taken yet, in their order (R174). -/
def takeFirings (s : State) : State :=
  let fired := s.gau.ctlFired
  fired.foldl spFire { s with gau := { s.gau with ctlFired := [] } }

/-- A set-point by IMMEDIATE or FRM is put in force at the step (R172, R173, R189). -/
def takeNext (s : State) : State :=
  match s.ctl.next with
  | none => s
  | some (sp, jump) => { s with ctl := { s.ctl with next := none } }.putSp sp jump

/-! ### One step of both paths -/

/-- The step period, s. -/
def stepTs (s : State) : Word := F32.ofFrac s.ctl.set.n 78125

/-- The budgets after a step with this power, and the limits L_DIS and L_CHG (R170). -/
def budgets (s : State) (uw : Int) : State × Int × Int :=
  let c := s.ctl
  let n := c.set.n
  let (a10, a2, ld) := budgetStep n (limitSet c.plim 0) (max 0 (-uw)) c.b10Dis c.b2Dis
  let (b10, b2, lc) := budgetStep n (limitSet c.plim 3) (max 0 uw) c.b10Chg c.b2Chg
  ({ s with ctl := { c with b10Dis := a10, b2Dis := a2, b10Chg := b10, b2Chg := b2 } }, ld, lc)

/-- The running dither, mA (R134): it is added in OPERATE only. -/
def ditherNow (s : State) : Int := match s.est.dither with
  | some (_, a) => if s.pair.mode == .operate then a else 0
  | none => 0

/-- The ramp of the step (R171, R172). -/
def rampNow (s : State) : State :=
  let c := s.ctl
  let g := c.set
  let (up, dn) := if c.now.kind = 2 then (g.upP, g.dnP) else (g.upI, g.dnI)
  let rate (r : Nat) : Word := F32.ofFrac (r * g.n * 128) 10000
  let steps := (g.dwell * 10000 + 128 * g.n - 1) / (128 * g.n)
  { s with ctl := rampStep steps (rate up) (rate dn) (F32.ofInt (spTarget c.now)) c }

/-- The ramp state within the clamp (R172). -/
def rampClamp (s : State) (iLo iHi : Word) (ld lc : Int) : State :=
  let c := s.ctl
  let r := if c.now.kind = 2 then F32.clamp c.ramp (F32.neg (F32.ofInt ld)) (F32.ofInt lc)
    else F32.clamp c.ramp (F32.mul iLo F32.thousand) (F32.mul iHi F32.thousand)
  { s with ctl := { c with ramp := r } }

/-- The inputs of the main path. -/
def mainIn (s : State) (i v ld lc : Int) : StepIn :=
  let c := s.ctl
  let g := c.set
  let vf := F32.ofFrac (max v g.vFloor) 1000
  let ia := F32.ofFrac i 1000
  let va := F32.ofFrac v 1000
  let u0 := F32.ofFrac (s.fldI Reg.CVL_CVL_U0 0 24) (2 ^ 23)
  let dis := F32.ofFrac (-g.iDis) 1000
  let chg := F32.ofFrac g.iChg 1000
  { ts := s.stepTs, i := ia, v := va, p := F32.mul ia va, kind := c.now.kind
    ramp := if c.now.kind = 2 then c.ramp else F32.div c.ramp F32.thousand, target := F32.ofFrac c.now.value 1000
    dither := F32.ofFrac s.ditherNow 1000, iHi := F32.min chg (F32.div (F32.ofInt lc) vf)
    iLo := F32.max dis (F32.neg (F32.div (F32.ofInt ld) vf)), lim := (dis, chg), u0 := u0 }

/-- The inputs of the fixed-point path. -/
def fixIn (s : State) (i v ld lc : Int) : StepInX :=
  let c := s.ctl
  let g := c.set
  let vf := max (max v g.vFloor) 1
  { i := i, v := v, p := powerX i v, kind := c.now.kind, ramp := (sat32 (F32.toInt c.ramp)).v, target := c.now.value, dither := s.ditherNow
    iHi := min g.iChg (lc * 1000000 / vf), iLo := max (-g.iDis) (-(ld * 1000000 / vf)), lim := (-g.iDis, g.iChg)
    uLim := (F32.toIntScaled g.umin (2 ^ 30), F32.toIntScaled g.umax (2 ^ 30)), u0 := s.fldI Reg.CVL_CVL_U0 0 24 * 128 }

/-- A command rounded to 24 bits from its main value (R177). -/
def cmdMain (u : Word) : Int := max (-(2 ^ 23)) (min (2 ^ 23 - 1) (F32.toIntScaled u (2 ^ 23)))

/-- A command rounded to 24 bits from its fixed-point value (R177). -/
def cmdFix (u : Int) : Int := max (-(2 ^ 23)) (min (2 ^ 23 - 1) ((u + 64) / 128))

/-- The live registers of a step. -/
def liveRegs (s : State) (i v ld lc : Int) (x : StepIn) (o : StepOut) : State :=
  let c := s.ctl
  let ms (b : Nat) : Nat := b * 128 / 300000
  let s := ((s.wrI Reg.CTL_I_REF (F32.toIntScaled o.iRef 1000)).wrI Reg.CTL_I_MEAS i).wrI Reg.CTL_V_MEAS v
  let s := (s.wrI Reg.CTL_P_MEAS (powerX i v)).wrI Reg.CTL_I_HI (F32.toIntScaled x.iHi 1000)
  let s := ((s.wrI Reg.CTL_I_LO (F32.toIntScaled x.iLo 1000)).wrI Reg.CTL_L_CHG lc).wrI Reg.CTL_L_DIS ld
  (s.wr Reg.CTL_BUD_CHG (ms c.b2Chg + 2 ^ 16 * ms c.b10Chg)).wr Reg.CTL_BUD_DIS (ms c.b2Dis + 2 ^ 16 * ms c.b10Dis)

/-- The oscillation detector of a step (R179): `e` is e_CUR in A. -/
def oscWatch (s : State) (e : Word) : State :=
  let c := s.ctl
  let half := F32.ofFrac c.set.oscAmp 2000
  let side := if F32.lt half e then 1 else if F32.lt e (F32.neg half) then 2 else c.side
  let win := msT (10 * c.set.oscWin)
  let live := !isAfter c.oscFrom s.tim.odo
  let crossed := live && c.side != 0 && side != c.side
  let cross := (if crossed then s.tim.odo :: c.cross else c.cross).filter fun t => decide (s.since t ≤ win)
  { s with ctl := { c with side := side, cross := cross, oscDue := if crossed && decide (c.set.oscCnt ≤ cross.length) then some cross.length else c.oscDue } }

/-- The control-state frame (R231). -/
def ctlFrame (s : State) : CtlFrame :=
  let c := s.ctl
  let f := s.frm
  let us (b : Nat) : Nat := b * 128 / 300
  let left := match s.est.dither with
    | some (t, _) => (msT 100 - min (msT 100) (s.since t)) / (3200 * max 1 c.set.n)
    | none => 0
  { rx := { seq := s.pair.cswSeq.get 0 (cswKey 1 0) }, handover := s.pair.offer.isSome, stopping := s.pair.stop.isSome, stopTarget := (s.pair.stop.map (·.target.code)).getD 0
    leaving := s.pair.leaving, state := c.state, path := c.path, zeroDwell := c.dwelling, dither := s.est.dither.isSome, oscDerate := c.derate
    oscStop := c.oscStop, srcB := c.srcB, kind := c.now.kind, fromFrm := c.now.fromFrm, charge := c.charge, kReq := s.fld Reg.SAF_K_REQ 0 6
    steps := s.rd Reg.CTL_STEPS, odo := c.sample.setWidth 32, cycle := s.gau.cyc % 2 ^ 32, curI := c.cur.i, curD := c.cur.d, curY := c.cur.y
    volI := c.vol.i, volD := c.vol.d, volY := c.vol.y, pwrI := c.pwr.i, pwrD := c.pwr.d, pwrY := c.pwr.y, ramp := c.ramp
    b10Chg := us c.b10Chg, b2Chg := us c.b2Chg, b10Dis := us c.b10Dis, b2Dis := us c.b2Dis, dwellLeft := c.dwell, ditherLeft := left
    spValue := c.now.value, spLimit := c.now.limit, frmHandle := s.reg Reg.FRM_FRM_RUN, frmStep := f.step, frmState := f.state
    frmLoop := f.loops.get 0 f.step, frmTime := stepMs f.time, frmCharge := divRound (f.charge * 128) 10000, fixCur := c.curX.i, fixVol := c.volX.i, fixPwr := c.pwrX.i
    ref := c.frame.ref, tko := s.pair.tko
    stopTimer := match s.pair.stop with
      | some x => s.since x.since / msT 1
      | none => 0 }

/-- The control-state frame goes to the partner at the end of a step (R231). -/
def sendCtl (s : State) : State :=
  if s.inControl && s.cswUp then { s with pair := { s.pair with ctlSent := s.ctlFrame } }.cswSend 1 0 [ctlPayload s.ctlFrame] else s

/-- FRM in a control step: step time, charge and energy (R189). A sample instant passed since the last step fixes its charge (R191). -/
def frmTick (s : State) (m : Option (Int × Int)) : State :=
  if s.frm.state ≠ 1 then s
  else
    let n := s.ctl.set.n
    let f := { s.frm with time := s.frm.time + n }
    let f := match m with
      | some (i, v) => { f with charge := f.charge + i * n, energy := f.energy + i * v * n }
      | none => f
    let f := match s.swp.smps.find? fun (_, t) => atOrBefore t s.tim.odo with
      | some (k, _) => if k = f.smpCycle then f else { f with smpCycle := k, smpQ := f.charge }
      | none => f
    { s with frm := f }

/-! ### Outcomes (R177) -/

/-- The step sends the last reference (R165, R177). -/
def holdRef (s : State) : State :=
  let s := { s with ctl := { s.ctl with sel := 4 } }
  s.sendRef s.ctl.frame.ref

/-- Send the command of the step (R183, R184). -/
def sendCmd (s : State) (u : Int) : State := ({ s with ctl := { s.ctl with cmd := u } }).sendRef u

/-- A step that cannot be trusted (R177): HOLD. -/
def enterHold (s : State) : State :=
  let s := if s.ctl.state = 1 then { s with ctl := { s.ctl with state := 3, holdAt := s.tim.odo } } else s
  (s.event 0x10 15).holdRef

/-- The comparison of the two commands and what the step sends (R177, R178). -/
def compare (s : State) (m : StepOut) (x : StepOutX) : State :=
  let c := s.ctl
  let cm := cmdMain m.u
  let cf := cmdFix x.u
  let dis := decide (c.set.disTh < (cm - cf).natAbs)
  let s := if x.sat then { s with ctl := { c with sat := true } } else s
  if x.sat then
    let s := { s with ctl := { s.ctl with disRun := 0, sinceDis := min 64 (c.sinceDis + 1) } }
    if m.finite then ({ s with ctl := loadFix s.ctl }.event 0x10 6).sendCmd cm else s.enterHold
  else if c.path then
    let s := { s with ctl := { loadMain s.ctl with disRun := 0, sinceDis := if dis && m.finite then 0 else min 64 (c.sinceDis + 1) } }
    let s := if dis && m.finite then (s.bump Reg.CTL_DIS_CNT).event 0x10 7 else s
    s.sendCmd cf
  else if !m.finite then { s with ctl := { s.ctl with fallDue := true, disRun := 0 } }
  else if dis then
    let s := { s with ctl := { s.ctl with disRun := c.disRun + 1, sinceDis := 0 } }
    let s := (s.bump Reg.CTL_DIS_CNT).event 0x10 7
    if c.set.disN ≤ c.disRun + 1 then { s with ctl := { s.ctl with fallDue := true, disRun := 0 } } else s.sendCmd cm
  else { s with ctl := { s.ctl with disRun := 0, sinceDis := min 64 (c.sinceDis + 1) } }.sendCmd cm

/-- The frame of a fall-over (R177): the fixed-point path takes over; in a pair it is a cause for resignation. -/
def fallOver (s : State) : State :=
  if !s.ctl.fallDue then s
  else
    let s := { s with ctl := { loadMain s.ctl with fallDue := false, path := true, fellOver := true } }.oscEmpty
    let s := (s.bump Reg.CTL_FALL_CNT).event 0x10 5
    (s.sendCmd (cmdFix s.ctl.curX.u)).resignFor 3

/-- A detection of the oscillation detector is acted on (R179, R180); it stands from the step that made it, whatever has emptied the window since. -/
def oscDetect (s : State) : State :=
  match s.ctl.oscDue with
  | none => s
  | some n =>
    let c := s.ctl
    let s := (s.wr Reg.CTL_OSC_FREQ (n * 50000 / (max 1 c.set.oscWin))).bump Reg.CTL_OSC_COUNT
    let again := match c.oscAt with
      | some t => decide (s.since t ≤ secT 60)
      | none => false
    let s := { s with ctl := { s.ctl with oscDue := none, oscAt := some s.tim.odo } }.event 0x10 8
    let s :=
      if c.set.oscAct = 1 && !again then
        { s with ctl := { s.ctl with set := { c.set with cur := derateGains c.set.base c.set.oscScale c.set.n }, derate := true, presetPrev := true } }
      else if c.set.oscAct = 0 then s
      else ({ s with ctl := { s.ctl with oscStop := true } }.putSp { kind := 1, value := 0, limit := 0 } false).event 0x10 9
    s.oscEmpty

/-- A RESTORE_MAIN that has been accepted takes effect: the main path's states equal the fixed path's already (R178). -/
def switchBack (s : State) : State :=
  if s.ctl.restore then { s with ctl := { s.ctl with path := false, fellOver := false, restore := false } } else s

/-- What an earlier step has left to do, and what waits for this one. -/
def beforeStep (s : State) : State := (s.oscDetect.fallOver.switchBack.takeFirings).takeNext

/-- The loops of a step in RUN, TRACK or HOLD (R167 to R180). -/
def runLoops (s : State) (i v : Int) : State :=
  let (s, ld, lc) := s.budgets (i * v)
  let s := s.rampNow
  let x := s.mainIn i v ld lc
  let m := mainStep s.ctl x
  let f := fixStep s.ctl (s.fixIn i v ld lc)
  let s := { s with ctl := { s.ctl with cur := m.cur, vol := m.vol, pwr := m.pwr, curX := f.cur, volX := f.vol, pwrX := f.pwr, sel := m.sel,
                                        charge := m.charge, idNow := F32.mul m.iD F32.thousand, presetU0 := false, presetPrev := false } }
  let s := ((s.rampClamp x.iLo x.iHi ld lc).eventIf m.hi 0x10 12).eventIf m.lo 0x10 13
  let s := (s.liveRegs i v ld lc x m).compare m f
  s.oscWatch (F32.sub (if m.finite then m.iRef else F32.ofFrac f.iRef 1000) x.i)

/-- The measurement inputs of a step (R165): SRC_B, NOMEAS and their events. -/
def stepInputs (s : State) : State :=
  match s.ctlMeas with
  | none =>
    if s.ctl.noMeas then s
    else { s with ctl := { s.ctl with noMeas := true, noMeasAt := s.tim.odo } }.event 0x10 11
  | some (b, t, _, _) =>
    let s := s.eventIf (b != s.ctl.srcB && b != s.bit Reg.SNS_SNS_CFG 4) 0x10 14
    { s with ctl := { s.ctl with noMeas := false, srcB := b, sample := t } }

/-- RUN becomes HOLD where a step has no command of its own (R165). -/
def runToHold (s : State) : State :=
  if s.ctl.state == 1 then { s with ctl := { s.ctl with state := 3, holdAt := s.tim.odo } } else s

/-- HOLD becomes RUN where a step can run again. -/
def holdToRun (s : State) : State := if s.ctl.state == 3 then { s with ctl := { s.ctl with state := 1 } } else s

/-- HOLD that a step could not end has held since it began. -/
def keepHold (was : State) (s : State) : State :=
  if was.ctl.state == 3 && s.ctl.state == 3 then { s with ctl := { s.ctl with holdAt := was.ctl.holdAt } } else s

/-- A step in RUN, TRACK or HOLD with its measurement. -/
def liveStep (s : State) (m : Option (Int × Int)) : State :=
  match m with
  | none => s.runToHold.holdRef
  | some (i, v) => if s.ctl.state == 3 && !s.mayRun then s.holdRef else keepHold s (s.holdToRun.runLoops i v)

/-- The frame of a step in STOPPED (R184). -/
def stoppedStep (s : State) : State := ({ s with ctl := { s.ctl with sel := 4 } }).sendCvl true false 0

/-- Count the step and take its inputs. -/
def beginStep (s : State) : State := ({ s with ctl := { s.ctl with outs := 0 } }.bump Reg.CTL_STEPS).stepInputs

/-- A control step (R164 to R184). -/
def controlStep (s : State) : State :=
  let s := s.beforeStep.beginStep
  let m := s.ctlMeas.map fun x => (x.2.2.1, x.2.2.2)
  let s := if s.ctl.state == 0 then s.stoppedStep else (s.frmTick m).liveStep m
  s.takeMirror.sendCtl

/-- CTL_LAT and LAT_MIN after a step's delay in ns (R181). -/
def latency (s : State) (lat : Nat) : State :=
  let l := min 65535 lat
  let s := s.wr Reg.CTL_CTL_LAT (l + 2 ^ 16 * max l (s.fld Reg.CTL_CTL_LAT 16 16))
  (s.wr Reg.CTL_LAT_MIN (min l (s.rd Reg.CTL_LAT_MIN))).eventIf (decide (s.rd Reg.CTL_LAT_TH < lat)) 0x10 10

/-- Entry to RUN (R169, R184). -/
def enterRun (s : State) (i v : Int) : State :=
  let c := s.ctl
  let ia := F32.ofFrac i 1000
  let va := F32.ofFrac v 1000
  let p := F32.mul ia va
  let px := powerX i v
  let ramp := if c.now.kind = 2 then p else F32.ofInt i
  let c := { c with state := 1, stopping := false, cur := { c.cur with d := 0, y := ia }, vol := { c.vol with d := 0, y := va }
                    pwr := { c.pwr with d := 0, y := p }, curX := { c.curX with d := 0, y := i }, volX := { c.volX with d := 0, y := v }
                    pwrX := { c.pwrX with d := 0, y := px }, ramp := ramp, dwelling := false, dwell := 0, presetU0 := true, presetPrev := false
                    b10Chg := 23437500, b2Chg := 4687500, b10Dis := 23437500, b2Dis := 4687500, disRun := 0 }
  ({ s with ctl := c }.oscEmpty).event 0x10 0

/-! ### CTL_CMD -/

/-- The CtlSet of the registers, if APPLY accepts it (R164, R176, "CTL registers"). -/
def applySet (s : State) : Option CtlSet :=
  let r := s.reg
  let n := s.fld Reg.CTL_CTL_CFG 0 7
  let scale := s.fld Reg.CTL_OSC_CFG 24 8
  let f32s := [Reg.CTL_CUR_KP, Reg.CTL_CUR_KI, Reg.CTL_CUR_KD, Reg.CTL_CUR_TF, Reg.CTL_CUR_UMAX, Reg.CTL_CUR_UMIN, Reg.CTL_VOL_KP, Reg.CTL_VOL_KI,
    Reg.CTL_VOL_KD, Reg.CTL_VOL_TF, Reg.CTL_PWR_KP, Reg.CTL_PWR_KI, Reg.CTL_PWR_KD, Reg.CTL_PWR_TF]
  let tfBad := [Reg.CTL_CUR_TF, Reg.CTL_VOL_TF, Reg.CTL_PWR_TF].any fun a => F32.lt (r a) F32.zero
  if !(f32s.all fun a => F32.finite (r a)) || tfBad || decide (s.rdI Reg.CTL_V_STR_MAX ≤ s.rdI Reg.CTL_V_STR_MIN) then none
  else
    match gainsOf (r Reg.CTL_CUR_KP) (r Reg.CTL_CUR_KI) (r Reg.CTL_CUR_KD) (r Reg.CTL_CUR_TF) n (2 ^ 30) 1000,
        gainsOf (r Reg.CTL_VOL_KP) (r Reg.CTL_VOL_KI) (r Reg.CTL_VOL_KD) (r Reg.CTL_VOL_TF) n 1 1,
        gainsOf (r Reg.CTL_PWR_KP) (r Reg.CTL_PWR_KI) (r Reg.CTL_PWR_KD) (r Reg.CTL_PWR_TF) n 1000 1 with
    | some cur, some vol, some pwr =>
      some { n := n, cur := if s.ctl.derate then derateGains cur scale n else cur, base := cur, vol := vol, pwr := pwr, umax := r Reg.CTL_CUR_UMAX, umin := r Reg.CTL_CUR_UMIN
             iChg := s.rdI Reg.CTL_I_LIM_CHG, iDis := s.rdI Reg.CTL_I_LIM_DIS, vMax := s.rdI Reg.CTL_V_STR_MAX, vMin := s.rdI Reg.CTL_V_STR_MIN
             vFloor := s.rdI Reg.CTL_V_FLOOR, upI := s.fld Reg.CTL_RAMP_I 0 16, dnI := s.fld Reg.CTL_RAMP_I 16 16
             upP := s.fld Reg.CTL_RAMP_P 0 16, dnP := s.fld Reg.CTL_RAMP_P 16 16, dwell := s.fld Reg.CTL_CTL_HOLD 0 16
             nocur := s.fld Reg.CTL_CTL_HOLD 16 16, disTh := s.fld Reg.CTL_DIS_CFG 0 24, disN := s.fld Reg.CTL_DIS_CFG 24 8
             oscCnt := s.fld Reg.CTL_OSC_CFG 0 8, oscWin := s.fld Reg.CTL_OSC_CFG 8 8, oscAct := s.fld Reg.CTL_OSC_CFG 16 2
             oscScale := scale, oscAmp := s.rd Reg.CTL_OSC_AMP }
    | _, _, _ => none

/-- APPLY (R164, R169, R176). -/
def applyOp (s : State) (mid : Mid) : State :=
  match s.applySet with
  | none => s.err mid Reg.CTL_CTL_CMD .range
  | some g => { s with ctl := { s.ctl with set := g, applied := true, presetPrev := true } }.oscEmpty

/-- RESTORE_MAIN (R178): accepted, it switches back at the next step. -/
def restoreMainOp (s : State) (mid : Mid) : State :=
  if s.ctl.sinceDis < 64 then s.err mid Reg.CTL_CTL_CMD .state
  else { s with ctl := { s.ctl with restore := true } }

/-- CLEAR_OSC (R180): the gains that APPLY took come back with the preset of R169. -/
def clearOscOp (s : State) : State :=
  let c := s.ctl
  let cur := if c.derate then c.set.base else c.set.cur
  { s with ctl := { c with oscStop := false, derate := false, set := { c.set with cur := cur }, presetPrev := c.presetPrev || c.derate } }

/-- CLEAR_SAT (R176). -/
def clearSatOp (s : State) : State := { s with ctl := { s.ctl with sat := false } }

/-- CLEAR_LAT (R181). -/
def clearLatOp (s : State) : State := (s.setFld Reg.CTL_CTL_LAT 16 16 0).wr Reg.CTL_LAT_MIN 0xFFFF

/-! ### SP_CMD (R173) -/

/-- The kind and limits of a set-point (R173), against the V_STR limits in force (R164). -/
def spRange (s : State) (kind : Nat) (value limit : Int) : Bool :=
  decide (1 ≤ kind) && decide (kind ≤ 3)
    && !(kind == 3 && (decide (limit = 0) || decide (value < s.ctl.set.vMin) || decide (s.ctl.set.vMax < value)))

/-- Place a set-point in the table (R173), or say why not. -/
def stageSp (s : State) (e : Staged) : Except ErrCode State :=
  let held := s.ctl.staged.any (·.handle == e.handle)
  if !s.spRange e.kind e.value e.limit then .error .range
  else if !held && decide (16 ≤ s.ctl.staged.length) then .error .spFull
  else .ok { s with ctl := { s.ctl with staged := (s.ctl.staged.filter (·.handle != e.handle)) ++ [e] } }

/-- The set-point as written to SP_KIND, SP_VALUE, SP_LIMIT and SP_HANDLE. -/
def spWritten (s : State) : Staged :=
  { handle := s.reg Reg.CTL_SP_HANDLE, kind := s.fld Reg.CTL_SP_KIND 0 2, value := s.rdI Reg.CTL_SP_VALUE, limit := s.rdI Reg.CTL_SP_LIMIT
    keep := s.bit Reg.CTL_SP_KIND 8 }

/-- STAGE. -/
def stageOp (s : State) (mid : Mid) : State :=
  match s.wmHandle (s.reg Reg.CTL_SP_HANDLE) with
  | .error e => s.err mid Reg.CTL_SP_CMD e
  | .ok _ =>
    match s.stageSp s.spWritten with
    | .error e => s.err mid Reg.CTL_SP_CMD e
    | .ok s => s.dspForget (s.reg Reg.CTL_SP_HANDLE)

/-- WITHDRAW. -/
def withdrawOp (s : State) (mid : Mid) : State :=
  match s.wmHandle (s.reg Reg.CTL_SP_HANDLE) with
  | .error e => s.err mid Reg.CTL_SP_CMD e
  | .ok _ =>
    let h := s.reg Reg.CTL_SP_HANDLE
    { s with ctl := { s.ctl with staged := s.ctl.staged.filter (·.handle != h) } }.dspForget h

/-- WITHDRAW_ALL. -/
def withdrawAllOp (s : State) : State := { s with ctl := { s.ctl with staged := [] }, dsp := { s.dsp with staged := [] } }

/-- IMMEDIATE. -/
def immediateOp (s : State) (mid : Mid) : State :=
  let e := s.spWritten
  if s.pair.mode ≠ .commission ∧ s.pair.mode ≠ .service then s.err mid Reg.CTL_SP_CMD .mode
  else if !s.spRange e.kind e.value e.limit then s.err mid Reg.CTL_SP_CMD .range
  else { s with ctl := { s.ctl with next := some ({ kind := e.kind, value := e.value, limit := e.limit }, false) } }

end State

/-- CONTROL_STEP (R164 to R184): N current outputs have come since the last step, or no current can. -/
def execControlStep (lat : Nat) (s : State) : Out :=
  ok (if s.ctl.set.n ≤ s.ctl.outs || s.ctlSource.isNone then s.controlStep.latency lat else s)

/-- FALLOVER (R177). -/
def execFallover (s : State) : Out := ok s.fallOver

/-- OSC_DETECT (R179, R180). -/
def execOscDetect (s : State) : Out := ok s.oscDetect

/-- NOMEAS_TIMEOUT (R165, R185). -/
def execNomeasTimeout (s : State) : Out :=
  ok (if s.ctl.noMeas && s.ctl.state != 0 && decide (msT s.ctl.set.nocur ≤ s.since s.ctl.noMeasAt) then s.stopFrames else s)

/-- HOLD_TIMEOUT (R177, R185). -/
def execHoldTimeout (s : State) : Out :=
  ok (if s.ctl.state == 3 && decide (msT s.ctl.set.nocur ≤ s.since s.ctl.holdAt) then s.stopFrames else s)

/-- ZERO_DWELL_END (R172). -/
def execZeroDwellEnd (s : State) : Out :=
  ok (if s.ctl.dwelling && decide (s.ctl.dwell ≤ 1) then { s with ctl := { s.ctl with dwelling := false, dwell := 0 } } else s)

/-- RUN_START (R184): every condition of RUN holds and there is a measurement. -/
def execRunStart (s : State) : Out :=
  ok (match s.ctlMeas with
    | some (_, _, i, v) => if s.ctl.state == 0 && s.mayRun then s.enterRun i v else s
    | none => s)

/-- APPLY (R176). -/
def execApply (mid : Mid) (s : State) : Out := ok (s.busW mid Reg.CTL_CTL_CMD fun s => s.applyOp mid)

/-- RESTORE_MAIN (R178). -/
def execRestoreMain (mid : Mid) (s : State) : Out := ok (s.busW mid Reg.CTL_CTL_CMD fun s => s.restoreMainOp mid)

/-- CLEAR_OSC (R180). -/
def execClearOsc (mid : Mid) (s : State) : Out := ok (s.busW mid Reg.CTL_CTL_CMD State.clearOscOp)

/-- CLEAR_SAT (R176). -/
def execClearSat (mid : Mid) (s : State) : Out := ok (s.busW mid Reg.CTL_CTL_CMD State.clearSatOp)

/-- CLEAR_LAT (R181). -/
def execClearLat (mid : Mid) (s : State) : Out := ok (s.busW mid Reg.CTL_CTL_CMD State.clearLatOp)

/-- STAGE (R173). -/
def execStage (mid : Mid) (s : State) : Out := ok (s.busW mid Reg.CTL_SP_CMD fun s => s.stageOp mid)

/-- WITHDRAW (R173). -/
def execWithdraw (mid : Mid) (s : State) : Out := ok (s.busW mid Reg.CTL_SP_CMD fun s => s.withdrawOp mid)

/-- IMMEDIATE (R173). -/
def execImmediate (mid : Mid) (s : State) : Out := ok (s.busW mid Reg.CTL_SP_CMD fun s => s.immediateOp mid)

/-- WITHDRAW_ALL (R173). -/
def execWithdrawAll (mid : Mid) (s : State) : Out := ok (s.busW mid Reg.CTL_SP_CMD State.withdrawAllOp)

/-- SP_ACTIVATE (R174, R175): the firings that CTL has not taken yet. -/
def execSpActivate (s : State) : Out := ok s.takeFirings

end Sys2Proof.Machine
end

