-- ==== Sys2Proof/Machine/Ethernet.lean ====
section
/-! DEFINITION. The three-port switch, its timestamps and transparent clock, the timed launches and the PTP instances' registers (R286 to R300).
Frames are byte lists without preamble and FCS. Ports are 0 for P0, 1 for P1, 2 for P2. -/

namespace Sys2Proof.Machine

/-! ### What a frame says -/

/-- A byte of a frame. -/
def byteAt (f : List Nat) (i : Nat) : Nat := f.getD i 0

/-- The frame carries a VLAN tag. -/
def ethTagged (f : List Nat) : Bool := beAt f 12 2 == 0x8100

/-- Offset of the first byte after the EtherType. -/
def ethL3 (f : List Nat) : Nat := if ethTagged f then 18 else 14

/-- EtherType, past one VLAN tag (R287). -/
def ethType (f : List Nat) : Nat := beAt f (ethL3 f - 2) 2

/-- Offset of the UDP header of an IPv4 frame. -/
def udp4 (f : List Nat) : Option Nat :=
  let o := ethL3 f
  if ethType f = 0x0800 ∧ byteAt f o / 16 = 4 ∧ byteAt f (o + 9) = 17 then some (o + 4 * (byteAt f o % 16)) else none

/-- Offset of the UDP header of an IPv6 frame. -/
def udp6 (f : List Nat) : Option Nat :=
  let o := ethL3 f
  if ethType f = 0x86DD ∧ byteAt f (o + 6) = 17 then some (o + 40) else none

/-- UDP destination port. -/
def udpPort (f : List Nat) : Option Nat :=
  match udp4 f, udp6 f with
  | some u, _ => some (beAt f (u + 2) 2)
  | none, some u => some (beAt f (u + 2) 2)
  | none, none => none

/-- Offset of the PTP header of a PTP frame (R287). -/
def ptpOff (f : List Nat) : Option Nat :=
  if ethType f = 0x88F7 then some (ethL3 f)
  else match udp4 f, udp6 f with
    | some u, _ | none, some u => if beAt f (u + 2) 2 = 319 ∨ beAt f (u + 2) 2 = 320 then some (u + 8) else none
    | none, none => none

/-- messageType of a PTP frame. -/
def ptpType (f : List Nat) : Option Nat := (ptpOff f).map fun o => byteAt f o % 16

/-- A PTP event message: Sync, Delay_Req, Pdelay_Req or Pdelay_Resp (R290). -/
def ptpEvent (f : List Nat) : Bool := (ptpType f).elim false fun t => decide (t ≤ 3)

/-- A peer-delay message: Pdelay_Req, Pdelay_Resp or Pdelay_Resp_Follow_Up. -/
def ptpPdelay (f : List Nat) : Bool := (ptpType f).elim false fun t => t == 2 || t == 3 || t == 10

/-- A Dispatch frame: UDP over IPv4 to port 4720 (R288). -/
def isDispatch (f : List Nat) : Bool := (udp4 f).elim false fun u => beAt f (u + 2) 2 == 4720

/-- The queue of a frame (R287): an untagged one of no special kind goes to queue 0. -/
def ethQueue (f : List Nat) : Nat :=
  if (ptpOff f).isSome || isDispatch f then 3 else if ethTagged f then byteAt f 14 / 32 / 2 else 0

/-- The link-local peer-delay address (R288). -/
def linkLocal : Nat := 0x0180C200000E

/-- TIME cycles from the SFD of a frame to its last bit: the FCS included, 8 ns a byte (R299). -/
def lastBitCycles (f : List Nat) : Nat := 2 * (f.length + 4)

/-- TIME cycles from the SFD of a frame to that of the next: FCS, gap and preamble included. -/
def frameCycles (f : List Nat) : Nat := 2 * (f.length + 4 + 12 + 8)

namespace State

/-- The frames that wait for a port. -/
def ethQ (s : State) (p : Nat) : List (Nat × EthFrame) := if p = 0 then s.eth.q0 else if p = 1 then s.eth.q1 else s.eth.q2

/-- Set what waits for a port. -/
def setEthQ (s : State) (p : Nat) (q : List (Nat × EthFrame)) : State :=
  if p = 0 then { s with eth := { s.eth with q0 := q } }
  else if p = 1 then { s with eth := { s.eth with q1 := q } } else { s with eth := { s.eth with q2 := q } }

/-- Bytes that wait for a port. -/
def ethUsed (s : State) (p : Nat) : Nat := (s.ethQ p).foldl (fun n e => n + e.2.bytes.length) 0

/-- A port is enabled. -/
def ethPortOn (s : State) (p : Nat) : Bool := p == 0 || s.bit Reg.ETH_ETH_CFG (p - 1)

/-- The link of an external port is up. -/
def ethLink (s : State) (p : Nat) : Bool := s.bit Reg.ETH_ETH_STAT (p - 1)

/-- A frame joins a queue of a port, or finds no room (R287). -/
def ethPut (s : State) (p q : Nat) (f : EthFrame) : State :=
  let n := f.bytes.length
  if s.rd Reg.ETH_Q_LIMIT < s.ethUsed p + n ∨ 262144 < s.ethUsed 0 + s.ethUsed 1 + s.ethUsed 2 + n then
    (s.bump Reg.ETH_DROPS).event 0x17 6
  else s.setEthQ p (s.ethQ p ++ [(q, f)])

/-- A source address is learned (R286): a table of 1,024; a full table learns no new one. -/
def ethLearn (s : State) (mac p : Nat) : State :=
  if mac / 2 ^ 40 % 2 = 1 then s
  else if (s.eth.macs.find? mac).isSome || decide (s.eth.macs.length < 1024) then
    { s with eth := { s.eth with macs := s.eth.macs.set mac (p, s.tim.odo) } }
  else s

/-- The frame goes to DSP (R288). -/
def ethToDsp (s : State) (f : List Nat) : Bool :=
  match udp4 f with
  | some u =>
    let dst := beAt f (ethL3 f + 16) 4
    beAt f (u + 2) 2 == 4720 && (dst == s.rd Reg.DSP_DSP_IPV4 || (s.rd Reg.DSP_DSP_MCAST != 0 && dst == s.rd Reg.DSP_DSP_MCAST))
  | none => false

/-- The ports a frame goes to (R286, R288, R296). -/
def ethTargets (s : State) (src : Nat) (f : List Nat) : List Nat :=
  let dst := beAt f 0 6
  let known := if dst / 2 ^ 40 % 2 = 1 then none else s.eth.macs.find? dst
  [0, 1, 2].filter fun p =>
    p != src && s.ethPortOn p
      && (known.elim true fun e => e.1 == p)
      && (src == 0 || p == 0 || (s.bit Reg.ETH_ETH_CFG 2 && dst != linkLocal && !ptpPdelay f))
      && !(p == 0 && s.ethToDsp f && !s.bit Reg.DSP_DSP_CFG 4)

/-- The switch stores a frame for every port it goes to. -/
def ethForward (s : State) (f : EthFrame) : State :=
  let dest := s.ethTargets f.port f.bytes
  let s := s.ethLearn (beAt f.bytes 6 6) f.port
  dest.foldl (fun s p => s.ethPut p (ethQueue f.bytes) f) s

/-- The instance mapped to a domain on a port (R293). -/
def clkOf (s : State) (domain port : Nat) : Option Nat :=
  (List.range 3).find? fun n =>
    let c := s.rd (Reg.PTP_CLKD_CFG n)
    c.testBit 16 && c % 256 == domain && c.testBit (7 + port)

/-- A stamp enters the timestamp FIFO (R290, R291), referred to the contact by the port's latency. -/
def tsPush (s : State) (port : Nat) (tx : Bool) (f : List Nat) : State :=
  let lat := s.fld (if port = 1 then Reg.ETH_P1_LAT else Reg.ETH_P2_LAT) (if tx then 16 else 0) 16
  let ns : Int := if tx then lat else -(lat : Int)
  let odo := s.tim.odo + BitVec.ofInt 64 (ns / 4)
  let o := ptpOff f
  let fld (i n : Nat) : Nat := o.elim 0 fun o => beAt f (o + i) n
  let w0 := port + 4 * b2n tx + 16 * (fld 0 1 % 16) + 2 ^ 8 * fld 4 1 + 2 ^ 16 * fld 30 2
  let w1 := fld 28 2 + 2 ^ 16 * fld 26 2
  let t : Option (Nat × Nat) := (if o.isSome then s.clkOf (fld 4 1) port else none).map fun n =>
    (n, (((s.clk n : Nat) + ns * fracPerNs) % (clkModulus : Int)).toNat)
  let w2 := t.elim (3 * 2 ^ 30) fun e => timeNs e.2 + 2 ^ 30 * e.1
  let w3 := t.elim 0 fun e => timeSec e.2
  if 128 ≤ s.eth.ts.length then s.event 0x17 3
  else
    { s with eth := { s.eth with ts := s.eth.ts ++ [[w32 w0, w32 w1, w32 w2, w32 w3, odo.setWidth 32, (odo >>> 32).setWidth 32]] } }.event 0x17 2

/-- A frame that enters now, as the switch holds it. -/
def ethFrame (s : State) (port : Nat) (bytes : List Nat) : EthFrame :=
  { bytes := bytes, port := port, odo := s.tim.odo, clk0 := s.clk 0, clk1 := s.clk 1, clk2 := s.clk 2 }

/-! ### The transparent clock (R296, R297) -/

/-- One's-complement sum of two 16-bit words. -/
def onesAdd (a b : Nat) : Nat := (a + b) % 2 ^ 16 + (a + b) / 2 ^ 16

/-- An incremental checksum update for words changed (R297). -/
def csumUpdate (c : Nat) (old new : List Nat) : Nat :=
  let x := (old.map fun w => 2 ^ 16 - 1 - w).foldl onesAdd (2 ^ 16 - 1 - c)
  2 ^ 16 - 1 - new.foldl onesAdd x

/-- The 16-bit words of 8 bytes at an offset. -/
def words4 (f : List Nat) (o : Nat) : List Nat := (List.range 4).map fun i => beAt f (o + 2 * i) 2

/-- Add to the correctionField, saturating, with the UDP checksum kept right (R297). -/
def addCorrection (f : List Nat) (add : Int) : List Nat :=
  match ptpOff f with
  | none => f
  | some o =>
    let c : Int := (BitVec.ofNat 64 (beAt f (o + 8) 8)).toInt + add
    let c := max (-(2 ^ 63 : Int)) (min (2 ^ 63 - 1) c)
    let g := putBytes f (o + 8) (beBytes 8 (BitVec.ofInt 64 c).toNat)
    match udp4 f, udp6 f with
    | some u, _ =>
      let k := beAt f (u + 6) 2
      if k = 0 then g else putBytes g (u + 6) (beBytes 2 (csumUpdate k (words4 f (o + 8)) (words4 g (o + 8))))
    | none, some u =>
      let k := csumUpdate (beAt f (u + 6) 2) (words4 f (o + 8)) (words4 g (o + 8))
      putBytes g (u + 6) (beBytes 2 (if k = 0 then 0xFFFF else k))
    | none, none => g

/-- Residence of a frame in units of `2^-16` ns, on the instance mapped to its domain or on the odometer (R296). Where the two ports of one domain
have an instance each, it is the ingress port's (DEDUCED, log entry 124). -/
def residence (s : State) (f : EthFrame) : Int :=
  let dom := (ptpOff f.bytes).elim 0 fun o => byteAt f.bytes (o + 4)
  match (s.clkOf dom f.port).or (s.clkOf dom (3 - f.port)) with
  | some n => clkDiff (s.clk n) (if n = 0 then f.clk0 else if n = 1 then f.clk1 else f.clk2) / 2 ^ 16
  | none => s.since f.odo * 4 * 65536

/-- The correction of a frame forwarded between P1 and P2 (R296). -/
def transparent (s : State) (f : EthFrame) : State × List Nat :=
  if f.port != 0 && s.bit Reg.ETH_ETH_CFG 3 && ptpEvent f.bytes then
    let r := s.residence f
    let pd := if s.bit Reg.ETH_ETH_CFG 4 && ptpType f.bytes == some 0 then
        s.rd (if f.port = 1 then Reg.PTP_PDELAY1 else Reg.PTP_PDELAY2) else 0
    let s := s.bump Reg.ETH_TC_FRAMES
    ((if 1000000 * 65536 < r then s.bump Reg.ETH_TC_LONG else s), addCorrection f.bytes (r + pd * 65536))
  else (s, f.bytes)

/-- Odometer until which an external port is sending. -/
def ethBusy (s : State) (p : Nat) : Bool := decide (0 < (if p = 1 then s.eth.busy1 - s.tim.odo else s.eth.busy2 - s.tim.odo).toInt)

/-- Odometer until which a launch finds an external port taken (R299, R300): the last bit of another frame, or the whole of a launch before it. -/
def launchBusy (s : State) (p : Nat) : Bool := decide (0 < (if p = 1 then s.eth.free1 - s.tim.odo else s.eth.free2 - s.tim.odo).toInt)

/-- A frame's SFD leaves an external port now; `launch` says that it is a timed launch. -/
def ethSend (s : State) (p : Nat) (f : List Nat) (tsReq launch : Bool) : State :=
  let s := s.bump (if p = 1 then Reg.ETH_P1_TX else Reg.ETH_P2_TX)
  let t := s.tim.odo + BitVec.ofNat 64 (frameCycles f)
  let u := if launch then t else s.tim.odo + BitVec.ofNat 64 (lastBitCycles f)
  let s :=
    if p = 1 then { s with eth := { s.eth with busy1 := t, free1 := u, sent1 := f } }
    else { s with eth := { s.eth with busy2 := t, free2 := u, sent2 := f } }
  if tsReq || ptpEvent f then s.tsPush p true f else s

/-- Take the oldest frame of the highest queue that is not empty. -/
def ethPick (s : State) (p : Nat) : Option (EthFrame × List (Nat × EthFrame)) :=
  let q := s.ethQ p
  match [3, 2, 1, 0].find? fun k => q.any fun e => e.1 == k with
  | none => none
  | some k =>
    match q.find? fun e => e.1 == k with
    | none => none
    | some e => some (e.2, q.eraseP fun x => x.1 == k)

/-- A pending launch on the port keeps a frame back (R299): its last bit would leave later than 20 ns before the launch. -/
def launchHolds (s : State) (p : Nat) (f : List Nat) : Bool :=
  s.eth.launches.any fun e =>
    (if p = 1 then e.2.p1 else e.2.p2)
      && decide (clkDiff e.2.time s.plant < (((8 * (f.length + 4) + 20) * fracPerNs : Nat) : Int))

/-! ### Rings (R289) -/

/-- The master that fetches and writes descriptors. -/
def ringMid : Mid := .own (.dma 15)

/-- ETH may reach a range of memory with the rights of DMA channel 15; a denial freezes the channel (R265), and a channel that is frozen or stopped
reaches nothing. -/
def ringReach (s : State) (a n : Nat) (write : Bool) : Except State Unit :=
  let k := midColumn ringMid
  if s.held ringMid then .error s
  else if s.rangeRight k a n write then .ok ()
  else .error (s.violateMem ringMid (s.deniedAt k a n write) write false (accessLog2 n))

/-- A descriptor is given back: its length, OWN clear, ERROR as said, the odometer low word at the SFD; `flags` are those it was fetched with. Answers
whether the write was carried out. -/
def descDone (s : State) (d len flags : Nat) (error : Bool) (stamp : BitVec 64) : State × Bool :=
  match s.ringReach (d + 8) 8 true with
  | .error s => (s, false)
  | .ok _ =>
    let flags := flags - flags % 2
    let flags := if error then flags ||| 4 else flags
    (((s.writeLE (d + 8) 2 len).writeLE (d + 10) 2 flags).writeLE (d + 12) 4 (stamp.toNat % 2 ^ 32), true)

/-- Deliver a frame to a receive ring: false if no descriptor is there for it and it waits. -/
def ringDeliver (s : State) (f : EthFrame) : State × Bool :=
  let r := if (ptpOff f.bytes).isSome then 1 else 0
  let head := s.rd (Reg.ETH_RXR_HEAD r)
  let size := s.rd (Reg.ETH_RXR_SIZE r)
  if size = 0 ∨ head = s.rd (Reg.ETH_RXR_TAIL r) then (s, false)
  else
    let d := s.rd (Reg.ETH_RXR_BASE r) + 16 * head
    match s.ringReach d 16 false with
    | .error s => (s, false)
    | .ok _ =>
      let flags := s.readLE (d + 10) 2
      if flags % 2 = 0 then (s, false)
      else
        let b := s.readLE d 8
        match s.ringReach b f.bytes.length true with
        | .error s => (s, false)
        | .ok _ =>
          match (s.writeBytes b f.bytes).descDone d f.bytes.length flags false f.odo with
          | (s, false) => (s, false)
          | (s, true) => ((s.wr (Reg.ETH_RXR_HEAD r) ((head + 1) % size)).event 0x17 7, true)

/-- Take descriptors of a transmit ring from HEAD up to TAIL. -/
def ringFetch (s : State) (q : Nat) : Nat → State
  | 0 => s
  | fuel + 1 =>
    let head := s.rd (Reg.ETH_TXR_HEAD q)
    let size := s.rd (Reg.ETH_TXR_SIZE q)
    if size = 0 ∨ head = s.rd (Reg.ETH_TXR_TAIL q) then s
    else
      let d := s.rd (Reg.ETH_TXR_BASE q) + 16 * head
      match s.ringReach d 16 false with
      | .error s => s
      | .ok _ =>
        let flags := s.readLE (d + 10) 2
        if flags % 2 = 0 then s
        else
          let b := s.readLE d 8
          let n := s.readLE (d + 8) 2
          match s.ringReach b n false with
          | .error s => s
          | .ok _ =>
            let f := { s.ethFrame 0 (s.readBytes b n) with tsReq := flags.testBit 1, desc := some (d, flags) }
            let s := s.wr (Reg.ETH_TXR_HEAD q) ((head + 1) % size)
            let s := if n < 14 then (s.descDone d n flags true s.tim.odo).1 else s.ethForward f
            s.ringFetch q fuel

/-! ### Launches (R298 to R300) -/

/-- An outcome enters LA_FIFO (R299), which holds 32. -/
def laPush (s : State) (i outcome : Nat) : State :=
  let h := s.handleOf .launch i
  if 32 ≤ s.eth.laFifo.length then s
  else { s with eth := { s.eth with laFifo := s.eth.laFifo ++ [w32 (h.toNat % 256 + 256 * i + 2 ^ 24 * outcome)] } }

/-- A launch may leave: its time has come (±50 ns, R299). -/
def launchDue (s : State) (e : LaunchEnt) : Bool := decide (-((50 * fracPerNs : Nat) : Int) ≤ clkDiff s.plant e.time)

/-- The time of a launch has come or passed. -/
def launchReached (s : State) (e : LaunchEnt) : Bool := decide (0 ≤ clkDiff s.plant e.time)

/-- Of two launches on one port the earlier time leaves first, with the lower INDEX at equal times (R300). -/
def launchFirst (s : State) (i : Nat) (e : LaunchEnt) : Bool :=
  s.eth.launches.all fun x =>
    x.1 == i || !((x.2.p1 && e.p1) || (x.2.p2 && e.p2)) || !s.launchDue x.2
      || decide (0 < clkDiff x.2.time e.time) || (x.2.time == e.time && decide (i < x.1))

/-- A launch that can start now does (R299, R300): the frame leaves each selected port whose link is up; a port whose link is down drops its copy with
NO_LINK. A launch more than 50 ns after its time is LATE. -/
def launchStart (s : State) (i : Nat) (e : LaunchEnt) : State :=
  let ports := [1, 2].filter fun p => if p = 1 then e.p1 else e.p2
  let up := ports.filter fun p => s.ethLink p && s.ethPortOn p
  if !s.launchDue e || !s.launchFirst i e || up.any fun p => s.launchBusy p then s
  else
    let late := decide (((50 * fracPerNs : Nat) : Int) < clkDiff s.plant e.time)
    let s := { s with eth := { s.eth with launches := s.eth.launches.erase i } }
    let s := up.foldl (fun s p => s.ethSend p e.bytes false true) s
    let s := if up.length < ports.length then s.laPush i 3 else s
    let s := if up.isEmpty then s else s.laPush i (if late then 2 else 1)
    (s.event 0x17 4).eventIf (late && !up.isEmpty) 0x17 5

end State

/-! ### The commands of the switch -/

/-- ETH_FRAME_RX (R286 to R290): a frame enters P1 or P2; it is learned, stamped and stored for the ports it goes to. -/
def execEthFrameRx (port : Fin 2) (bytes : List Nat) (s : State) : Out :=
  let p := port.val + 1
  ok (if s.clockRuns 0x17 && s.ethPortOn p then
    let s := s.bump (if p = 1 then Reg.ETH_P1_RX else Reg.ETH_P2_RX)
    let s := if ptpEvent bytes then s.tsPush p false bytes else s
    s.ethForward (s.ethFrame p bytes)
  else s)

/-- ETH_EGRESS (R287, R289, R296, R299): the next frame of a port starts leaving; at P0 it is delivered to its receive ring. -/
def execEthEgress (port : Fin 3) (s : State) : Out :=
  let p := port.val
  ok (match s.ethPick p with
    | none => s
    | some (f, rest) =>
      if p = 0 then
        let (s, done) := s.ringDeliver f
        if done then s.setEthQ 0 rest else s
      else if !s.ethPortOn p || !s.ethLink p || s.ethBusy p || s.launchHolds p f.bytes then s
      else
        let s := s.setEthQ p rest
        let (s, b) := s.transparent f
        let s := s.ethSend p b f.tsReq false
        match f.desc with
        | some (d, flags) =>
          let (s, done) := s.descDone d f.bytes.length flags false s.tim.odo
          s.eventIf done 0x17 8
        | none => s)

/-- MAC_AGE (R286): the addresses not seen for AGE_TIME age out. -/
def execMacAge (s : State) : Out :=
  ok (let keep (e : Nat × (Nat × BitVec 64)) : Bool := decide (s.since e.2.2 < secT (s.rd Reg.ETH_AGE_TIME))
      { s with eth := { s.eth with macs := s.eth.macs.filter keep } })

/-- ETH_LINK_CHANGE (R286): the link of P1 or P2, and its SGMII synchronisation, go up or down. -/
def execEthLinkChange (port : Fin 2) (up : Bool) (s : State) : Out :=
  ok (if s.bit Reg.ETH_ETH_STAT port.val == up then s
      else ((s.setBit Reg.ETH_ETH_STAT port.val up).setBit Reg.ETH_ETH_STAT (2 + port.val) up).event 0x17 port.val)

/-- A write of TXR_TAIL (R289); it restarts a channel that a THAW left stopped (R267, log entry 109). -/
def txRingKick (s : State) (q : Nat) (v : Word) : State :=
  let s := { s.setReg (Reg.ETH_TXR_TAIL q) v with dmaErr := s.dmaErr &&& (2 ^ 15 - 1) }
  s.ringFetch q (s.rd (Reg.ETH_TXR_SIZE q))

/-- TX_RING_KICK. -/
def execTxRingKick (mid : Mid) (q : Fin 4) (value : Word) (s : State) : Out :=
  ok (s.busW mid (Reg.ETH_TXR_TAIL q.val) fun s => txRingKick s q.val value)

/-- A read of TS_HEAD5 (R291): the oldest entry is removed. -/
def tsFifoRead (s : State) : State :=
  match s.eth.ts with
  | [] => { s with busData := 0 }
  | e :: r => { s with busData := e.getD 5 0, eth := { s.eth with ts := r } }

/-- TS_FIFO_READ. -/
def execTsFifoRead (mid : Mid) (s : State) : Out := ok (s.busR mid (Reg.ETH_TS_HEAD 5) tsFifoRead)

/-! ### The instances (R293, R294) -/

namespace State

/-- The value of STEP_SECLn, STEP_SECHn and STEP_NSn as a signed step in `2^-32` ns. -/
def stepValue (s : State) (n : Nat) : Int :=
  let sec : Int := (BitVec.ofNat 48 (s.rd (Reg.PTP_STEP_SECL n) + 2 ^ 32 * s.fld (Reg.PTP_STEP_SECH n) 0 16)).toInt
  (sec * 1000000000 + s.rdI (Reg.PTP_STEP_NS n)) * fracPerNs

/-- The same registers as an absolute time, the fraction clear. -/
def setValue (s : State) (n : Nat) : Nat :=
  (s.rd (Reg.PTP_STEP_SECL n) + 2 ^ 32 * s.fld (Reg.PTP_STEP_SECH n) 0 16) * fracPerSec + s.fld (Reg.PTP_STEP_NS n) 0 30 * fracPerNs

/-- CLKD_STATn.STEPS advances and STEPn is set. -/
def stepped (s : State) (n : Nat) : State :=
  (s.setFld (Reg.PTP_CLKD_STAT n) 8 8 ((s.fld (Reg.PTP_CLKD_STAT n) 8 8 + 1) % 256)).event 0x18 (1 + n)

/-- STEP (R27, R294). -/
def clkdStep (s : State) (n : Nat) : State := (s.stepInstance n (s.stepValue n)).stepped n

/-- SET (R27, R294). -/
def clkdSet (s : State) (n : Nat) : State := (s.stepInstance n (clkDiff (s.setValue n % clkModulus) (s.clk n))).stepped n

end State

/-- The limit of ADJ (R24). -/
def adjLimit : Int := 8589934

/-- A write of ADJn (R24, R294): clamped, with RATE_CLAMP, when out of range. -/
def adjWrite (s : State) (n : Nat) (mid : Mid) (v : Word) : State :=
  let x := v.toInt
  let y := max (-adjLimit) (min adjLimit x)
  let s := s.wrI (Reg.PTP_ADJ n) y
  let s := s.setBit (Reg.PTP_CLKD_STAT n) 1 (x != y)
  if x = y then s else (s.err mid (Reg.PTP_ADJ n) .rateClamp).event 0x18 0

/-- ADJ_WRITE. -/
def execAdjWrite (n : Fin 3) (mid : Mid) (value : Word) (s : State) : Out :=
  ok (s.busW mid (Reg.PTP_ADJ n.val) fun s => adjWrite s n.val mid value)

/-- A write of CLKD_CFGn (R293): a mapping that gives one domain and one port to two instances is refused with DOM_DUP. -/
def clkdCfgWrite (s : State) (n : Nat) (mid : Mid) (v : Word) : State :=
  let a := Reg.PTP_CLKD_CFG n
  let x := v.toNat
  let dup := x.testBit 16 && (List.range 3).any fun m =>
    let y := s.rd (Reg.PTP_CLKD_CFG m)
    m != n && y.testBit 16 && y % 256 == x % 256 && ((x.testBit 8 && y.testBit 8) || (x.testBit 9 && y.testBit 9))
  if dup then (s.err mid a .domDup).event 0x18 4
  else (s.setReg a (v &&& 0x000103FF)).setBit (Reg.PTP_CLKD_STAT n) 0 (v.getLsbD 16)

/-- CLKD_CFG_WRITE. -/
def execClkdCfgWrite (n : Fin 3) (mid : Mid) (value : Word) (s : State) : Out :=
  ok (s.busW mid (Reg.PTP_CLKD_CFG n.val) fun s => clkdCfgWrite s n.val mid value)

/-! ### Launch commands -/

/-- A write of CREATE to LA_CMD (R298). -/
def launchCreate (s : State) (mid : Mid) : State :=
  let a := Reg.ETH_LA_CMD
  let t := (s.rd Reg.ETH_LA_TIME_SECL + 2 ^ 32 * s.fld Reg.ETH_LA_TIME_SECH 0 16) * fracPerSec + s.fld Reg.ETH_LA_TIME_NS 0 30 * fracPerNs
  let len := s.fld Reg.ETH_LA_CTRL 0 11
  let p1 := s.bit Reg.ETH_LA_CTRL 16
  let p2 := s.bit Reg.ETH_LA_CTRL 17
  let ahead := State.clkDiff (t % clkModulus) s.plant
  match s.eth.launches.firstFree HClass.launch.limit with
  | none => s.err mid a .launchFull
  | some i =>
    if len < 60 ∨ 1518 < len ∨ !(p1 || p2) then s.err mid a .range
    else if ahead ≤ ((20000 * fracPerNs : Nat) : Int) then s.err mid a .launchPast
    else if ((1000 * fracPerSec : Nat) : Int) < ahead then s.err mid a .launchRange
    else if !s.rangeRight (midColumn mid) (s.rd Reg.ETH_LA_ADDR) len false then s.err mid a .fwlDeny
    else
      let s := s.newGen .launch i
      let e : LaunchEnt := { time := t % clkModulus, bytes := s.readBytes (s.rd Reg.ETH_LA_ADDR) len, p1 := p1, p2 := p2 }
      { s with eth := { s.eth with launches := s.eth.launches.set i e } }.setReg Reg.ETH_LA_HANDLE (s.handleOf .launch i)

/-- LAUNCH_CREATE. -/
def execLaunchCreate (mid : Mid) (s : State) : Out := ok (s.busW mid Reg.ETH_LA_CMD fun s => launchCreate s mid)

/-- A write of DESTROY to LA_CMD (R298): the pending launch is withdrawn. A frame that starts in this TIME cycle starts before it (R300). -/
def launchDestroy (s : State) (mid : Mid) : State :=
  let s := match s.eth.launches.find? (bitsOf (s.rd Reg.ETH_LA_HANDLE) 8 12) with
    | some e => if s.launchReached e then s.launchStart (bitsOf (s.rd Reg.ETH_LA_HANDLE) 8 12) e else s
    | none => s
  match s.checkHandle .launch (fun i => (s.eth.launches.find? i).isSome) (s.reg Reg.ETH_LA_HANDLE) with
  | .error e => s.err mid Reg.ETH_LA_CMD e
  | .ok i => { s with eth := { s.eth with launches := s.eth.launches.erase i } }.laPush i 4

/-- LAUNCH_DESTROY. -/
def execLaunchDestroy (mid : Mid) (s : State) : Out := ok (s.busW mid Reg.ETH_LA_CMD fun s => launchDestroy s mid)

/-- LAUNCH (R299, R300). -/
def execLaunch (idx : Fin 64) (s : State) : Out :=
  ok (match s.eth.launches.find? idx.val with
    | none => s
    | some e => s.launchStart idx.val e)

/-- A read of LA_FIFO (R299). -/
def laFifoRead (s : State) : State :=
  match s.eth.laFifo with
  | [] => { s with busData := 0 }
  | w :: r => { s with busData := w, eth := { s.eth with laFifo := r } }

/-- LA_FIFO_READ. -/
def execLaFifoRead (mid : Mid) (s : State) : Out := ok (s.busR mid Reg.ETH_LA_FIFO laFifoRead)

end Sys2Proof.Machine
end

