-- ==== Sys2Proof/Machine/Grid.lean ====
section
/-! DEFINITION. The commands that may move the grid position forward in one TIME cycle (R30, R33, R35, R388): a sweep waymark they pass fires
at once and LATE (R389). -/

namespace Sys2Proof.Machine

/-- PHREF_EDGE (R28 to R31, R34 to R37, R389): an edge at the PHREF pin, its latency already taken off. -/
def execPhrefEdge (falling : Bool) (s : State) : Out :=
  ok (if s.bit Reg.GAU_GAU_CFG 1 && s.bit Reg.GAU_GAU_CFG 2 == falling then s.phrefEdge.fireLate else s)

/-- HOLDOVER_END (R32, R33, R389): HOLDOVER has elapsed from the last accepted edge and the nominal timeline is entered. -/
def execHoldoverEnd (s : State) : Out :=
  ok (if s.gau.src == .holdover && decide (msT (s.rd Reg.GAU_HOLDOVER) ≤ s.since s.gau.holdFrom) then s.enterNominal.fireLate else s)

/-- GAU_CFG_WRITE. -/
def execGauCfgWrite (mid : Mid) (value : Word) (s : State) : Out :=
  ok (s.busW mid Reg.GAU_GAU_CFG fun s => (gauCfgWrite s mid value).fireLate)

/-- CYC_BIAS_AT_WRITE. -/
def execCycBiasAtWrite (mid : Mid) (value : Word) (s : State) : Out :=
  ok (s.busW mid Reg.GAU_CYC_BIAS_AT fun s => (cycBiasAtWrite s value).fireLate)

/-- BIAS_CHANGE (R388): the armed cycle has begun. -/
def execBiasChange (s : State) : Out :=
  ok (match s.gau.biasAt with
    | some c => if 0 ≤ sdiff 48 s.gau.cyc c then s.applyBias.fireLate else s
    | none => s)

/-- CLKD_STEP (R27, R294). -/
def execClkdStep (n : Fin 3) (mid : Mid) (s : State) : Out :=
  ok (s.busW mid (Reg.PTP_CLKD_CMD n.val) fun s => (s.clkdStep n.val).fireLate)

/-- CLKD_SET (R27, R294). -/
def execClkdSet (n : Fin 3) (mid : Mid) (s : State) : Out :=
  ok (s.busW mid (Reg.PTP_CLKD_CMD n.val) fun s => (s.clkdSet n.val).fireLate)

end Sys2Proof.Machine
end

