-- ==== Sys2Proof/Machine/Image.lean ====
section
/-! DEFINITION. Firmware images and the resident loader: the checks of R351 and R352, and what a boot does with the journal (R356, R357,
R359). -/

namespace Sys2Proof.Machine

/-- The signed message of an image: bytes 0 to 63 and 256 to end - 193 (R351). -/
def imgMessage (b : List Nat) : List Nat := b.take 64 ++ (b.drop 256).take (b.length - 448)

/-- The body of an image: the ciphertext. -/
def imgBody (b : List Nat) : List Nat := (b.drop 256).take (b.length - 448)

/-- The wrap block has its layout (R351). -/
def imgWrapOk (b : List Nat) : Bool :=
  let fleet := leAt b 64 1 == 2
  (leAt b 64 1 == 1 || fleet) && leAt b 65 7 == 0 && leAt b 237 19 == 0 && (!fleet || (leAt b 72 8 == 0 && leAt b 140 97 == 0))

/-- The signed header and the layout hold (R351). -/
def imgHeaderOk (b : List Nat) : Bool :=
  imgWrapOk b && decide (448 ≤ b.length) && decide (b.length ≤ 125829120) && leAt b 0 4 == 0x474D4958 && leAt b 4 2 == 1 && leAt b 6 2 == 1
    && leAt b 8 4 == b.length && decide (leAt b 18 1 < 2) && leAt b 19 1 == 0 && leAt b 48 16 == 0

namespace State

/-- SYS.SERIAL (R348). -/
def serial (_ : State) : Nat := (Config.fuse Reg.SYS_SERIAL_LO).toNat + 2 ^ 32 * (Config.fuse Reg.SYS_SERIAL_HI).toNat

/-- The signatures of an image: under the image signing key, and under slot 6 where OWNER_SIG is set (R351). -/
def imgSigned (s : State) (b : List Nat) : Bool :=
  let n := b.length
  let own := (b.drop (n - 192)).take 96
  Config.ecdsaOk 0 (imgMessage b) (b.drop (n - 96))
    && (if leAt b 18 1 % 2 = 1 then (s.nv.keys.find? 6).elim false fun k => Config.ecdsaOk k (imgMessage b) own else own.all (· == 0))

/-- R351 step 2: the header, the signatures and the SVN. -/
def imgStep2 (s : State) (b : List Nat) : Bool := imgHeaderOk b && s.imgSigned b && decide (s.nv.minSvn ≤ leAt b 16 2)

/-- The key of an image, out of its wrap block (R351). -/
def imgKey (s : State) (b : List Nat) : Option Nat :=
  let kek := if leAt b 64 1 = 1 then some (Config.agreeKey ((b.drop 140).take 97) (leAt b 72 8))
    else if leAt b 64 1 = 2 then s.nv.keys.find? 1 else none
  kek.bind fun k => (Config.gcmOpen k (leAt b 80 12) (b.take 124) ((b.drop 92).take 32) (leAt b 124 16)).map leNat

/-- R351 step 3: the body decrypts, and its tag holds. -/
def imgStep3 (s : State) (b : List Nat) : Bool :=
  (s.imgKey b).any fun k => (Config.gcmOpen k (leAt b 20 12) (b.take 20) (imgBody b) (leAt b 32 16)).isSome

/-- The checks of R352: step 2, and where WRAP is 1 the target and the unwrapping of the key. -/
def imgStageOk (s : State) (b : List Nat) : Bool :=
  s.imgStep2 b && (leAt b 64 1 != 1 || (leAt b 72 8 == s.serial && (s.imgKey b).isSome))

/-- BOOT_FAIL (R224, R358, R359): the module stays in BOOT. -/
def bootFails (s : State) : State := s.setHpm 8 true

/-- The phase of the boot. -/
def bootPhase (s : State) (p : BootPhase) : State := { s with upd := { s.upd with boot := p } }

/-- The image starts (R351 step 3). -/
def startImage (s : State) : State :=
  { s with upd := { s.upd with boot := .loading, bootAt := s.tim.odo } }.setHpm 8 false

/-- The loader asks the partner for its image (R358, R359). -/
def recover (s : State) : State :=
  { s with upd := { s.upd with boot := .recovering, reqAt := none, wrapIn := none, imageIn := [] } }

/-- The overwrite from staging starts at sector 0 (R356). -/
def startOverwrite (s : State) : State :=
  let v := (s.nv.staged.map fun b => leAt b 12 4).getD 0
  { s with nv := { s.nv with journal := { state := 1, sector := 0, version := v, count := 0 } }, upd := { s.upd with boot := .overwriting } }

/-- A boot in journal state 2 (R357): the count advances; at 3 the loader recovers; a failed boot is followed by another. The first argument
bounds the boots. -/
def trialBoot : Nat → State → State
  | 0, s => s.recover
  | n + 1, s =>
    let j := s.nv.journal
    let s := { s with nv := { s.nv with journal := { j with count := j.count + 1 } } }
    if 3 ≤ j.count + 1 then s.recover
    else if s.nv.running.any fun b => s.imgStep2 b && s.imgStep3 b then s.startImage
    else trialBoot n s

/-- A boot in journal state 0 (R351, R359). -/
def plainBoot (s : State) : State :=
  if s.nv.running.any s.imgStep2 then
    if s.nv.running.any s.imgStep3 then s.startImage else s.startImage.bootFails
  else if s.nv.staged.any s.imgStep2 then s.startOverwrite
  else if s.hpm 5 then s.recover
  else (s.bootPhase .install).bootFails

/-- The resident loader runs (R351 step 2): first the journal. -/
def loader (s : State) : State :=
  match s.nv.journal.state with
  | 1 => s.bootPhase .overwriting
  | 2 => trialBoot 3 s
  | _ => s.plainBoot

/-- Step 1 of R351: the boot ROM checks the resident loader; RUN and FAULT blink after a failure. -/
def bootRom (s : State) (pass : Bool) : State :=
  if pass then { s with upd := { s.upd with romAt := none } }.loader
  else { s with upd := { s.upd with romAt := some s.tim.odo } }.bootPhase .rom

end State

end Sys2Proof.Machine
end

