-- ==== Sys2Proof/Machine/Mailbox.lean ====
section
/-! DEFINITION. The mailboxes and doorbells (R247 to R261) and the firewall's commands (R266, R267). A remote channel's far end holds what
crossed the Causeway. -/

namespace Sys2Proof.Machine

/-- Address of a register of a channel window. -/
def mbxAddr (ch off : Nat) : Nat := (if ch < 32 then 0x4800 + 0x40 * ch else 0x5800 + 0x40 * (ch - 32)) + off

/-- The MIDs that may end a channel (R247). -/
def mbxEndMid (m : Nat) : Bool := [1, 2, 3, 4, 8, 9].contains (m % 0x40) && decide (m < 0x80)

/-- A partner MID. -/
def isPartner (m : Nat) : Bool := decide (0x40 ≤ m)

namespace State

/-- The Causeway carries mailbox traffic: a lane is up and the partner's heartbeat is not lost (R252). -/
def mbxPeer (s : State) : Bool := s.cswUp && s.pair.alive

/-- BIND.EN of a channel. -/
def bound (s : State) (ch : Nat) : Bool := s.bit (Reg.MBX_BIND ch) 16

/-- The MID of an end of a channel. -/
def endMid (s : State) (ch : Nat) (e : Bool) : Nat := s.fld (Reg.MBX_BIND ch) (if e then 8 else 0) 8

/-- A channel. -/
def mbxCh (s : State) (ch : Nat) : MbxCh := s.mbx.chs.get {} ch

/-- An end of a channel: false for END0. -/
def mbxEnd (s : State) (ch : Nat) (e : Bool) : MbxEnd := if e then (s.mbxCh ch).e1 else (s.mbxCh ch).e0

/-- Set an end. -/
def setEnd (s : State) (ch : Nat) (e : Bool) (x : MbxEnd) : State :=
  let c := s.mbxCh ch
  { s with mbx := { s.mbx with chs := s.mbx.chs.put {} ch (if e then { c with e1 := x } else { c with e0 := x }) } }

/-- The far end of a channel is in the partner, as this end sees it. -/
def farRemote (s : State) (ch : Nat) (e : Bool) : Bool := isPartner (s.endMid ch (!e))

/-- A class 3 frame is sent (R261). -/
def mbxSend (s : State) (f : MbxFrame) : State :=
  let (type, b) := mbxPayload f
  { s with mbx := { s.mbx with sent := f :: s.mbx.sent } }.cswSend 3 type [b]

/-- The end of a channel that a MID holds (R250). -/
def endOf (s : State) (ch mid : Nat) : Option Bool :=
  if !s.bound ch then none
  else if s.endMid ch false = mid then some false
  else if s.endMid ch true = mid then some true
  else none

/-- An access to a window, by an end of the channel or by another master (R250). -/
def mbxAccess (s : State) (mid : Mid) (ch off : Nat) (write : Bool) (eff : State → Bool → State) : State :=
  s.bus mid (mbxAddr ch off) write fun s =>
    match s.endOf ch mid.code with
    | some e => eff s e
    | none =>
      (((if write then s else { s with busData := 0 }).err mid (mbxAddr ch off) .mbxUnbound).event 0x04 0).bump Reg.MBX_UNBOUND_CNT

/-- A message of end `e` leaves its outbound slot. -/
def emptySlot (s : State) (ch : Nat) (e : Bool) : State := s.setEnd ch e { s.mbxEnd ch e with full := false }

/-- Set sticky PEER_RESET at an end. -/
def peerReset (s : State) (ch : Nat) (e : Bool) : State :=
  (s.setEnd ch e { s.mbxEnd ch e with peerReset := true }).event 0x04 4

/-- A master that ends a channel is reset (R258): end `e` of the channel is the one reset. -/
def mbxEndReset (s : State) (ch : Nat) (e : Bool) : State :=
  let other := s.mbxEnd ch (!e)
  let mine := s.mbxEnd ch e
  -- messages posted toward the reset end: cleared, ABORTED at the sender
  let s := if other.full then
      (((s.setEnd ch (!e) { other with full := false, aborted := true }).event 0x04 3).bump Reg.MBX_ABORTS) else s
  -- messages posted by the reset end: withdrawn, PEER_RESET at the receiver; so too if a bit it rang was still set
  let s := if mine.full then s.bump Reg.MBX_ABORTS else s
  let s := if mine.full || mine.ring != 0 then s.peerReset ch (!e) else s
  let o := s.mbxEnd ch (!e)
  let s := s.setEnd ch (!e) { o with ring := 0 }
  s.setEnd ch e { msg := mine.msg, postAt := mine.postAt }

/-- A local master is reset (R258, R259): every channel it ends, and END_RESET to the partner for the remote ones. -/
def mbxMasterReset (s : State) (m : Nat) : State :=
  let hit := (List.range 64).filter fun ch => (s.endOf ch m).isSome
  let remote := hit.any fun ch => match s.endOf ch m with
    | some e => s.farRemote ch e
    | none => false
  let s := hit.foldl (fun s ch => match s.endOf ch m with
    | some e => s.mbxEndReset ch e
    | none => s) s
  if remote then s.mbxSend (.endReset m) else s

/-- The outcomes of R258 for every remote channel whose far end passes a test. -/
def mbxRemoteReset (s : State) (p : Nat → Bool) : State :=
  (List.range 64).foldl (fun s ch =>
    if !s.bound ch then s
    else if isPartner (s.endMid ch false) && p (s.endMid ch false) then s.mbxEndReset ch false
    else if isPartner (s.endMid ch true) && p (s.endMid ch true) then s.mbxEndReset ch true
    else s) s

/-- The partner is lost (R259): heartbeat lost or both lanes down. -/
def mbxRemoteLost (s : State) : State :=
  if (List.range 64).any fun ch => s.bound ch && (isPartner (s.endMid ch false) || isPartner (s.endMid ch true)) then
    (s.mbxRemoteReset fun _ => true).event 0x04 5
  else s

/-- R249: with both tables locked, RST releases the application cores and the DMA channels. -/
def releaseCores (s : State) : State :=
  if s.pageLocked 0x03 && s.pageLocked 0x05 then s.wr Reg.RST_RST_HOLD 0 else s

end State

/-! ### Binding -/

/-- The checks on a binding word (R247). -/
def bindOk (v : Nat) : Bool :=
  let a := v % 256
  let b := v / 256 % 256
  mbxEndMid a && mbxEndMid b && a != b && !(isPartner a && isPartner b)

/-- Another bound channel joins this master to the partner: its END_RESET has gone out already. -/
def announced (s : State) (ch m : Nat) : Bool :=
  (List.range 64).any fun c => c != ch && (s.endOf c m).elim false fun e => s.farRemote c e

/-- The first binding of a master to the partner sends its END_RESET, before any post (R259). -/
def announceEnd (s : State) (ch : Nat) (e : Bool) : State :=
  let m := s.endMid ch e
  if s.bound ch && !isPartner m && s.farRemote ch e && !announced s ch m then s.mbxSend (.endReset m) else s

/-- A write of a binding word (R247, R248). -/
def bindWrite (s : State) (mid : Mid) (ch : Nat) (v : Word) : State :=
  let a := Reg.MBX_BIND ch
  if mid ≠ .own .safety then s.err mid a .midDeny
  else if s.pageLocked 0x05 then s.err mid a .locked
  else if !bindOk v.toNat then s.err mid a .bindBad
  else
    let s := { s.setReg a (v &&& 0x0001FFFF) with mbx := { s.mbx with chs := s.mbx.chs.erase ch } }
    announceEnd (announceEnd s ch false) ch true

/-- BIND_WRITE. -/
def execBindWrite (mid : Mid) (ch : Fin 64) (value : Word) (s : State) : Out :=
  ok (s.busW mid (Reg.MBX_BIND ch.val) fun s => bindWrite s mid ch.val value)

/-! ### Posting and taking -/

/-- A write of MSGn (R251). -/
def msgWrite (s : State) (mid : Mid) (ch n : Nat) (v : Word) : State :=
  s.mbxAccess mid ch (4 * n) true fun s e =>
    let x := s.mbxEnd ch e
    if x.full then s.err mid (mbxAddr ch (4 * n)) .mbxBusy
    else s.setEnd ch e { x with msg := x.msg.put 0 n v }

/-- MSG_WRITE. -/
def execMsgWrite (mid : Mid) (ch : Fin 64) (n : Fin 8) (value : Word) (s : State) : Out := ok (msgWrite s mid ch.val n.val value)

/-- A post (R252). -/
def postSlot (s : State) (mid : Mid) (ch len : Nat) (e : Bool) : State :=
  let a := mbxAddr ch 0x20
  let x := s.mbxEnd ch e
  if x.full then s.err mid a .mbxBusy
  else if len = 0 ∨ 8 < len then s.err mid a .range
  else if s.farRemote ch e && !s.mbxPeer then s.err mid a .mbxNoPeer
  else
    let s := (s.setEnd ch e { x with full := true, len := len, postAt := s.tim.odo, tmo := false }).bump Reg.MBX_POSTS
    if s.farRemote ch e then
      s.mbxSend (.post ch len mid.code ((List.range 8).map fun i => if i < len then x.msg.get 0 i else 0))
    else s

/-- A withdraw (R254). -/
def withdrawSlot (s : State) (mid : Mid) (ch : Nat) (e : Bool) : State :=
  if (s.mbxEnd ch e).full then
    let s := s.emptySlot ch e
    if s.farRemote ch e then s.mbxSend (.withdraw ch mid.code) else s.peerReset ch (!e)
  else s.err mid (mbxAddr ch 0x20) .notFull

/-- A write of POST: [3:0] LEN, [8] WITHDRAW. -/
def postWrite (s : State) (mid : Mid) (ch : Nat) (v : Word) : State :=
  s.mbxAccess mid ch 0x20 true fun s e =>
    if v.toNat.testBit 8 then withdrawSlot s mid ch e else postSlot s mid ch (v.toNat % 16) e

/-- POST (R252): a write of POST, whose bit [8] WITHDRAW says which of R252 and R254 it is. -/
def execPost (mid : Mid) (ch : Fin 64) (value : Word) (s : State) : Out := ok (postWrite s mid ch.val value)

/-- MBX_WITHDRAW (R254). -/
def execMbxWithdraw (mid : Mid) (ch : Fin 64) (s : State) : Out :=
  ok (s.mbxAccess mid ch.val 0x20 true fun s e => withdrawSlot s mid ch.val e)

/-- A read of TAKE (R253). -/
def takeRead (s : State) (mid : Mid) (ch : Nat) : State :=
  s.mbxAccess mid ch 0x24 false fun s e =>
    let x := s.mbxEnd ch (!e)
    if x.full then
      let s := { s with busData := w32 (x.len + 256 * s.endMid ch (!e) + 2 ^ 16) }
      let s := s.setEnd ch (!e) { x with full := false, outFree := true }
      if s.farRemote ch e then s.mbxSend (.taken ch mid.code) else s
    else { s with busData := 0 }

/-- TAKE. -/
def execTake (mid : Mid) (ch : Fin 64) (s : State) : Out := ok (takeRead s mid ch.val)

/-- A write of RING (R256). -/
def ringWrite (s : State) (mid : Mid) (ch : Nat) (v : Word) : State :=
  s.mbxAccess mid ch 0x2c true fun s e =>
    let bits := v.toNat % 2 ^ 16
    let x := s.mbxEnd ch e
    let s := s.setEnd ch e { x with ring := x.ring ||| bits }
    if s.farRemote ch e then s.mbxSend (.ring ch bits) else s

/-- RING. -/
def execRing (mid : Mid) (ch : Fin 64) (bits : Word) (s : State) : Out := ok (ringWrite s mid ch.val bits)

/-- A W1C of BELL (R256): the other end's rings are cleared. -/
def bellWrite (s : State) (mid : Mid) (ch : Nat) (v : Word) : State :=
  s.mbxAccess mid ch 0x30 true fun s e =>
    let bits := v.toNat % 2 ^ 16
    let x := s.mbxEnd ch (!e)
    let s := s.setEnd ch (!e) { x with ring := x.ring &&& (2 ^ 16 - 1 - bits) }
    if s.farRemote ch e then s.mbxSend (.bellClr ch bits) else s

/-- BELL_CLEAR. -/
def execBellClear (mid : Mid) (ch : Fin 64) (bits : Word) (s : State) : Out := ok (bellWrite s mid ch.val bits)

/-- A W1C of CH_STAT: ABORTED, PEER_RESET, TMO, MUTUAL and OUT_FREE. -/
def chStatWrite (s : State) (mid : Mid) (ch : Nat) (v : Word) : State :=
  s.mbxAccess mid ch 0x28 true fun s e =>
    let x := s.mbxEnd ch e
    let keep (b : Bool) (i : Nat) : Bool := b && !v.toNat.testBit i
    s.setEnd ch e { x with aborted := keep x.aborted 2, peerReset := keep x.peerReset 3, tmo := keep x.tmo 4,
                           mutual_ := keep x.mutual_ 5, outFree := keep x.outFree 12 }

/-- A write of CH_IRQ_EN (R257). -/
def chIrqWrite (s : State) (mid : Mid) (ch : Nat) (v : Word) : State :=
  s.mbxAccess mid ch 0x34 true fun s e => s.setEnd ch e { s.mbxEnd ch e with irqEn := v &&& 0xFFFF003F }

/-- MBX_TMO (R255): a post has stayed FULL for MBX_TMO. -/
def execMbxTmo (ch : Fin 64) (end1 : Bool) (s : State) : Out :=
  ok (let x := s.mbxEnd ch.val end1
      let t := s.rd Reg.MBX_MBX_TMO
      if t ≠ 0 ∧ x.full ∧ !x.tmo ∧ usT t ≤ s.since x.postAt then (s.setEnd ch.val end1 { x with tmo := true }).event 0x04 1 else s)

/-- MUTUAL (R255): both slots have stayed FULL together for MBX_TMO. -/
def execMutualWait (ch : Fin 64) (s : State) : Out :=
  ok (let c := s.mbxCh ch.val
      let t := s.rd Reg.MBX_MBX_TMO
      if t ≠ 0 ∧ c.e0.full ∧ c.e1.full ∧ usT t ≤ s.since c.e0.postAt ∧ usT t ≤ s.since c.e1.postAt ∧ !(c.e0.mutual_ && c.e1.mutual_) then
        ((s.setEnd ch.val false { c.e0 with mutual_ := true }).setEnd ch.val true { c.e1 with mutual_ := true }).event 0x04 2
      else s)

/-! ### Class 3 frames received (R259 to R261) -/

namespace State

/-- This module's end of a remote channel whose far end is the partner's named master. -/
def nearEnd (s : State) (ch far : Nat) : Option Bool :=
  match s.endOf ch (0x40 + far) with
  | some e => some (!e)
  | none => none

/-- This module's end of a remote channel, whoever holds the far end. -/
def localEnd (s : State) (ch : Nat) : Option Bool :=
  if !s.bound ch then none
  else if isPartner (s.endMid ch true) then some false
  else if isPartner (s.endMid ch false) then some true
  else none

end State

/-- POST_RX (R260): the frame fills the inbound slot, or is answered REFUSE. -/
def execPostRx (ch : Fin 64) (len : Nat) (sender : LocalMid) (words : Csw (List Word)) (s : State) : Out :=
  ok (s.cswTake 3 0 words.rx fun s =>
    match s.nearEnd ch.val sender.code with
    | none => (s.mbxSend (.refuse ch.val 1)).event 0x04 0
    | some e =>
      let x := s.mbxEnd ch.val (!e)
      if x.full then (s.mbxSend (.refuse ch.val 2)).event 0x04 0
      else s.setEnd ch.val (!e) { x with
        full := true, len := len, postAt := s.tim.odo
        msg := (List.range 8).foldl (fun t i => t.put 0 i (if i < len then words.body.getD i 0 else 0)) x.msg })

/-- TAKEN_RX (R261): the sender's OUT_FULL clears and OUT_FREE is set (R253). -/
def execTakenRx (ch : Fin 64) (taker : Csw LocalMid) (s : State) : Out :=
  ok (s.cswTake 3 1 taker.rx fun s =>
    match s.nearEnd ch.val taker.body.code with
    | some e =>
      let x := s.mbxEnd ch.val e
      if x.full then s.setEnd ch.val e { x with full := false, outFree := true } else s
    | none => s)

/-- WITHDRAW_RX (R254, R261). -/
def execWithdrawRx (ch : Fin 64) (sender : Csw LocalMid) (s : State) : Out :=
  ok (s.cswTake 3 2 sender.rx fun s =>
    match s.nearEnd ch.val sender.body.code with
    | some e => if (s.mbxEnd ch.val (!e)).full then (s.emptySlot ch.val (!e)).peerReset ch.val e else s
    | none => s)

/-- RING_RX (R256, R261). -/
def execRingRx (ch : Fin 64) (bits : Csw Nat) (s : State) : Out :=
  ok (s.cswTake 3 3 bits.rx fun s =>
    match s.localEnd ch.val with
    | some e =>
      let x := s.mbxEnd ch.val (!e)
      s.setEnd ch.val (!e) { x with ring := x.ring ||| bits.body % 2 ^ 16 }
    | none => s)

/-- BELL_CLR_RX (R256, R261). -/
def execBellClrRx (ch : Fin 64) (bits : Csw Nat) (s : State) : Out :=
  ok (s.cswTake 3 4 bits.rx fun s =>
    match s.localEnd ch.val with
    | some e =>
      let x := s.mbxEnd ch.val e
      s.setEnd ch.val e { x with ring := x.ring &&& (2 ^ 16 - 1 - bits.body % 2 ^ 16) }
    | none => s)

/-- REFUSE_RX (R260): the sender's slot is emptied with ABORTED set. -/
def execRefuseRx (ch : Fin 64) (reason : Csw Nat) (s : State) : Out :=
  ok (s.cswTake 3 5 reason.rx fun s =>
    match s.localEnd ch.val with
    | some e =>
      let x := s.mbxEnd ch.val e
      if x.full then (s.setEnd ch.val e { x with full := false, aborted := true }).event 0x04 3 else s
    | none => s)

/-- END_RESET_RX (R259): R258 for the remote channels of that end. -/
def execEndResetRx (who : Csw LocalMid) (s : State) : Out :=
  ok (s.cswTake 3 6 who.rx fun s =>
    s.mbxRemoteReset fun m => m == 0x40 + who.body.code)

/-! ### The firewall's commands -/

/-- The master that a rights column names, by its MID; the partner's column names none (R262). -/
def columnMid (k : Nat) : Option Nat :=
  if k < 4 then some (k + 1) else if k = 4 then some 0x08 else if k = 5 then some 0x09 else if k = 6 then some 0x0A else if k = 7 then some 0x0B
  else if k < 24 then some (0x10 + (k - 8)) else if k = 24 then some 0x20 else if k = 25 then some 0x30 else if k = 26 then some 0x3E else none

/-- A write of FWL_CMD with THAW (R267): the outstanding access ends in a bus error, and a DMA channel stays stopped with its error status set. A
thawed safety core sends its tokens again (R203). -/
def fwlThaw (s : State) (mid : Mid) (v : Word) : State :=
  let k := v.toNat % 32
  if mid ≠ .own .safety then s.err mid Reg.FWL_FWL_CMD .midDeny
  else if v.toNat ≠ 2 ^ 8 + k then s.err mid Reg.FWL_FWL_CMD .cmdBad
  else if s.bit Reg.FWL_FROZEN k then
    let s := (s.setBit Reg.FWL_FROZEN k false).event 0x03 1
    let s := { s with busErr := columnMid k, dmaErr := if 8 ≤ k ∧ k < 24 then s.dmaErr ||| 2 ^ (k - 8) else s.dmaErr }
    if k = 4 && !s.saf.gSources.testBit 5 then s.quiet 6 5 else s
  else s.err mid Reg.FWL_FWL_CMD .state

/-- THAW. -/
def execThaw (mid : Mid) (value : Word) (s : State) : Out := ok (s.busW mid Reg.FWL_FWL_CMD fun s => fwlThaw s mid value)

/-- A write of VIOL_CLR (R266). -/
def violClr (s : State) (mid : Mid) (v : Word) : State :=
  if mid ≠ .own .safety then s.err mid Reg.FWL_VIOL_CLR .midDeny
  else if v.toNat.testBit 0 then s.setBit Reg.FWL_FWL_STAT 1 false else s

/-- VIOL_CLR. -/
def execViolClr (mid : Mid) (value : Word) (s : State) : Out := ok (s.busW mid Reg.FWL_VIOL_CLR fun s => violClr s mid value)

/-! ### The common header -/

/-- The masters that may set LOCK on a page (R381). -/
def lockAllowed (mid : Mid) (page : Nat) : Bool := !([0x03, 0x05, 0x13].contains page) || mid == .own .safety

/-- A write of BLK_LOCK (R249, R264, R381): a 1 sets LOCK; page 0x03 is enforced from then on; page 0x14 has no LOCK. -/
def blkLock (s : State) (mid : Mid) (page : Nat) (v : Word) : State :=
  if page = 0x14 ∨ !v.toNat.testBit 0 then s
  else if !lockAllowed mid page then s.err mid (page * 0x1000 + 0x00c) .midDeny
  else
    let s := s.setBit (page * 0x1000 + 0x00c) 0 true
    let s := if page = 0x03 then s.setBit Reg.FWL_FWL_STAT 0 true else s
    if page = 0x03 ∨ page = 0x05 then s.releaseCores else s

/-- BLK_LOCK. -/
def execBlkLock (mid : Mid) (page : Nat) (value : Word) (s : State) : Out :=
  ok (s.busW mid (page % 64 * 0x1000 + 0x00c) fun s => blkLock s mid (page % 64) value)

/-- A write of EVT_FORCE (R381): each 1 sets its EVT bit, raising interrupts and records with the writer's MID. Pages 0x13 and 0x14, and page
0x03 with every write to it (R264), take it from the safety core alone. -/
def evtForce (s : State) (mid : Mid) (page : Nat) (v : Word) : State :=
  if (page = 0x03 ∨ page = 0x13 ∨ page = 0x14) ∧ mid ≠ .own .safety then s.err mid (page * 0x1000 + 0x018) .midDeny
  else
    let w := v &&& evtMask page
    (List.range 32).foldl (fun s b => if w.toNat.testBit b then s.eventBy mid.code page b else s) s

/-- EVT_FORCE. -/
def execEvtForce (mid : Mid) (page : Nat) (value : Word) (s : State) : Out :=
  ok (s.busW mid (page % 64 * 0x1000 + 0x018) fun s => evtForce s mid (page % 64) value)

/-- A read of ERR_CODE (R381): the code is returned and the register cleared. -/
def errCodeRead (s : State) (page : Nat) : State :=
  let a := page * 0x1000 + 0x01c
  { s with busData := s.reg a }.setReg a 0

/-- ERR_CODE_READ. -/
def execErrCodeRead (mid : Mid) (page : Nat) (s : State) : Out :=
  ok (s.busR mid (page % 64 * 0x1000 + 0x01c) fun s => errCodeRead s (page % 64))

end Sys2Proof.Machine
end

