-- ==== Sys2Proof/Machine/Modes.lean ====
section
/-! DEFINITION. The modes: requests (R223, R224), the stop sequence (R225), and what a module follows of its partner's mode. -/

namespace Sys2Proof.Machine

open Sys2Proof

namespace State

/-- CFG_MATCH (R230): CFG_TAG and STAGE_DIGEST equal the partner's. -/
def cfgMatch (s : State) : Bool :=
  s.partnerAlive && s.pair.hb.cfgTag == s.reg Reg.CSW_CFG_TAG && s.pair.hb.stageDigest == s.stageDigest

/-- A cell has a table, or an ASSIGN accepted for it takes effect at the next Gather (R122). -/
def hasTable (s : State) (c : Nat) : Bool := (s.tableOf c).isSome || s.est.assigns.any fun (_, a, b) => decide (a ≤ c) && decide (c ≤ b)

/-- The code of the first condition of READY to OPERATE or FORMATION that fails; 0 if all hold (R224). -/
def runCode (s : State) : Nat :=
  if s.saf.pset.isNone then 3
  else if s.link.plan.isNone then 4
  else if !s.bit Reg.EST_EST_CFG 0 || !s.countedCells.all s.hasTable then 5
  else if !s.ctl.applied then 6
  else if s.pair.present && !(s.psetMatch && s.cfgMatch) then 7
  else 0

/-- What a mode request does (R224, R225): enter a mode, start the stop sequence, or a refusal code. -/
inductive ModeStep where
  | enter (m : Mode)
  | stop (m : Mode)
  | refuse (code : Nat)
  deriving DecidableEq, Repr

/-- The table of R224 for a request. -/
def modeStep (s : State) (dest : Mode) : ModeStep :=
  if s.pair.role = .shadow then .refuse 1
  else if s.pair.stop.isSome then (if dest = .ready ∨ dest = .service then .stop dest else .refuse 9)
  else
    match s.pair.mode with
    | .ready =>
      if dest = .commission then (if s.anyPath then .refuse 8 else .enter dest)
      else if dest = .operate ∨ dest = .formation then (if s.runCode = 0 then .enter dest else .refuse s.runCode)
      else if dest = .service then .enter dest
      else .refuse 2
    | .commission => if dest = .ready ∨ dest = .service then .enter dest else .refuse 2
    | .service => if dest = .ready ∨ dest = .commission then .enter dest else .refuse 2
    | .operate | .formation => if dest = .ready ∨ dest = .service then .stop dest else .refuse 2
    | .safeHold => .refuse 10
    | .off | .boot => .refuse 2

/-- A refused mode request: code 1 writes ROLE, the others MODE. -/
def modeRefused (s : State) (mid : Mid) (code : Nat) : State :=
  ((s.wr Reg.RED_MODE_REFUSE code).event 0x1C 8).err mid Reg.RED_MODE_REQ (if code = 1 then .role else .mode)

/-- The stop sequence begins (R225), or its target is replaced. -/
def beginStop (s : State) (dest : Mode) : State :=
  match s.pair.stop with
  | some q => { s with pair := { s.pair with stop := some { q with target := dest } } }
  | none =>
    let s := s.frmEnd 6
    { s with pair := { s.pair with stop := some { target := dest, step := 1, since := s.tim.odo } },
             ctl := { s.ctl with next := some ({ kind := 1, value := 0, limit := 0 }, false), stopHold := true } }

/-- The stop sequence goes on to a step. -/
def stopStep (s : State) (n : Nat) : State :=
  { s with pair := { s.pair with stop := s.pair.stop.map fun q => { q with step := n, since := s.tim.odo } } }

/-- abs(i_meas) ≤ STOP_I × C_RATE (R225). -/
def stopCurrent (s : State) : Bool := match s.ctlMeas with
  | some (_, _, i, _) => decide (i.natAbs * 1000 ≤ s.rd Reg.RED_STOP_I * s.rd Reg.EST_C_RATE)
  | none => false

/-- Every used contactor is among those that feedback shows open. -/
def allOpen (s : State) (mask : Nat) : Bool := (List.range 6).all fun k => !(usedChannels s.saf.pset).testBit k || mask.testBit k

/-- Feedback shows channels open. -/
def noteOpen (s : State) (mask : Nat) : State :=
  (List.range 6).foldl (fun s k => if mask.testBit k then s.setCh k { s.ch k with fbA := false, fbB := false } else s) s

end State

/-- A write of MODE_REQ (R223, R224). -/
def modeReqWrite (s : State) (mid : Mid) (v : Word) : State :=
  match s.modeStep (Mode.ofCode (v.toNat % 8)) with
  | .enter m => s.setMode m
  | .stop m => s.beginStop m
  | .refuse c => s.modeRefused mid c

/-- MODE_REQ. -/
def execModeReq (mid : Mid) (value : Word) (s : State) : Out := ok (s.busW mid Reg.RED_MODE_REQ fun s => modeReqWrite s mid value)

/-- STOP_SEQ_RUN_EXIT (R225 step 2). -/
def execStopSeqRunExit (s : State) : Out :=
  ok (match s.pair.stop with
    | some q =>
      if s.inControl && q.step == 1 && (s.stopCurrent || decide (msT (s.rd Reg.RED_STOP_TMO) ≤ s.since q.since)) then s.stopFrames.stopStep 2 else s
    | none => s)

/-- STOP_SEQ_PATHS_OPEN (R225 step 3). -/
def execStopSeqPathsOpen (s : State) : Out :=
  ok (match s.pair.stop with
    | some q =>
      if s.inControl && q.step == 2 && decide (msT 20 ≤ s.since q.since) then (s.setKReq 0 State.tryClose).stopStep 3 else s
    | none => s)

/-- STOP_SEQ_DONE (R225 step 4): feedback shows the channels of the mask open. -/
def execStopSeqDone (open_ : Nat) (s : State) : Out :=
  ok (match s.pair.stop with
    | some q => if s.inControl && q.step == 3 && s.allOpen open_ then (s.noteOpen open_).setMode q.target else s
    | none => s)

end Sys2Proof.Machine
end

