-- ==== Sys2Proof/Machine/Redundancy.lean ====
section
/-! DEFINITION. The pair: HEALTH (R239), heartbeats and what comes with them (R230, R234, R236), the mirrored control state (R231), node state
(R80) and snapshots (R232), resignation and takeover (R226 to R235), handover and return (R237, R238). -/

namespace Sys2Proof.Machine

open Sys2Proof

namespace State

/-! ### HEALTH (R239) -/

/-- A radio's receive check. -/
def radioOk (s : State) (l : Nat) (heard : Bool) : Bool := s.lnkState l != 3 && s.bit (Reg.LNK_LNK_STAT l) 2 && heard

/-- The switch check: no switch fault, and the last test cycle complete. -/
def switchesOk (s : State) : Bool := s.reg Reg.SAF_SW_FAULT == 0 && s.saf.cycleOk && s.saf.powerTest

/-- No pipeline overrun in the last 100 sweeps. -/
def noOverrun (s : State) : Bool := match s.est.overrunAt, s.newestRec with
  | some k, some r => decide (k + 100 ≤ r.index)
  | some _, none => false
  | none, _ => true

/-- The last uncorrectable error lies more than 60 s back. -/
def eccOk (s : State) : Bool := match s.pair.eccAt with
  | some t => decide (secT 60 < s.since t)
  | none => true

/-- The checks of R239 by bit. -/
def healthBits (s : State) : List Bool :=
  let ctl := s.inControl
  [s.laneOk 0, s.laneOk 1, s.radioOk 0 s.link.heard0, s.radioOk 1 s.link.heard1, s.link.loop0 && s.link.loop1,
   !s.snsBad 0, !s.snsBad 1 && !s.sns.sf8Low, !s.snsBad 2, ctl || decide (10 ≤ s.pair.estOk), ctl || s.pair.ctlOk,
   s.psetMatch, s.partnerAlive && s.pair.hb.image == s.runVer, s.cfgMatch, chMask s.pathOn == s.fld Reg.SAF_K_REQ 0 6, s.switchesOk,
   s.xtripOk, s.partnerAlive && s.pair.gauOk, s.partnerAlive && s.pair.timeOk, s.eccOk, !s.pair.hot, s.hpm 2 && s.hpm 3, s.hpm 4,
   s.noOverrun, !s.ctl.fellOver]

/-- The weights of R239 by bit. -/
def healthWeights : List Nat := [5, 5, 15, 15, 10, 15, 10, 15, 10, 20, 100, 5, 20, 30, 30, 100, 20, 10, 30, 10, 5, 20, 10, 10]

/-- HEALTH as a word. -/
def healthWord (bits : List Bool) : Nat := bits.zipIdx.foldl (fun n (b, i) => n + b2n b * 2 ^ i) 0

/-- SCORE (R239). -/
def scoreOf (bits : List Bool) : Nat := 100 - (bits.zip healthWeights).foldl (fun n (b, w) => if b then n else n + w) 0

/-- HEALTH and SCORE of a heartbeat period, with the events of what they lost. -/
def updateHealth (s : State) : State :=
  let bits := s.healthBits
  let h := healthWord bits
  let score := scoreOf bits
  let was := s.rd Reg.RED_HEALTH
  let lost (b : Nat) : Bool := was.testBit b && !h.testBit b
  let s := s.eventIf (decide (score < s.fld Reg.RED_SCORE 0 8)) 0x1C 9
  let s := (s.eventIf (lost 8) 0x1B 4).eventIf (lost 12) 0x1B 5
  let alive := s.partnerAlive
  let s := (s.wr Reg.RED_HEALTH h).setReg Reg.RED_PARTNER_HEALTH (if alive then s.pair.hb.health else 0)
  s.wr Reg.RED_SCORE (score + 2 ^ 8 * (if alive then s.pair.hb.score % 256 else 0))

/-! ### Leaving (R243) -/

/-- The partner holds every requested channel proved. -/
def partnerHoldsAll (s : State) : Bool := (List.range 6).all fun k => !s.requested k || s.partnerHolds k

/-- REMOVE_BLOCKED. -/
def blockRemove (s : State) : State := (s.eventIf (!s.hpm 7) 0x1F 5).setHpm 7 true

/-- A module that leaves can hand control over: the partner is present as SHADOW, fit, and holds the channels. -/
def mayLeave (s : State) : Bool := s.partnerFit && s.partnerHoldsAll

/-- Step 1 of leaving in a module in control: a handover is wanted, or the removal is blocked (R233 cause 10). -/
def leaveInControl (s : State) : State :=
  if s.mayLeave then { s with pair := { s.pair with handWant := true, blocked := s.pair.blocked.erase 10 } }.setHpm 7 false
  else
    let s := s.blockRemove
    if s.pair.blocked.contains 10 then s else (s.noteCause 10).event 0x1C 7

/-- Steps 2 and 3: the partner in control holds every requested channel, so the own paths open, reception stops, and CVL goes high-impedance. -/
def leaveOut (s : State) : State :=
  if !s.pair.leaving || s.pair.leftAt.isSome then s
  else if s.partnerAlive && (s.pair.hb.role == 1 || s.pair.hb.role == 2) && s.partnerHoldsAll then
    let s := s.openAll
    let s := { s with pair := { s.pair with leftAt := some s.tim.odo, claim := false }, ctl := { s.ctl with lineOn := false } }
    s.setHpm 7 false
  else s.blockRemove

/-! ### The heartbeat -/

/-- A cause of R233 still stands. -/
def causeStands (s : State) (cause : Nat) : Bool :=
  match cause with
  | 1 => s.bit (Reg.LNK_LNK_STAT 0) 3 || s.bit (Reg.LNK_LNK_STAT 1) 3
  | 3 => s.ctl.path
  | 4 => s.sns.sf8Since.isSome
  | 5 => s.fld Reg.SAF_SW_FAULT 0 14 != 0
  | 6 => s.saf.xtripFault
  | 9 => s.bit Reg.CVL_CVL_CFG 0 && !s.ctl.lineOn
  | 10 => s.pair.leaving
  | _ => false

/-- The resignations that could not be carried out are tried again while their causes stand (R233): the first of them is taken, and a release of the
latch by a handover (R243). -/
def retryResign (s : State) : State :=
  let s := { s with pair := { s.pair with blocked := s.pair.blocked.filter s.causeStands } }
  match s.pair.blocked.find? (· != 10) with
  | some c => if s.pair.role == .active && s.partnerFit then s.resignFor c else if s.pair.blocked.contains 10 then s.leaveInControl else s
  | none => if s.pair.blocked.contains 10 then s.leaveInControl else s

/-- The partner's grid position agrees with this module's (R239): the cycle number, and the angle within 0.01°. -/
def gauAgrees (s : State) (h : Heartbeat) : Bool :=
  h.gauCycle == s.gau.cyc % 2 ^ 32 && decide ((sdiff 32 (s.gau.pos / 2 ^ 32) h.gauAngle).natAbs ≤ 119304)

/-- The partner's plant time agrees within 1 µs (R239). -/
def timeAgrees (s : State) (h : Heartbeat) : Bool :=
  let d : Int := sdiff 32 (timeSec s.plant) h.ptSec * 1000000000 + ((timeNs s.plant : Int) - h.ptNs)
  decide (d.natAbs ≤ 1000)

/-- The wait of R238: it runs while slot B is in control and slot A's SCORE is 100. -/
def revertWatch (s : State) : State :=
  let good := s.pair.slotB && s.inControl && s.pair.hb.role == 3 && !s.pair.hb.slotB && s.pair.hb.score == 100
  if !good then { s with pair := { s.pair with revertAt := none, revertNow := false } }
  else if s.pair.revertAt.isSome then s
  else { s with pair := { s.pair with revertAt := some s.tim.odo } }

/-- The record of a cycle as this module received it. -/
def presentOf (s : State) (cycle : Nat) : Nat := match s.swp.ring.find? fun r => r.cycle == cycle with
  | some r => r.present
  | none => 0

/-- The PRESENT mask a SHADOW waits for has come (R201, R230). -/
def takeMask (s : State) : State :=
  match s.link.maskWait with
  | none => s
  | some (c, _) =>
    if s.pair.hb.cycle != c % 2 ^ 32 then s
    else { s with link := { s.link with maskWait := none } }.evalMiss c (s.presentOf c ||| s.pair.hb.present)

/-- K_NET and the key epoch of the controlling module (R52, R54). -/
def mirrorEpoch (s : State) (e : Nat) (knet : Option Nat) : State :=
  let s := { s with nv := { s.nv with knet := knet.or s.nv.knet } }
  if s.nv.epoch = e then s
  else { s with nv := { s.nv with epoch := e }, link := { s.link with epochOld := 3, epochAt := s.gau.cyc } }

/-- A SHADOW follows the partner in control: its mode, but for SAFE-HOLD, and its epoch (R54, R223). -/
def followPartner (s : State) (h : Heartbeat) : State :=
  if !(s.isShadow && (h.role == 1 || h.role == 2)) then s
  else
    let s := s.mirrorEpoch h.epoch h.knet
    let m := Mode.ofCode (h.mode % 8)
    if m == .safeHold || s.pair.mode == .safeHold || m == .off || m == .boot then s else s.setMode m

/-- HEARTBEAT_RX (R230). A module in control is ACTIVE while the heartbeats show SHADOW, and SOLO otherwise (R226, R236). -/
def heartbeatRx (s : State) (h : Heartbeat) : State :=
  let old := s.coilMask
  let s := { s with pair := { s.pair with hb := h, hbAt := s.tim.odo, alive := true, gauOk := s.gauAgrees h, timeOk := s.timeAgrees h },
                    upd := { s.upd with partnerAct := h.act } }
  let s := (s.wr Reg.CSW_HB_RX_SEQ h.rx.seq).setReg Reg.CSW_PARTNER_TAG h.cfgTag
  let s := ((s.setReg Reg.CSW_PARTNER_IMG h.image).noteCoils old).tpAlign h
  let s :=
    if s.pair.role == .solo && h.role == 3 && s.pair.present && s.pairEn then s.setRole .active
    else if s.pair.role == .active && h.role != 3 then s.setRole .solo
    else s
  let s := ((s.followPartner h).takeMask).revertWatch
  if s.isShadow then s.leaveOut else s

/-- The partner's heartbeat is lost (R234, R236): the coils it alone held are open (R211), the wait of R238 is broken, the SHADOW takes over, an ACTIVE becomes SOLO; the remote mailboxes are cleared (R259). -/
def heartbeatLost (s : State) : State :=
  let was := s.coilMask
  let s := { s with pair := { s.pair with alive := false, revertAt := none, revertNow := false } }.noteCoils was
  let s := ((s.bump Reg.CSW_HB_LOST).event 0x1B 2).mbxRemoteLost
  match s.pair.role with
  | .shadow => if s.pair.leftAt.isSome || s.pair.unseated then s else s.takeOver true
  | .active => s.setRole .solo
  | _ => s

/-! ### Settling the role (R226) -/

/-- The role of a module that claims control: ACTIVE beside a partner that sends heartbeats as SHADOW, else SOLO. -/
def soloClaim (s : State) : Bool := !(s.pairEn && s.partnerAlive && s.pair.hb.role == 3)

/-- On leaving BOOT (R226). -/
def settleRole (s : State) : State :=
  if !s.pairEn then s.claimControl true
  else if s.pair.claimIn then s.setRole .shadow
  else if !s.pair.present then s.claimControl true
  else if !s.pair.slotB then s.claimControl s.soloClaim
  else { s with pair := { s.pair with startWait := some s.tim.odo } }

/-- START_WAIT has passed without a claim of slot A (R226). -/
def startExpiry (s : State) : State :=
  match s.pair.startWait with
  | some t =>
    if s.since t < msT (s.rd Reg.RED_START_WAIT) then s
    else
      let s := { s with pair := { s.pair with startWait := none } }
      if s.pair.role != .none then s else if s.pair.claimIn then s.setRole .shadow else s.claimControl s.soloClaim
  | none => s

/-- The claims of both modules began within 100 µs of each other (R228). -/
def claimsTogether (s : State) : Bool := decide (s.since s.pair.claimAt ≤ usT 100)

/-- The partner's claim is seen (R226, R228): a module in control yields, but for slot A where both claims began together. -/
def claimSeen (s : State) : State :=
  if s.inControl then
    if s.claimsTogether && !s.pair.slotB && s.pair.offer.isNone then s
    else
      let offered := s.pair.offer.isSome
      let s := if offered && s.pair.leaving then s.wr Reg.RED_LAST_CAUSE 10 else s
      s.yield.eventIf offered 0x1C 5
  else if s.pair.role == .none && s.pair.mode != .boot && s.pair.mode != .off then
    { s with pair := { s.pair with startWait := none } }.setRole .shadow
  else s

/-- RESIGN_IN settles (R227, R234). -/
def resignIn (s : State) (high : Bool) : State :=
  let was := s.pair.claimIn
  let s := { s with pair := { s.pair with claimIn := !high, claimInAt := s.tim.odo } }
  if !high then s.claimSeen
  else if was && s.isShadow && s.pair.leftAt.isNone && !s.pair.unseated then s.takeOver !s.partnerAlive
  else s

/-! ### The mirrored control state (R231) -/

/-- CONTROL_FRAME_RX (R231, R237). -/
def controlFrameRx (s : State) (f : CtlFrame) : State :=
  if !s.isShadow || !f.crcOk then s
  else
    let s := s.placeFrame f
    if f.handover && s.pair.leftAt.isNone then s.takeHandover else s

/-! ### Node state (R80, R230) -/

/-- A lane a node holds here and no longer holds is free. -/
def dropPlace (f : NodeState) (s : State) (n : Nat) : State :=
  let (lane, radio) := (f.nodes[n]?).getD (0, 0)
  let (r, l) := (s.nodeRadio n, s.nodeLane n)
  if s.laneNode r l = some n && !(f.joined.testBit n && r == radio && l == lane) then s.freeLane r l else s

/-- One node of a NODE_STATE frame. -/
def takeNode (f : NodeState) (s : State) (n : Nat) : State :=
  let (lane, radio) := (f.nodes[n]?).getD (0, 0)
  if f.joined.testBit n then
    let fresh := !s.joined n
    let s := if s.laneNode radio lane = some n then s else s.placeNodeIn n radio lane
    let s := if fresh then s.setJoined n true else s
    let s := if fresh then
        match s.planOf n with
        | some e => s.wr (Reg.NOD_NODE_DET n) (e.w0 + 256 * e.w1)
        | none => s
      else s
    (s.eventIf fresh 0x0A 0).createNode n
  else if s.link.objs.testBit n then s.destroyNode n
  else if s.joined n then s.setJoined n false
  else s

/-- NODE_STATE_RX (R80). -/
def nodeStateRx (s : State) (f : NodeState) : State :=
  if !s.isShadow then s
  else (List.range 32).foldl (takeNode f) ((List.range 32).foldl (dropPlace f) s)

/-! ### Snapshots (R232) -/

/-- The largest difference in SOC_F to a snapshot, in 0.01 %, and its cell. -/
def estDiff (s : State) (f : Snapshot) : Nat × Nat :=
  f.cells.foldl (fun best (c : SnapCell) =>
    let d := (F32.toIntScaled (F32.sub (cellOfSnap c).socF (s.pubCell c.cell).socF) 10000).natAbs
    if best.1 < d then (d, c.cell) else best) (0, 0)

/-- A snapshot is incomplete or late. -/
def missSnapshot (s : State) : State :=
  { ((s.bump Reg.CSW_SNAP_MISS).event 0x1B 3) with pair := { s.pair with snapOk := false, estOk := 0 } }

/-- SNAPSHOT_RX (R232). -/
def snapshotRx (s : State) (f : Snapshot) : State :=
  if !s.isShadow then s
  else if f.complete && f.cycle == s.rd Reg.EST_PIPE_CYCLE then
    let (d, c) := s.estDiff f
    let good := decide (d ≤ s.rd Reg.CSW_MIRROR_TOL)
    let s := (s.wr Reg.CSW_EST_DIFF (min 65535 d + c % 512 * 2 ^ 16)).wr Reg.CSW_SNAP_SEQ f.pubSeq
    { s with pair := { s.pair with snapNext := some f, snapOk := true, estOk := if good then min 10 (s.pair.estOk + 1) else 0 } }
  else
    let s := if f.complete then s.wr Reg.CSW_SNAP_SEQ f.pubSeq else s
    s.missSnapshot

/-! ### Handover and return (R237, R238) -/

/-- The offer of a handover at the end of a join slot. -/
def offerHandover (s : State) : State :=
  if !s.inControl || !s.pair.handWant || s.pair.offer.isSome then s
  else
    let s := { s with pair := { s.pair with handWant := false } }
    if !s.partnerFit then (if s.pair.leaving then s.blockRemove.noteCause 10 else s)
    else { s with pair := { s.pair with offer := some s.tim.odo } }.sendCtl.sendBeat

/-- No claim within 1 ms: the offer is withdrawn. -/
def failHandover (s : State) : State :=
  match s.pair.offer with
  | some t =>
    if !s.inControl || s.since t < msT 1 then s
    else
      let s := { s with pair := { s.pair with offer := none, handWant := s.upd.waiting } }.event 0x1C 6
      if s.pair.leaving then s.blockRemove.noteCause 10 else s
  | none => s

/-- CTL_STAT.RAMPING: the ramp state has not reached the set-point. -/
def ramping (s : State) : Bool :=
  !(F32.le s.ctl.ramp (F32.ofInt (spTarget s.ctl.now)) && F32.le (F32.ofInt (spTarget s.ctl.now)) s.ctl.ramp)

/-- A staged set-point is due within the next 2 sweeps. -/
def stagedSoon (s : State) : Bool :=
  s.ctl.staged.any fun e => decide (sdiff 64 (s.stagedTarget e.handle) s.gridPos.toNat ≤ 2 * s.gau.swpDiv * 2 ^ 32)

/-- A LANE or CHMASK entry is pending. -/
def lanesPending (s : State) : Bool :=
  s.link.chMaskPend.isSome || !s.link.wants.isEmpty || (s.link.nodes.any fun (_, x) => x.move.isSome)
    || s.link.cmds.any fun e => entryRank e == 0 || entryRank e == 4

/-- A sweep is quiet (R238). -/
def quietSweep (s : State) : Bool :=
  !s.ramping && s.est.dither.isNone && !s.ctl.dwelling && s.pair.stop.isNone && !s.stagedSoon && s.frm.state != 1 && !s.lanesPending
    && s.saf.sources == 0 && !s.saf.latched

/-- The wait of REVERT_HOLD has run out, or is skipped. -/
def revertReady (s : State) : Bool :=
  s.pair.revertNow || (match s.pair.revertAt with
    | some t => s.rd Reg.RED_REVERT_HOLD != 0 && decide (secT (s.rd Reg.RED_REVERT_HOLD) ≤ s.since t)
    | none => false)

/-- A module whose SEATED contact opens, or whose overwrite begins, gives up control without a handover (R244, R356). -/
def dropControl (s : State) : State := if s.inControl then (s.bump Reg.RED_RESIGNS).setRole .shadow else s

end State

/-! ### The commands -/

/-- BOOT, OFF and dead modules take no part in the pair. -/
def inPair (s : State) : Bool := s.pair.mode != .off && !s.pair.unpowered

/-- HEARTBEAT_TX (R230, R233, R239). -/
def execHeartbeatTx (s : State) : Out := ok (if inPair s then s.updateHealth.retryResign.sendBeat else s)

/-- HEARTBEAT_RX (R230). -/
def execHeartbeatRx (hb : Heartbeat) (s : State) : Out := ok (if inPair s then s.cswTake 0 0 hb.rx fun s => s.heartbeatRx hb else s)

/-- HEARTBEAT_LOSS (R234): no valid heartbeat for 450 µs, in a SHADOW also where none has come since it took the role. -/
def execHeartbeatLoss (s : State) : Out :=
  ok (if inPair s && (s.pair.alive || (s.isShadow && s.pair.leftAt.isNone && !s.pair.unseated)) && decide (usT 450 ≤ s.since s.pair.hbAt) then s.heartbeatLost else s)

/-- START_WAIT_EXPIRY (R226). -/
def execStartWaitExpiry (s : State) : Out := ok s.startExpiry

/-- RESIGN_IN_CHANGE (R227). -/
def execResignInChange (high : Bool) (s : State) : Out := ok (if inPair s then s.resignIn high else s)

/-- CONTROL_FRAME_RX (R231). -/
def execControlFrameRx (f : CtlFrame) (s : State) : Out := ok (if inPair s then s.cswTake 1 0 f.rx fun s => s.controlFrameRx f else s)

/-- NODE_STATE_TX (R230): every 100 ms. -/
def execNodeStateTx (s : State) : Out := ok (if decide (msT 100 ≤ s.since s.pair.nodeSentAt) then s.sendNodeState else s)

/-- NODE_STATE_RX (R80). -/
def execNodeStateRx (f : NodeState) (s : State) : Out := ok (if inPair s then s.cswTake 0 2 f.rx fun s => s.nodeStateRx f else s)

/-- SNAPSHOT_RX (R232). -/
def execSnapshotRx (f : Snapshot) (s : State) : Out :=
  ok (if s.cswUp && inPair s then
    let s := (s.cswBad 0 f.bad0).cswBad 1 f.bad1
    (s.bump Reg.CSW_RX_FRAMES (if f.complete then (snapSegments f).length else f.segs)).snapshotRx f
  else s)

/-- RESIGN (R233 cause 8): in another role it has no effect. -/
def execResign (mid : Mid) (s : State) : Out := ok (s.busW mid Reg.RED_RED_CMD fun s => s.resignFor 8)

/-- HANDOVER_OFFER (R237). -/
def execHandoverOffer (s : State) : Out := ok s.offerHandover

/-- HANDOVER_FAIL (R237). -/
def execHandoverFail (s : State) : Out := ok s.failHandover

/-- REVERT (R238): at the end of a quiet sweep slot B hands control back under R237. -/
def execRevert (s : State) : Out :=
  ok (if s.pair.slotB && s.inControl && s.revertReady && s.quietSweep && s.partnerAlive && s.pair.hb.score == 100 && s.pair.hb.role == 3 then
    { s with pair := { s.pair with handWant := true, revertNow := false } }
  else s)

/-- REVERT_NOW (R238). -/
def revertNowOp (s : State) (mid : Mid) : State :=
  if s.pair.slotB && s.inControl && s.partnerAlive && s.pair.hb.score == 100 then { s with pair := { s.pair with revertNow := true } }
  else s.err mid Reg.RED_RED_CMD .state

/-- REVERT_NOW. -/
def execRevertNow (mid : Mid) (s : State) : Out := ok (s.busW mid Reg.RED_RED_CMD fun s => revertNowOp s mid)

/-- SHADOW_PATH_JOIN (R242): the requested channels that the partner holds. -/
def execShadowPathJoin (s : State) : Out :=
  ok (if s.isShadow then
    let s := (List.range 6).foldl (fun s k => if s.requested k then s.joinPath k else s) s
    if s.fld Reg.HPM_HPM_STAT 9 3 = 3 ∧ State.chMask s.pathOn = s.fld Reg.SAF_K_REQ 0 6 then s.setPhase 4 else s
  else s)

/-- PRESENT_MASK_TIMEOUT (R230): MISS on the module's own reception alone. -/
def execPresentMaskTimeout (s : State) : Out :=
  ok (match s.link.maskWait with
    | some (c, t) =>
      if usT 200 ≤ s.since t then { s with link := { s.link with maskWait := none } }.evalMiss c (s.presentOf c) else s
    | none => s)

/-- CVL_LINE_FAULT (R233 cause 9): LINE_ON clears while EN is set. -/
def execCvlLineFault (s : State) : Out :=
  ok (if s.bit Reg.CVL_CVL_CFG 0 then { s with ctl := { s.ctl with lineOn := false } }.resignFor 9 else s)

/-- CSW_LANE_CHANGE (R229): a lane goes down or comes up; with both down the remote mailboxes are lost (R259). -/
def execCswLaneChange (lane : Fin 2) (up : Bool) (s : State) : Out :=
  let v := if up then 2 else 0
  let s' := if lane.val = 0 then { s with pair := { s.pair with lane0 := v } } else { s with pair := { s.pair with lane1 := v } }
  let s' := s'.event 0x1B (b2n up)
  ok (if up || s'.pair.lane0 == 2 || s'.pair.lane1 == 2 then s' else s'.mbxRemoteLost)

end Sys2Proof.Machine
end

