-- ==== Sys2Proof/Machine/HotPlug.lean ====
section
/-! DEFINITION. Hot plug and the supplies: power-on and the end of BOOT (R224, R226, R241), the seat and the latch (R241, R243, R244, R373),
the partner's presence (R236), the loss of both supplies and hold-up (R325, R346, R366, R367). -/

namespace Sys2Proof.Machine

open Sys2Proof

namespace State

/-- PWR_GOOD_A and PWR_GOOD_B. -/
def setPower (s : State) (a b : Bool) : State := (s.setHpm 2 a).setHpm 3 b

/-- One of the supplies is good. -/
def powerGood (s : State) : Bool := s.hpm 2 || s.hpm 3

/-- A module in OFF with SEATED closed and a good supply enters BOOT (R224, R373 step 4); a supply alone starts nothing. -/
def enterBoot (s : State) : State :=
  if s.pair.mode == .off && s.hpm 0 && s.powerGood then
    { s with pair := { s.pair with mode := .boot, unpowered := false, lossAt := none }, upd := { s.upd with boot := .rom, romAt := none } }.setPhase 2
  else s

/-! ### The end of BOOT (R224) -/

/-- The stored parameter set comes into force on each boot where its signature and ranges hold (R221). -/
def bootPset (s : State) : State :=
  match s.nv.pset with
  | none => s
  | some b => if s.psetValid b then { s with saf := { s.saf with pset := some (psetOf b) } } else s.event 0x13 12

/-- The journal of a trial boot that reaches READY returns to state 0 (R357). -/
def trialDone (s : State) : State :=
  if s.nv.journal.state = 2 then
    { s with nv := { s.nv with journal := {} }, upd := { s.upd with goodAt := s.tim.odo } }
  else s

/-- READY (R224): the parameter set, the start-up tests (R213), the inputs, the journal and the role (R226). -/
def toReady (s : State) : State :=
  let s := s.bootPset.startupArm.siAll.trialDone
  let s := { s with upd := { s.upd with boot := .done } }.setMode .ready
  let s := (s.setPhase 3).settleRole
  if s.inControl then s.setPhase 4 else s

/-- The loader, the image check and the self-test end. -/
def bootDone (s : State) (pass : Bool) : State :=
  if !(s.pair.mode == .boot && s.upd.boot == .loading && !s.hpm 8) then s
  else if pass && !s.pair.homeBad then s.toReady
  else if s.nv.journal.state = 2 then s.loader
  else s.bootFails

/-! ### The partner's presence -/

/-- PARTNER_PRESENT follows PRES_IN; the wait of R238 is broken, and an ACTIVE whose partner is pulled becomes SOLO (R236, R244). -/
def partnerPresent (s : State) (p : Bool) : State :=
  if s.pair.present = p then s
  else
    let was := s.coilMask
    let s := ({ s with pair := { s.pair with present := p, revertAt := none, revertNow := false } }.setHpm 5 p).event 0x1F (if p then 6 else 7)
    let s := s.noteCoils was
    if !p && s.pair.role == .active then s.setRole .solo else s

/-! ### The seat and the latch -/

/-- SEATED closes (R373): insertion proceeds. -/
def seatedClose (s : State) : State :=
  if s.hpm 0 then s
  else
    let s := (s.setHpm 0 true).event 0x1F 0
    let s := { s with pair := { s.pair with unseated := false }, nv := { s.nv with insertions := s.nv.insertions + 1 } }
    if s.pair.mode == .off then (s.setPhase 1).enterBoot else s

/-- SEATED opens with the latch closed (R244, R374): control is given up without a handover and every path that the partner holds opens. -/
def seatedOpen (s : State) : State :=
  if !s.hpm 0 then s
  else
    let s := (s.setHpm 0 false).event 0x1F 1
    if s.hpm 6 then s.setPhase 6
    else
      let s := { s with pair := { s.pair with unseated := true } }.dropControl
      (List.range 6).foldl (fun s k => if s.partnerHolds k then s.openCh k else s) s

/-- The latch is released (R243): the module starts leaving, and its heartbeats say so. -/
def latchOpen (s : State) : State :=
  if !s.hpm 1 then s
  else
    let s := ((((s.setHpm 1 false).event 0x1F 2).setHpm 6 false).setHpm 7 false).setPhase 5
    let s := { s with pair := { s.pair with leaving := true, leaveAt := s.tim.odo } }.sendBeat
    if s.inControl then s.leaveInControl else s.leaveOut

/-- The latch closes; before REMOVE_OK it cancels the leaving and the module rejoins under R242. -/
def latchClose (s : State) : State :=
  if s.hpm 1 then s
  else
    let s := (s.setHpm 1 true).event 0x1F 3
    if s.pair.leaving && !s.hpm 6 then
      let keep := s.pair.blocked.erase 10
      let s := { s with pair := { s.pair with leaving := false, leftAt := none, handWant := false, blocked := keep },
                        ctl := { s.ctl with lineOn := s.bit Reg.CVL_CVL_CFG 0 } }
      ((s.setHpm 7 false).setPhase 4).sendBeat
    else s

/-- The feedback after the own paths have opened (R243 step 4): every requested contactor still shows closed, or the removal is blocked. -/
def removeOk (s : State) (closed : Nat) : State :=
  if !s.pair.leaving || s.pair.leftAt.isNone || s.hpm 6 then s
  else if (List.range 6).all fun k => !s.requested k || closed.testBit k then
    ((s.setHpm 6 true).event 0x1F 4).wr Reg.HPM_LEAVE_TIME (s.since s.pair.leaveAt / msT 1)
  else s.blockRemove

/-! ### The supplies -/

/-- CORE goes to point 3 without delay (R346); a change under way ends. -/
def corePoint3 (s : State) : State :=
  let s := { s with clock := { s.clock with goal := none, confirmed := false, held := none } }
  ((s.setBit Reg.CLK_DVFS_STAT 4 false).setBit Reg.CLK_DVFS_STAT 5 false).setFld Reg.CLK_DVFS_STAT 0 2 3

/-- Both supplies are lost (R346): SUPPLY_LOSS in HPM and SYS, CORE to point 3, and the recorder's R325. -/
def supplyLoss (s : State) : State :=
  if s.pair.unpowered || s.pair.lossAt.isSome then s
  else
    let s := ({ s with pair := { s.pair with lossAt := some s.tim.odo } }.setPower false false).corePoint3
    let s := (s.event 0x1F 8).event 0x00 2
    s.powerLossRecord [s.reg Reg.HPM_HPM_STAT, s.reg Reg.HPM_HOLDUP_V]

/-- A supply returns before hold-up ends (R346): SUPPLY_LOSS clears and nothing is reset. Which supply returned is a free value (log entry 4). -/
def supplyReturn (s : State) : State :=
  if s.pair.lossAt.isNone then s
  else
    let w := s.freeWord.toNat
    let s := { s with pair := { s.pair with lossAt := none } }.drawFree
    let s := s.setPower (w.testBit 0) (!w.testBit 0 || w.testBit 1)
    (s.setBit (evtAddr 0x1F) 8 false).setBit (evtAddr 0x00) 2 false

/-- Hold-up ends (R346 step 4): the switches go off, CVL goes high-impedance and all domains fall together. -/
def holdupEnd (s : State) : State :=
  match s.pair.lossAt with
  | none => s
  | some t =>
    if s.since t < msT 20 then s
    else
      let s := s.openAll
      { s with ctl := { s.ctl with lineOn := false, state := 0, stopping := false },
               pair := { s.pair with
                 mode := .off, role := .none, claim := false, stop := none, startWait := none, unpowered := true, lossAt := none } }

/-- HOLDUP_V and HOLDUP_READY (R367). -/
def holdupVolts (s : State) (mv : Nat) : State :=
  let s := s.wr Reg.HPM_HOLDUP_V mv
  if 43000 ≤ mv then s.setHpm 4 true else if mv < 42000 then s.setHpm 4 false else s

/-! ### The front LEDs (R245) -/

/-- What an LED shows. -/
inductive Led where
  | off | on
  /-- At 2 Hz. -/
  | blink
  deriving DecidableEq, Repr

/-- An LED: all are on while LED_TEST is set, and dark without power. -/
def ledOf (s : State) (shown : Led) : Led :=
  if s.pair.unpowered then .off else if s.bit Reg.HPM_HPM_CFG 0 then .on else shown

/-- The boot ROM's check has failed, and RUN and FAULT blink together (R351). -/
def romFailed (s : State) : Bool := s.pair.mode == .boot && s.upd.boot == .rom && s.upd.romAt.isSome

/-- RUN, green. What it shows in SAFE-HOLD the spec leaves open (log entry 122). -/
def ledRun (s : State) : Led :=
  s.ledOf (if s.hpm 8 || s.romFailed then .blink
    else match s.pair.mode with
      | .off | .boot => .off
      | .ready | .commission | .operate | .formation | .service => .on
      | .safeHold => if Config.runLedInSafeHold then .on else .off)

/-- ROLE, green. -/
def ledRole (s : State) : Led :=
  s.ledOf (match s.pair.role with
    | .none => .off
    | .active | .solo => .on
    | .shadow => .blink)

/-- FAULT, red. What it shows at SCORE 100 with a demand outside SAFE-HOLD the spec leaves open (log entry 122). -/
def ledFault (s : State) : Led :=
  s.ledOf (if s.romFailed then .blink
    else if s.pair.mode == .safeHold then .on
    else if decide (s.fld Reg.RED_SCORE 0 8 < 100) then .blink
    else if s.saf.latched && Config.faultLedAtDemand then .on else .off)

/-- REMOVE, blue: it blinks while leaving is in progress, is on once the module may be removed, and stays off where the removal is blocked (R243). -/
def ledRemove (s : State) : Led :=
  s.ledOf (if s.hpm 6 then .on else if s.pair.leaving && !s.hpm 7 then .blink else .off)

end State

/-! ### The commands -/

/-- POWER_ON (R224, R366). -/
def execPowerOn (a b : Bool) (s : State) : Out := ok ((s.setPower a b).enterBoot)

/-- BOOT_DONE (R224). -/
def execBootDone (pass : Bool) (s : State) : Out := ok (s.bootDone pass)

/-- PARTNER_PRESENT_CHANGE (R241, R371). -/
def execPartnerPresentChange (present : Bool) (s : State) : Out := ok (s.partnerPresent present)

/-- SEATED_CLOSE (R373). -/
def execSeatedClose (s : State) : Out := ok s.seatedClose

/-- SEATED_OPEN (R244, R374). -/
def execSeatedOpen (s : State) : Out := ok s.seatedOpen

/-- LATCH_OPEN (R243). -/
def execLatchOpen (s : State) : Out := ok s.latchOpen

/-- LATCH_CLOSE (R243). -/
def execLatchClose (s : State) : Out := ok s.latchClose

/-- REMOVE_OK (R243). -/
def execRemoveOk (closed : Nat) (s : State) : Out := ok (s.removeOk closed)

/-- SUPPLY_LOSS (R346). -/
def execSupplyLoss (s : State) : Out := ok s.supplyLoss

/-- SUPPLY_RETURN (R346). -/
def execSupplyReturn (s : State) : Out := ok s.supplyReturn

/-- HOLDUP_END (R346). -/
def execHoldupEnd (s : State) : Out := ok s.holdupEnd

/-- PWR_GOOD_CHANGE (R366): one supply crosses its threshold while the other stays good. -/
def execPwrGoodChange (supplyB good : Bool) (s : State) : Out := ok (s.setHpm (if supplyB then 3 else 2) good)

/-- HOLDUP_READY (R367). -/
def execHoldupReady (mv : Nat) (s : State) : Out := ok (s.holdupVolts mv)

end Sys2Proof.Machine
end

