-- ==== Sys2Proof/Machine/Views.lean ====
section
/-! DEFINITION. What a read of a register returns (R5 to R7, R378 to R384): registers whose contents are typed state are computed here, held
copies are read by the master that took them, write-only and reserved bits read 0; and SNAP, which takes the held copies. A read with a side
effect is a command of its own. -/

namespace Sys2Proof.Machine

open Sys2Proof

/-- The bits below `n` that a test names. -/
def maskOf (n : Nat) (p : Nat → Bool) : Nat := flagWord ((List.range n).map p)

/-- Entry `i` of a word list, 0 past its end. -/
def wordAt (l : List Word) (i : Nat) : Word := l.getD i 0

/-- The bytes of a log record (R315). -/
def recordImage (r : LogRec) : List Nat :=
  let b := leBytes 4 r.seq ++ leBytes 2 (r.code + 2 ^ 12 * r.sev) ++ [flagWord [r.milestone, r.fromBlotter, r.ptInvalid, r.gap], r.mid]
    ++ leBytes 8 r.odo.toNat ++ leBytes 4 r.ptSec ++ leBytes 4 r.ptNs ++ leBytes 4 r.cycle ++ leBytes 2 r.boot ++ leBytes 2 r.epoch
    ++ leBytes 2 r.suppressed ++ [0, 0] ++ (List.range 6).flatMap fun i => wordBytes (wordAt r.data i)
  b ++ wordBytes (crc32 b)

/-- The words of a receive entry of CAN (R275). -/
def canRxWords (e : CanRx) : List Word :=
  [e.w0, e.w1, e.stamp, w32 e.seq] ++ (List.range 16).map fun i => w32 (leAt e.data (4 * i) 4)

/-- BLK_VER.MAJOR (R385). -/
def blkMajor (p : Nat) : Nat := if p = 0 ∨ p = 2 ∨ p = 6 then 2 else if p = 1 ∨ p = 0x15 ∨ p = 0x16 then 3 else 1

/-- BLK_ID (R380): the second page of a pair of pages or of instances carries the number of the block's first page and instance 1. -/
def blkId (p : Nat) : Nat :=
  let second := [0x05, 0x09, 0x0E, 0x16].contains p
  0x4D580000 + (if second then 2 ^ 8 + (p - 1) else p)

namespace State

/-! ### The images' versions (R351) -/

/-- SVN of an image. -/
def imageSvn (b : List Nat) : Nat := leAt b 16 2

/-! ### Mailbox windows (R251 to R257) -/

/-- CH_STAT of an end. -/
def chStat (s : State) (ch : Nat) (e : Bool) : Nat :=
  let x := s.mbxEnd ch e
  let y := s.mbxEnd ch (!e)
  flagWord [x.full, y.full, x.aborted, x.peerReset, x.tmo, x.mutual_, e, s.farRemote ch e]
    + 2 ^ 8 * (if y.full then y.len % 16 else 0) + 2 ^ 12 * b2n x.outFree + 2 ^ 16 * s.endMid ch (!e)

/-- A channel is pending for an end (R257). -/
def chPending (s : State) (ch : Nat) (e : Bool) : Bool :=
  let x := s.mbxEnd ch e
  let y := s.mbxEnd ch (!e)
  let en := x.irqEn.toNat
  (y.full && en.testBit 0) || (x.outFree && en.testBit 1) || (x.aborted && en.testBit 2) || (x.peerReset && en.testBit 3)
    || (x.tmo && en.testBit 4) || (x.mutual_ && en.testBit 5) || (y.ring &&& en / 2 ^ 16) != 0

/-- The channels from `lo` pending for a master. -/
def pendWord (s : State) (mid lo : Nat) : Nat :=
  maskOf 32 fun i => (s.endOf (lo + i) mid).elim false (s.chPending (lo + i))

/-- The interrupt line of a master that may end channels, asserted while any channel is pending for it (R257). -/
def mbxLine (s : State) (m : LocalMid) : Bool :=
  mbxEndMid m.code && (s.pendWord m.code 0 != 0 || s.pendWord m.code 32 != 0)

/-- A register of a channel window, read by a master. -/
def windowReg (s : State) (mid ch off : Nat) : Word :=
  match s.endOf ch mid with
  | none => 0
  | some e =>
    let x := s.mbxEnd ch e
    let y := s.mbxEnd ch (!e)
    if off < 0x20 then (if y.full then y.msg.get 0 (off / 4) else 0)
    else if off = 0x24 then (if y.full then w32 (y.len + 2 ^ 8 * s.endMid ch (!e) + 2 ^ 16) else 0)
    else if off = 0x28 then w32 (s.chStat ch e)
    else if off = 0x2c then w32 x.ring
    else if off = 0x30 then w32 y.ring
    else if off = 0x34 then x.irqEn
    else if off = 0x38 then x.postAt.setWidth 32
    else 0

/-! ### The views by page -/

/-- Page 0x00. -/
def viewSys (a : Nat) : Option Word :=
  if a = Reg.SYS_PART_ID then some ((Config.fuse a &&& 0x00010000) ||| 0x7200)
  else if a = Reg.SYS_DIE_REV ∨ a = Reg.SYS_SERIAL_LO ∨ a = Reg.SYS_SERIAL_HI then some (Config.fuse a)
  else none

/-- Pages 0x04 and 0x05. -/
def viewMbx (s : State) (mid a : Nat) : Option Word :=
  if a = Reg.MBX_MBX_PEND_LO then some (w32 (s.pendWord mid 0))
  else if a = Reg.MBX_MBX_PEND_HI then some (w32 (s.pendWord mid 32))
  else if a = Reg.MBX_MBX_STAT then
    let chs := (List.range 64).filter s.bound
    let remote := chs.filter fun ch => isPartner (s.endMid ch false) || isPartner (s.endMid ch true)
    some (w32 (chs.length + 2 ^ 8 * remote.length + 2 ^ 16 * b2n s.mbxPeer))
  else if 0x4800 ≤ a ∧ a < 0x5000 then some (s.windowReg mid ((a - 0x4800) / 0x40) (a % 0x40))
  else if 0x5800 ≤ a ∧ a < 0x6000 then some (s.windowReg mid (32 + (a - 0x5800) / 0x40) (a % 0x40))
  else none

/-- Pages 0x06 and 0x07. -/
def viewTime (s : State) (a : Nat) : Option Word :=
  if a = Reg.TIM_ODO_LO then some s.odoLo
  else if a = Reg.TIM_ODO_HI then some s.odoHi
  else if a = Reg.TIM_PLANT_CFG then some (w32 (s.tim.plantSel + 2 ^ 8 * b2n (s.residNs != 0)))
  else if a = Reg.TIM_PLANT_RESID then some (wInt s.residNs)
  else if a = Reg.GAU_GAU_STAT then
    let src := match s.gau.src with
      | .nominal => 0
      | .phref => 1
      | .holdover => 2
    some (w32 (src + 4 * b2n s.gau.locked + 8 * b2n s.gau.slewing + 16 * b2n (s.bit a 4)))
  else if a = Reg.GAU_FREQ then some (w32 s.freqMicroHz)
  else if a = Reg.GAU_ANGLE then some (w32 s.angle)
  else if a = Reg.GAU_CYCLE then some (w32 s.cycle)
  else if a = Reg.GAU_WM_COUNT then some (w32 s.gau.wms.length)
  else if a = Reg.GAU_WM_FIFO then some ((s.gau.wmFifo.head?.map (·.handle)).getD 0)
  else none

/-- Pages 0x08 to 0x0A. -/
def viewLink (s : State) (a : Nat) : Option Word :=
  if a = Reg.LNK_LNK_STAT 0 then some (w32 (s.rd a / 4 * 4 + s.lnkState 0))
  else if a = Reg.LNK_LNK_STAT 1 then some (w32 (s.rd a / 4 * 4 + s.lnkState 1))
  else if a = Reg.LNK_TX_CAL 0 ∨ a = Reg.LNK_TX_CAL 1 then some (Config.fuse a)
  else if a = Reg.NOD_EPOCH then some (w32 s.nv.epoch)
  else if a = Reg.NOD_DISC_HI then some (w32 ((s.link.disc.head?.getD 0) / 2 ^ 32))
  else if a = Reg.NOD_DISC_LO then some (w32 (s.link.disc.head?.getD 0))
  else none

/-- Page 0x0B. -/
def viewSwp (s : State) (a : Nat) : Option Word :=
  let q := s.fld Reg.SWP_WIRE_Q_NODE 0 5
  let r := s.newestRec.getD {}
  if a = Reg.SWP_SWP_STAT then
    let clean := (s.countedCells.filter fun c => s.newestRec.isSome && (cleanV r c).isSome).length
    some (w32 (r.index % 8 + 2 ^ 8 * (popcount 32 r.present) + 2 ^ 16 * (clean % 1024) + 2 ^ 31 * b2n s.gau.swpDivPend.isSome))
  else if a = Reg.SWP_REC_CYCLE then some (w32 r.cycle)
  else if a = Reg.SWP_WIRE_SUS then some (w32 (maskOf 17 fun i => (s.wire q i).suspect))
  else if a = Reg.SWP_WIRE_CONF then some (w32 (maskOf 17 fun i => (s.wire q i).confirmed))
  else if a = Reg.SWP_WIRE_NODES then some (w32 (maskOf 32 fun n => (List.range 17).any fun i => (s.wire n i).confirmed))
  else none

/-- Page 0x0C. -/
def viewSns (s : State) (a : Nat) : Option Word :=
  if a = Reg.SNS_SNS_STAT then
    let one (c : Nat) : Nat := flagWord [(s.snsCh c).stuck, (s.snsCh c).ovr, s.snsBad c]
    some (w32 (one 0 + 2 ^ 4 * one 1 + 2 ^ 8 * one 2 + 2 ^ 16 * b2n (s.bit a 16) + 2 ^ 17 * b2n s.sns.useB))
  else none

/-- Page 0x0D. -/
def viewEst (s : State) (a : Nat) : Option Word :=
  if a = Reg.EST_EST_STAT then
    let stage := (s.est.run.map (·.done)).getD 0
    let n := (s.est.pub.filter fun e => s.estimated e.1).length
    some (w32 (stage % 8 + 2 ^ 3 * b2n s.est.run.isSome + 2 ^ 4 * b2n (s.bit a 4) + 2 ^ 16 * n))
  else if a = Reg.EST_DITHER_STAT then
    some (w32 (flagWord [s.ditherDue, s.bit Reg.DSP_DSP_STAT 2, s.est.dither.isSome, s.est.ditherEarly.isSome]))
  else if a = Reg.EST_CAP_PEND then some (w32 (s.est.caps.length + 2 ^ 8 * (s.est.caps.filter capReady).length))
  else none

/-- A cell as CELL_STATE shows it (R138): a cell without a table has NO_TABLE, and one that has not started TEMP_OLD as Gather left it. -/
def shownCell (s : State) (c : Nat) : Cell :=
  let a := s.cellAux c
  let x := s.pubCell c
  let x := if a.started then x else x.flag 5 a.tempOld
  x.flag 8 a.table.isNone

/-- Page 0x0F. BAL_Q has 8 bits for a cap of up to 256, and shows it modulo 256 (DESIGN CHOICE, log entry 117). -/
def viewBal (s : State) (a : Nat) : Option Word :=
  if a = Reg.BAL_BAL_Q then
    let n := s.fld Reg.BAL_BAL_Q_NODE 0 5
    let g := (s.link.balPlan.find? fun g => g.node == n).getD { node := n, mask := 0, duty := 0 }
    some (w32 (g.mask % 2 ^ 16 + 2 ^ 16 * (g.duty % 256) + 2 ^ 24 * (s.nodeCapDuty n % 256)))
  else none

/-- Page 0x10. -/
def viewCtl (s : State) (a : Nat) : Option Word :=
  let c := s.ctl
  if a = Reg.CTL_CTL_STAT then
    some (w32 (c.state % 4 + 2 ^ 2 * (c.now.kind % 4) + 2 ^ 4 * (c.sel % 8) + 2 ^ 7 * flagWord
      [s.ramping, c.path, c.sat, c.derate, c.oscStop, c.noMeas, c.dwelling, c.applied, s.est.dither.isSome, c.srcB]))
  else if a = Reg.CTL_SP_STAT then some (w32 c.staged.length)
  else if a = Reg.CTL_SP_NOW_KIND then some (w32 (c.now.kind % 4 + 2 ^ 8 * b2n c.now.fromFrm))
  else if a = Reg.CTL_SP_NOW_VALUE then some (wInt c.now.value)
  else if a = Reg.CTL_SP_NOW_LIMIT then some (wInt c.now.limit)
  else none

/-- Pages 0x11 and 0x12. -/
def viewCvlFrm (s : State) (a : Nat) : Option Word :=
  let f := s.ctl.frame
  if a = Reg.CVL_CVL_STAT then
    some (w32 (f.role % 4 + 4 * b2n f.stop + 8 * b2n f.rep + 2 ^ 4 * (f.tko % 16) + 2 ^ 8 * (f.seq % 256)
      + 2 ^ 16 * b2n (s.ctl.lineOn && s.bit Reg.CVL_CVL_CFG 0)))
  else if a = Reg.CVL_CVL_GAP then some (w32 (4 * s.ctl.gap))
  else if a = Reg.FRM_FRM_STAT then
    some (w32 (s.frm.state % 4 + 4 * b2n (s.bit a 2) + 2 ^ 8 * (s.frm.step % 64) + 2 ^ 16 * s.fld a 16 4))
  else if a = Reg.FRM_FRM_T_STEP then some (w32 (stepMs s.frm.time))
  else if a = Reg.FRM_FRM_Q_STEP then some (wInt (toMah s.frm.charge))
  else if a = Reg.FRM_FRM_COUNT then some (w32 s.frm.progs.length)
  else none

/-- SAF_STAT. -/
def safStat (s : State) : Nat :=
  flagWord [s.saf.latched, s.saf.pset.isSome, s.pathProved, s.saf.startup % 4 != 0, s.saf.xtripFault, s.saf.proofDue != 0,
    s.saf.proofOver != 0, s.nv.weld != 0, s.reg Reg.SAF_SW_FAULT != 0, (List.range 6).any s.partnerHolds]

/-- A TP output, 0 for TP1, is on. -/
def tpOn (s : State) (k : Nat) : Bool :=
  match s.saf.tpOff with
  | some even => (k % 2 == 1) != even || decide (usT 400 ≤ s.since s.saf.tpAt)
  | none => true

/-- XTRIP_OUT and its input as XTRIP_STAT shows them. -/
def xtripStat (s : State) : Nat := s.saf.xtripIn % 4 + 4 * b2n s.xtripHigh + 8 * b2n s.saf.xtripFault

/-- PSET_DIGEST: of the pending set, or of the set in force. -/
def shownDigest (s : State) : Word :=
  match s.saf.pending with
  | some b => (psetOf b).digest
  | none => s.psetDigest

/-- The inputs and the channels of page 0x13. -/
def viewSafIo (s : State) (a : Nat) : Option Word :=
  let inputs (p : SiSt → Bool) : Nat := maskOf 12 fun i => p (s.si i)
  if a = Reg.SAF_K_STAT then
    some (w32 (maskOf 6 (fun k => (s.ch k).kh) + 2 ^ 8 * maskOf 6 (fun k => (s.ch k).kl) + 2 ^ 16 * maskOf 6 s.chProved
      + 2 ^ 24 * maskOf 6 s.partnerHolds))
  else if a = Reg.SAF_SI_STATE then some (w32 (inputs fun x => x.a == .high && x.b == .high))
  else if a = Reg.SAF_SI_RAW then some (w32 (inputs (fun x => x.a == .high) + 2 ^ 16 * inputs fun x => x.b == .high))
  else if a = Reg.SAF_SI_FAULT then some (w32 (inputs (·.disc) + 2 ^ 16 * inputs (·.tpFault)))
  else if a = Reg.SAF_FB_STATE then
    some (w32 (maskOf 6 (fun k => (s.ch k).fbA) + 2 ^ 8 * maskOf 6 (fun k => (s.ch k).fbB) + 2 ^ 16 * s.fld a 16 6
      + 2 ^ 24 * (s.nv.weld % 64)))
  else if a = Reg.SAF_TP_STAT then some (w32 (maskOf 8 s.tpOn + 2 ^ 8 * (s.saf.tpFault % 256)))
  else none

/-- Page 0x13. -/
def viewSaf (s : State) (a : Nat) : Option Word :=
  if a = Reg.SAF_SAF_STAT then some (w32 s.safStat)
  else if a = Reg.SAF_DEMAND then some (w32 s.saf.sources)
  else if a = Reg.SAF_XTRIP_STAT then some (w32 s.xtripStat)
  else if a = Reg.SAF_PSET_DIGEST then some s.shownDigest
  else if a = Reg.SAF_PSET_STAT then
    some (w32 (flagWord [s.saf.pset.isSome, s.saf.pending.isSome, s.psetMatch] + 2 ^ 16 * ((s.saf.pset.map (·.setId)).getD 0)))
  else if a = Reg.SAF_SAF_NONCE then some s.safNonce
  else if Reg.SAF_PROOF_AGE 0 ≤ a ∧ a ≤ Reg.SAF_PROOF_AGE 5 then
    some (match s.proofAge ((a - Reg.SAF_PROOF_AGE 0) / 4) with
      | some d => w32 d
      | none => 0xFFFFFFFF)
  else if a = Reg.SAF_STARTUP then some (w32 (s.saf.startup % 4))
  else if a = Reg.SAF_SIL_INFO then
    some (match s.saf.pset with
      | some p => w32 (p.silLimit + 2 ^ 8 * p.kUsed + 2 ^ 16 * p.proofInt)
      | none => 0)
  else s.viewSafIo a

/-- Page 0x14. -/
def viewGrd (s : State) (a : Nat) : Option Word :=
  let g := s.saf.gSources
  if a = Reg.GRD_GRD_STAT then
    some (w32 (flagWord [s.saf.gLatch, !g.testBit 4, g.testBit 5, g.testBit 0, g.testBit 1, g.testBit 2, g.testBit 3, s.xtripHigh]))
  else if a = Reg.GRD_GRD_KL then
    let kl := maskOf 6 fun k => (s.ch k).kl
    some (w32 (kl + 2 ^ 8 * kl + 2 ^ 16 * kl))
  else if a = Reg.GRD_GRD_SI then some (w32 s.saf.gSi)
  else if a = Reg.GRD_GRD_ID then some (Config.fuse a)
  else none

/-- Pages 0x15 and 0x16. -/
def viewCan (s : State) (l a : Nat) : Option Word :=
  let c := s.can l
  let mine := s.filters.filter fun (e : Nat × FilterSet) => e.2.ctl == l
  if a = Reg.CAN_CAN_STAT l then
    some (w32 (c.state % 4 + 2 ^ 2 * flagWord [canWarn c, c.recovering, c.flying]))
  else if a = Reg.CAN_ECNT l then some (w32 (c.tec % 512 + 2 ^ 16 * (c.rec_ % 128) + 2 ^ 23 * b2n (decide (128 ≤ c.rec_))))
  else if a = Reg.CAN_FS_MAP l then
    some (w32 (maskOf 8 (fun i => mine.any fun e => e.1 == i) + 2 ^ 8 * maskOf 8 fun i => mine.any fun e => e.1 == i && e.2.en))
  else if a = Reg.CAN_RXF_STAT l then some (w32 c.rxf.length)
  else if a = Reg.CAN_TXF_STAT l then
    some (w32 (c.txf.length + 2 ^ 8 * (c.nextTag % 256) + 2 ^ 16 * ((c.txf.head?.map (·.tag)).getD 0)))
  else if a = Reg.CAN_TXE_STAT l then some (w32 c.txe.length)
  else if Reg.CAN_RXF_HEAD l 0 ≤ a ∧ a < Reg.CAN_RXF_HEAD l 0 + 80 then
    some ((c.rxf.head?.map fun e => wordAt (canRxWords e) ((a - Reg.CAN_RXF_HEAD l 0) / 4)).getD 0)
  else if Reg.CAN_TXE_HEAD l 0 ≤ a ∧ a < Reg.CAN_TXE_HEAD l 0 + 16 then
    some ((c.txe.head?.map fun e => wordAt [e.1, e.2.1, e.2.2.1, e.2.2.2] ((a - Reg.CAN_TXE_HEAD l 0) / 4)).getD 0)
  else none

/-- Pages 0x17 and 0x19. -/
def viewEth (s : State) (a : Nat) : Option Word :=
  if a = Reg.ETH_MAC_LO then some (Config.fuse a)
  else if a = Reg.ETH_MAC_HI then some (Config.fuse a &&& 0xFFFF)
  else if Reg.ETH_TS_HEAD 0 ≤ a ∧ a ≤ Reg.ETH_TS_HEAD 5 then
    some ((s.eth.ts.head?.map fun e => wordAt e ((a - Reg.ETH_TS_HEAD 0) / 4)).getD 0)
  else if a = Reg.ETH_TS_STAT then some (w32 s.eth.ts.length)
  else if a = Reg.ETH_LA_FIFO then some (s.eth.laFifo.head?.getD 0)
  else if a = Reg.ETH_LA_COUNT then some (w32 s.eth.launches.length)
  else if a = Reg.DSP_DSP_STAT then
    some (w32 (flagWord [s.dsp.key0.isSome, s.dsp.key1.isSome, s.bit a 2, s.bit a 3] + 2 ^ 8 * s.dsp.staged.length))
  else if a = Reg.DSP_TX_CTR_HI then some (w32 s.nv.txCtrHi)
  else none

/-- Page 0x1A. -/
def viewRec (s : State) (mid a : Nat) : Option Word :=
  if a = Reg.REC_REC_STAT then
    some (w32 (flagWord [s.recd.scanning, s.recd.frozen.isSome, decide (milestoneSize ≤ s.nv.milestones.length), s.recd.erasing,
      s.recd.ckpt.isSome] + 2 ^ 11 * s.fld a 11 5 + 2 ^ 16 * s.recd.blotter.length))
  else if a = Reg.REC_REC_NONCE then some s.recNonce
  else if a = Reg.REC_OLDEST_SEQ then
    some (w32 (((s.nv.log.filter fun r => r.epoch == s.rd Reg.REC_CLEAR_EPOCH).getLast?.map (·.seq)).getD 0))
  else if a = Reg.REC_TOLL_PARAM then
    let t := s.toll (s.fld Reg.REC_TOLL_CODE 0 12)
    some (w32 (t.burst + 2 ^ 16 * t.refill))
  else if a = Reg.REC_TOLL_STATE then
    let t := s.refilled (s.toll (s.fld Reg.REC_TOLL_CODE 0 12))
    some (w32 (t.tokens + 2 ^ 16 * t.pending))
  else if Reg.REC_REC_PD 0 ≤ a ∧ a ≤ Reg.REC_REC_PD 5 then some (s.recd.posts.get 0 (mid * 8 + (a - Reg.REC_REC_PD 0) / 4))
  else if Reg.REC_RD_WIN 0 ≤ a ∧ a ≤ Reg.REC_RD_WIN 15 then
    some ((s.recd.window.map fun r => w32 (leAt (recordImage r) (a - Reg.REC_RD_WIN 0) 4)).getD 0)
  else none

/-- RED_STAT. -/
def redStat (s : State) : Nat :=
  let hb := s.pair.hb
  s.pair.role.code + 2 ^ 2 * b2n s.pair.slotB + 2 ^ 3 * s.pair.mode.code + 2 ^ 6 * (hb.mode % 8) + 2 ^ 9 * (hb.role % 4)
    + 2 ^ 11 * flagWord [s.pair.present, s.pair.claimIn, !s.pair.blocked.isEmpty && s.pair.role == .active,
      s.pair.revertAt.isSome && s.rd Reg.RED_REVERT_HOLD != 0, s.pair.offer.isSome,
      s.pair.stop.isSome]
    + 2 ^ 20 * (s.pair.tko % 16)

/-- Pages 0x1B, 0x1C and 0x1F. -/
def viewPair (s : State) (a : Nat) : Option Word :=
  if a = Reg.CSW_CSW_STAT then
    some (w32 (s.laneShown 0 + 4 * s.laneShown 1 + 2 ^ 4 * b2n s.partnerAlive + 2 ^ 5 * b2n s.pair.snapOk))
  else if a = Reg.CSW_STAGE_DIGEST then some s.stageDigest
  else if a = Reg.RED_RED_STAT then some (w32 s.redStat)
  else if a = Reg.HPM_SLOT_ID then some (w32 (s.pair.slotId % 128 + 2 ^ 7 * (popcount 7 s.pair.slotId % 2) + 2 ^ 8 * b2n (!s.pair.slotB)))
  else if a = Reg.HPM_INSERTIONS then some (w32 s.nv.insertions)
  else none

/-- UPD_PROGRESS, KiB. -/
def updProgress (s : State) : Nat :=
  let b := if s.upd.wrapIn.isSome then s.upd.imageIn else ((s.upd.staging.orElse fun _ => s.nv.staged).getD [])
  b.length / 1024

/-- UPD_STAT. -/
def updStat (s : State) : Nat :=
  flagWord [s.nv.staged.isSome, s.upd.armed.isSome, s.upd.staging.isSome, s.upd.wrapIn.isSome,
    s.upd.armed.elim false (fun t => t % 2 ^ 32 == s.upd.partnerAct), s.bit Reg.UPD_UPD_STAT 5, s.upd.waiting, s.upd.boot == .install]

/-- Pages 0x1D and 0x1E. -/
def viewSec (s : State) (a : Nat) : Option Word :=
  if a = Reg.UPD_UPD_STAT then some (w32 s.updStat)
  else if a = Reg.UPD_PARTNER_ACT then some (w32 s.upd.partnerAct)
  else if a = Reg.UPD_RUN_VER then some s.runVer
  else if a = Reg.UPD_STAGE_VER then some ((s.nv.staged.map fun b => w32 (leAt b 12 4)).getD 0)
  else if a = Reg.UPD_RUN_SVN then some ((s.nv.running.map fun b => w32 (imageSvn b)).getD 0)
  else if a = Reg.UPD_UPD_PROGRESS then some (w32 s.updProgress)
  else if a = Reg.UPD_RECOVERIES then some (w32 s.nv.recoveries)
  else if a = Reg.SEC_SEC_STAT then
    let up := s.upd.boot != .rom
    some (w32 (flagWord [up, up, (s.nv.keys.find? 1).isSome] + 2 ^ 9 * maskOf 7 (fun k => k == 0 || (s.nv.keys.find? k).isSome)
      + 2 ^ 16 * b2n s.upd.job.isSome))
  else if a = Reg.SEC_MIN_SVN then some (w32 s.nv.minSvn)
  else if a = Reg.SEC_SEC_RAND then some (Config.random s.upd.rand)
  else none

/-- Page 0x20. -/
def viewGpio (s : State) (a : Nat) : Option Word :=
  if a = Reg.GPIO_GPIO_IN then
    some (w32 (maskOf 8 fun p =>
      if s.bit Reg.GPIO_GPIO_DIR p then (s.gpio.pulses.find? p).elim (s.bit Reg.GPIO_GPIO_OUT p) (·.2) else s.gpio.pins.testBit p))
  else none

/-- A register computed from typed state; none where the stored register is what a read returns. -/
def view (s : State) (mid a : Nat) : Option Word :=
  match a / 0x1000 with
  | 0x00 => viewSys a
  | 0x03 => if a = Reg.FWL_FWL_STAT then some (w32 (b2n s.fwlOn + 2 * b2n (s.bit a 1))) else none
  | 0x04 | 0x05 => s.viewMbx mid a
  | 0x06 | 0x07 => s.viewTime a
  | 0x08 | 0x09 | 0x0A => s.viewLink a
  | 0x0B => s.viewSwp a
  | 0x0C => s.viewSns a
  | 0x0D => s.viewEst a
  | 0x0F => s.viewBal a
  | 0x10 => s.viewCtl a
  | 0x11 | 0x12 => s.viewCvlFrm a
  | 0x13 => s.viewSaf a
  | 0x14 => s.viewGrd a
  | 0x15 => s.viewCan 0 a
  | 0x16 => s.viewCan 1 a
  | 0x17 | 0x19 => s.viewEth a
  | 0x1A => s.viewRec mid a
  | 0x1B | 0x1C | 0x1F => s.viewPair a
  | 0x1D | 0x1E => s.viewSec a
  | 0x20 => s.viewGpio a
  | _ => none

/-! ### Held copies (R384) -/

/-- The registers that a SNAP of a page takes: those that the owning chapter names. -/
def snapRegs (page : Nat) : List Nat :=
  let run (lo hi : Nat) : List Nat := (List.range ((hi - lo) / 4 + 1)).map fun i => page * 0x1000 + lo + 4 * i
  match page with
  | 0x06 => run 0x048 0x084
  | 0x07 => run 0x054 0x064 ++ [Reg.GAU_CYC_ERA]
  | 0x0C => run 0x074 0x08c
  | 0x0D => run 0x100 0x17c
  | 0x0E => run 0x080 0x0e8
  | 0x10 => run 0x100 0x12c
  | _ => []

/-- The value that a SNAP copies. -/
def live (s : State) (mid a : Nat) : Word :=
  if Reg.EST_CELL_STATE 0 ≤ a ∧ a ≤ Reg.EST_CELL_STATE 31 then
    wordAt (coreWords (s.shownCell (s.fld Reg.EST_CELL_Q 0 9))) ((a - Reg.EST_CELL_STATE 0) / 4)
  else (s.view mid a).getD (s.reg a)

/-- The copies of a page are taken for a master. -/
def takeSnap (s : State) (mid : Mid) (page : Nat) : State :=
  (snapRegs page).foldl (fun t a => t.hold mid a (s.live mid.code a)) s

/-! ### A read -/

/-- What a register holds for a master, its access code apart. -/
def value (s : State) (mid : Mid) (a : Nat) : Word :=
  let page := a / 0x1000
  let o := a % 0x1000
  if o = 0x000 then w32 (blkId page)
  else if o = 0x004 then (Config.fuse a &&& 0xFF) ||| w32 (2 ^ 8 * blkMajor page)
  else if (snapRegs page).contains a then s.held? mid a
  else (s.view mid.code a).getD (s.reg a)

/-- What an open page returns for an aligned word: reserved offsets and write-only registers read 0 (R5, R7). -/
def shown (s : State) (mid : Mid) (a : Nat) : Word :=
  match regRow? a with
  | none => if a / 0x1000 = 0x04 ∨ a / 0x1000 = 0x05 then (s.view mid.code a).getD 0 else 0
  | some r => if r.acc == .wo then 0 else s.value mid a

/-- What an aligned 32-bit read by a master returns; a gated page or one that is not implemented reads 0 (R339, R378), and so does a denied or held
master (R265). The read with its effects is `readWord`. -/
def readReg (s : State) (mid : Mid) (a : Nat) : Word :=
  let page := a / 0x1000
  if s.held mid || (s.fwlOn && !s.pageRight (midColumn mid) page false) || !pageImplemented page || !s.pageOpen page then 0
  else s.shown mid a

end State

/-- A write of SNAP on a page (R46, R384); page 0x03 takes writes from the safety core alone (R264). -/
def snapWrite (s : State) (mid : Mid) (page : Nat) : State :=
  if page = 0x03 ∧ mid ≠ .own .safety then s.err mid (page * 0x1000 + 0x020) .midDeny
  else if page = 0x06 then timSnap s mid else if page = 0x07 then gauSnap s mid else s.takeSnap mid page

/-- SNAP (R384). -/
def execSnap (mid : Mid) (page : Nat) (s : State) : Out := ok (s.busW mid (page * 0x1000 + 0x020) fun s => snapWrite s mid page)

end Sys2Proof.Machine
end

