-- ==== Sys2Proof/Machine/Dsp.lean ====
section
/-! DEFINITION. DSP, the Dispatch endpoint (R301 to R312): plant messages, keys and reports, and the firing of a waymark entry (R41), whose DSP
action sends a report. -/

namespace Sys2Proof.Machine

namespace State

/-! ### Taking a message (R303) -/

/-- The key of a slot. -/
def dspKey (s : State) (slot : Nat) : Option (List Word) := if slot = 0 then s.dsp.key0 else if slot = 1 then s.dsp.key1 else none

/-- A SENDER is one of the nonzero PEERs (R303, R312). -/
def isPeer (s : State) (sender : Nat) : Bool :=
  sender != 0 && (List.range 4).any fun n => s.rd (Reg.DSP_PEER n) == sender

/-- DSP is enabled and has its clock. -/
def dspOn (s : State) : Bool := s.bit Reg.DSP_DSP_CFG 0 && s.clockRuns 0x19

/-- The checks of R303 in their order; `typ` is the TYPE of the message's layout. The answer says whether the message is taken. -/
def dspTake (s : State) (typ : Nat) (h : DspHdr) : State × Bool :=
  let key := h.keyId * 2 ^ 32 + h.sender
  if !s.dspOn then (s, false)
  else if h.typ ≠ typ ∨ h.ver ≠ 1 ∨ (s.dspKey h.keyId).isNone ∨ !s.isPeer h.sender then (s.bump Reg.DSP_RX_BAD, false)
  else if !h.tagOk then ((s.bump Reg.DSP_RX_AUTH).event 0x19 1, false)
  else
    let last := s.dsp.counters.find? key
    if last = some h.counter then (s.bump Reg.DSP_RX_DUP, false)
    else if last.any fun l => decide (h.counter < l) then ((s.bump Reg.DSP_RX_REPLAY).event 0x19 2, false)
    else
      let s := { s with dsp := { s.dsp with counters := s.dsp.counters.set key h.counter, lastCtr := h.counter % 2 ^ 32 } }
      ((s.bump Reg.DSP_RX_OK).event 0x19 0, true)

/-! ### SETPOINT (R304, R305) -/

/-- A set-point that DSP staged is dropped with its waymark entry. -/
def dspDrop (s : State) (id : Nat) : State :=
  match s.dsp.staged.find? id with
  | none => s
  | some e =>
    let s := match s.wmHandle e.handle with
      | .ok i => s.wmErase i
      | .error _ => s
    let h := e.handle
    { s with ctl := { s.ctl with staged := s.ctl.staged.filter (·.handle != h) }, dsp := { s.dsp with staged := s.dsp.staged.erase id } }

/-- The reason codes of R305. -/
def refuseCode : ErrCode → Nat
  | .waymarkPast => 1
  | .waymarkFull | .spFull => 3
  | _ => 2

/-- WM_CTRL of a set-point's entry: one-shot, the CTL action, and LATE_OK as the entry asks. -/
def spCtrl (e : SpEntry) : Word := w32 (2 ^ 17 + 2 ^ 24 * b2n (e.flags.testBit 1))

/-- One entry is staged, or refused with a code of R305. An SP_ID already staged gives way to the new entry. -/
def dspStage (s : State) (e : SpEntry) : Except Nat State :=
  if e.spId = 0 ∨ 0xFFFFFFFF ≤ e.spId then .error 2
  else
    let s := s.dspDrop e.spId
    match s.wmCreate e.actCycle e.actAngle (spCtrl e) with
    | .error c => .error (refuseCode c)
    | .ok (s, i) =>
      let h := s.handleOf .waymark i
      match s.stageSp { handle := h, kind := e.kind, value := e.value, limit := e.limit, keep := false } with
      | .error c => .error (refuseCode c)
      | .ok s =>
        if s.dsp.staged.any fun x => decide (x.2.cycle = e.actCycle) && decide (x.2.angle = e.actAngle) then .error 4
        else
          let d : DspSp := { handle := h, cycle := e.actCycle, angle := e.actAngle, ditherOk := e.flags.testBit 0 }
          .ok { s with dsp := { s.dsp with staged := s.dsp.staged.set e.spId d } }

/-- One entry of the message: those for other strings are skipped; a refused one changes nothing but what records the refusal. -/
def dspEntry (s : State) (e : SpEntry) : State :=
  if e.stringId ≠ s.rd Reg.DSP_STRING_ID then s
  else
    match s.dspStage e with
    | .ok s => (s.bump Reg.DSP_SP_ACCEPT).event 0x19 3
    | .error c => (((s.wr Reg.DSP_LAST_REFUSE (c + 2 ^ 8 * 1)).wr Reg.DSP_LAST_REF_SPID e.spId).bump Reg.DSP_SP_REFUSE).event 0x19 4

/-! ### WITHDRAW (R307) -/

/-- One pair of STRING_ID and SP_ID; 0xFFFF_FFFF names every set-point that DSP staged. -/
def dspWithdraw (s : State) (p : Nat × Nat) : State :=
  if p.1 ≠ s.rd Reg.DSP_STRING_ID then s
  else
    let ids := if p.2 = 0xFFFFFFFF then s.dsp.staged.map (·.1) else if (s.dsp.staged.find? p.2).isSome then [p.2] else []
    (ids.foldl dspDrop s).eventIf (!ids.isEmpty) 0x19 5

/-! ### TIMEBASE (R308) -/

/-- A TIMEBASE that is taken. -/
def dspTimebase (s : State) (b : TimebaseBody) : State :=
  if b.origin % 2 ^ 48 ≠ s.cycOrigin then (s.setBit Reg.DSP_DSP_STAT 3 true).event 0x19 6
  else
    let s := s.setBit Reg.DSP_DSP_STAT 3 false
    let s := s.eventIf (wInt b.bias != s.reg Reg.GAU_CYC_BIAS) 0x19 7
    if s.bit Reg.DSP_DSP_CFG 1 && decide (0 < sdiff 32 b.biasAt s.cycle) then
      cycBiasAtWrite (s.wrI Reg.GAU_CYC_BIAS_NEXT b.biasNext) (w32 b.biasAt)
    else s

/-! ### Keys (R302) -/

/-- KEY_CMD LOAD: the key words as written, and the counter records of the slot begin anew. -/
def dspKeyLoad (s : State) (slot : Nat) : State :=
  let k := (List.range 8).map fun i => s.dsp.keyIn.get 0 i
  let d := { s.dsp with counters := s.dsp.counters.drop fun c => c / 2 ^ 32 == slot }
  { s with dsp := if slot = 0 then { d with key0 := some k } else { d with key1 := some k } }.event 0x19 9

/-- KEY_CMD ERASE. -/
def dspKeyErase (s : State) (slot : Nat) : State :=
  { s with dsp := if slot = 0 then { s.dsp with key0 := none } else { s.dsp with key1 := none } }

/-! ### The report waymark (R309, R312) -/

/-- SENDER_ID may send reports (R312). -/
def senderOk (s : State) : Bool := s.rd Reg.DSP_SENDER_ID != 0 && !s.isPeer (s.rd Reg.DSP_SENDER_ID)

/-- The report waymark entry is destroyed. -/
def rptErase (s : State) : State :=
  let s := match s.dsp.rptWm.map s.wmHandle with
    | some (.ok i) => s.wmErase i
    | _ => s
  { s with dsp := { s.dsp with rptWm := none } }

/-- Reports stop: RPT_CFG.EN reads 0, and ERR_CODE says why. -/
def rptStop (s : State) (mid : Mid) (addr : Nat) (e : ErrCode) : State :=
  (s.rptErase.setBit Reg.DSP_RPT_CFG 16 false).err mid addr e

/-- The first cycle number that is a multiple of the period whose RPT_ANGLE lies ahead. -/
def rptFirst (s : State) (period : Nat) : Nat :=
  let n := s.gridPos.toNat / 2 ^ 32 / period * period
  if 0 < sdiff 64 (n * 2 ^ 32 + s.rd Reg.DSP_RPT_ANGLE) s.gridPos.toNat then n else n + period

/-- The report waymark entry is created anew, or EN reads 0 with WAYMARK_FULL. -/
def rptStart (s : State) (mid : Mid) (addr : Nat) : State :=
  let s := s.rptErase
  let p := s.fld Reg.DSP_RPT_CFG 0 16
  match s.wmCreate (s.rptFirst p) (s.rd Reg.DSP_RPT_ANGLE) (w32 (p + 2 ^ 18)) with
  | .error _ => s.rptStop mid addr .waymarkFull
  | .ok (s, i) => { s with dsp := { s.dsp with rptWm := some (s.handleOf .waymark i) } }

/-- A write of RPT_CFG. -/
def rptCfgWrite (s : State) (mid : Mid) (v : Word) : State :=
  let a := Reg.DSP_RPT_CFG
  if v.toNat % 2 ^ 16 = 0 ∨ (v.toNat.testBit 16 ∧ !s.senderOk) then s.err mid a .range
  else
    let s := s.regWrite mid a v
    if s.bit a 16 then s.rptStart mid a else s.rptErase

/-- A write of RPT_ANGLE: a running report moves to the new angle. -/
def rptAngleWrite (s : State) (mid : Mid) (v : Word) : State :=
  let s := s.regWrite mid Reg.DSP_RPT_ANGLE v
  if s.bit Reg.DSP_RPT_CFG 16 then s.rptStart mid Reg.DSP_RPT_ANGLE else s

/-- A write of SENDER_ID or of a PEER, which stops the reports if it breaks the rule of R312. -/
def senderWrite (s : State) (mid : Mid) (a : Nat) (v : Word) : State :=
  let s := s.regWrite mid a v
  if s.bit Reg.DSP_RPT_CFG 16 && !s.senderOk then s.rptStop mid a .range else s

/-! ### The report (R310, R311) -/

/-- Four bytes as a word. -/
def word4 (a b c d : Nat) : Word := w32 (a % 256 + 2 ^ 8 * (b % 256) + 2 ^ 16 * (c % 256) + 2 ^ 24 * (d % 256))

/-- The 26 words of a REPORT body (R310). -/
def reportBody (s : State) : List Word :=
  let l (a : Nat) : Word := s.live 0 a
  [l Reg.DSP_STRING_ID,
   word4 (b2n s.pair.slotB) s.pair.role.code (s.pair.mode.code + 8 * b2n s.pair.stop.isSome) s.pair.tko,
   l Reg.RED_HEALTH,
   (l Reg.RED_SCORE &&& 0xFFFF) ||| (l Reg.SAF_FIRST_CAUSE <<< 16),
   w32 (s.gridPos.toNat / 2 ^ 32), w32 s.gridPos.toNat, l Reg.FUS_STR_CYCLE, l Reg.FUS_SOC_REP, l Reg.FUS_E_DIS, l Reg.FUS_E_CHG,
   l Reg.FUS_P_DIS_2S, l Reg.FUS_P_DIS_10S, l Reg.FUS_P_DIS_60S, l Reg.FUS_P_CHG_2S, l Reg.FUS_P_CHG_10S, l Reg.FUS_P_CHG_60S,
   l Reg.FUS_STR_FLAGS, l Reg.CTL_I_MEAS, l Reg.CTL_V_MEAS, l Reg.CTL_SP_NOW_KIND &&& 0xFF, w32 s.dsp.spNow, w32 s.dsp.lastCtr,
   s.reg Reg.DSP_LAST_REFUSE, s.reg Reg.DSP_LAST_REF_SPID, w32 s.safStat, 0]

/-- The COUNTER of the next report (R311). -/
def rptCounter (s : State) : Nat := s.nv.txCtrHi % 2 ^ 32 * 2 ^ 32 + s.dsp.txLo % 2 ^ 32

/-- The clear part of a report: its first 16 bytes (R301). -/
def rptHead (s : State) (slot : Nat) : List Nat := [1, 0x81, slot, 0] ++ leBytes 4 (s.rd Reg.DSP_SENDER_ID) ++ leBytes 8 s.rptCounter

/-- A report protected under the key of a slot (R302). -/
def rptMessage (s : State) (slot : Nat) (key : List Word) (body : List Word) : List Nat :=
  let head := s.rptHead slot
  head ++ Config.gcmSeal (leNat (key.flatMap wordBytes)) (leNat (head.drop 4)) head (body.flatMap wordBytes)

/-- The IPv4 header checksum. -/
def ipSum (h : List Nat) : Nat := 2 ^ 16 - 1 - ((List.range 10).map fun i => beAt h (2 * i) 2).foldl onesAdd 0

/-- The Ethernet frame of a message: UDP over IPv4 from DSP_IPV4 to PLANT_IP, port 4720, tagged as DSP_VLAN sets (R301, R309). `n` numbers the
report, for the header fields that the spec does not state. -/
def rptFrame (s : State) (msg : List Nat) (n : Nat) : List Nat :=
  let v := s.rd Reg.DSP_DSP_VLAN
  let tag := if v.testBit 16 then beBytes 2 0x8100 ++ beBytes 2 (bitsOf v 13 3 * 2 ^ 13 + bitsOf v 0 12) else []
  let f (k : Nat) : Nat := Config.ipField (4 * n + k)
  let ip := [0x45, f 0 % 256] ++ beBytes 2 (28 + msg.length) ++ beBytes 2 (f 1) ++ [0, 0, f 2 % 256, 17, 0, 0]
    ++ beBytes 4 (s.rd Reg.DSP_DSP_IPV4) ++ beBytes 4 (s.rd Reg.DSP_PLANT_IP)
  beBytes 6 (s.fld Reg.DSP_PLANT_MAC_HI 0 16 * 2 ^ 32 + s.rd Reg.DSP_PLANT_MAC_LO)
    ++ beBytes 6 (((Config.fuse Reg.ETH_MAC_HI).toNat % 2 ^ 16) * 2 ^ 32 + (Config.fuse Reg.ETH_MAC_LO).toNat) ++ tag ++ beBytes 2 0x0800
    ++ putBytes ip 10 (beBytes 2 (ipSum ip)) ++ beBytes 2 4720 ++ beBytes 2 4720 ++ beBytes 2 (8 + msg.length) ++ beBytes 2 (f 3) ++ msg

/-- The low count of reports advances, and TX_CTR_HI with its wrap (R311). -/
def rptAdvance (s : State) : State :=
  if s.dsp.txLo % 2 ^ 32 = 2 ^ 32 - 1 then
    { s with dsp := { s.dsp with txLo := 0 }, nv := { s.nv with txCtrHi := (s.nv.txCtrHi + 1) % 2 ^ 32 } }
  else { s with dsp := { s.dsp with txLo := s.dsp.txLo + 1 } }

/-- A REPORT leaves on each port of DSP_CFG.PORTS (R309); a module without a key, or whose SENDER_ID breaks R312, sends none. -/
def sendReport (s : State) : State :=
  let slot := if s.dsp.key0.isSome then 0 else 1
  match s.dspKey slot with
  | none => s
  | some key =>
    if !s.dspOn || !s.senderOk then s
    else
      let body := s.reportBody
      let f := s.ethFrame 0 (s.rptFrame (s.rptMessage slot key body) s.rptCounter)
      let put (s : State) (p : Nat) : State := if s.bit Reg.DSP_DSP_CFG (1 + p) && s.ethPortOn p then s.ethPut p 3 f else s
      let s := put (put s 1) 2
      ({ s with dsp := { s.dsp with lastReport := body } }.rptAdvance.bump Reg.DSP_RPT_SENT).event 0x19 8

/-- The entry that fires now fires (R40, R41); the report held for its handle is sent if it has the DSP action. -/
def wmFire (s : State) : State :=
  let s := s.wmMarkLate
  match s.wmNow with
  | none => s
  | some (i, w) =>
    let mine := s.dsp.rptWm == some (s.handleOf .waymark i)
    let (s, toDsp) := s.fireEntry i w
    if toDsp && mine && s.bit Reg.DSP_RPT_CFG 16 then s.sendReport else s

/-- The entries that fire in this TIME cycle, in INDEX order (R40). `n` bounds their number. -/
def fireDue (s : State) : Nat → State
  | 0 => s
  | n + 1 => if s.wmNow.isSome then s.wmFire.fireDue n else s

end State

/-- A write of DESTROY to WM_CMD (R39); a firing of this TIME cycle comes before it (R42). -/
def wmDestroyWrite (s : State) (mid : Mid) : State := wmCmdDestroy (s.fireDue 15) mid

/-- WM_DESTROY. -/
def execWmDestroy (mid : Mid) (s : State) : Out := ok (s.busW mid Reg.GAU_WM_CMD fun s => wmDestroyWrite s mid)

/-! ### The commands -/

/-- WM_FIRE (R41): the GAU is clocked and an entry on a comparator has reached its target. -/
def execWmFire (s : State) : Out := ok (if s.clockRuns 0x07 then s.wmFire else s)

/-- SETPOINT_RX (R304): the entries in their order. -/
def execSetpointRx (hdr : DspHdr) (entries : List SpEntry) (s : State) : Out :=
  ok (let (s, taken) := s.dspTake 1 hdr
      if taken then entries.foldl State.dspEntry s else s)

/-- WITHDRAW_MSG_RX (R307): a firing of this TIME cycle comes before it. -/
def execWithdrawMsgRx (hdr : DspHdr) (pairs : List (Nat × Nat)) (s : State) : Out :=
  ok (let (s, taken) := s.dspTake 2 hdr
      if taken then pairs.foldl State.dspWithdraw (s.fireDue 15).takeFirings else s)

/-- TIMEBASE_RX (R308). -/
def execTimebaseRx (hdr : DspHdr) (body : TimebaseBody) (s : State) : Out :=
  ok (let (s, taken) := s.dspTake 3 hdr
      if taken then (s.dspTimebase body).fireLate else s)

/-- KEY_LOAD0 (R302). -/
def execKeyLoad0 (mid : Mid) (s : State) : Out := ok (s.busW mid Reg.DSP_KEY_CMD fun s => s.dspKeyLoad 0)

/-- KEY_LOAD1 (R302). -/
def execKeyLoad1 (mid : Mid) (s : State) : Out := ok (s.busW mid Reg.DSP_KEY_CMD fun s => s.dspKeyLoad 1)

/-- KEY_ERASE0 (R302). -/
def execKeyErase0 (mid : Mid) (s : State) : Out := ok (s.busW mid Reg.DSP_KEY_CMD fun s => s.dspKeyErase 0)

/-- KEY_ERASE1 (R302). -/
def execKeyErase1 (mid : Mid) (s : State) : Out := ok (s.busW mid Reg.DSP_KEY_CMD fun s => s.dspKeyErase 1)

/-- RPT_CFG_WRITE (R309, R312). -/
def execRptCfgWrite (mid : Mid) (value : Word) (s : State) : Out := ok (s.busW mid Reg.DSP_RPT_CFG fun s => s.rptCfgWrite mid value)

/-- SENDER_ID_WRITE (R312). -/
def execSenderIdWrite (mid : Mid) (value : Word) (s : State) : Out :=
  ok (s.busW mid Reg.DSP_SENDER_ID fun s => s.senderWrite mid Reg.DSP_SENDER_ID value)

/-- PEER_WRITE (R312). -/
def execPeerWrite (mid : Mid) (n : Fin 4) (value : Word) (s : State) : Out :=
  ok (s.busW mid (Reg.DSP_PEER n.val) fun s => s.senderWrite mid (Reg.DSP_PEER n.val) value)

end Sys2Proof.Machine
end

