-- ==== Sys2Proof/Machine/Flags.lean ====
section
/-! DEFINITION. Interrupt requests (R381): what the flags of a page ask of the interrupt controllers of A0 to A3. -/

namespace Sys2Proof.Machine

namespace State

/-- A page's interrupt request is asserted while EVT AND EVT_EN is not zero (R381). -/
def irq (s : State) (page : Nat) : Bool := (s.reg (evtAddr page) &&& s.reg (page * 0x1000 + 0x014)) != 0

/-- The source number of a page at the interrupt controllers of A0 to A3 (R381). -/
def irqSource (page : Nat) : Nat := 32 + page

/-- The pages that ask for an interrupt. -/
def irqPages (s : State) : List Nat := (List.range 33).filter s.irq

end State

end Sys2Proof.Machine
end

