-- ==== Sys2Proof/Machine/Operands.lean ====
section
/-! DEFINITION. The values that a register accepts: the fields with a stated range on the two EST pages and in CTL, whose writes are refused
with RANGE (R134, R164, the register sections of pages 0x0D and 0x0E, OSC_CFG). -/

namespace Sys2Proof.Machine

/-- A field's range: low bit, width, least and greatest value. -/
structure FieldRange where
  lo : Nat
  width : Nat
  least : Nat
  most : Nat
  deriving DecidableEq, Repr

/-- A field lies within its range. -/
def FieldRange.ok (r : FieldRange) (v : Nat) : Bool := decide (r.least ≤ bitsOf v r.lo r.width) && decide (bitsOf v r.lo r.width ≤ r.most)

/-- The ranges of page 0x0D. -/
def estRanges (a : Nat) : List FieldRange :=
  if a = Reg.EST_STEP_CFG then [⟨0, 16, 10, 1000⟩, ⟨16, 8, 24, 255⟩]
  else if a = Reg.EST_STEP_MAXGAP then [⟨0, 32, 60, 86400⟩]
  else if a = Reg.EST_DITHER_AMP then [⟨0, 32, 10000, 250000⟩]
  else if a = Reg.EST_GATE_CFG then [⟨0, 8, 16, 255⟩, ⟨8, 8, 1, 255⟩]
  else if a = Reg.EST_FIT_CFG then [⟨0, 8, 1, 255⟩, ⟨8, 16, 100, 50000⟩]
  else if a = Reg.EST_CKPT_PERIOD then [⟨0, 32, 10, 3600⟩]
  else []

/-- The ranges of page 0x0E. TAP_CFG and TAP_DEPTH are judged by CREATE (R161). -/
def fuseRanges (a : Nat) : List FieldRange :=
  if a = Reg.FUS_FUSE_CFG then [⟨0, 8, 1, 255⟩, ⟨8, 8, 16, 255⟩, ⟨16, 8, 1, 255⟩, ⟨24, 8, 5, 100⟩]
  else if a = Reg.FUS_FUSE_SLOPE then [⟨0, 16, 10, 20000⟩, ⟨16, 16, 10, 20000⟩]
  else if a = Reg.FUS_CONF_CFG then [⟨0, 16, 100, 5000⟩, ⟨16, 16, 1, 3600⟩]
  else if a = Reg.FUS_ANCHOR_MAX then [⟨0, 32, 1, 8760⟩]
  else if a = Reg.FUS_TAPER_CFG then [⟨0, 16, 1, 200⟩, ⟨16, 16, 10, 3600⟩]
  else if a = Reg.FUS_TAPER_DV then [⟨0, 32, 10, 2000⟩]
  else if a = Reg.FUS_SHUT_V then [⟨0, 16, 5000, 48000⟩, ⟨16, 16, 5000, 48000⟩]
  else if a = Reg.FUS_ZP_TAU then [⟨0, 32, 1, 3600⟩]
  else if a = Reg.FUS_RATCHET_CFG then [⟨0, 16, 10, 10000⟩, ⟨16, 16, 1, 100⟩]
  else if a = Reg.FUS_CAP_CFG then [⟨0, 8, 10, 90⟩]
  else if a = Reg.FUS_PLIM_IMAX then [⟨0, 16, 10, 10000⟩, ⟨16, 16, 10, 10000⟩]
  else if a = Reg.FUS_PLIM_HOLD then [⟨0, 32, 1, 50⟩]
  else []

/-- The limits of a binary32 register of page 0x0D, as binary32. -/
def f32Limits (a : Nat) : Option (Word × Word) :=
  if a = Reg.EST_Q_S then some (0, 0x3a83126f)
  else if a = Reg.EST_Q_V then some (0, 0x3f800000)
  else if a = Reg.EST_R_MEAS then some (0x3089705f, 0x3c23d70a)
  else if a = Reg.EST_P_INIT then some (0x38d1b717, 0x3f800000)
  else if a = Reg.EST_CUR_EPS then some (0, 0x3dcccccd)
  else none

/-- A binary32 value is finite and within limits. -/
def f32Within (v lo hi : Word) : Bool := bitsOf v.toNat 23 8 != 255 && F32.le lo v && F32.le v hi

/-- T_CHG_MIN lies within -30 to +15 degrees (page 0x0E). -/
def tChgOk (v : Nat) : Bool :=
  let t := (BitVec.ofNat 16 v).toInt
  decide (-3000 ≤ t) && decide (t ≤ 1500)

namespace State

/-- A write to pages 0x0D and 0x0E carries values that the register accepts. -/
def estValueOk (s : State) (a : Nat) (v : Word) : Bool :=
  let n := v.toNat
  (estRanges a ++ fuseRanges a).all (·.ok n)
    && (f32Limits a).all (fun l => f32Within v l.1 l.2)
    && !(a == Reg.EST_DITHER_AMP && decide (n * 1000 < s.fld Reg.EST_STEP_CFG 0 16 * s.rd Reg.EST_C_RATE))
    && !(a == Reg.FUS_FUSE_SLOPE && decide (bitsOf n 16 16 ≤ bitsOf n 0 16))
    && !(a == Reg.FUS_PLIM_TCHG && !tChgOk n)

/-- A write to CTL carries values that the register accepts: N of 2 to 64, and not OSC_ACT 3. -/
def ctlValueOk (a : Nat) (v : Word) : Bool :=
  let n := v.toNat
  !(a == Reg.CTL_CTL_CFG && (decide (n % 128 < 2) || decide (64 < n % 128))) && !(a == Reg.CTL_OSC_CFG && bitsOf n 16 2 == 3)

end State

end Sys2Proof.Machine
end

