-- ==== Sys2Proof/Machine/Resets.lean ====
section
/-! DEFINITION. The resets (R341 to R344), the watchdogs (R343), uncorrectable ECC errors (R347), and what starts a boot again (R351, R357). -/

namespace Sys2Proof.Machine

open Sys2Proof

/-- The value that reset MODULE, APP and so on write to RST_CMD, and the bits of RST_CAUSE (R344). -/
def causeBit (n : Nat) : Word := w32 (2 ^ n)

namespace State

/-- A reset is counted, and its source joins RST_CAUSE (R344). -/
def countReset (s : State) (cause : Nat) : State :=
  (s.setReg Reg.RST_RST_CAUSE (s.reg Reg.RST_RST_CAUSE ||| causeBit cause)).bump Reg.RST_RST_COUNT

/-! ### MODULE and POWER (R341) -/

/-- The registers that a MODULE reset keeps: those whose description says so, the guardrail's page, and the lines that HPM shows. -/
def keptByModule (s : State) : Tab Word :=
  List.filter (fun (e : Nat × Word) =>
    e.1 == Reg.RST_RST_CAUSE || e.1 == Reg.RST_RST_COUNT || e.1 / 0x1000 == 0x14) s.regs

/-- What the backplane shows a module stays. -/
def keptPair (s : State) : Pair :=
  { slotB := s.pair.slotB, homeBad := s.pair.homeBad, slotId := s.pair.slotId, claimIn := s.pair.claimIn, claimInAt := s.pair.claimInAt,
    present := s.pair.present, hot := s.pair.hot, lossAt := s.pair.lossAt, mode := .boot }

/-- A channel after a reset: both switches are off, the mirror contacts are as they were. -/
def keptCh (odo : BitVec 64) (c : ChSt) : ChSt :=
  { fbA := c.fbA, fbB := c.fbB, changed := if c.kh || c.kl then some odo else c.changed }

/-- The safety core starts anew; the guardrail and the lines stay. -/
def keptSaf (s : State) : Saf :=
  { ch := s.saf.ch.map fun e => (e.1, keptCh s.tim.odo e.2), quietAt := s.tim.odo, xtripIn := s.saf.xtripIn, xtripLow := s.saf.xtripLow,
    gLatch := s.saf.gLatch, gSources := s.saf.gSources &&& 15, gSi := s.saf.gSi, gLow := s.saf.gLow, nonce := s.draws }

/-- SW_FAULT after a power-on switch test: the latched faults clear only where the test passes (R210). -/
def switchFaults (s : State) (found : Nat) : Nat :=
  if found = 0 then 0 else s.rd Reg.SAF_SW_FAULT ||| (found &&& 0x3F3F)

/-- Every block and processor of the die is reset, the odometer and the times of the clock instances apart (R341, R23); nonvolatile content
stays, and the report counter advances (R311). The last write of the recorder completes. -/
def dieReset (s : State) (swFaults : Nat) : State :=
  let s := if s.recd.scanning then s else s.writeAll
  let nv := { s.nv with txCtrHi := (s.nv.txCtrHi + 1) % 2 ^ 32 }
  let faults := s.switchFaults swFaults
  let saf := { s.keptSaf with powerTest := swFaults == 0 }
  let t : State :=
    { pending := s.pending, mem := s.mem, free := s.free, draws := s.draws + 3, regs := s.keptByModule, pair := s.keptPair, saf := saf, nv := nv
      tim := { odo := s.tim.odo, clk := s.tim.clk }, est := { lastFitAt := s.tim.odo }, recd := { nonce := s.draws + 1 }
      gpio := { pins := s.gpio.pins }, upd := { goodAt := s.upd.goodAt, rand := s.draws + 2 } }
  let t := ((t.wr Reg.HPM_HPM_STAT (s.rd Reg.HPM_HPM_STAT % 64)).setPhase 2).wr Reg.SAF_SW_FAULT faults
  let p := t.nominalPos
  let t := { t with gau := { t.gau with pos := posWrap p, cyc := cycWrap (p / 2 ^ 64) } }
  if swFaults = 0 then t else t.event 0x13 4

/-- A MODULE reset. -/
def moduleReset (s : State) (cause : Nat) (romOk : Bool) (swFaults : Nat) : State :=
  ((s.dieReset swFaults).countReset cause).bootRom romOk

/-- A POWER reset (R19, R341, R344): the odometer and the clock instances start at 0, memory is empty, and RST_CAUSE is POR, or POR and
BROWNOUT. -/
def powerReset (s : State) (brownout romOk : Bool) (swFaults : Nat) : State :=
  let s := if s.recd.scanning then s else s.writeAll
  let s := { s with tim := {}, mem := [], upd := { s.upd with goodAt := 0, romAt := none }, saf := { s.saf with xtripLow := s.saf.xtripLow.map fun _ => 0 } }
  let s := { s with pair := { s.pair with claimInAt := 0, lossAt := none, unpowered := false } }
  let s := ((s.dieReset swFaults).wr Reg.RST_RST_CAUSE (1 + 2 * b2n brownout)).wr Reg.RST_RST_COUNT 0
  s.bootRom romOk

/-! ### Masters (R258, R265) -/

/-- A DMA channel's error status clears with its reset (R267). -/
def dmaClear (s : State) (column : Nat) : State :=
  if 8 ≤ column ∧ column < 24 then { s with dmaErr := s.dmaErr &&& (2 ^ 16 - 1 - 2 ^ (column - 8)) } else s

/-- A master of a rights column is reset: it is no longer frozen or stopped, and its mailbox ends are cleared. -/
def masterReset (s : State) (column : Nat) (mids : List Nat) : State :=
  mids.foldl mbxMasterReset ((s.setBit Reg.FWL_FROZEN column false).dmaClear column)

/-- A core's watchdog is off after its reset (R343). -/
def wdtOff (s : State) (n : Nat) : State :=
  { s with rst := { s.rst with wdt := s.rst.wdt.erase n } }.setBit (Reg.RST_WDT_CFG n) 31 false

/-- One application core is reset: R249 holds it until both tables are locked. -/
def coreReset (s : State) (n : Nat) : State :=
  let s := (s.masterReset n [n + 1]).wdtOff n
  ((s.setBit Reg.RST_RST_HOLD n true).releaseCores).event 0x02 0

/-- The DMA channels are reset. -/
def dmaReset (s : State) : State :=
  (List.range 16).foldl (fun s i => s.masterReset (8 + i) [(Mid.own (.dma (Fin.ofNat 16 i))).code]) s

/-- Scope APP: A0 to A3 and the DMA channels. -/
def appReset (s : State) : State :=
  let s := ((List.range 4).foldl (fun s n => (s.masterReset n [n + 1]).wdtOff n) s).dmaReset
  ((s.wr Reg.RST_RST_HOLD 0x1F).releaseCores).event 0x02 0

/-! ### Blocks -/

/-- The registers and the held copies of a page return to their Reset column, but for those named. -/
def dropPage (s : State) (page : Nat) (keep : List Nat) : State :=
  { s with regs := List.filter (fun (e : Nat × Word) => e.1 / 0x1000 != page || keep.contains e.1) s.regs,
           snaps := List.filter (fun (e : Nat × Word) => e.1 % 0x40000 / 0x1000 != page) s.snaps }

/-- The registers of a page that a BLOCK reset keeps, because their description or a rule names the resets that change them (R6); of
WDT_CFG only EN is so named (R343), and `blockReset` keeps it. -/
def keptByBlock (page : Nat) : List Nat :=
  match page with
  | 0x02 => [Reg.RST_RST_CAUSE, Reg.RST_RST_COUNT, Reg.RST_RST_HOLD]
  | 0x13 => [Reg.SAF_SW_FAULT]
  | 0x14 => [Reg.GRD_GRD_STAT, Reg.GRD_GRD_KL, Reg.GRD_GRD_SI, Reg.GRD_GRD_CAUSE, Reg.GRD_GRD_TESTS, Reg.GRD_GRD_WDMISS, Reg.GRD_GRD_ID]
  | 0x1F => [Reg.HPM_HPM_STAT]
  | _ => []

/-- EN of the watchdogs: once set, only a reset of the core clears it (R343). -/
def keepWdtEn (old : State) (s : State) : State :=
  (List.range 5).foldl (fun t n => t.setBit (Reg.RST_WDT_CFG n) 31 (old.bit (Reg.RST_WDT_CFG n) 31)) s

/-- CLK, RST, FWL and MBX: what their pages hold beside registers. -/
def blockSystem (s : State) (page : Nat) : State :=
  match page with
  | 0x01 => { s with clock := {} }
  | 0x02 => { s with rst := { wdt := s.rst.wdt } }
  | 0x03 => if s.saf.gSources.testBit 4 && !s.saf.gSources.testBit 5 then s.quiet 6 5 else s
  | 0x04 => { s with mbx := { s.mbx with chs := s.mbx.chs.drop fun c => decide (c < 32) } }
  | 0x05 => { s with mbx := { s.mbx with chs := [] } }
  | _ => s

/-- TIM and GAU (R387): the odometer, the instances' times, PLANT_SEL and the residual stay; the GAU starts on the nominal timeline. -/
def blockTime (s : State) (page : Nat) : State :=
  if page = 0x06 then
    let t := s.tim
    { s with tim := { odo := t.odo, clk := t.clk, plantSel := t.plantSel, resid := t.resid, slewing := t.slewing, ptSet := t.ptSet } }
  else if page = 0x07 then
    let p := s.nominalPos
    { s with gau := { pos := posWrap p, cyc := cycWrap (p / 2 ^ 64), swpDiv := s.gau.swpDiv, swpDivPend := s.gau.swpDivPend } }
  else s

/-- NOD: the link core's state and its node objects (R10, R80); what the radios show stays with LNK. -/
def linkCoreReset (s : State) : State :=
  let l := s.link
  { s with link := { heard0 := l.heard0, heard1 := l.heard1, hear0 := l.hear0, hear1 := l.hear1, loop0 := l.loop0, loop1 := l.loop1,
                     sent0 := l.sent0, sent1 := l.sent1, air0 := l.air0, air1 := l.air1 } }

/-- LNK, NOD, SWP, SNS, EST, FUS and BAL. -/
def blockSweep (s : State) (page : Nat) : State :=
  match page with
  | 0x0A => s.linkCoreReset
  | 0x0B => { s with swp := {}, gau := { s.gau with swpDiv := 1, swpDivPend := none } }
  | 0x0C => { s with sns := {} }
  | 0x0D =>
    let e := s.est
    { s with est := { lastFitAt := s.tim.odo, taperHi := e.taperHi, taperLo := e.taperLo, firedHi := e.firedHi, firedLo := e.firedLo, rep := e.rep,
                      raw := e.raw, repOk := e.repOk, validOnce := e.validOnce, rawOk := e.rawOk, pfDis := e.pfDis, pfChg := e.pfChg,
                      pubAt := e.pubAt, taps := e.taps } }
  | 0x0E =>
    { s with est := { s.est with taperHi := 0, taperLo := 0, firedHi := false, firedLo := false, rep := 0, raw := 0, repOk := false,
                                 validOnce := false, rawOk := false, pfDis := 0, pfChg := 0, pubAt := 0, taps := [] } }
  | 0x0F => { s with link := { s.link with balPlan := [], balSent := false, balWait0 := 0, balWait1 := 0 } }
  | _ => s

/-- CTL, CVL and FRM: CTL stands STOPPED, the converter line goes high-impedance with its EN. -/
def blockControl (s : State) (page : Nat) : State :=
  let c := s.ctl
  match page with
  | 0x10 =>
    let d : Ctl := { frame := c.frame, frameAt := c.frameAt, gap := c.gap, lineOn := c.lineOn }
    { s with ctl := d, est := { s.est with dither := none } }
  | 0x11 => { s with ctl := { c with frame := {}, frameAt := none, gap := 0, lineOn := false } }
  | 0x12 => { s with frm := {} }
  | 0x13 => ({ s with draws := s.draws + 1, saf := { s.saf with nonce := s.draws } }.openAll).runCheck
  | _ => s

/-- CAN, ETH, PTP and DSP. The low count of reports stays, so that no COUNTER comes twice (R311). -/
def blockComm (s : State) (page : Nat) : State :=
  match page with
  | 0x15 => { s with can0 := {}, filters := List.filter (fun (e : Nat × FilterSet) => e.2.ctl != 0) s.filters }
  | 0x16 => { s with can1 := {}, filters := List.filter (fun (e : Nat × FilterSet) => e.2.ctl != 1) s.filters }
  | 0x17 => { s with eth := {} }
  | 0x19 =>
    let s := s.rptErase
    { s with dsp := { txLo := s.dsp.txLo } }
  | _ => s

/-- REC scans again (R314, R324); CSW, RED, UPD, SEC and GPIO. -/
def blockRest (s : State) (page : Nat) : State :=
  match page with
  | 0x1A => { s with draws := s.draws + 1, recd := { nonce := s.draws } }
  | 0x1B =>
    let up := s.pair.lane0 == 2 || s.pair.lane1 == 2
    let s := { s with pair := { s.pair with lane0 := 0, lane1 := 0, snapOk := false, cswSeq := [], cswRx := [], crcAt0 := none, crcAt1 := none } }
    if up then s.mbxRemoteLost else s
  | 0x1C =>
    { s with pair := { s.pair with blocked := [], startWait := none, offer := none, handWant := false, revertAt := none, revertNow := false,
                                   stop := none } }
  | 0x1D =>
    let u := s.upd
    { s with upd := { boot := u.boot, bootAt := u.bootAt, goodAt := u.goodAt, rand := u.rand, job := u.job, reqAt := u.reqAt } }
  | 0x1E => { s with draws := s.draws + 1, upd := { s.upd with job := none, rand := s.draws } }
  | 0x20 => { s with gpio := { s.gpio with pulses := [] } }
  | _ => s

/-- The block of one page, with its registers and objects (R341). -/
def blockReset (s : State) (page : Nat) : State :=
  let s := if page = 0x1A ∧ !s.recd.scanning then s.writeAll else s
  let t := s.dropPage page (keptByBlock page)
  let s := if page = 0x02 then keepWdtEn s t else t
  ((((s.blockSystem page).blockTime page).blockSweep page).blockControl page).blockComm page |>.blockRest page

/-- Scope LINK: the link core and NOD. -/
def linkReset (s : State) : State :=
  let s := (s.masterReset 5 [(Mid.own .link).code]).wdtOff 4
  ((s.dropPage 0x0A []).linkCoreReset).event 0x02 1

/-! ### RST_CMD (R342) -/

/-- The MIDs that may reset the module, a core, or most blocks. -/
def mayReset : Mid → Bool
  | .own (.core _) | .own .safety => true
  | _ => false

/-- RST_KEY was armed within the last 1 µs by the same MID. -/
def keyArmed (s : State) (mid : Mid) : Bool :=
  (s.rst.key.find? mid.code).any fun t => decide (s.since t ≤ usT 1)

/-- An error of RST_CMD. -/
def rstErr (s : State) (mid : Mid) (e : ErrCode) : State := s.err mid Reg.RST_RST_CMD e

/-- RST_CMD MODULE. -/
def cmdModule (s : State) (mid : Mid) (romOk : Bool) (swFaults : Nat) : State :=
  if !mayReset mid then s.rstErr mid .midDeny
  else if !s.keyArmed mid then s.rstErr mid .key
  else s.moduleReset 2 romOk swFaults

/-- RST_CMD APP. -/
def cmdApp (s : State) (mid : Mid) : State :=
  if mid ≠ .own .safety then s.rstErr mid .midDeny
  else if !s.keyArmed mid then s.rstErr mid .key
  else s.appReset.countReset 5

/-- RST_CMD CORE_n. -/
def cmdCore (s : State) (mid : Mid) (n : Nat) : State :=
  if !mayReset mid then s.rstErr mid .midDeny else (s.coreReset n).countReset (6 + n)

/-- RST_CMD LINK. -/
def cmdLink (s : State) (mid : Mid) : State :=
  if mid ≠ .own .safety then s.rstErr mid .midDeny else s.linkReset.countReset 14

/-- RST_CMD BLOCK: the safety pages from the safety core only. A page that is not implemented is refused with RANGE. -/
def cmdBlock (s : State) (mid : Mid) (page : Nat) : State :=
  let safetyPage := page = 0x03 ∨ page = 0x05 ∨ page = 0x13 ∨ page = 0x14
  if !mayReset mid ∨ (safetyPage ∧ mid ≠ .own .safety) then s.rstErr mid .midDeny
  else if !pageImplemented page then s.rstErr mid .range
  else ((s.blockReset page).countReset 16).event 0x02 2

/-- A write of RST_CMD by any value; the boot ROM passes and the power-on switch test finds nothing. -/
def rstCmdWrite (s : State) (mid : Mid) (v : Word) : State :=
  let n := v.toNat
  match n % 16 with
  | 1 => s.cmdModule mid true 0
  | 2 => s.cmdApp mid
  | 3 => s.cmdCore mid (bitsOf n 8 2)
  | 4 => s.cmdLink mid
  | 5 => s.cmdBlock mid (bitsOf n 16 6)
  | _ => s.rstErr mid .cmdBad

/-- An uncorrectable ECC error (R347): the reading master gets a bus error, the error is counted and its address recorded; in an ACTIVE module it
is resignation cause 7. -/
def eccUe (s : State) (addr : Nat) (sram : Bool) (reader : Mid) : State :=
  let s := { s with busErr := some reader.code }
  let s := ((s.bump Reg.SYS_ECC_UE).wr Reg.SYS_ECC_UE_ADDR_LO addr).wr Reg.SYS_ECC_UE_ADDR_HI (bitsOf addr 32 8 + 2 ^ 8 * b2n sram)
  ({ s with pair := { s.pair with eccAt := some s.tim.odo } }.event 0x00 1).resignFor 7

/-- A watchdog is enabled and its period has passed since it last began (R343). -/
def wdtDue (s : State) (n : Nat) : Bool :=
  s.bit (Reg.RST_WDT_CFG n) 31 && (s.rst.wdt.find? n).any fun t => decide (msT (s.fld (Reg.RST_WDT_CFG n) 0 16) ≤ s.since t)

end State

/-! ### The commands -/

/-- POWER_RESET (R341): power comes on, or a die rail browns out; `romOk` is the outcome of the boot ROM's check, `swFaults` what the power-on
switch test finds, in the layout of SW_FAULT. -/
def execPowerReset (brownout romOk : Bool) (swFaults : Nat) (s : State) : Out := ok (s.powerReset brownout romOk swFaults)

/-- MODULE_RESET (R341, R342): by RST_CMD, by the loader once an overwrite is decided (R356), or by the debug port. -/
def execModuleReset (src : ModuleSrc) (romOk : Bool) (swFaults : Nat) (s : State) : Out :=
  ok (match src with
    | .cmd mid => s.busW mid Reg.RST_RST_CMD fun s => s.cmdModule mid romOk swFaults
    | .loader => if s.upd.boot == .overwriting && s.pair.mode != .boot && !s.pair.unpowered then s.moduleReset 3 romOk swFaults else s
    | .debug => if s.pair.unpowered then s else s.moduleReset 4 romOk swFaults)

/-- APP_RESET. -/
def execAppReset (mid : Mid) (s : State) : Out := ok (s.busW mid Reg.RST_RST_CMD fun s => s.cmdApp mid)

/-- CORE_RESET. -/
def execCoreReset (mid : Mid) (n : Fin 4) (s : State) : Out := ok (s.busW mid Reg.RST_RST_CMD fun s => s.cmdCore mid n.val)

/-- LINK_RESET. -/
def execLinkReset (mid : Mid) (s : State) : Out := ok (s.busW mid Reg.RST_RST_CMD fun s => s.cmdLink mid)

/-- BLOCK_RESET. -/
def execBlockReset (mid : Mid) (page : Fin 64) (s : State) : Out := ok (s.busW mid Reg.RST_RST_CMD fun s => s.cmdBlock mid page.val)

/-- WDT_EXPIRE (R343): the core is reset with scope CORE_n, the link core with scope LINK. -/
def execWdtExpire (n : Fin 5) (s : State) : Out :=
  ok (if !s.wdtDue n.val then s
      else if n.val < 4 then ((s.coreReset n.val).countReset (10 + n.val)).event 0x02 3
      else (s.linkReset.countReset 15).event 0x02 3)

/-- ECC_UE. -/
def execEccUe (addr : Nat) (error : EccError) (s : State) : Out :=
  ok (if error.corrected then (s.bump Reg.SYS_ECC_CE).event 0x00 0 else s.eccUe addr error.sram error.reader)

/-- BOOT_ROM_RETRY (R351): the boot ROM checks the resident loader, again every 10 s after a failure. -/
def execBootRomRetry (pass : Bool) (s : State) : Out :=
  ok (if s.pair.mode == .boot && s.upd.boot == .rom && (s.upd.romAt.all fun t => decide (secT 10 ≤ s.since t)) then s.bootRom pass else s)

/-- TRIAL_BOOT_TIMEOUT (R357): a trial boot that does not reach READY within 60 s has failed, and the next boot begins. -/
def execTrialBootTimeout (s : State) : Out :=
  ok (if s.pair.mode == .boot && s.upd.boot == .loading && s.nv.journal.state == 2 && decide (secT 60 ≤ s.since s.upd.bootAt) then s.loader
      else s)

end Sys2Proof.Machine
end

