-- ==== Sys2Proof/Machine/Update.lean ====
section
/-! DEFINITION. Identity and the security block (R348, R349), staging (R352), activation (R353, R354), the overwrite (R355, R356), recovery from
the partner (R358) and COMMIT (R360). The checks of an image and the loader stand in Machine/Image.lean. -/

namespace Sys2Proof.Machine

namespace State

/-! ### The security block -/

/-- The master that SEC and UPD are on the bus: MID 0x30. -/
def secMid : Mid := .own .loader

/-- SEC or UPD may reach a range of memory under the firewall. -/
def secReach (s : State) (a n : Nat) (write : Bool) : Bool := !s.held secMid && s.rangeRight (midColumn secMid) a n write

/-- The input of a SEC command, which `secStart` uses only where it can be reached. -/
def secInput (s : State) : List Nat := s.readBytes (s.rd Reg.SEC_SEC_ADDR) (s.rd Reg.SEC_SEC_LEN)

/-- A SEC command: refused with STATE while one is under way, and with FWL_DENY where its input or its `out` bytes of output cannot be reached;
otherwise `eff` names the job, or an error. -/
def secStart (s : State) (mid : Mid) (input : Bool) (out : Nat) (job : Except ErrCode SecJob) : State :=
  let fail (s : State) (e : ErrCode) : State := s.err mid Reg.SEC_SEC_CMD e
  if s.upd.job.isSome then fail s .state
  else if (input && !s.secReach (s.rd Reg.SEC_SEC_ADDR) (s.rd Reg.SEC_SEC_LEN) false) || !s.secReach (s.rd Reg.SEC_SEC_OUT) out true then
    fail s .fwlDeny
  else
    match job with
    | .ok j => { s with upd := { s.upd with job := some j } }
    | .error e => fail (s.eventIf (e == .keyBad) 0x1E 1) e

/-- SIGN. -/
def signOp (s : State) (mid : Mid) : State := s.secStart mid true 96 (.ok (.sign s.secInput (s.rd Reg.SEC_SEC_OUT)))

/-- CERT_READ. -/
def certOp (s : State) (mid : Mid) : State :=
  let chain := s.bit Reg.SEC_SEC_SLOT 8
  s.secStart mid false (Config.idevidCert chain).length (.ok (.certRead chain (s.rd Reg.SEC_SEC_OUT)))

/-- A key of a slot that is public: the Yathimel root, and slots 2 to 6 where filled. -/
def publicKey (s : State) (slot : Nat) : Except ErrCode Nat :=
  if slot = 0 then .ok 0
  else if slot = 1 ∨ 6 < slot then .error .range
  else match s.nv.keys.find? slot with
    | some k => .ok k
    | none => .error .keyBad

/-- PUB_READ. -/
def pubOp (s : State) (mid : Mid) : State :=
  let slot := s.fld Reg.SEC_SEC_SLOT 0 3
  match s.publicKey slot with
  | .ok k => s.secStart mid false (Config.keyBytes k).length (.ok (.pubRead slot (s.rd Reg.SEC_SEC_OUT)))
  | .error e => s.secStart mid false 0 (.error e)

/-- A certificate may fill a slot (R349): the first owner root in COMMISSION, a later one signed by the root in the slot; slots 3 to 6 under a
chain that ends at the owner root. -/
def keyAccepted (s : State) (slot : Nat) (cert : List Nat) : Bool :=
  match s.nv.keys.find? 2 with
  | some root => Config.certChains root cert
  | none => slot == 2 && s.pair.mode == .commission && Config.certChains (Config.certKey cert) cert

/-- KEY_INSTALL: an installation that fails leaves the slot as it was and gives KEY_BAD (R349), one to another slot than 2 to 6 too. -/
def keyOp (s : State) (mid : Mid) : State :=
  let slot := s.fld Reg.SEC_SEC_SLOT 0 3
  let cert := s.secInput
  s.secStart mid true 0
    (if 2 ≤ slot ∧ slot ≤ 6 ∧ s.keyAccepted slot cert then .ok (.keyInstall slot cert) else .error .keyBad)

/-- The fleet key out of a wrap block of R351 with WRAP 1, which stands alone: its additional authenticated data is its own first 60 bytes. -/
def fleetKey (s : State) (b : List Nat) : Option Nat :=
  if b.length = 192 ∧ leAt b 0 1 = 1 ∧ leAt b 8 8 = s.serial then
    (Config.gcmOpen (Config.agreeKey ((b.drop 76).take 97) (leAt b 8 8)) (leAt b 16 12) (b.take 60) ((b.drop 28).take 32) (leAt b 60 16)).map leNat
  else none

/-- FLEET_INSTALL. -/
def fleetOp (s : State) (mid : Mid) : State :=
  let b := s.secInput
  s.secStart mid true 0 (if (s.fleetKey b).isSome then .ok (.fleetInstall b) else .error .keyBad)

/-- Output of a SEC command: the bytes and SEC_OUT_LEN. -/
def secOut (s : State) (out : Nat) (b : List Nat) : State := (s.storeAs secMid out b).wr Reg.SEC_SEC_OUT_LEN b.length

/-- What a security command does. -/
def secCarry (s : State) : SecJob → State
  | .sign digest out => { s with draws := s.draws + 1 }.secOut out (Config.ecdsaSign digest s.draws)
  | .certRead chain out => s.secOut out (Config.idevidCert chain)
  | .pubRead slot out => s.secOut out (match s.publicKey slot with
    | .ok k => Config.keyBytes k
    | .error _ => [])
  | .keyInstall slot cert =>
    ({ s with nv := { s.nv with keys := s.nv.keys.set slot (Config.certKey cert) } }.wr Reg.SEC_SEC_OUT_LEN 0).eventIf (slot == 2) 0x1E 3
  | .fleetInstall b =>
    match s.fleetKey b with
    | some k => { s with nv := { s.nv with keys := s.nv.keys.set 1 k } }.wr Reg.SEC_SEC_OUT_LEN 0
    | none => s

/-- The command under way completes. -/
def secDone (s : State) : State :=
  match s.upd.job with
  | none => s
  | some j => ({ s with upd := { s.upd with job := none } }.secCarry j).event 0x1E 0

/-- A read of SEC_RAND (R6). -/
def secRandRead (s : State) : State :=
  { s with busData := Config.random s.upd.rand, draws := s.draws + 1, upd := { s.upd with rand := s.draws } }

/-! ### Staging (R352) -/

/-- The loader takes an image from the debug port: in the install state, and while it recovers (R358, R359). -/
def mayInstall (s : State) : Bool := s.upd.boot == .install || s.upd.boot == .recovering

/-- UPD_CMD STAGE. -/
def stageImage (s : State) (mid : Mid) : State :=
  let fail (e : ErrCode) : State := s.err mid Reg.UPD_UPD_CMD e
  let a := s.rd Reg.UPD_UPD_ADDR
  let n := s.rd Reg.UPD_UPD_LEN
  if s.mayInstall && mid != .own .debug then fail .midDeny
  else if s.upd.boot == .overwriting || s.upd.boot == .rom || s.upd.wrapIn.isSome || s.upd.armed.isSome || s.upd.staging.isSome then fail .state
  else if 125829120 < n then fail .imgBad
  else if !s.secReach a n false then fail .fwlDeny
  else
    let b := s.readBytes a n
    if s.imgStageOk b then { s with upd := { s.upd with staging := some b }, nv := { s.nv with staged := none } } else fail .imgBad

/-- The record of an activation: old and new version (R316, R356). -/
def recordActivated (s : State) : State :=
  let new := (s.nv.staged.map fun b => w32 (leAt b 12 4)).getD 0
  let s := s.fixedEvent 0x022 [s.runVer, new]
  if s.recd.scanning then s else s.intakeAll.writeAll

/-- The staging write is complete: the image stands staged if it reads back the same. The loader overwrites at once with what it has staged
(R358, R359). -/
def stageDone (s : State) (same : Bool) : State :=
  match s.upd.staging with
  | none => s
  | some b =>
    let s := { s with upd := { s.upd with staging := none } }
    if !same then s.event 0x1D 1
    else
      let s := { s with nv := { s.nv with staged := some b } }.event 0x1D 0
      if s.mayInstall then s.recordActivated.startOverwrite else s

/-! ### Activation (R353, R354) -/

/-- Plant time in whole seconds. -/
def plantSec (s : State) : Nat := s.plant / fracPerSec

/-- UPD_CMD ACTIVATE. -/
def armImage (s : State) (mid : Mid) : State :=
  let t := s.rd Reg.UPD_UPD_ACT_SECL + 2 ^ 32 * s.fld Reg.UPD_UPD_ACT_SECH 0 16
  let ahead := clkDiff (t * fracPerSec) s.plant
  if s.nv.staged.isNone ∨ s.upd.boot = .overwriting then s.err mid Reg.UPD_UPD_CMD .state
  else if ahead < (10 * fracPerSec : Nat) ∨ ((30 * 86400 * fracPerSec : Nat) : Int) < ahead then s.err mid Reg.UPD_UPD_CMD .range
  else ({ s with upd := { s.upd with armed := some t, waiting := false } }.setBit Reg.UPD_UPD_STAT 5 false).event 0x1D 2

/-- No activation stands armed any more. -/
def disarm (s : State) : State := { s with upd := { s.upd with armed := none, waiting := false } }.setBit Reg.UPD_UPD_STAT 5 false

/-- UPD_CMD CANCEL. -/
def cancelImage (s : State) (mid : Mid) : State := if s.upd.boot = .overwriting then s.err mid Reg.UPD_UPD_CMD .state else s.disarm

/-- The decision to overwrite (R356 step 1): the own coil paths open, RESIGN_OUT goes high, IMAGE_ACTIVATED is recorded, and the journal is set to
state 1. -/
def overwrite (s : State) : State :=
  let s := s.openAll.dropControl.recordActivated.disarm
  { s with pair := { s.pair with claim := false } }.startOverwrite

/-- The module waits for its partner. -/
def waitPartner (s : State) : State := { s with upd := { s.upd with waiting := true, checkAt := s.tim.odo } }

/-- The partner has returned as SHADOW with the new VERSION and a SCORE at or above RESIGN_MIN. -/
def partnerUpdated (s : State) : Bool := s.partnerFit && s.nv.staged.any fun b => s.pair.hb.image == w32 (leAt b 12 4)

/-- A module in control hands over once its partner is updated. -/
def awaitHandover (s : State) : State :=
  let s := s.waitPartner
  if s.partnerUpdated && !s.pair.handWant && s.pair.offer.isNone then { s with pair := { s.pair with handWant := true } } else s

/-- What a module does at the armed time, by its role (R354). -/
def activateNow (s : State) : State :=
  if s.pair.mode == .safeHold then s.overwrite
  else
    match s.pair.role with
    | .shadow => if s.partnerHoldsAll then s.overwrite else s.waitPartner
    | .active => s.awaitHandover
    | .solo =>
      if s.bit Reg.UPD_UPD_CFG 0 && (s.pair.mode == .ready || s.pair.mode == .commission || s.pair.mode == .service) then s.overwrite
      else s.setBit Reg.UPD_UPD_STAT 5 true
    | .none => s.waitPartner

/-- The armed time has come, and the module has not begun to wait. -/
def activationDue (s : State) : Bool := !s.upd.waiting && s.upd.armed.any fun t => decide (0 ≤ clkDiff s.plant (t * fracPerSec))

/-- A waiting module looks at its partner again: a SHADOW overwrites once the partner holds the channels, a module in control hands over. -/
def activationCheck (s : State) : State :=
  if s.pair.role == .shadow then (if s.partnerHoldsAll || s.pair.mode == .safeHold then s.overwrite else s.waitPartner)
  else if s.inControl then s.awaitHandover
  else s.waitPartner

/-- UPD_PAIR_TMO has passed since the armed time. -/
def pairTimedOut (s : State) : Bool :=
  s.upd.waiting && s.upd.armed.any fun t =>
    decide (((s.rd Reg.UPD_UPD_PAIR_TMO * fracPerSec : Nat) : Int) ≤ clkDiff s.plant (t * fracPerSec))

/-! ### The overwrite (R355, R356) -/

/-- The new image is complete: the journal goes to state 2 with a count of 0, and the loader boots it. -/
def overwriteDone (s : State) (b : List Nat) : State :=
  let j := s.nv.journal
  { s with nv := { s.nv with running := some b, journal := { j with state := 2, count := 0 } } }.loader

/-- One 64 KiB sector is copied; a sector that does not read back the same is written again. -/
def overwriteSector (s : State) (same : Bool) : State :=
  if !(s.pair.mode == .boot && s.upd.boot == .overwriting) then s
  else
    match s.nv.staged with
    | none => s.recover
    | some b =>
      let j := s.nv.journal
      let off := 65536 * j.sector
      let run := putBytes (s.nv.running.getD []) off ((b.drop off).take 65536)
      if !same then { s with nv := { s.nv with running := some run } }
      else if b.length ≤ off + 65536 then s.overwriteDone b
      else { s with nv := { s.nv with running := some run, journal := { j with sector := j.sector + 1 } } }

/-! ### Recovery (R358) -/

/-- The requester sends its request, and repeats it every 1 s while no transfer moves; an unanswered request leaves BOOT_FAIL set. -/
def imageRequest (s : State) : State :=
  let waited := s.upd.reqAt.elim true fun t => decide (secT 1 ≤ s.since t)
  if !s.mayInstall || s.upd.staging.isSome || !waited then s
  else
    let s := if s.upd.reqAt.isSome || !s.hpm 5 then s.bootFails else s
    if s.hpm 5 then
      { s with upd := { s.upd with reqAt := some s.tim.odo, wrapIn := none, imageIn := [] } }.cswSend 4 0
        (requestPayloads s.serial (Config.idevidCert false)) true
    else s

/-- The partner answers REFUSE. -/
def refuseImage (s : State) (reason : Nat) : State :=
  { s with upd := { s.upd with refused := reason :: s.upd.refused } }.cswSend 4 4 [[reason % 256]]

/-- The IV of a new wrap block, out of three draws. -/
def drawIv (d : Nat) : List Nat := wordBytes (Config.random d) ++ wordBytes (Config.random (d + 1)) ++ wordBytes (Config.random (d + 2))

/-- A new wrap block for the requester (R351, R358): WRAP 1, its serial, and the image key under the agreement of a fresh ephemeral key and the key of
its certificate. The ciphertext of GCM does not depend on the additional data, which here holds it. -/
def rewrap (s : State) (image : List Nat) (key serial : Nat) (cert : List Nat) : List Nat :=
  let (eph, kek) := Config.freshAgree cert serial (s.draws + 3)
  let iv := drawIv s.draws
  let head := [1, 0, 0, 0, 0, 0, 0, 0] ++ leBytes 8 serial ++ iv
  let plain := leBytes 32 key
  let wrapped := (Config.gcmSeal kek (leNat iv) [] plain).take 32
  let tag := ((Config.gcmSeal kek (leNat iv) (image.take 64 ++ head ++ wrapped) plain).drop 32).take 16
  head ++ wrapped ++ tag ++ (eph ++ List.replicate 97 0).take 97 ++ List.replicate 19 0

/-- The image follows its new wrap block as the partner holds it, and at its end the CRC-32 of the image as sent (R358). -/
def sendImage (s : State) (b w : List Nat) : State :=
  (s.cswSend 4 2 (dataPayloads b) true).cswSend 4 3 [wordBytes (crc32 (putBytes b 64 w))]

/-- The loader agent of the partner takes a request: the certificate first, then its own image. -/
def imageRequested (s : State) (serial : Nat) (cert : List Nat) : State :=
  if s.upd.boot != .done || s.upd.staging.isSome || s.upd.waiting then s.refuseImage 1
  else if !(Config.certChains 0 cert && Config.certSerial cert == serial) then s.refuseImage 3
  else
    match s.nv.running with
    | none => s.refuseImage 2
    | some b =>
      match if s.imgStep2 b then s.imgKey b else none with
      | none => s.refuseImage 2
      | some key =>
        let w := s.rewrap b key serial cert
        (({ s with draws := s.draws + 4, upd := { s.upd with wrapOut := some w } }.event 0x1D 6).cswSend 4 1 [w]).sendImage b w

/-- A request is outstanding. -/
def recovering (s : State) : Bool := s.mayInstall && s.upd.reqAt.isSome && s.upd.staging.isNone

/-- The new wrap block arrives. -/
def takeWrap (s : State) (wrap : List Nat) : State :=
  if s.recovering && wrap.length == 192 then
    { s with upd := { s.upd with wrapIn := some wrap, imageIn := [], reqAt := some s.tim.odo } }
  else s

/-- A segment of the image arrives, in its order. -/
def takeData (s : State) (offset : Nat) (b : List Nat) : State :=
  if s.recovering && s.upd.wrapIn.isSome && decide (offset ≤ s.upd.imageIn.length) then
    { s with upd := { s.upd with imageIn := putBytes s.upd.imageIn offset b, reqAt := some s.tim.odo } }
  else s

/-- The image with the new wrap block in place. -/
def assembled (image wrap : List Nat) : List Nat := putBytes image 64 wrap

/-- The end of the transfer: the assembled image is checked and staged. -/
def takeEnd (s : State) (crc : Word) : State :=
  match s.upd.wrapIn with
  | none => s
  | some w =>
    if !s.recovering then s
    else
      let b := assembled s.upd.imageIn w
      let s := { s with upd := { s.upd with wrapIn := none, imageIn := [] } }
      if crc32 b == crc && (s.imgKey b).isSome && s.imgStageOk b then
        { s with upd := { s.upd with staging := some b }, nv := { s.nv with staged := none, recoveries := s.nv.recoveries + 1 } }.event 0x1D 4
      else (s.bootFails).event 0x1D 1

/-- The partner refuses: with the journal in state 0 the loader enters the install state (R359). -/
def takeRefuse (s : State) : State :=
  if !s.recovering then s
  else
    let s := { s with upd := { s.upd with wrapIn := none, imageIn := [] } }.bootFails
    if s.nv.journal.state = 0 then s.bootPhase .install else s

/-! ### COMMIT (R360) -/

/-- UPD_CMD COMMIT. -/
def commitImage (s : State) (mid : Mid) : State :=
  let svn := (s.nv.running.map imageSvn).getD 0
  if s.upd.boot = .done ∧ s.nv.journal.state = 0 ∧ s.nv.running.isSome ∧ secT 3600 ≤ s.since s.upd.goodAt
      ∧ (!s.pair.present ∨ (s.partnerAlive ∧ s.pair.hb.image = s.runVer)) then
    { s with nv := { s.nv with minSvn := max s.nv.minSvn svn } }.event 0x1D 5
  else s.err mid Reg.UPD_UPD_CMD .state

end State

/-! ### The commands -/

/-- SIGN. -/
def execSign (mid : Mid) (s : State) : Out := ok (s.busW mid Reg.SEC_SEC_CMD fun s => s.signOp mid)

/-- CERT_READ. -/
def execCertRead (mid : Mid) (s : State) : Out := ok (s.busW mid Reg.SEC_SEC_CMD fun s => s.certOp mid)

/-- KEY_INSTALL. -/
def execKeyInstall (mid : Mid) (s : State) : Out := ok (s.busW mid Reg.SEC_SEC_CMD fun s => s.keyOp mid)

/-- FLEET_INSTALL. -/
def execFleetInstall (mid : Mid) (s : State) : Out := ok (s.busW mid Reg.SEC_SEC_CMD fun s => s.fleetOp mid)

/-- PUB_READ. -/
def execPubRead (mid : Mid) (s : State) : Out := ok (s.busW mid Reg.SEC_SEC_CMD fun s => s.pubOp mid)

/-- SEC_DONE. -/
def execSecDone (s : State) : Out := ok s.secDone

/-- SEC_RAND_READ. -/
def execSecRandRead (mid : Mid) (s : State) : Out := ok (s.busR mid Reg.SEC_SEC_RAND State.secRandRead)

/-- UPD_STAGE. -/
def execUpdStage (mid : Mid) (s : State) : Out := ok (s.busW mid Reg.UPD_UPD_CMD fun s => s.stageImage mid)

/-- STAGE_DONE (R352): `same` is the outcome of the read-back. -/
def execStageDone (same : Bool) (s : State) : Out := ok (s.stageDone same)

/-- ACTIVATE. -/
def execActivate (mid : Mid) (s : State) : Out := ok (s.busW mid Reg.UPD_UPD_CMD fun s => s.armImage mid)

/-- CANCEL. -/
def execCancel (mid : Mid) (s : State) : Out := ok (s.busW mid Reg.UPD_UPD_CMD fun s => s.cancelImage mid)

/-- COMMIT. -/
def execCommit (mid : Mid) (s : State) : Out := ok (s.busW mid Reg.UPD_UPD_CMD fun s => s.commitImage mid)

/-- ACTIVATION_TIME. -/
def execActivationTime (s : State) : Out := ok (if s.activationDue && s.upd.boot == .done then s.activateNow else s)

/-- ACTIVATION_RECHECK: each second. -/
def execActivationRecheck (s : State) : Out :=
  ok (if s.upd.waiting && s.upd.boot == .done && decide (secT 1 ≤ s.since s.upd.checkAt) then s.activationCheck else s)

/-- PAIR_TMO (R354): the module does not update; it disarms. -/
def execPairTmo (s : State) : Out := ok (if s.pairTimedOut then s.disarm.event 0x1D 3 else s)

/-- OVERWRITE_SECTOR (R356): `same` is the outcome of the read-back compare. -/
def execOverwriteSector (same : Bool) (s : State) : Out := ok (s.overwriteSector same)

/-- IMAGE_REQUEST. -/
def execImageRequest (s : State) : Out := ok s.imageRequest

/-- A class 4 frame reaches UPD: a gated block takes nothing in (R338, R339). -/
def updTake (s : State) (type : Nat) (rx : CswRx) (eff : State → State) : State :=
  s.cswTake 4 type rx fun s => if s.clockRuns 0x1D then eff s else s

/-- IMAGE_REQUEST_RX. -/
def execImageRequestRx (serial : Nat) (cert : Csw (List Nat)) (s : State) : Out :=
  ok (if inPair s then updTake s 0 cert.rx fun s => s.imageRequested serial cert.body else s)

/-- IMAGE_WRAP_RX. -/
def execImageWrapRx (wrap : Csw (List Nat)) (s : State) : Out := ok (updTake s 1 wrap.rx fun s => s.takeWrap wrap.body)

/-- IMAGE_DATA_RX. -/
def execImageDataRx (offset : Nat) (bytes : Csw (List Nat)) (s : State) : Out :=
  ok (updTake s 2 bytes.rx fun s => s.takeData offset bytes.body)

/-- IMAGE_END_RX. -/
def execImageEndRx (crc : Csw Word) (s : State) : Out := ok (updTake s 3 crc.rx fun s => s.takeEnd crc.body)

/-- IMAGE_REFUSE_RX: the reason decides nothing for the requester. -/
def execImageRefuseRx (reason : Csw Nat) (s : State) : Out :=
  ok (updTake s 4 reason.rx fun s => if 1 ≤ reason.body ∧ reason.body ≤ 3 then s.takeRefuse else s)

end Sys2Proof.Machine
end

