-- ==== Sys2Proof/Machine/RegisterWrite.lean ====
section
/-! DEFINITION. REGISTER_WRITE (R5, R379): any access on the bus that no row of its own carries. A write of a command register, or of a register whose
write has an effect of its own, is carried out by the operation that the row of that effect uses; every other register follows its access code. An
access outside the register window goes to memory. The table has no row for a read without a row of its own or for an instruction fetch, whose checks
and effects R250, R262, R265 and R379 give: the operand `access` says its size and which of the three it is (log entry 108). -/

namespace Sys2Proof.Machine

namespace State

/-- An unlisted value of a command register. -/
def cmdBad (s : State) (mid : Mid) (a : Nat) : State := s.err mid a .cmdBad

/-- The registers of the common header with an effect (R380, R381, R384). -/
def writeHeader (s : State) (mid : Mid) (a : Nat) (v : Word) : State :=
  let page := a / 0x1000
  match a % 0x1000 with
  | 0x00C => blkLock s mid page v
  | 0x018 => evtForce s mid page v
  | 0x020 => snapWrite s mid page
  | _ => s.regWrite mid a v

/-- CLK_CFG: the fields that the write changes (R332, R337). -/
def clkCfgWrite (s : State) (mid : Mid) (v : Word) : State :=
  let s := if s.bit Reg.CLK_CLK_CFG 1 == v.toNat.testBit 1 then s else compatWrite s mid (v.toNat.testBit 1)
  if s.bit Reg.CLK_CLK_CFG 0 == v.toNat.testBit 0 then s else refSelWrite s mid (v.toNat.testBit 0)

/-- Pages 0x00 to 0x03 and 0x05. -/
def writeSystem (s : State) (mid : Mid) (a : Nat) (v : Word) : State :=
  let n (base : Nat) : Nat := (a - base) / 4
  if a = Reg.CLK_CLK_CFG then s.clkCfgWrite mid v
  else if a = Reg.CLK_OSC_QUAL then (s.regWrite mid a v).setQualifying
  else if a = Reg.CLK_DVFS_REQ then dvfsReq s mid v
  else if a = Reg.CLK_CLK_GATE_LO then clkGateWrite s mid false v
  else if a = Reg.CLK_CLK_GATE_HI then clkGateWrite s mid true v
  else if a = Reg.RST_RST_KEY then rstKeyWrite s mid v
  else if a = Reg.RST_RST_CMD then s.rstCmdWrite mid v
  else if Reg.RST_WDT_CFG 0 ≤ a ∧ a ≤ Reg.RST_WDT_CFG 4 then wdtCfgWrite s (n (Reg.RST_WDT_CFG 0)) v
  else if Reg.RST_WDT_KICK 0 ≤ a ∧ a ≤ Reg.RST_WDT_KICK 4 then wdtKick s (n (Reg.RST_WDT_KICK 0)) v
  else if a = Reg.FWL_FWL_CMD then fwlThaw s mid v
  else if a = Reg.FWL_VIOL_CLR then violClr s mid v
  else if Reg.MBX_BIND 0 ≤ a ∧ a ≤ Reg.MBX_BIND 63 then bindWrite s mid (n (Reg.MBX_BIND 0)) v
  else s.regWrite mid a v

/-- PPS_IN_CFG: enabling the input begins the wait for an edge (R44). -/
def ppsInWrite (s : State) (mid : Mid) (v : Word) : State :=
  let was := s.bit Reg.TIM_PPS_IN_CFG 0
  let s := s.regWrite mid Reg.TIM_PPS_IN_CFG v
  let on := s.bit Reg.TIM_PPS_IN_CFG 0
  if on == was then s else { s with tim := { s.tim with ppsLast := if on then some s.tim.odo else none } }

/-- PPS_OUT_CFG: enabling the output gives an edge at the next whole second; a disabled output gives no pulse (R45). -/
def ppsOutWrite (s : State) (mid : Mid) (v : Word) : State :=
  let was := s.bit Reg.TIM_PPS_OUT_CFG 0
  let s := s.regWrite mid Reg.TIM_PPS_OUT_CFG v
  let on := s.bit Reg.TIM_PPS_OUT_CFG 0
  if on == was then s
  else if on then { s with tim := { s.tim with ppsSec := some s.ppsSecond, ppsLand := none } }
  else { s with tim := { s.tim with ppsPulse := none } }

/-- Pages 0x06 and 0x07. -/
def writeTime (s : State) (mid : Mid) (a : Nat) (v : Word) : State :=
  if a = Reg.TIM_PLANT_CFG then plantSelWrite s mid v
  else if a = Reg.TIM_PPS_IN_CFG then s.ppsInWrite mid v
  else if a = Reg.TIM_PPS_OUT_CFG then s.ppsOutWrite mid v
  else if a = Reg.GAU_GAU_CFG then (gauCfgWrite s mid v).fireLate
  else if a = Reg.GAU_CYC_ORIGIN_L ∨ a = Reg.GAU_CYC_ORIGIN_H ∨ a = Reg.GAU_CYC_BIAS then (s.regWrite mid a v).nominalMoved.fireLate
  else if a = Reg.GAU_CYC_BIAS_AT then (cycBiasAtWrite s v).fireLate
  else if a = Reg.GAU_SWEEP_ANGLE then
    let s := s.regWrite mid a v
    { s with gau := { s.gau with sweepAngleAt := (s.gau.pos, s.reg Reg.GAU_SWEEP_ANGLE) :: s.gau.sweepAngleAt } }
  else if a = Reg.GAU_WM_CTRL then s.setReg a (v &&& wmCtrlMask)
  else if a = Reg.GAU_WM_CMD then
    if v = 1 then wmCmdCreate s mid else if v = 2 then wmDestroyWrite s mid else if v = 3 then wmCmdQuery s mid else s.cmdBad mid a
  else s.regWrite mid a v

/-- SNS_CFG: a channel that is disabled loses STUCK and OVR, and the source is chosen anew (R89, R90). -/
def snsCfgWrite (s : State) (mid : Mid) (v : Word) : State :=
  let s := s.regWrite mid Reg.SNS_SNS_CFG v
  let clear (c : SnsCh) (i : Nat) : SnsCh := if s.bit Reg.SNS_SNS_CFG i then c else { c with stuck := false, ovr := false }
  ({ s with sns := { s.sns with a := clear s.sns.a 0, b := clear s.sns.b 1, v := clear s.sns.v 2 } }).chooseSrc

/-- LNK_CFG: setting EN starts the link on the radio, and the key epoch advances at the next beacon (R54). -/
def lnkCfgWrite (s : State) (mid : Mid) (a : Nat) (v : Word) : State :=
  let was := s.bit a 0
  let s := s.regWrite mid a v
  { s with link := { s.link with epochDue := s.link.epochDue || (s.bit a 0 && !was) } }

/-- Pages 0x08 to 0x0C. -/
def writeSweep (s : State) (mid : Mid) (a : Nat) (v : Word) : State :=
  let n := v.toNat
  if a = Reg.NOD_PLAN_CMD then
    if n = 1 then s.planLoadOp mid
    else if n = 2 then s.planRemoveOp mid
    else if n = 3 then s.planRejoinOp mid
    else if n = 4 then s.rejoinAllOp mid
    else if n = 5 then s.planHandleOp
    else s.cmdBad mid a
  else if a = Reg.LNK_LNK_CFG 0 ∨ a = Reg.LNK_LNK_CFG 1 then s.lnkCfgWrite mid a v
  else if a = Reg.NOD_CH_MASK_LO then s.chMaskOp mid false v
  else if a = Reg.NOD_CH_MASK_HI then s.chMaskOp mid true v
  else if a = Reg.SWP_SWP_CFG then s.swpCfgOp mid v
  else if a = Reg.SNS_OVR_TH then s.ovrThOp v
  else if a = Reg.SWP_WIRE_CMD then s.wireCmdOp mid n (bitsOf n 16 2)
  else if a = Reg.SNS_SNS_CFG then s.snsCfgWrite mid v
  else s.regWrite mid a v

/-- Pages 0x0D to 0x0F. -/
def writeEst (s : State) (mid : Mid) (a : Nat) (v : Word) : State :=
  if a = Reg.EST_CHEM_CMD then
    if v = 1 then s.chemLoadOp mid else if v = 2 then s.chemDestroyOp mid else if v = 3 then s.chemAssignOp mid else s.cmdBad mid a
  else if a = Reg.FUS_TAP_CMD then
    if v = 1 then s.tapCreateOp mid else if v = 2 then s.tapDestroyOp mid else if v = 3 then s.tapQueryOp mid else s.cmdBad mid a
  else if a = Reg.BAL_BAL_CFG ∧ v.toNat % 4 = 3 then s.cmdBad mid a
  else if !s.estValueOk a v then s.err mid a .range
  else s.regWrite mid a v

/-- CTL_CMD and SP_CMD. -/
def writeCtlCmd (s : State) (mid : Mid) (a : Nat) (n : Nat) : State :=
  if a = Reg.CTL_CTL_CMD then
    if n = 1 then s.applyOp mid
    else if n = 2 then s.restoreMainOp mid
    else if n = 3 then s.clearOscOp
    else if n = 4 then s.clearSatOp
    else if n = 5 then s.clearLatOp
    else s.cmdBad mid a
  else if n = 1 then s.stageOp mid
  else if n = 2 then s.withdrawOp mid
  else if n = 3 then s.immediateOp mid
  else if n = 4 then s.withdrawAllOp
  else s.cmdBad mid a

/-- FRM_CMD. -/
def writeFrmCmd (s : State) (mid : Mid) (a : Nat) (n : Nat) : State :=
  if n = 1 then s.frmLoadOp mid
  else if n = 2 then s.frmDestroyOp mid
  else if n = 3 then s.frmStartOp mid
  else if n = 4 then s.frmStopOp mid
  else if n = 5 then s.frmPauseOp mid
  else if n = 6 then s.frmResumeOp mid
  else s.cmdBad mid a

/-- CVL_CFG: with EN at 0 the pairs are high-impedance (R183). -/
def cvlCfgWrite (s : State) (mid : Mid) (v : Word) : State :=
  let s := s.regWrite mid Reg.CVL_CVL_CFG v
  { s with ctl := { s.ctl with lineOn := s.bit Reg.CVL_CVL_CFG 0 && s.pair.leftAt.isNone } }

/-- Pages 0x10 to 0x12. -/
def writeControl (s : State) (mid : Mid) (a : Nat) (v : Word) : State :=
  if a = Reg.CTL_CTL_CMD ∨ a = Reg.CTL_SP_CMD then s.writeCtlCmd mid a v.toNat
  else if a = Reg.FRM_FRM_CMD then s.writeFrmCmd mid a v.toNat
  else if a = Reg.CVL_CVL_CFG then s.cvlCfgWrite mid v
  else if !ctlValueOk a v then s.err mid a .range
  else if a = Reg.CTL_CTL_CFG then (s.regWrite mid a v).runCheck
  else s.regWrite mid a v

/-- Pages 0x13 and 0x14. -/
def writeSafety (s : State) (mid : Mid) (a : Nat) (v : Word) : State :=
  let n := v.toNat
  if a = Reg.SAF_K_REQ then kReqWrite s mid v
  else if a = Reg.SAF_SAF_CMD then
    if n = 1 then s.safReset mid
    else if n = 2 then s.psetLoad mid
    else if n = 3 then s.psetConfirm mid
    else if n = 4 then s.weldClear mid
    else s.cmdBad mid a
  else s.regWrite mid a v

/-- CAN_CMD and FS_CMD. -/
def writeCanCmd (s : State) (l : Nat) (mid : Mid) (a : Nat) (n : Nat) : State :=
  if a = Reg.CAN_CAN_CMD l then
    if n = 1 then canRecover s l mid
    else if n = 2 then txFlush s l mid
    else if n = 3 then rxfFlush s l
    else if n = 4 then txeFlush s l
    else s.cmdBad mid a
  else if n = 1 then fsCreate s l mid
  else if n = 2 then fsDestroy s l mid
  else if n = 3 then fsEnable s l mid true
  else if n = 4 then fsEnable s l mid false
  else if n = 5 then fsQuery s l mid
  else s.cmdBad mid a

/-- Pages 0x15 and 0x16: `l` is the controller. NBT, DBT and TDC are written only while INIT is 1 (R270). -/
def writeCan (s : State) (l : Nat) (mid : Mid) (a : Nat) (v : Word) : State :=
  if a = Reg.CAN_CAN_CTRL l then canCtrlWrite s l mid v
  else if a = Reg.CAN_NBT l ∨ a = Reg.CAN_DBT l ∨ a = Reg.CAN_TDC l then
    if s.bit (Reg.CAN_CAN_CTRL l) 0 then s.regWrite mid a v else s.err mid a .state
  else if a = Reg.CAN_CAN_CMD l ∨ a = Reg.CAN_FS_CMD l then s.writeCanCmd l mid a v.toNat
  else if a = Reg.CAN_RXF_POP l then rxfPop s l v
  else if a = Reg.CAN_TX_PUSH l then txPush s l mid v
  else if a = Reg.CAN_TX_CANCEL l then txCancel s l v
  else if a = Reg.CAN_TXE_POP l then txePop s l v
  else if Reg.CAN_FLT_ID l 0 ≤ a ∧ a ≤ Reg.CAN_FLT_MASK l 63 then
    let o := a - Reg.CAN_FLT_ID l 0
    fltWrite s l mid (o / 8) (o % 8 == 4) v
  else s.regWrite mid a v

/-- Pages 0x17 and 0x18. -/
def writeEth (s : State) (mid : Mid) (a : Nat) (v : Word) : State :=
  let q := (a - Reg.ETH_TXR_BASE 0) / 16
  let n := (a - Reg.PTP_CLKD_CFG 0) / 32
  if a = Reg.ETH_LA_CMD then
    if v = 1 then launchCreate s mid else if v = 2 then launchDestroy s mid else s.cmdBad mid a
  else if Reg.ETH_TXR_TAIL 0 ≤ a ∧ a ≤ Reg.ETH_TXR_TAIL 3 ∧ a % 16 = 12 then txRingKick s q v
  else if a = Reg.PTP_CLKD_CFG n ∧ n < 3 then clkdCfgWrite s n mid v
  else if a = Reg.PTP_ADJ n ∧ n < 3 then adjWrite s n mid v
  else if a = Reg.PTP_CLKD_CMD n ∧ n < 3 then
    if v = 1 then (s.clkdStep n).fireLate else if v = 2 then (s.clkdSet n).fireLate else s.cmdBad mid a
  else s.regWrite mid a v

/-- Page 0x19. -/
def writeDsp (s : State) (mid : Mid) (a : Nat) (v : Word) : State :=
  let n := v.toNat
  if a = Reg.DSP_RPT_CFG then s.rptCfgWrite mid v
  else if a = Reg.DSP_RPT_ANGLE then s.rptAngleWrite mid v
  else if a = Reg.DSP_SENDER_ID ∨ (Reg.DSP_PEER 0 ≤ a ∧ a ≤ Reg.DSP_PEER 3) then s.senderWrite mid a v
  else if Reg.DSP_DSP_KEY 0 ≤ a ∧ a ≤ Reg.DSP_DSP_KEY 7 then
    { s with dsp := { s.dsp with keyIn := s.dsp.keyIn.put 0 ((a - Reg.DSP_DSP_KEY 0) / 4) v } }
  else if a = Reg.DSP_KEY_CMD then
    if n = 1 then s.dspKeyLoad 0
    else if n = 2 then s.dspKeyLoad 1
    else if n = 3 then s.dspKeyErase 0
    else if n = 4 then s.dspKeyErase 1
    else s.cmdBad mid a
  else s.regWrite mid a v

/-- Page 0x1A. -/
def writeLog (s : State) (mid : Mid) (a : Nat) (v : Word) : State :=
  if a = Reg.REC_REC_FREEZE then (if v.getLsbD 0 then recFreeze s mid else recThaw s)
  else if a = Reg.REC_REC_CMD then (if v = 1 then logClear s mid else s.cmdBad mid a)
  else if a = Reg.REC_TOLL_PARAM then tollParamWrite s mid v
  else if Reg.REC_REC_PD 0 ≤ a ∧ a ≤ Reg.REC_REC_PD 5 then
    { s with recd := { s.recd with posts := s.recd.posts.put 0 (mid.code * 8 + (a - Reg.REC_REC_PD 0) / 4) v } }
  else if a = Reg.REC_REC_POST then recPost s mid v
  else if a = Reg.REC_RD_KEY then rdSelect s v
  else s.regWrite mid a v

/-- RED_CFG: with PAIR_EN at 0 a module in the pair runs SOLO whatever the partner. -/
def redCfgWrite (s : State) (mid : Mid) (v : Word) : State :=
  let s := s.regWrite mid Reg.RED_RED_CFG v
  if s.pairEn then s
  else if s.pair.role == .active then s.setRole .solo
  else if s.pair.role == .shadow then s.takeOver true
  else s

/-- Pages 0x1B to 0x20. -/
def writePair (s : State) (mid : Mid) (a : Nat) (v : Word) : State :=
  let n := v.toNat
  if a = Reg.RED_RED_CFG then s.redCfgWrite mid v
  else if a = Reg.RED_MODE_REQ then modeReqWrite s mid v
  else if a = Reg.RED_RED_CMD then (if n = 1 then s.resignFor 8 else if n = 2 then revertNowOp s mid else s.cmdBad mid a)
  else if a = Reg.UPD_UPD_CMD then
    if n = 1 then s.stageImage mid
    else if n = 2 then s.armImage mid
    else if n = 3 then s.cancelImage mid
    else if n = 4 then s.commitImage mid
    else s.cmdBad mid a
  else if a = Reg.SEC_SEC_CMD then
    if n = 1 then s.signOp mid
    else if n = 2 then s.certOp mid
    else if n = 3 then s.keyOp mid
    else if n = 4 then s.fleetOp mid
    else if n = 5 then s.pubOp mid
    else s.cmdBad mid a
  else s.regWrite mid a v

/-- A write of an implemented page that its interface accepts. Writes to page 0x03 are accepted from MID 0x08 alone (R264). -/
def writePage (s : State) (mid : Mid) (a : Nat) (v : Word) : State :=
  let page := a / 0x1000
  if page = 0x03 ∧ mid ≠ .own .safety then s.err mid a .midDeny
  else if a % 0x1000 < 0x040 then s.writeHeader mid a v
  else if page ≤ 0x05 then s.writeSystem mid a v
  else if page ≤ 0x07 then s.writeTime mid a v
  else if page ≤ 0x0C then s.writeSweep mid a v
  else if page ≤ 0x0F then s.writeEst mid a v
  else if page ≤ 0x12 then s.writeControl mid a v
  else if page ≤ 0x14 then s.writeSafety mid a v
  else if page ≤ 0x16 then s.writeCan (page - 0x15) mid a v
  else if page ≤ 0x18 then s.writeEth mid a v
  else if page = 0x19 then s.writeDsp mid a v
  else if page = 0x1A then s.writeLog mid a v
  else s.writePair mid a v

/-- A channel window (R250): `ch` is the channel, `o` the offset in its window. -/
def writeWindow (s : State) (mid : Mid) (ch o : Nat) (v : Word) : State :=
  if o < 0x20 then msgWrite s mid ch (o / 4) v
  else if o = 0x20 then postWrite s mid ch v
  else if o = 0x28 then chStatWrite s mid ch v
  else if o = 0x2C then ringWrite s mid ch v
  else if o = 0x30 then bellWrite s mid ch v
  else if o = 0x34 then chIrqWrite s mid ch v
  else s.mbxAccess mid ch o true fun s _ => s

/-- An aligned 32-bit write in the register window, by its offset there. -/
def writeWord (s : State) (mid : Mid) (a : Nat) (v : Word) : State :=
  let page := a / 0x1000
  let o := a % 0x1000
  if (page = 0x04 ∨ page = 0x05) ∧ 0x800 ≤ o then s.writeWindow mid (32 * (page - 4) + (o - 0x800) / 0x40) (o % 0x40) v
  else s.busW mid a fun s => s.writePage mid a v

/-- The size of an access of 1, 2, 4 or 8 bytes, as log2. -/
def sizeLog2 (size : Nat) : Nat := if size = 8 then 3 else if size = 4 then 2 else size - 1

/-- A write that R379 drops: ALIGN goes to ERR_CODE of the page. -/
def dropMisaligned (s : State) (mid : Mid) (a sz : Nat) : State := s.busSized mid a true sz fun s => s.err mid a .align

/-- A write in the register window (R379): a 64-bit access is two of 32 bits in ascending order. -/
def writeRegisters (s : State) (mid : Mid) (a size v : Nat) : State :=
  if a % size ≠ 0 ∨ (size ≠ 4 ∧ size ≠ 8) then s.dropMisaligned mid a (sizeLog2 size)
  else if size = 4 then s.writeWord mid a (w32 v)
  else (s.writeWord mid a (w32 v)).writeWord mid (a + 4) (w32 (v / 2 ^ 32))

/-- A write to memory under the rights of its regions (R262, R263). -/
def writeMemory (s : State) (mid : Mid) (a size v : Nat) : State :=
  if s.held mid then s
  else if s.rangeRight (midColumn mid) a size true then s.writeLE a size v
  else s.violateMem mid (s.deniedAt (midColumn mid) a size true) true false (sizeLog2 size)

/-! ### Reads -/

/-- A read of a register outside the channel windows: those whose read has an effect do what their row does (R5, R43, R79, R291, R299, R381). -/
def readEffect (s : State) (mid : Mid) (a : Nat) : State :=
  if a % 0x1000 = 0x01C then errCodeRead s (a / 0x1000)
  else if a = Reg.GAU_WM_FIFO then wmFifoRead s
  else if a = Reg.NOD_DISC_LO then discReadOp s
  else if a = Reg.CVL_CVL_GAP then cvlGapReadOp s
  else if a = Reg.ETH_TS_HEAD 5 then tsFifoRead s
  else if a = Reg.ETH_LA_FIFO then laFifoRead s
  else if a = Reg.SEC_SEC_RAND then s.secRandRead
  else { s with busData := s.shown mid a }

/-- A read of an aligned word in the register window (R5, R250, R265, R339): what it returns stands in `busData`. `b` is the address of the access. -/
def readWord (s : State) (mid : Mid) (a b sz : Nat) (fetch : Bool) : State :=
  let page := a / 0x1000
  let o := a % 0x1000
  let ch := 32 * (page - 4) + (o - 0x800) / 0x40
  if (page = 0x04 ∨ page = 0x05) ∧ 0x800 ≤ o ∧ o % 0x40 = 0x24 then takeRead s mid ch
  else if (page = 0x04 ∨ page = 0x05) ∧ 0x800 ≤ o then
    s.mbxAccess mid ch (o % 0x40) false fun s _ => { s with busData := s.windowReg mid.code ch (o % 0x40) }
  else s.busAny mid b false fetch sz fun s => s.readEffect mid a

/-- A read in the register window (R379): a narrower one returns the addressed bytes of the word, a 64-bit one is two of 32 bits in ascending order, a
misaligned one is dropped with ALIGN. -/
def readRegisters (s : State) (mid : Mid) (a size : Nat) (fetch : Bool) : State :=
  if s.held mid then s
  else if size = 8 ∧ a % 8 = 0 then
    let t := s.readWord mid a a 2 fetch
    let u := t.readWord mid (a + 4) (a + 4) 2 fetch
    { u with busData := t.busData, busHi := u.busData }
  else if a % size = 0 ∧ size ≤ 4 then
    let t := s.readWord mid (a / 4 * 4) a (sizeLog2 size) fetch
    { t with busData := w32 (bitsOf t.busData.toNat (8 * (a % 4)) (8 * size)), busHi := 0 }
  else s.busAny mid a false fetch (sizeLog2 size) fun s => { s with busData := 0 }.err mid a .align

/-- A read of memory under the rights of its regions (R262, R263). -/
def readMemory (s : State) (mid : Mid) (a size : Nat) (fetch : Bool) : State :=
  if s.held mid then s
  else if s.rangeRight (midColumn mid) a size false then
    { s with busData := w32 (s.readLE a size), busHi := w32 (s.readLE a size / 2 ^ 32) }
  else s.violateMem mid (s.deniedAt (midColumn mid) a size false) false fetch (sizeLog2 size)

end State

/-- The first bus address of the register window, and its length (R378). -/
def registerBase : Nat := 0x40000000

/-- The length of the register window: pages 0x00 to 0x3F. -/
def registerSpan : Nat := 0x40000

/-- REGISTER_WRITE: `addr` is the full bus address, `access` its size in bytes and what it does. An address beyond the 40 bits that the bus has (VIOL_ADDR,
R266) does not exist and faults. -/
def execRegisterWrite (mid : Mid) (addr : Nat) (access : Access) (value : Nat) (s : State) : Out :=
  let size := access.size
  if 2 ^ 40 < addr + size then .fault .addressSpace
  else if registerBase ≤ addr ∧ addr < registerBase + registerSpan then
    ok (match access.op with
      | .write => s.writeRegisters mid (addr - registerBase) size value
      | .read => s.readRegisters mid (addr - registerBase) size false
      | .fetch => s.readRegisters mid (addr - registerBase) size true)
  else
    ok (match access.op with
      | .write => s.writeMemory mid addr size value
      | .read => s.readMemory mid addr size false
      | .fetch => s.readMemory mid addr size true)

end Sys2Proof.Machine
end

