-- ==== Sys2Proof/Machine/Dispatch.lean ====
section
/-! DEFINITION. The dispatch: one arm per command, each one direct call of its meaning. -/

namespace Sys2Proof.Machine

def exec (i : Instr) (s : State) : Host.Outcome State Fault Refusal :=
  match i with
  | .registerWrite mid addr access value => Sys2Proof.Machine.execRegisterWrite mid addr access value s
  | .blkLock mid page value => Sys2Proof.Machine.execBlkLock mid page value s
  | .evtForce mid page value => Sys2Proof.Machine.execEvtForce mid page value s
  | .snap mid page => Sys2Proof.Machine.execSnap mid page s
  | .errCodeRead mid page => Sys2Proof.Machine.execErrCodeRead mid page s
  | .timSnap mid => Sys2Proof.Machine.execTimSnap mid s
  | .gauSnap mid => Sys2Proof.Machine.execGauSnap mid s
  | .plantSelWrite mid value => Sys2Proof.Machine.execPlantSelWrite mid value s
  | .slewDone => Sys2Proof.Machine.execSlewDone s
  | .phrefEdge falling => Sys2Proof.Machine.execPhrefEdge falling s
  | .lockLost => Sys2Proof.Machine.execLockLost s
  | .holdoverEnd => Sys2Proof.Machine.execHoldoverEnd s
  | .gauCfgWrite mid value => Sys2Proof.Machine.execGauCfgWrite mid value s
  | .cycBiasAtWrite mid value => Sys2Proof.Machine.execCycBiasAtWrite mid value s
  | .biasChange => Sys2Proof.Machine.execBiasChange s
  | .sweepWaymark => Sys2Proof.Machine.execSweepWaymark s
  | .auxSuperframe => Sys2Proof.Machine.execAuxSuperframe s
  | .uplinkRx radio info body => Sys2Proof.Machine.execUplinkRx radio info body s
  | .retryUpRx radio info body => Sys2Proof.Machine.execRetryUpRx radio info body s
  | .detourRx radio info inner body => Sys2Proof.Machine.execDetourRx radio info inner body s
  | .backfillRx radio info data body => Sys2Proof.Machine.execBackfillRx radio info data body s
  | .fragmentRx radio info id buf frag values => Sys2Proof.Machine.execFragmentRx radio info id buf frag values s
  | .notHeldRx radio info reason => Sys2Proof.Machine.execNotHeldRx radio info reason s
  | .statusRx radio info body => Sys2Proof.Machine.execStatusRx radio info body s
  | .joinReqRx radio info nnonce fwver rcause => Sys2Proof.Machine.execJoinReqRx radio info nnonce fwver rcause s
  | .discReplyRx radio info serial => Sys2Proof.Machine.execDiscReplyRx radio info serial s
  | .retrySlot radio slot => Sys2Proof.Machine.execRetrySlot radio slot s
  | .detourSlot radio slot => Sys2Proof.Machine.execDetourSlot radio slot s
  | .backfillSlot radio slot => Sys2Proof.Machine.execBackfillSlot radio slot s
  | .commandSlot slot => Sys2Proof.Machine.execCommandSlot slot s
  | .joinSlot radio => Sys2Proof.Machine.execJoinSlot radio s
  | .radioTxFault radio => Sys2Proof.Machine.execRadioTxFault radio s
  | .recordClose => Sys2Proof.Machine.execRecordClose s
  | .screenStage => Sys2Proof.Machine.execScreenStage s
  | .chargeStage => Sys2Proof.Machine.execChargeStage s
  | .modelStage => Sys2Proof.Machine.execModelStage s
  | .gateReset cell => Sys2Proof.Machine.execGateReset cell s
  | .stepStage => Sys2Proof.Machine.execStepStage s
  | .fuseStage => Sys2Proof.Machine.execFuseStage s
  | .conflictConfirm cell => Sys2Proof.Machine.execConflictConfirm cell s
  | .taperFire full => Sys2Proof.Machine.execTaperFire full s
  | .anchorOld cell => Sys2Proof.Machine.execAnchorOld cell s
  | .lowConf cell => Sys2Proof.Machine.execLowConf cell s
  | .scaleStage => Sys2Proof.Machine.execScaleStage s
  | .publish => Sys2Proof.Machine.execPublish s
  | .pipelineOverrun => Sys2Proof.Machine.execPipelineOverrun s
  | .limitsZeroed => Sys2Proof.Machine.execLimitsZeroed s
  | .checkpointDone => Sys2Proof.Machine.execCheckpointDone s
  | .snsOutput ch r => Sys2Proof.Machine.execSnsOutput ch r s
  | .snsStuck ch stuck => Sys2Proof.Machine.execSnsStuck ch stuck s
  | .snsBadEnd ch => Sys2Proof.Machine.execSnsBadEnd ch s
  | .sf8Resign => Sys2Proof.Machine.execSf8Resign s
  | .sf8Demand => Sys2Proof.Machine.execSf8Demand s
  | .captureAbandon id => Sys2Proof.Machine.execCaptureAbandon id s
  | .nodeForget node => Sys2Proof.Machine.execNodeForget node s
  | .laneChange node => Sys2Proof.Machine.execLaneChange node s
  | .laneAcceptEnd node => Sys2Proof.Machine.execLaneAcceptEnd node s
  | .chmaskEffective => Sys2Proof.Machine.execChmaskEffective s
  | .planLoad mid => Sys2Proof.Machine.execPlanLoad mid s
  | .planRemove mid => Sys2Proof.Machine.execPlanRemove mid s
  | .planRejoin mid => Sys2Proof.Machine.execPlanRejoin mid s
  | .rejoinAll mid => Sys2Proof.Machine.execRejoinAll mid s
  | .planHandle mid => Sys2Proof.Machine.execPlanHandle mid s
  | .chMaskWrite mid hi value => Sys2Proof.Machine.execChMaskWrite mid hi value s
  | .discRead mid => Sys2Proof.Machine.execDiscRead mid s
  | .swpCfgWrite mid value => Sys2Proof.Machine.execSwpCfgWrite mid value s
  | .swpDivChange => Sys2Proof.Machine.execSwpDivChange s
  | .wireTest mid value => Sys2Proof.Machine.execWireTest mid value s
  | .wireClear mid value => Sys2Proof.Machine.execWireClear mid value s
  | .owtRoutine => Sys2Proof.Machine.execOwtRoutine s
  | .wireHoldoffEnd node wire => Sys2Proof.Machine.execWireHoldoffEnd node wire s
  | .chemLoad mid => Sys2Proof.Machine.execChemLoad mid s
  | .chemDestroy mid => Sys2Proof.Machine.execChemDestroy mid s
  | .chemAssign mid => Sys2Proof.Machine.execChemAssign mid s
  | .estCfgWrite mid value => Sys2Proof.Machine.execEstCfgWrite mid value s
  | .ditherStart => Sys2Proof.Machine.execDitherStart s
  | .ditherEnd => Sys2Proof.Machine.execDitherEnd s
  | .tapCreate mid => Sys2Proof.Machine.execTapCreate mid s
  | .tapDestroy mid => Sys2Proof.Machine.execTapDestroy mid s
  | .tapQuery mid => Sys2Proof.Machine.execTapQuery mid s
  | .controlStep lat => Sys2Proof.Machine.execControlStep lat s
  | .fallover => Sys2Proof.Machine.execFallover s
  | .oscDetect => Sys2Proof.Machine.execOscDetect s
  | .cvlRepeat => Sys2Proof.Machine.execCvlRepeat s
  | .nomeasTimeout => Sys2Proof.Machine.execNomeasTimeout s
  | .holdTimeout => Sys2Proof.Machine.execHoldTimeout s
  | .zeroDwellEnd => Sys2Proof.Machine.execZeroDwellEnd s
  | .runStart => Sys2Proof.Machine.execRunStart s
  | .apply mid => Sys2Proof.Machine.execApply mid s
  | .restoreMain mid => Sys2Proof.Machine.execRestoreMain mid s
  | .clearOsc mid => Sys2Proof.Machine.execClearOsc mid s
  | .clearSat mid => Sys2Proof.Machine.execClearSat mid s
  | .clearLat mid => Sys2Proof.Machine.execClearLat mid s
  | .stage mid => Sys2Proof.Machine.execStage mid s
  | .withdraw mid => Sys2Proof.Machine.execWithdraw mid s
  | .immediate mid => Sys2Proof.Machine.execImmediate mid s
  | .withdrawAll mid => Sys2Proof.Machine.execWithdrawAll mid s
  | .spActivate => Sys2Proof.Machine.execSpActivate s
  | .cvlGapRead mid => Sys2Proof.Machine.execCvlGapRead mid s
  | .frmLoad mid => Sys2Proof.Machine.execFrmLoad mid s
  | .frmDestroy mid => Sys2Proof.Machine.execFrmDestroy mid s
  | .frmStart mid => Sys2Proof.Machine.execFrmStart mid s
  | .frmStop mid => Sys2Proof.Machine.execFrmStop mid s
  | .frmPause mid => Sys2Proof.Machine.execFrmPause mid s
  | .frmResume mid => Sys2Proof.Machine.execFrmResume mid s
  | .frmStepEnd cause => Sys2Proof.Machine.execFrmStepEnd cause s
  | .ihallTrip mv => Sys2Proof.Machine.execIhallTrip mv s
  | .siFilter input chB level => Sys2Proof.Machine.execSiFilter input chB level s
  | .grdSiFilter input level => Sys2Proof.Machine.execGrdSiFilter input level s
  | .siDisc input => Sys2Proof.Machine.execSiDisc input s
  | .tpPulse even => Sys2Proof.Machine.execTpPulse even s
  | .tpPulseCheck missA missB outFault => Sys2Proof.Machine.execTpPulseCheck missA missB outFault s
  | .xtripDecode level => Sys2Proof.Machine.execXtripDecode level s
  | .xtripFault => Sys2Proof.Machine.execXtripFault s
  | .demandRx cause demand => Sys2Proof.Machine.execDemandRx cause demand s
  | .wdTimeout early => Sys2Proof.Machine.execWdTimeout early s
  | .lockstepError => Sys2Proof.Machine.execLockstepError s
  | .grdMismatch sf => Sys2Proof.Machine.execGrdMismatch sf s
  | .kReqWrite mid value => Sys2Proof.Machine.execKReqWrite mid value s
  | .switchTest test => Sys2Proof.Machine.execSwitchTest test s
  | .coilOpen ch => Sys2Proof.Machine.execCoilOpen ch s
  | .fbCheck ch closedA closedB => Sys2Proof.Machine.execFbCheck ch closedA closedB s
  | .proofDue ch => Sys2Proof.Machine.execProofDue ch s
  | .proofOverdue ch => Sys2Proof.Machine.execProofOverdue ch s
  | .safReset mid => Sys2Proof.Machine.execSafReset mid s
  | .psetLoad mid => Sys2Proof.Machine.execPsetLoad mid s
  | .psetConfirm mid => Sys2Proof.Machine.execPsetConfirm mid s
  | .weldClear mid => Sys2Proof.Machine.execWeldClear mid s
  | .modeReq mid value => Sys2Proof.Machine.execModeReq mid value s
  | .stopSeqRunExit => Sys2Proof.Machine.execStopSeqRunExit s
  | .stopSeqPathsOpen => Sys2Proof.Machine.execStopSeqPathsOpen s
  | .stopSeqDone open_ => Sys2Proof.Machine.execStopSeqDone open_ s
  | .powerOn a b => Sys2Proof.Machine.execPowerOn a b s
  | .bootDone pass => Sys2Proof.Machine.execBootDone pass s
  | .startWaitExpiry => Sys2Proof.Machine.execStartWaitExpiry s
  | .resignInChange high => Sys2Proof.Machine.execResignInChange high s
  | .heartbeatTx => Sys2Proof.Machine.execHeartbeatTx s
  | .heartbeatRx hb => Sys2Proof.Machine.execHeartbeatRx hb s
  | .heartbeatLoss => Sys2Proof.Machine.execHeartbeatLoss s
  | .controlFrameRx f => Sys2Proof.Machine.execControlFrameRx f s
  | .nodeStateTx => Sys2Proof.Machine.execNodeStateTx s
  | .nodeStateRx f => Sys2Proof.Machine.execNodeStateRx f s
  | .snapshotRx f => Sys2Proof.Machine.execSnapshotRx f s
  | .resign mid => Sys2Proof.Machine.execResign mid s
  | .handoverOffer => Sys2Proof.Machine.execHandoverOffer s
  | .handoverFail => Sys2Proof.Machine.execHandoverFail s
  | .revert => Sys2Proof.Machine.execRevert s
  | .revertNow mid => Sys2Proof.Machine.execRevertNow mid s
  | .loopbackTest radio pass => Sys2Proof.Machine.execLoopbackTest radio pass s
  | .partnerPresentChange present => Sys2Proof.Machine.execPartnerPresentChange present s
  | .seatedClose => Sys2Proof.Machine.execSeatedClose s
  | .seatedOpen => Sys2Proof.Machine.execSeatedOpen s
  | .shadowPathJoin => Sys2Proof.Machine.execShadowPathJoin s
  | .latchOpen => Sys2Proof.Machine.execLatchOpen s
  | .latchClose => Sys2Proof.Machine.execLatchClose s
  | .removeOk closed => Sys2Proof.Machine.execRemoveOk closed s
  | .supplyLoss => Sys2Proof.Machine.execSupplyLoss s
  | .supplyReturn => Sys2Proof.Machine.execSupplyReturn s
  | .holdupEnd => Sys2Proof.Machine.execHoldupEnd s
  | .cswLaneChange lane up => Sys2Proof.Machine.execCswLaneChange lane up s
  | .bindWrite mid ch value => Sys2Proof.Machine.execBindWrite mid ch value s
  | .msgWrite mid ch n value => Sys2Proof.Machine.execMsgWrite mid ch n value s
  | .post mid ch value => Sys2Proof.Machine.execPost mid ch value s
  | .mbxWithdraw mid ch => Sys2Proof.Machine.execMbxWithdraw mid ch s
  | .take mid ch => Sys2Proof.Machine.execTake mid ch s
  | .ring mid ch bits => Sys2Proof.Machine.execRing mid ch bits s
  | .bellClear mid ch bits => Sys2Proof.Machine.execBellClear mid ch bits s
  | .mbxTmo ch end1 => Sys2Proof.Machine.execMbxTmo ch end1 s
  | .mutualWait ch => Sys2Proof.Machine.execMutualWait ch s
  | .postRx ch len sender words => Sys2Proof.Machine.execPostRx ch len sender words s
  | .takenRx ch taker => Sys2Proof.Machine.execTakenRx ch taker s
  | .withdrawRx ch sender => Sys2Proof.Machine.execWithdrawRx ch sender s
  | .ringRx ch bits => Sys2Proof.Machine.execRingRx ch bits s
  | .bellClrRx ch bits => Sys2Proof.Machine.execBellClrRx ch bits s
  | .refuseRx ch reason => Sys2Proof.Machine.execRefuseRx ch reason s
  | .endResetRx who => Sys2Proof.Machine.execEndResetRx who s
  | .thaw mid value => Sys2Proof.Machine.execThaw mid value s
  | .violClr mid value => Sys2Proof.Machine.execViolClr mid value s
  | .canInitClear ctl mid value => Sys2Proof.Machine.execCanInitClear ctl mid value s
  | .canInitSet ctl mid value => Sys2Proof.Machine.execCanInitSet ctl mid value s
  | .canBusIdle ctl => Sys2Proof.Machine.execCanBusIdle ctl s
  | .recover ctl mid => Sys2Proof.Machine.execRecover ctl mid s
  | .canRecovered ctl => Sys2Proof.Machine.execCanRecovered ctl s
  | .txFlush ctl mid => Sys2Proof.Machine.execTxFlush ctl mid s
  | .rxfFlush ctl mid => Sys2Proof.Machine.execRxfFlush ctl mid s
  | .txeFlush ctl mid => Sys2Proof.Machine.execTxeFlush ctl mid s
  | .canFrameRx ctl sof w0 w1 data => Sys2Proof.Machine.execCanFrameRx ctl sof w0 w1 data s
  | .canTxAttemptEnd ctl how edges => Sys2Proof.Machine.execCanTxAttemptEnd ctl how edges s
  | .canIdClash ctl => Sys2Proof.Machine.execCanIdClash ctl s
  | .txPush ctl mid value => Sys2Proof.Machine.execTxPush ctl mid value s
  | .txCancel ctl mid value => Sys2Proof.Machine.execTxCancel ctl mid value s
  | .rxfPop ctl mid value => Sys2Proof.Machine.execRxfPop ctl mid value s
  | .txePop ctl mid value => Sys2Proof.Machine.execTxePop ctl mid value s
  | .fsCreate ctl mid => Sys2Proof.Machine.execFsCreate ctl mid s
  | .fsDestroy ctl mid => Sys2Proof.Machine.execFsDestroy ctl mid s
  | .fsEnable ctl mid => Sys2Proof.Machine.execFsEnable ctl mid s
  | .fsDisable ctl mid => Sys2Proof.Machine.execFsDisable ctl mid s
  | .fsQuery ctl mid => Sys2Proof.Machine.execFsQuery ctl mid s
  | .fltWrite ctl mid k mask value => Sys2Proof.Machine.execFltWrite ctl mid k mask value s
  | .ethFrameRx port bytes => Sys2Proof.Machine.execEthFrameRx port bytes s
  | .ethEgress port => Sys2Proof.Machine.execEthEgress port s
  | .macAge => Sys2Proof.Machine.execMacAge s
  | .ethLinkChange port up => Sys2Proof.Machine.execEthLinkChange port up s
  | .txRingKick mid q value => Sys2Proof.Machine.execTxRingKick mid q value s
  | .tsFifoRead mid => Sys2Proof.Machine.execTsFifoRead mid s
  | .clkdStep n mid => Sys2Proof.Machine.execClkdStep n mid s
  | .clkdSet n mid => Sys2Proof.Machine.execClkdSet n mid s
  | .adjWrite n mid value => Sys2Proof.Machine.execAdjWrite n mid value s
  | .clkdCfgWrite n mid value => Sys2Proof.Machine.execClkdCfgWrite n mid value s
  | .launchCreate mid => Sys2Proof.Machine.execLaunchCreate mid s
  | .launchDestroy mid => Sys2Proof.Machine.execLaunchDestroy mid s
  | .launch idx => Sys2Proof.Machine.execLaunch idx s
  | .laFifoRead mid => Sys2Proof.Machine.execLaFifoRead mid s
  | .setpointRx hdr entries => Sys2Proof.Machine.execSetpointRx hdr entries s
  | .withdrawMsgRx hdr pairs => Sys2Proof.Machine.execWithdrawMsgRx hdr pairs s
  | .timebaseRx hdr body => Sys2Proof.Machine.execTimebaseRx hdr body s
  | .keyLoad0 mid => Sys2Proof.Machine.execKeyLoad0 mid s
  | .keyLoad1 mid => Sys2Proof.Machine.execKeyLoad1 mid s
  | .keyErase0 mid => Sys2Proof.Machine.execKeyErase0 mid s
  | .keyErase1 mid => Sys2Proof.Machine.execKeyErase1 mid s
  | .rptCfgWrite mid value => Sys2Proof.Machine.execRptCfgWrite mid value s
  | .senderIdWrite mid value => Sys2Proof.Machine.execSenderIdWrite mid value s
  | .peerWrite mid n value => Sys2Proof.Machine.execPeerWrite mid n value s
  | .wmCreate mid => Sys2Proof.Machine.execWmCreate mid s
  | .wmDestroy mid => Sys2Proof.Machine.execWmDestroy mid s
  | .wmQuery mid => Sys2Proof.Machine.execWmQuery mid s
  | .wmFire => Sys2Proof.Machine.execWmFire s
  | .wmFifoRead mid => Sys2Proof.Machine.execWmFifoRead mid s
  | .gpioPulseEnd pin => Sys2Proof.Machine.execGpioPulseEnd pin s
  | .ppsInEdge falling => Sys2Proof.Machine.execPpsInEdge falling s
  | .ppsMissing => Sys2Proof.Machine.execPpsMissing s
  | .ppsOutEdge => Sys2Proof.Machine.execPpsOutEdge s
  | .ppsOutPulseEnd => Sys2Proof.Machine.execPpsOutPulseEnd s
  | .gpioEdge pin rising => Sys2Proof.Machine.execGpioEdge pin rising s
  | .recIntake => Sys2Proof.Machine.execRecIntake s
  | .recWrite => Sys2Proof.Machine.execRecWrite s
  | .recPost mid value => Sys2Proof.Machine.execRecPost mid value s
  | .tollRefill code => Sys2Proof.Machine.execTollRefill code s
  | .tollParamWrite mid value => Sys2Proof.Machine.execTollParamWrite mid value s
  | .freeze mid => Sys2Proof.Machine.execFreeze mid s
  | .recThaw mid => Sys2Proof.Machine.execRecThaw mid s
  | .freezeTimeout => Sys2Proof.Machine.execFreezeTimeout s
  | .recScan => Sys2Proof.Machine.execRecScan s
  | .scanDone => Sys2Proof.Machine.execScanDone s
  | .clear mid => Sys2Proof.Machine.execClear mid s
  | .logErase => Sys2Proof.Machine.execLogErase s
  | .rdSelect mid value => Sys2Proof.Machine.execRdSelect mid value s
  | .refSelWrite mid refclk => Sys2Proof.Machine.execRefSelWrite mid refclk s
  | .refQualified => Sys2Proof.Machine.execRefQualified s
  | .refLost => Sys2Proof.Machine.execRefLost s
  | .refSlewDone => Sys2Proof.Machine.execRefSlewDone s
  | .dvfsReq mid value => Sys2Proof.Machine.execDvfsReq mid value s
  | .pmicConfirm => Sys2Proof.Machine.execPmicConfirm s
  | .dvfsDone => Sys2Proof.Machine.execDvfsDone s
  | .dvfsFail => Sys2Proof.Machine.execDvfsFail s
  | .compatWrite mid on => Sys2Proof.Machine.execCompatWrite mid on s
  | .clkGateWrite mid hi value => Sys2Proof.Machine.execClkGateWrite mid hi value s
  | .clkGateStop page => Sys2Proof.Machine.execClkGateStop page s
  | .rstKey mid value => Sys2Proof.Machine.execRstKey mid value s
  | .powerReset brownout romOk swFaults => Sys2Proof.Machine.execPowerReset brownout romOk swFaults s
  | .moduleReset src romOk swFaults => Sys2Proof.Machine.execModuleReset src romOk swFaults s
  | .appReset mid => Sys2Proof.Machine.execAppReset mid s
  | .coreReset mid n => Sys2Proof.Machine.execCoreReset mid n s
  | .linkReset mid => Sys2Proof.Machine.execLinkReset mid s
  | .blockReset mid page => Sys2Proof.Machine.execBlockReset mid page s
  | .wdtKick n mid value => Sys2Proof.Machine.execWdtKick n mid value s
  | .wdtExpire n => Sys2Proof.Machine.execWdtExpire n s
  | .eccUe addr error => Sys2Proof.Machine.execEccUe addr error s
  | .tempHigh => Sys2Proof.Machine.execTempHigh s
  | .bootRomRetry pass => Sys2Proof.Machine.execBootRomRetry pass s
  | .trialBootTimeout => Sys2Proof.Machine.execTrialBootTimeout s
  | .sign mid => Sys2Proof.Machine.execSign mid s
  | .certRead mid => Sys2Proof.Machine.execCertRead mid s
  | .keyInstall mid => Sys2Proof.Machine.execKeyInstall mid s
  | .fleetInstall mid => Sys2Proof.Machine.execFleetInstall mid s
  | .pubRead mid => Sys2Proof.Machine.execPubRead mid s
  | .secDone => Sys2Proof.Machine.execSecDone s
  | .secRandRead mid => Sys2Proof.Machine.execSecRandRead mid s
  | .updStage mid => Sys2Proof.Machine.execUpdStage mid s
  | .stageDone same => Sys2Proof.Machine.execStageDone same s
  | .activate mid => Sys2Proof.Machine.execActivate mid s
  | .cancel mid => Sys2Proof.Machine.execCancel mid s
  | .commit mid => Sys2Proof.Machine.execCommit mid s
  | .activationTime => Sys2Proof.Machine.execActivationTime s
  | .activationRecheck => Sys2Proof.Machine.execActivationRecheck s
  | .pairTmo => Sys2Proof.Machine.execPairTmo s
  | .overwriteSector same => Sys2Proof.Machine.execOverwriteSector same s
  | .imageRequest => Sys2Proof.Machine.execImageRequest s
  | .imageRequestRx serial cert => Sys2Proof.Machine.execImageRequestRx serial cert s
  | .imageWrapRx wrap => Sys2Proof.Machine.execImageWrapRx wrap s
  | .imageDataRx offset bytes => Sys2Proof.Machine.execImageDataRx offset bytes s
  | .imageEndRx crc => Sys2Proof.Machine.execImageEndRx crc s
  | .imageRefuseRx reason => Sys2Proof.Machine.execImageRefuseRx reason s
  | .switchReadbackFault ch low kind => Sys2Proof.Machine.execSwitchReadbackFault ch low kind s
  | .cvlLineFault => Sys2Proof.Machine.execCvlLineFault s
  | .presentMaskTimeout => Sys2Proof.Machine.execPresentMaskTimeout s
  | .xtripPulseReturn => Sys2Proof.Machine.execXtripPulseReturn s
  | .ihallClear mv => Sys2Proof.Machine.execIhallClear mv s
  | .pwrGoodChange supplyB good => Sys2Proof.Machine.execPwrGoodChange supplyB good s
  | .holdupReady mv => Sys2Proof.Machine.execHoldupReady mv s
  | .tempRestored => Sys2Proof.Machine.execTempRestored s
  | .pllUnlock radio locked => Sys2Proof.Machine.execPllUnlock radio locked s
  | .gauSlewDone => Sys2Proof.Machine.execGauSlewDone s
  | .nominalCrossing => Sys2Proof.Machine.execNominalCrossing s
  | .canRxError ctl what => Sys2Proof.Machine.execCanRxError ctl what s
  | .canTxSof ctl => Sys2Proof.Machine.execCanTxSof ctl s

end Sys2Proof.Machine
end

