-- ==== Sys2Proof/Safety.lean ====
section
/-! DEFINITION. The terms claims are stated in: which parts of the state a command leaves alone, what lets a bus access through, and what a
state of the block may be. -/

namespace Sys2Proof.Machine

open Sys2Proof

/-- The parts of the state, one for each field of `State` but the registers, which `Only` names one by one. -/
inductive Part where
  | pending | snaps | busData | busHi | busErr | dmaErr | mem | gens | free | draws | tim | gau | link | swp | sns | est | ctl | frm | saf | pair | mbx | can0 | can1
  | filters | eth | dsp | recd | clock | rst | gpio | upd | nv
  deriving DecidableEq, Repr

/-- A part is the same in two states; of memory, every byte reads the same. -/
def Part.same (p : Part) (s t : State) : Prop :=
  match p with
  | .pending => t.pending = s.pending
  | .snaps => t.snaps = s.snaps
  | .busData => t.busData = s.busData
  | .busHi => t.busHi = s.busHi
  | .busErr => t.busErr = s.busErr
  | .dmaErr => t.dmaErr = s.dmaErr
  | .mem => ∀ a, t.readByte a = s.readByte a
  | .gens => t.gens = s.gens
  | .free => t.free = s.free
  | .draws => t.draws = s.draws
  | .tim => t.tim = s.tim
  | .gau => t.gau = s.gau
  | .link => t.link = s.link
  | .swp => t.swp = s.swp
  | .sns => t.sns = s.sns
  | .est => t.est = s.est
  | .ctl => t.ctl = s.ctl
  | .frm => t.frm = s.frm
  | .saf => t.saf = s.saf
  | .pair => t.pair = s.pair
  | .mbx => t.mbx = s.mbx
  | .can0 => t.can0 = s.can0
  | .can1 => t.can1 = s.can1
  | .filters => t.filters = s.filters
  | .eth => t.eth = s.eth
  | .dsp => t.dsp = s.dsp
  | .recd => t.recd = s.recd
  | .clock => t.clock = s.clock
  | .rst => t.rst = s.rst
  | .gpio => t.gpio = s.gpio
  | .upd => t.upd = s.upd
  | .nv => t.nv = s.nv

/-- From `s` to `t` only the parts and the registers named may have changed. -/
def Only (parts : List Part) (regs : List Nat) (s t : State) : Prop :=
  (∀ p, p ∉ parts → p.same s t) ∧ ∀ a, a ∉ regs → t.reg a = s.reg a

/-- As `Only`, with events of some pages besides: their EVT registers, the recorder's arrivals and the count of free values. -/
def OnlyEvents (parts : List Part) (regs pages : List Nat) (s t : State) : Prop :=
  Only (.recd :: .free :: parts) (regs ++ pages.map State.evtAddr) s t

/-- From `s` to `t` only the parts named and registers of the pages named may have changed. -/
def OnlyPages (parts : List Part) (pages : List Nat) (s t : State) : Prop :=
  (∀ p, p ∉ parts → p.same s t) ∧ ∀ a, a / 0x1000 ∉ pages → t.reg a = s.reg a

/-- A bus access passes (R249, R262 to R266, R339, R378): its master is not held or frozen, the firewall grants it the page, and the page is
implemented with its clock on. -/
abbrev Passes (s : State) (mid : Mid) (addr : Nat) (write : Bool) : Prop :=
  s.held mid = false ∧ (s.fwlOn && !s.pageRight (midColumn mid) (addr / 0x1000) write) = false ∧
    pageImplemented (addr / 0x1000) = true ∧ s.pageOpen (addr / 0x1000) = true

/-- An EVT bit is set (R381). -/
def evt (s : State) (page b : Nat) : Bool := s.bit (State.evtAddr page) b

/-- The address of a page's ERR_CODE (R380). -/
def errAddr (page : Nat) : Nat := page * 0x1000 + 0x01c

/-- The register that a bus command accesses (the pages of spec/17 and the chapters' register tables): the master, the offset in the register
window, and whether it is a write. The mailbox windows and REGISTER_WRITE are apart. -/
def access (c : Instr) : Option (Mid × Nat × Bool) :=
  match c with
  | .blkLock mid page _ => some (mid, page % 64 * 0x1000 + 0x00c, true)
  | .evtForce mid page _ => some (mid, page % 64 * 0x1000 + 0x018, true)
  | .snap mid page => some (mid, page * 0x1000 + 0x020, true)
  | .errCodeRead mid page => some (mid, page % 64 * 0x1000 + 0x01c, false)
  | .timSnap mid => some (mid, 0x6020, true)
  | .gauSnap mid => some (mid, 0x7020, true)
  | .plantSelWrite mid _ => some (mid, Reg.TIM_PLANT_CFG, true)
  | .gauCfgWrite mid _ => some (mid, Reg.GAU_GAU_CFG, true)
  | .cycBiasAtWrite mid _ => some (mid, Reg.GAU_CYC_BIAS_AT, true)
  | .planLoad mid => some (mid, Reg.NOD_PLAN_CMD, true)
  | .planRemove mid => some (mid, Reg.NOD_PLAN_CMD, true)
  | .planRejoin mid => some (mid, Reg.NOD_PLAN_CMD, true)
  | .rejoinAll mid => some (mid, Reg.NOD_PLAN_CMD, true)
  | .planHandle mid => some (mid, Reg.NOD_PLAN_CMD, true)
  | .chMaskWrite mid hi _ => some (mid, if hi then Reg.NOD_CH_MASK_HI else Reg.NOD_CH_MASK_LO, true)
  | .discRead mid => some (mid, Reg.NOD_DISC_LO, false)
  | .swpCfgWrite mid _ => some (mid, Reg.SWP_SWP_CFG, true)
  | .wireTest mid _ => some (mid, Reg.SWP_WIRE_CMD, true)
  | .wireClear mid _ => some (mid, Reg.SWP_WIRE_CMD, true)
  | .chemLoad mid => some (mid, Reg.EST_CHEM_CMD, true)
  | .chemDestroy mid => some (mid, Reg.EST_CHEM_CMD, true)
  | .chemAssign mid => some (mid, Reg.EST_CHEM_CMD, true)
  | .estCfgWrite mid _ => some (mid, Reg.EST_EST_CFG, true)
  | .tapCreate mid => some (mid, Reg.FUS_TAP_CMD, true)
  | .tapDestroy mid => some (mid, Reg.FUS_TAP_CMD, true)
  | .tapQuery mid => some (mid, Reg.FUS_TAP_CMD, true)
  | .apply mid => some (mid, Reg.CTL_CTL_CMD, true)
  | .restoreMain mid => some (mid, Reg.CTL_CTL_CMD, true)
  | .clearOsc mid => some (mid, Reg.CTL_CTL_CMD, true)
  | .clearSat mid => some (mid, Reg.CTL_CTL_CMD, true)
  | .clearLat mid => some (mid, Reg.CTL_CTL_CMD, true)
  | .stage mid => some (mid, Reg.CTL_SP_CMD, true)
  | .withdraw mid => some (mid, Reg.CTL_SP_CMD, true)
  | .immediate mid => some (mid, Reg.CTL_SP_CMD, true)
  | .withdrawAll mid => some (mid, Reg.CTL_SP_CMD, true)
  | .cvlGapRead mid => some (mid, Reg.CVL_CVL_GAP, false)
  | .frmLoad mid => some (mid, Reg.FRM_FRM_CMD, true)
  | .frmDestroy mid => some (mid, Reg.FRM_FRM_CMD, true)
  | .frmStart mid => some (mid, Reg.FRM_FRM_CMD, true)
  | .frmStop mid => some (mid, Reg.FRM_FRM_CMD, true)
  | .frmPause mid => some (mid, Reg.FRM_FRM_CMD, true)
  | .frmResume mid => some (mid, Reg.FRM_FRM_CMD, true)
  | .kReqWrite mid _ => some (mid, Reg.SAF_K_REQ, true)
  | .safReset mid => some (mid, Reg.SAF_SAF_CMD, true)
  | .psetLoad mid => some (mid, Reg.SAF_SAF_CMD, true)
  | .psetConfirm mid => some (mid, Reg.SAF_SAF_CMD, true)
  | .weldClear mid => some (mid, Reg.SAF_SAF_CMD, true)
  | .modeReq mid _ => some (mid, Reg.RED_MODE_REQ, true)
  | .resign mid => some (mid, Reg.RED_RED_CMD, true)
  | .revertNow mid => some (mid, Reg.RED_RED_CMD, true)
  | .bindWrite mid ch _ => some (mid, Reg.MBX_BIND ch.val, true)
  | .thaw mid _ => some (mid, Reg.FWL_FWL_CMD, true)
  | .violClr mid _ => some (mid, Reg.FWL_VIOL_CLR, true)
  | .canInitClear ctl mid _ => some (mid, Reg.CAN_CAN_CTRL ctl.val, true)
  | .canInitSet ctl mid _ => some (mid, Reg.CAN_CAN_CTRL ctl.val, true)
  | .recover ctl mid => some (mid, Reg.CAN_CAN_CMD ctl.val, true)
  | .txFlush ctl mid => some (mid, Reg.CAN_CAN_CMD ctl.val, true)
  | .rxfFlush ctl mid => some (mid, Reg.CAN_CAN_CMD ctl.val, true)
  | .txeFlush ctl mid => some (mid, Reg.CAN_CAN_CMD ctl.val, true)
  | .txPush ctl mid _ => some (mid, Reg.CAN_TX_PUSH ctl.val, true)
  | .txCancel ctl mid _ => some (mid, Reg.CAN_TX_CANCEL ctl.val, true)
  | .rxfPop ctl mid _ => some (mid, Reg.CAN_RXF_POP ctl.val, true)
  | .txePop ctl mid _ => some (mid, Reg.CAN_TXE_POP ctl.val, true)
  | .fsCreate ctl mid => some (mid, Reg.CAN_FS_CMD ctl.val, true)
  | .fsDestroy ctl mid => some (mid, Reg.CAN_FS_CMD ctl.val, true)
  | .fsEnable ctl mid => some (mid, Reg.CAN_FS_CMD ctl.val, true)
  | .fsDisable ctl mid => some (mid, Reg.CAN_FS_CMD ctl.val, true)
  | .fsQuery ctl mid => some (mid, Reg.CAN_FS_CMD ctl.val, true)
  | .fltWrite ctl mid k mask _ => some (mid, if mask then Reg.CAN_FLT_MASK ctl.val k.val else Reg.CAN_FLT_ID ctl.val k.val, true)
  | .txRingKick mid q _ => some (mid, Reg.ETH_TXR_TAIL q.val, true)
  | .tsFifoRead mid => some (mid, Reg.ETH_TS_HEAD 5, false)
  | .clkdStep n mid => some (mid, Reg.PTP_CLKD_CMD n.val, true)
  | .clkdSet n mid => some (mid, Reg.PTP_CLKD_CMD n.val, true)
  | .adjWrite n mid _ => some (mid, Reg.PTP_ADJ n.val, true)
  | .clkdCfgWrite n mid _ => some (mid, Reg.PTP_CLKD_CFG n.val, true)
  | .launchCreate mid => some (mid, Reg.ETH_LA_CMD, true)
  | .launchDestroy mid => some (mid, Reg.ETH_LA_CMD, true)
  | .laFifoRead mid => some (mid, Reg.ETH_LA_FIFO, false)
  | .keyLoad0 mid => some (mid, Reg.DSP_KEY_CMD, true)
  | .keyLoad1 mid => some (mid, Reg.DSP_KEY_CMD, true)
  | .keyErase0 mid => some (mid, Reg.DSP_KEY_CMD, true)
  | .keyErase1 mid => some (mid, Reg.DSP_KEY_CMD, true)
  | .rptCfgWrite mid _ => some (mid, Reg.DSP_RPT_CFG, true)
  | .senderIdWrite mid _ => some (mid, Reg.DSP_SENDER_ID, true)
  | .peerWrite mid n _ => some (mid, Reg.DSP_PEER n.val, true)
  | .wmCreate mid => some (mid, Reg.GAU_WM_CMD, true)
  | .wmDestroy mid => some (mid, Reg.GAU_WM_CMD, true)
  | .wmQuery mid => some (mid, Reg.GAU_WM_CMD, true)
  | .wmFifoRead mid => some (mid, Reg.GAU_WM_FIFO, false)
  | .recPost mid _ => some (mid, Reg.REC_REC_POST, true)
  | .tollParamWrite mid _ => some (mid, Reg.REC_TOLL_PARAM, true)
  | .freeze mid => some (mid, Reg.REC_REC_FREEZE, true)
  | .recThaw mid => some (mid, Reg.REC_REC_FREEZE, true)
  | .clear mid => some (mid, Reg.REC_REC_CMD, true)
  | .rdSelect mid _ => some (mid, Reg.REC_RD_KEY, true)
  | .refSelWrite mid _ => some (mid, Reg.CLK_CLK_CFG, true)
  | .dvfsReq mid _ => some (mid, Reg.CLK_DVFS_REQ, true)
  | .compatWrite mid _ => some (mid, Reg.CLK_CLK_CFG, true)
  | .clkGateWrite mid hi _ => some (mid, if hi then Reg.CLK_CLK_GATE_HI else Reg.CLK_CLK_GATE_LO, true)
  | .rstKey mid _ => some (mid, Reg.RST_RST_KEY, true)
  | .appReset mid => some (mid, Reg.RST_RST_CMD, true)
  | .coreReset mid _ => some (mid, Reg.RST_RST_CMD, true)
  | .linkReset mid => some (mid, Reg.RST_RST_CMD, true)
  | .blockReset mid _ => some (mid, Reg.RST_RST_CMD, true)
  | .wdtKick n mid _ => some (mid, Reg.RST_WDT_KICK n.val, true)
  | .sign mid => some (mid, Reg.SEC_SEC_CMD, true)
  | .certRead mid => some (mid, Reg.SEC_SEC_CMD, true)
  | .keyInstall mid => some (mid, Reg.SEC_SEC_CMD, true)
  | .fleetInstall mid => some (mid, Reg.SEC_SEC_CMD, true)
  | .pubRead mid => some (mid, Reg.SEC_SEC_CMD, true)
  | .secRandRead mid => some (mid, Reg.SEC_SEC_RAND, false)
  | .updStage mid => some (mid, Reg.UPD_UPD_CMD, true)
  | .activate mid => some (mid, Reg.UPD_UPD_CMD, true)
  | .cancel mid => some (mid, Reg.UPD_UPD_CMD, true)
  | .commit mid => some (mid, Reg.UPD_UPD_CMD, true)
  | .moduleReset (.cmd mid) _ _ => some (mid, Reg.RST_RST_CMD, true)
  | _ => none

/-- Registers whose write has no effect of its own: their access code alone decides (R5). -/
def plainRegisters : List Nat :=
  [Reg.RST_RST_CAUSE, Reg.MBX_MBX_TMO, Reg.TIM_PLANT_SLEW_LIM, Reg.NOD_NOD_CFG, Reg.SWP_FREE_DI,
   Reg.SAF_PSET_ADDR, Reg.SAF_PSET_CONFIRM, Reg.ETH_TXR_BASE 0, Reg.REC_TOLL_CODE, Reg.CSW_CSW_CFG, Reg.CSW_CFG_TAG, Reg.CSW_MIRROR_TOL,
   Reg.RED_START_WAIT, Reg.RED_STOP_TMO, Reg.RED_STOP_I, Reg.UPD_UPD_ADDR, Reg.SEC_SEC_ADDR]

/-- A run is safe when no step of it stops with a fault. -/
def Safe (s : State) : Prop := ∀ f, step s ≠ .fault f

end Sys2Proof.Machine
end

