-- ==== Sys2Proof/WellFormed.lean ====
section
/-! DEFINITION. The operands a command may carry: register values and frame fields within the widths of their layouts. The meanings are
total on every operand; a command that is not well formed is one that no bus access, frame or pin can give. -/

namespace Sys2Proof

/-- A value of an unsigned field of `n` bits. -/
def fitsU (n v : Nat) : Bool := decide (v < 2 ^ n)

/-- A value of a two's-complement field of `n` bits. -/
def fitsS (n : Nat) (v : Int) : Bool := decide (-(2 : Int) ^ (n - 1) ≤ v) && decide (v < (2 : Int) ^ (n - 1))

/-- The fields of HDR (R50): a slot of R58, SRC and CYC8 of 8 bits. -/
def RxInfo.ok (i : RxInfo) : Bool := decide (i.slot ≤ 34) && fitsU 8 i.src && fitsU 8 i.cyc8

/-- The body of R61: 16 voltages and 4 temperatures, each field in its width. -/
def UplinkBody.ok (b : UplinkBody) : Bool :=
  decide (b.v.length = 16) && b.v.all (fitsU 16) && decide (b.t.length = 4) && b.t.all (fitsS 16) && fitsS 16 b.tdie && fitsU 16 b.ov && fitsU 16 b.uv &&
    fitsU 8 b.tflag && fitsU 8 b.nstat && fitsS 8 b.sampleErr && fitsU 16 b.balOn && fitsU 8 b.stat && fitsU 8 b.cmdEcho

/-- SEQ of a Causeway frame has 16 bits (R229). -/
def CswRx.ok (r : CswRx) : Bool := fitsU 16 r.seq

/-- A heartbeat's fields (R230). -/
def Heartbeat.ok (h : Heartbeat) : Bool :=
  h.rx.ok && decide (h.role ≤ 3) && decide (h.mode ≤ 7) && fitsU 8 h.tko && decide (h.score ≤ 100) && fitsU 6 h.kReq && fitsU 6 h.path &&
    fitsU 32 h.present && fitsU 32 h.cycle && fitsU 32 h.gauCycle && fitsU 32 h.gauAngle && fitsU 48 h.ptSec && decide (h.ptNs < 1000000000) && fitsU 16 h.epoch

/-- The control state of R231. -/
def CtlFrame.ok (f : CtlFrame) : Bool :=
  f.rx.ok && decide (f.state ≤ 3) && decide (1 ≤ f.kind) && decide (f.kind ≤ 3) && fitsU 6 f.kReq && fitsU 32 f.steps && fitsU 32 f.cycle && fitsS 32 f.spValue &&
    fitsS 32 f.spLimit && fitsU 8 f.frmStep && fitsU 32 f.frmTime && fitsS 32 f.ref && fitsU 8 f.tko

/-- NODE_STATE (R230): lanes 0 to 15 on radio 0 or 1. -/
def NodeState.ok (f : NodeState) : Bool :=
  f.rx.ok && fitsU 32 f.joined && fitsU 8 f.planVer && decide (f.nodes.length ≤ 32) && f.nodes.all fun p => fitsU 4 p.1 && fitsU 1 p.2

/-- A FREEZE entry (R65). -/
def FreezeEntry.ok (e : FreezeEntry) : Bool := fitsU 8 e.id && fitsU 32 e.cycle && fitsU 8 e.j && fitsU 64 e.map

/-- The end of a transmit attempt (R283): TEC rises once for the error and again for its error flag, at most 256 in all. -/
def CanEnd.ok : CanEnd → Bool
  | .error _ _ _ steps => decide (steps ≤ 32)
  | _ => true

/-- A receive error (R283): REC rises by 1, by 8, or by 1 and multiples of 8. -/
def CanRxFault.ok : CanRxFault → Bool
  | .error _ _ rise => decide (1 ≤ rise) && decide (rise % 8 ≤ 1) && decide (rise ≤ 257)
  | .resBit => true

/-- A snapshot (R232): cells 0 to 511, each with the 32 words of R138. -/
def Snapshot.ok (f : Snapshot) : Bool :=
  fitsU 32 f.pubSeq && fitsU 32 f.cycle && f.cells.all fun c => fitsU 9 c.cell && decide (c.core.length = 32)

/-- The clear header of a Dispatch message (R301). -/
def DspHdr.ok (h : DspHdr) : Bool := fitsU 8 h.ver && fitsU 8 h.typ && fitsU 8 h.keyId && fitsU 32 h.sender && fitsU 64 h.counter

/-- A SETPOINT entry (R304). -/
def SpEntry.ok (e : SpEntry) : Bool :=
  fitsU 32 e.stringId && fitsU 32 e.spId && fitsU 8 e.kind && fitsU 8 e.flags && fitsS 32 e.value && fitsS 32 e.limit && fitsU 32 e.actCycle && fitsU 32 e.actAngle

/-- A command whose operands fit their fields. -/
def Instr.ok : Instr → Bool
  | .registerWrite _ addr access value => [1, 2, 4, 8].contains access.size && fitsU 40 addr && fitsU (8 * access.size) value
  | .blkLock _ page _ => fitsU 6 page
  | .evtForce _ page _ => fitsU 6 page
  | .snap _ page => fitsU 6 page
  | .errCodeRead _ page => fitsU 6 page
  | .timSnap _ => true
  | .gauSnap _ => true
  | .plantSelWrite _ _ => true
  | .slewDone => true
  | .phrefEdge _ => true
  | .lockLost => true
  | .holdoverEnd => true
  | .gauCfgWrite _ _ => true
  | .cycBiasAtWrite _ _ => true
  | .biasChange => true
  | .sweepWaymark => true
  | .auxSuperframe => true
  | .uplinkRx _ info body => info.ok && body.ok
  | .retryUpRx _ info body => info.ok && body.ok
  | .detourRx _ info inner body => info.ok && inner.ok && body.ok
  | .backfillRx _ info data body => info.ok && fitsU 8 data && body.ok
  | .fragmentRx _ info id _ frag values => info.ok && fitsU 8 id && decide (frag ≤ 21) && decide (values.length = 24) && values.all (fitsU 16)
  | .notHeldRx _ info reason => info.ok && fitsU 8 reason
  | .statusRx _ info body => info.ok && body.ok
  | .joinReqRx _ info _ fwver rcause => info.ok && fitsU 16 fwver && fitsU 8 rcause
  | .discReplyRx _ info serial => info.ok && fitsU 64 serial
  | .retrySlot _ slot => decide (17 ≤ slot) && decide (slot ≤ 20)
  | .detourSlot _ slot => decide (21 ≤ slot) && decide (slot ≤ 22)
  | .backfillSlot _ slot => decide (23 ≤ slot) && decide (slot ≤ 32)
  | .commandSlot slot => slot.frame.all fun h => fitsU 8 h.1 && h.2.all FreezeEntry.ok
  | .joinSlot _ => true
  | .radioTxFault _ => true
  | .recordClose => true
  | .screenStage => true
  | .chargeStage => true
  | .modelStage => true
  | .gateReset _ => true
  | .stepStage => true
  | .fuseStage => true
  | .conflictConfirm _ => true
  | .taperFire _ => true
  | .anchorOld _ => true
  | .lowConf _ => true
  | .scaleStage => true
  | .publish => true
  | .pipelineOverrun => true
  | .limitsZeroed => true
  | .checkpointDone => true
  | .snsOutput _ r => fitsU 24 r
  | .snsStuck _ _ => true
  | .snsBadEnd _ => true
  | .sf8Resign => true
  | .sf8Demand => true
  | .captureAbandon id => fitsU 8 id
  | .nodeForget _ => true
  | .laneChange _ => true
  | .laneAcceptEnd _ => true
  | .chmaskEffective => true
  | .planLoad _ => true
  | .planRemove _ => true
  | .planRejoin _ => true
  | .rejoinAll _ => true
  | .planHandle _ => true
  | .chMaskWrite _ _ _ => true
  | .discRead _ => true
  | .swpCfgWrite _ _ => true
  | .swpDivChange => true
  | .wireTest _ _ => true
  | .wireClear _ _ => true
  | .owtRoutine => true
  | .wireHoldoffEnd _ _ => true
  | .chemLoad _ => true
  | .chemDestroy _ => true
  | .chemAssign _ => true
  | .estCfgWrite _ _ => true
  | .ditherStart => true
  | .ditherEnd => true
  | .tapCreate _ => true
  | .tapDestroy _ => true
  | .tapQuery _ => true
  | .controlStep _ => true
  | .fallover => true
  | .oscDetect => true
  | .cvlRepeat => true
  | .nomeasTimeout => true
  | .holdTimeout => true
  | .zeroDwellEnd => true
  | .runStart => true
  | .apply _ => true
  | .restoreMain _ => true
  | .clearOsc _ => true
  | .clearSat _ => true
  | .clearLat _ => true
  | .stage _ => true
  | .withdraw _ => true
  | .immediate _ => true
  | .withdrawAll _ => true
  | .spActivate => true
  | .cvlGapRead _ => true
  | .frmLoad _ => true
  | .frmDestroy _ => true
  | .frmStart _ => true
  | .frmStop _ => true
  | .frmPause _ => true
  | .frmResume _ => true
  | .frmStepEnd _ => true
  | .ihallTrip mv => fitsU 16 mv
  | .siFilter _ _ _ => true
  | .grdSiFilter _ _ => true
  | .siDisc _ => true
  | .tpPulse _ => true
  | .tpPulseCheck missA missB outFault => fitsU 18 missA && fitsU 18 missB && fitsU 8 outFault
  | .xtripDecode _ => true
  | .xtripFault => true
  | .demandRx _ _ => true
  | .wdTimeout _ => true
  | .lockstepError => true
  | .grdMismatch sf => decide (1 ≤ sf) && decide (sf ≤ 8)
  | .kReqWrite _ _ => true
  | .switchTest _ => true
  | .coilOpen _ => true
  | .fbCheck _ _ _ => true
  | .proofDue _ => true
  | .proofOverdue _ => true
  | .safReset _ => true
  | .psetLoad _ => true
  | .psetConfirm _ => true
  | .weldClear _ => true
  | .modeReq _ _ => true
  | .stopSeqRunExit => true
  | .stopSeqPathsOpen => true
  | .stopSeqDone open_ => fitsU 6 open_
  | .powerOn _ _ => true
  | .bootDone _ => true
  | .startWaitExpiry => true
  | .resignInChange _ => true
  | .heartbeatTx => true
  | .heartbeatRx hb => hb.ok
  | .heartbeatLoss => true
  | .controlFrameRx f => f.ok
  | .nodeStateTx => true
  | .nodeStateRx f => f.ok
  | .snapshotRx f => f.ok
  | .resign _ => true
  | .handoverOffer => true
  | .handoverFail => true
  | .revert => true
  | .revertNow _ => true
  | .loopbackTest _ _ => true
  | .partnerPresentChange _ => true
  | .seatedClose => true
  | .seatedOpen => true
  | .shadowPathJoin => true
  | .latchOpen => true
  | .latchClose => true
  | .removeOk closed => fitsU 6 closed
  | .supplyLoss => true
  | .supplyReturn => true
  | .holdupEnd => true
  | .cswLaneChange _ _ => true
  | .bindWrite _ _ _ => true
  | .msgWrite _ _ _ _ => true
  | .post _ _ _ => true
  | .mbxWithdraw _ _ => true
  | .take _ _ => true
  | .ring _ _ _ => true
  | .bellClear _ _ _ => true
  | .mbxTmo _ _ => true
  | .mutualWait _ => true
  | .postRx _ len _ words => decide (1 ≤ len) && decide (len ≤ 8) && decide (words.body.length = len)
  | .takenRx _ _ => true
  | .withdrawRx _ _ => true
  | .ringRx _ bits => fitsU 16 bits.body
  | .bellClrRx _ bits => fitsU 16 bits.body
  | .refuseRx _ reason => fitsU 8 reason.body
  | .endResetRx _ => true
  | .thaw _ _ => true
  | .violClr _ _ => true
  | .canInitClear _ _ _ => true
  | .canInitSet _ _ _ => true
  | .canBusIdle _ => true
  | .recover _ _ => true
  | .canRecovered _ => true
  | .txFlush _ _ => true
  | .rxfFlush _ _ => true
  | .txeFlush _ _ => true
  | .canFrameRx _ _ _ _ data => decide (data.length ≤ 64) && data.all (fitsU 8)
  | .canTxAttemptEnd _ how edges => how.ok && decide (edges.length ≤ 64)
  | .canIdClash _ => true
  | .txPush _ _ _ => true
  | .txCancel _ _ _ => true
  | .rxfPop _ _ _ => true
  | .txePop _ _ _ => true
  | .fsCreate _ _ => true
  | .fsDestroy _ _ => true
  | .fsEnable _ _ => true
  | .fsDisable _ _ => true
  | .fsQuery _ _ => true
  | .fltWrite _ _ _ _ _ => true
  | .ethFrameRx _ bytes => decide (60 ≤ bytes.length) && decide (bytes.length ≤ 1522) && bytes.all (fitsU 8)
  | .ethEgress _ => true
  | .macAge => true
  | .ethLinkChange _ _ => true
  | .txRingKick _ _ _ => true
  | .tsFifoRead _ => true
  | .clkdStep _ _ => true
  | .clkdSet _ _ => true
  | .adjWrite _ _ _ => true
  | .clkdCfgWrite _ _ _ => true
  | .launchCreate _ => true
  | .launchDestroy _ => true
  | .launch _ => true
  | .laFifoRead _ => true
  | .setpointRx hdr entries => hdr.ok && decide (1 ≤ entries.length) && decide (entries.length ≤ 48) && entries.all SpEntry.ok
  | .withdrawMsgRx hdr pairs => hdr.ok && pairs.all fun p => fitsU 32 p.1 && fitsU 32 p.2
  | .timebaseRx hdr body => hdr.ok && fitsU 64 body.origin && fitsS 32 body.bias && fitsS 32 body.biasNext && fitsU 32 body.biasAt
  | .keyLoad0 _ => true
  | .keyLoad1 _ => true
  | .keyErase0 _ => true
  | .keyErase1 _ => true
  | .rptCfgWrite _ _ => true
  | .senderIdWrite _ _ => true
  | .peerWrite _ _ _ => true
  | .wmCreate _ => true
  | .wmDestroy _ => true
  | .wmQuery _ => true
  | .wmFire => true
  | .wmFifoRead _ => true
  | .gpioPulseEnd _ => true
  | .ppsInEdge _ => true
  | .ppsMissing => true
  | .ppsOutEdge => true
  | .ppsOutPulseEnd => true
  | .gpioEdge _ _ => true
  | .recIntake => true
  | .recWrite => true
  | .recPost _ _ => true
  | .tollRefill code => fitsU 12 code
  | .tollParamWrite _ _ => true
  | .freeze _ => true
  | .recThaw _ => true
  | .freezeTimeout => true
  | .recScan => true
  | .scanDone => true
  | .clear _ => true
  | .logErase => true
  | .rdSelect _ _ => true
  | .refSelWrite _ _ => true
  | .refQualified => true
  | .refLost => true
  | .refSlewDone => true
  | .dvfsReq _ _ => true
  | .pmicConfirm => true
  | .dvfsDone => true
  | .dvfsFail => true
  | .compatWrite _ _ => true
  | .clkGateWrite _ _ _ => true
  | .clkGateStop _ => true
  | .rstKey _ _ => true
  | .powerReset _ _ swFaults => fitsU 12 swFaults
  | .moduleReset _ _ swFaults => fitsU 12 swFaults
  | .appReset _ => true
  | .coreReset _ _ => true
  | .linkReset _ => true
  | .blockReset _ _ => true
  | .wdtKick _ _ _ => true
  | .wdtExpire _ => true
  | .eccUe addr _ => fitsU 40 addr
  | .tempHigh => true
  | .bootRomRetry _ => true
  | .trialBootTimeout => true
  | .sign _ => true
  | .certRead _ => true
  | .keyInstall _ => true
  | .fleetInstall _ => true
  | .pubRead _ => true
  | .secDone => true
  | .secRandRead _ => true
  | .updStage _ => true
  | .stageDone _ => true
  | .activate _ => true
  | .cancel _ => true
  | .commit _ => true
  | .activationTime => true
  | .activationRecheck => true
  | .pairTmo => true
  | .overwriteSector _ => true
  | .imageRequest => true
  | .imageRequestRx serial cert => fitsU 64 serial && cert.body.all (fitsU 8)
  | .imageWrapRx wrap => wrap.body.all (fitsU 8)
  | .imageDataRx offset bytes => fitsU 32 offset && bytes.body.all (fitsU 8)
  | .imageEndRx _ => true
  | .imageRefuseRx reason => fitsU 8 reason.body
  | .switchReadbackFault _ _ _ => true
  | .cvlLineFault => true
  | .presentMaskTimeout => true
  | .xtripPulseReturn => true
  | .ihallClear mv => fitsU 16 mv
  | .pwrGoodChange _ _ => true
  | .holdupReady mv => fitsU 16 mv
  | .tempRestored => true
  | .pllUnlock _ _ => true
  | .gauSlewDone => true
  | .nominalCrossing => true
  | .canRxError _ what => what.ok
  | .canTxSof _ => true

end Sys2Proof
end

