-- ==== Sys2Proof/Certificates/Slice0/Obligations.lean ====
section
/-! DEFINITION. The statements about the block, for the provers. Each conjunct is about the commands its comment names; `Only` and `OnlyEvents`
give the frame: every part of the state and every register that they do not name is as before. -/

open Sys2Proof Sys2Proof.Machine Sys2Proof.Machine.State

/-- The front of the queue: a step is the meaning of the command there, on the state with the rest of the queue. The model's choices it rests on: log
entries 1. -/
def Obligations.StepRunsTheFrontCommand : Prop :=
  ∀ (c : Instr) (s : State), step { s with pending := c :: s.pending } = exec c s

/-- R19, R23, R26, R31 and R93 at an idle step, which is one TIME cycle (log entry 2): the odometer, the instances, the residual and the grid move, the
record being assembled takes its stamps, and nothing else changes. The model's choices it rests on: log entries 2, 112. -/
def Obligations.IdleStepIsOneTimeCycle : Prop :=
  ∀ s : State, s.pending = [] →
    ∃ t, step s = .next t ∧ t.tim.odo = s.tim.odo + 1 ∧
      (∀ n, n < 3 → t.clk n = ((((s.clk n : Nat) : Int) + 4 * fracPerNs + s.rdI (Reg.PTP_ADJ n)) % (clkModulus : Int)).toNat) ∧
      t.tim = { s.tim with odo := t.tim.odo, clk := t.tim.clk, resid := toward s.tim.resid s.residStep } ∧
      -- the grid moves at the frequency in use within 0.5 %, and nothing else of it changes
      (∃ b : Int, 1000 * b ≤ 5 * s.gauRate ∧ -(5 * s.gauRate : Int) ≤ 1000 * b ∧ t.gau.pos = posWrap (s.gau.pos + s.gauRate + b)) ∧
      t.gau = { s.gau with pos := t.gau.pos, slew := t.gau.slew } ∧
      -- the record being assembled takes ANGLE, FREQ and NOMINAL at its sample instant
      t.swp = (match s.swp.cur with
        | some r =>
          if r.smpOdo = t.tim.odo then
            { s.swp with cur := some { r with
                angle := t.angle, freq := t.freqMicroHz, rflags := r.rflags % 256 + 256 * b2n (t.gau.src != .phref) } }
          else s.swp
        | none => s.swp) ∧
      Only [.tim, .gau, .swp] [] s t

/-- The state after reset: every register at its Reset column (R6), the odometer at 0 (R19), BOOT without a role (R226), CTL STOPPED with no line, no
demand, no paths, no objects, an empty queue and an empty memory. The model's choices it rests on: log entries 6, 16, 17. -/
def Obligations.ResetLeaves : Prop :=
  let r := State.reset
  (∀ a, r.reg a = regReset a) ∧ r.tim.odo = 0 ∧ r.pair.mode = .boot ∧ r.pair.role = .none ∧ r.pair.claim = false ∧ r.ctl.state = 0 ∧
    r.ctl.stopping = true ∧ r.ctl.lineOn = false ∧ r.saf.latched = false ∧ r.saf.pset = none ∧ (∀ k, r.pathOn k = false) ∧
    r.frm.state = 0 ∧ r.gens = [] ∧ r.mbx = {} ∧ r.pending = [] ∧ memWf r.mem = true ∧ (∀ a, r.readByte a = memDefault) ∧
    r.rd Reg.GAU_SWEEP_ANGLE = 0x40000000 ∧ r.rd (Reg.LNK_LANE_Q 0 0) = 0x00FF0080 ∧ r.rd Reg.RST_RST_HOLD = 0x1F ∧ r.fwlOn = false

/-- Memory stays in its canonical form in every step. The model's choices it rests on: log entries 3. -/
def Obligations.MemoryStaysCanonical : Prop :=
  ∀ s t : State, memWf s.mem = true → step s = .next t → memWf t.mem = true

/-- No command touches the commands that wait. The model's choices it rests on: log entries 1. -/
def Obligations.CommandsLeaveTheQueue : Prop :=
  ∀ (c : Instr) (s t : State), exec c s = .next t → t.pending = s.pending

/-- R19: the odometer advances by one in every TIME cycle, a POWER reset sets it to 0, and no other reset, register write or debug access changes it. The
model's choices it rests on: log entries 2. -/
def Obligations.OnlyTimeAndPowerMoveTheOdometer : Prop :=
  (∀ s : State, s.pending = [] → ∃ t, step s = .next t ∧ t.tim.odo = s.tim.odo + 1) ∧
  (∀ (brown rom : Bool) (sw : Nat) (s : State), ∃ t, exec (.powerReset brown rom sw) s = .next t ∧ t.tim.odo = 0) ∧
  ∀ (c : Instr) (s t : State), (∀ brown rom sw, c ≠ .powerReset brown rom sw) → exec c s = .next t → t.tim.odo = s.tim.odo

/-- The registers of page 0x03 that a violation writes (R266). -/
def violRegs : List Nat :=
  [Reg.FWL_FROZEN, Reg.FWL_DROPPED, Reg.FWL_VIOL_COUNT, Reg.FWL_FWL_STAT, Reg.FWL_VIOL_MID, Reg.FWL_VIOL_ADDR_LO, Reg.FWL_VIOL_ADDR_HI,
   Reg.FWL_VIOL_INFO, Reg.FWL_VIOL_ODO_LO, Reg.FWL_VIOL_ODO_HI]

/-- Every bus command is checked before it acts (R249, R262 to R266, R339, R378): a held or frozen master issues no access; one the table denies is not
carried out, its master is frozen or its access dropped, and the violation is recorded; a closed or absent page reads 0 and drops writes. The model's
choices it rests on: log entries 45, 50, 52, 107. -/
def Obligations.BusCommandsAreChecked : Prop :=
  ∀ (c : Instr) (mid : Mid) (a : Nat) (w : Bool) (s : State), access c = some (mid, a, w) →
    let k := midColumn mid
    (s.held mid = true → exec c s = .next s) ∧
    (s.held mid = false → s.fwlOn = true → s.pageRight k (a / 0x1000) w = false →
      ∃ t, exec c s = .next t ∧ t.bit (if columnFreezes k then Reg.FWL_FROZEN else Reg.FWL_DROPPED) k = true ∧ t.busData = 0 ∧
        t.reg Reg.FWL_VIOL_COUNT = s.reg Reg.FWL_VIOL_COUNT + 1 ∧ evt t 0x03 0 = true ∧ t.bit Reg.FWL_FWL_STAT 1 = true ∧
        (s.bit Reg.FWL_FWL_STAT 1 = false →
          t.reg Reg.FWL_VIOL_MID = w32 mid.code ∧ t.reg Reg.FWL_VIOL_ADDR_LO = w32 (0x40000000 + a) ∧
          t.reg Reg.FWL_VIOL_ADDR_HI = w32 ((0x40000000 + a) / 2 ^ 32 % 256) ∧
          t.reg Reg.FWL_VIOL_INFO = w32 (b2n w + 0x20 + 2 ^ 16 * (a / 0x1000 % 64)) ∧
          t.reg Reg.FWL_VIOL_ODO_LO = s.odoLo ∧ t.reg Reg.FWL_VIOL_ODO_HI = s.odoHi) ∧
        (s.bit Reg.FWL_FWL_STAT 1 = true → t.reg Reg.FWL_VIOL_MID = s.reg Reg.FWL_VIOL_MID ∧
          t.reg Reg.FWL_VIOL_ADDR_LO = s.reg Reg.FWL_VIOL_ADDR_LO ∧ t.reg Reg.FWL_VIOL_INFO = s.reg Reg.FWL_VIOL_INFO ∧ evt t 0x03 2 = true) ∧
        (∃ x ∈ t.recd.arriving, x.kind = 0 ∧ x.code = 0x020 ∧ x.odo = s.tim.odo) ∧
        t.busHi = 0 ∧ t.busErr = (if k = 26 then some mid.code else s.busErr) ∧
        OnlyEvents [.busData, .busHi, .busErr] violRegs [0x03] s t) ∧
    (s.held mid = false → (s.fwlOn && !s.pageRight k (a / 0x1000) w) = false → (0x20 < a / 0x1000 ∨ s.pageOpen (a / 0x1000) = false) →
      exec c s = .next (if w then s else { s with busData := 0 }))

/-- The write of a word to a register is the command. -/
def WritesAs (mid : Mid) (s : State) (c : Instr) (a v : Nat) : Prop := exec (.registerWrite mid (registerBase + a) ⟨4, .write⟩ v) s = exec c s

/-- The commands that are the write of one word to one command register. -/
def CommandWrites (mid : Mid) (s : State) : Prop :=
  WritesAs mid s (.planLoad mid) Reg.NOD_PLAN_CMD 1 ∧ WritesAs mid s (.planRemove mid) Reg.NOD_PLAN_CMD 2 ∧
  WritesAs mid s (.planRejoin mid) Reg.NOD_PLAN_CMD 3 ∧ WritesAs mid s (.rejoinAll mid) Reg.NOD_PLAN_CMD 4 ∧
  WritesAs mid s (.planHandle mid) Reg.NOD_PLAN_CMD 5 ∧ WritesAs mid s (.chemLoad mid) Reg.EST_CHEM_CMD 1 ∧
  WritesAs mid s (.chemDestroy mid) Reg.EST_CHEM_CMD 2 ∧ WritesAs mid s (.chemAssign mid) Reg.EST_CHEM_CMD 3 ∧
  WritesAs mid s (.tapCreate mid) Reg.FUS_TAP_CMD 1 ∧ WritesAs mid s (.tapDestroy mid) Reg.FUS_TAP_CMD 2 ∧
  WritesAs mid s (.tapQuery mid) Reg.FUS_TAP_CMD 3 ∧ WritesAs mid s (.apply mid) Reg.CTL_CTL_CMD 1 ∧
  WritesAs mid s (.restoreMain mid) Reg.CTL_CTL_CMD 2 ∧ WritesAs mid s (.clearOsc mid) Reg.CTL_CTL_CMD 3 ∧
  WritesAs mid s (.clearSat mid) Reg.CTL_CTL_CMD 4 ∧ WritesAs mid s (.clearLat mid) Reg.CTL_CTL_CMD 5 ∧
  WritesAs mid s (.stage mid) Reg.CTL_SP_CMD 1 ∧ WritesAs mid s (.withdraw mid) Reg.CTL_SP_CMD 2 ∧
  WritesAs mid s (.immediate mid) Reg.CTL_SP_CMD 3 ∧ WritesAs mid s (.withdrawAll mid) Reg.CTL_SP_CMD 4 ∧
  WritesAs mid s (.frmLoad mid) Reg.FRM_FRM_CMD 1 ∧ WritesAs mid s (.frmDestroy mid) Reg.FRM_FRM_CMD 2 ∧
  WritesAs mid s (.frmStart mid) Reg.FRM_FRM_CMD 3 ∧ WritesAs mid s (.frmStop mid) Reg.FRM_FRM_CMD 4 ∧
  WritesAs mid s (.frmPause mid) Reg.FRM_FRM_CMD 5 ∧ WritesAs mid s (.frmResume mid) Reg.FRM_FRM_CMD 6 ∧
  WritesAs mid s (.safReset mid) Reg.SAF_SAF_CMD 1 ∧ WritesAs mid s (.psetLoad mid) Reg.SAF_SAF_CMD 2 ∧
  WritesAs mid s (.psetConfirm mid) Reg.SAF_SAF_CMD 3 ∧ WritesAs mid s (.weldClear mid) Reg.SAF_SAF_CMD 4 ∧
  WritesAs mid s (.resign mid) Reg.RED_RED_CMD 1 ∧ WritesAs mid s (.revertNow mid) Reg.RED_RED_CMD 2 ∧
  WritesAs mid s (.recover 0 mid) (Reg.CAN_CAN_CMD 0) 1 ∧ WritesAs mid s (.recover 1 mid) (Reg.CAN_CAN_CMD 1) 1 ∧
  WritesAs mid s (.txFlush 0 mid) (Reg.CAN_CAN_CMD 0) 2 ∧ WritesAs mid s (.txFlush 1 mid) (Reg.CAN_CAN_CMD 1) 2 ∧
  WritesAs mid s (.rxfFlush 0 mid) (Reg.CAN_CAN_CMD 0) 3 ∧ WritesAs mid s (.rxfFlush 1 mid) (Reg.CAN_CAN_CMD 1) 3 ∧
  WritesAs mid s (.txeFlush 0 mid) (Reg.CAN_CAN_CMD 0) 4 ∧ WritesAs mid s (.txeFlush 1 mid) (Reg.CAN_CAN_CMD 1) 4 ∧
  WritesAs mid s (.fsCreate 0 mid) (Reg.CAN_FS_CMD 0) 1 ∧ WritesAs mid s (.fsCreate 1 mid) (Reg.CAN_FS_CMD 1) 1 ∧
  WritesAs mid s (.fsDestroy 0 mid) (Reg.CAN_FS_CMD 0) 2 ∧ WritesAs mid s (.fsDestroy 1 mid) (Reg.CAN_FS_CMD 1) 2 ∧
  WritesAs mid s (.fsEnable 0 mid) (Reg.CAN_FS_CMD 0) 3 ∧ WritesAs mid s (.fsEnable 1 mid) (Reg.CAN_FS_CMD 1) 3 ∧
  WritesAs mid s (.fsDisable 0 mid) (Reg.CAN_FS_CMD 0) 4 ∧ WritesAs mid s (.fsDisable 1 mid) (Reg.CAN_FS_CMD 1) 4 ∧
  WritesAs mid s (.fsQuery 0 mid) (Reg.CAN_FS_CMD 0) 5 ∧ WritesAs mid s (.fsQuery 1 mid) (Reg.CAN_FS_CMD 1) 5 ∧
  WritesAs mid s (.launchCreate mid) Reg.ETH_LA_CMD 1 ∧ WritesAs mid s (.launchDestroy mid) Reg.ETH_LA_CMD 2 ∧
  WritesAs mid s (.keyLoad0 mid) Reg.DSP_KEY_CMD 1 ∧ WritesAs mid s (.keyLoad1 mid) Reg.DSP_KEY_CMD 2 ∧
  WritesAs mid s (.keyErase0 mid) Reg.DSP_KEY_CMD 3 ∧ WritesAs mid s (.keyErase1 mid) Reg.DSP_KEY_CMD 4 ∧
  WritesAs mid s (.clear mid) Reg.REC_REC_CMD 1 ∧ WritesAs mid s (.updStage mid) Reg.UPD_UPD_CMD 1 ∧
  WritesAs mid s (.activate mid) Reg.UPD_UPD_CMD 2 ∧ WritesAs mid s (.cancel mid) Reg.UPD_UPD_CMD 3 ∧
  WritesAs mid s (.commit mid) Reg.UPD_UPD_CMD 4 ∧ WritesAs mid s (.sign mid) Reg.SEC_SEC_CMD 1 ∧
  WritesAs mid s (.certRead mid) Reg.SEC_SEC_CMD 2 ∧ WritesAs mid s (.keyInstall mid) Reg.SEC_SEC_CMD 3 ∧
  WritesAs mid s (.fleetInstall mid) Reg.SEC_SEC_CMD 4 ∧ WritesAs mid s (.pubRead mid) Reg.SEC_SEC_CMD 5 ∧
  WritesAs mid s (.wmCreate mid) Reg.GAU_WM_CMD 1 ∧ WritesAs mid s (.wmDestroy mid) Reg.GAU_WM_CMD 2 ∧
  WritesAs mid s (.wmQuery mid) Reg.GAU_WM_CMD 3

/-- REGISTER_WRITE (R5, R250, R263, R265, R378, R379, R381) and SNAP (R46, R384). The model's choices it rests on: log entries 45, 88, 100, 107, 108. -/
def Obligations.WritesByAccessCode : Prop :=
  (∀ (mid : Mid) (v a : Nat) (r : RegRow) (s : State), a ∈ plainRegisters → Passes s mid a true → regRow? a = some r →
    let old := s.reg a
    ((r.acc = .rw ∨ (r.acc = .rwl ∧ s.pageLocked (a / 0x1000) = false)) →
      ∃ t, exec (.registerWrite mid (registerBase + a) ⟨4, .write⟩ v) s = .next t ∧
        t.reg a = ((old &&& ~~~r.mask) ||| (w32 v &&& r.mask)) ∧ Only [] [a] s t) ∧
    (r.acc = .rwl → s.pageLocked (a / 0x1000) = true →
      ∃ t, exec (.registerWrite mid (registerBase + a) ⟨4, .write⟩ v) s = .next t ∧ t.rd (errAddr (a / 0x1000)) % 2 ^ 8 = ErrCode.locked.code ∧
        Only [] [errAddr (a / 0x1000)] s t) ∧
    (r.acc = .w1c →
      ∃ t, exec (.registerWrite mid (registerBase + a) ⟨4, .write⟩ v) s = .next t ∧ t.reg a = old &&& ~~~(w32 v &&& r.mask) ∧
        Only [] [a] s t)) ∧
  -- the events of a page are cleared by writing ones, those of this very TIME cycle apart
  (∀ (mid : Mid) (v page : Nat) (s : State), page ≤ 0x20 → (page = 3 → mid = .own .safety) → Passes s mid (State.evtAddr page) true →
    ∃ t, exec (.registerWrite mid (registerBase + State.evtAddr page) ⟨4, .write⟩ v) s = .next t ∧
      t.reg (State.evtAddr page) = s.reg (State.evtAddr page) &&& ~~~(w32 v &&& evtMask page &&& ~~~w32 (s.evtFresh page)) ∧
      Only [] [State.evtAddr page] s t) ∧
  -- the write of a command register is the command of that word
  (∀ (mid : Mid) (s : State), CommandWrites mid s) ∧
  -- a misaligned or narrow write of a register is dropped with ALIGN
  (∀ (mid : Mid) (a size v : Nat) (s : State), a < registerSpan → (a % size ≠ 0 ∨ (size ≠ 4 ∧ size ≠ 8)) → size ≤ 8 → Passes s mid a true →
    ∃ t, exec (.registerWrite mid (registerBase + a) ⟨size, .write⟩ v) s = .next t ∧
      t.rd (errAddr (a / 0x1000)) % 2 ^ 8 = ErrCode.align.code ∧ Only [] [errAddr (a / 0x1000)] s t) ∧
  -- a 64-bit write is two of 32 bits in ascending order
  (∀ (mid : Mid) (a v : Nat) (s s1 : State), a < registerSpan → a % 8 = 0 →
    exec (.registerWrite mid (registerBase + a) ⟨4, .write⟩ v) s = .next s1 →
    exec (.registerWrite mid (registerBase + a) ⟨8, .write⟩ v) s = exec (.registerWrite mid (registerBase + (a + 4)) ⟨4, .write⟩ (v / 2 ^ 32)) s1) ∧
  -- page 0x03 takes writes from the safety core alone
  (∀ (mid : Mid) (a v : Nat) (s : State), a / 0x1000 = 3 → a % 4 = 0 → mid ≠ .own .safety → Passes s mid a true →
    ∃ t, exec (.registerWrite mid (registerBase + a) ⟨4, .write⟩ v) s = .next t ∧ t.rd (errAddr 3) % 2 ^ 8 = ErrCode.midDeny.code ∧
      Only [] [errAddr 3] s t) ∧
  -- pages 0x21 to 0x3F drop writes and read 0
  (∀ (mid : Mid) (a v : Nat) (s : State), 0x21000 ≤ a → a < registerSpan → a % 4 = 0 → s.fwlOn = false →
    exec (.registerWrite mid (registerBase + a) ⟨4, .write⟩ v) s = .next s) ∧
  (∀ (mid : Mid) (a v : Nat) (s : State), 0x21000 ≤ a → a < registerSpan → a % 4 = 0 → s.held mid = false → s.fwlOn = false →
    exec (.registerWrite mid (registerBase + a) ⟨4, .read⟩ v) s = .next { s with busData := 0, busHi := 0 }) ∧
  -- a read, or a fetch, returns the addressed bytes of the register's word; one across them is dropped with ALIGN
  (∀ (mid : Mid) (a size v : Nat) (op : BusOp) (s : State), a / 4 * 4 ∈ plainRegisters → Passes s mid a false → size ∈ [1, 2, 4] →
    a % size = 0 → op ≠ .write →
    ∃ t, exec (.registerWrite mid (registerBase + a) ⟨size, op⟩ v) s = .next t ∧
      t.busData = w32 (bitsOf (s.rd (a / 4 * 4)) (8 * (a % 4)) (8 * size)) ∧ t.busHi = 0 ∧ Only [.busData, .busHi] [] s t) ∧
  (∀ (mid : Mid) (a size v : Nat) (op : BusOp) (s : State), a < registerSpan → Passes s mid a false → size ∈ [2, 4, 8] →
    a % size ≠ 0 → op ≠ .write →
    ∃ t, exec (.registerWrite mid (registerBase + a) ⟨size, op⟩ v) s = .next t ∧ t.busData = 0 ∧
      t.rd (errAddr (a / 0x1000)) % 2 ^ 8 = ErrCode.align.code ∧ Only [.busData] [errAddr (a / 0x1000)] s t) ∧
  -- memory: what the regions grant is carried out, what they deny is a violation and changes no byte
  (∀ (mid : Mid) (a size v : Nat) (s : State), ¬(registerBase ≤ a ∧ a < registerBase + registerSpan) → a + size ≤ 2 ^ 40 →
    s.held mid = false → s.rangeRight (midColumn mid) a size true = true →
    ∃ t, exec (.registerWrite mid a ⟨size, .write⟩ v) s = .next t ∧ (∀ i, i < size → t.readByte (a + i) = BitVec.ofNat 8 (v / 256 ^ i)) ∧
      (∀ b, b < a ∨ a + size ≤ b → t.readByte b = s.readByte b) ∧ Only [.mem] [] s t) ∧
  (∀ (mid : Mid) (a size v : Nat) (op : BusOp) (s : State), ¬(registerBase ≤ a ∧ a < registerBase + registerSpan) → a + size ≤ 2 ^ 40 →
    s.held mid = false → s.rangeRight (midColumn mid) a size false = true → op ≠ .write →
    ∃ t, exec (.registerWrite mid a ⟨size, op⟩ v) s = .next t ∧ t.busData = w32 (s.readLE a size) ∧
      t.busHi = w32 (s.readLE a size / 2 ^ 32) ∧ Only [.busData, .busHi] [] s t) ∧
  (∀ (mid : Mid) (a size v : Nat) (op : BusOp) (s : State), ¬(registerBase ≤ a ∧ a < registerBase + registerSpan) → a + size ≤ 2 ^ 40 →
    s.held mid = false → s.rangeRight (midColumn mid) a size (op == .write) = false →
    ∃ t, exec (.registerWrite mid a ⟨size, op⟩ v) s = .next t ∧ evt t 0x03 0 = true ∧
      t.bit (if columnFreezes (midColumn mid) then Reg.FWL_FROZEN else Reg.FWL_DROPPED) (midColumn mid) = true ∧
      t.reg Reg.FWL_VIOL_COUNT = s.reg Reg.FWL_VIOL_COUNT + 1 ∧ t.busData = 0 ∧
      OnlyEvents [.busData, .busHi, .busErr] violRegs [0x03] s t) ∧
  (∀ (mid : Mid) (a size v : Nat) (op : BusOp) (s : State), 2 ^ 40 < a + size →
    exec (.registerWrite mid a ⟨size, op⟩ v) s = .fault .addressSpace) ∧
  -- SNAP holds the page's copies, of one instant, for the master that wrote it
  (∀ (mid : Mid) (page : Nat) (s : State), Passes s mid (page * 0x1000 + 0x020) true → page ≠ 6 → page ≠ 7 → (page = 3 → mid = .own .safety) →
    ∃ t, exec (.snap mid page) s = .next t ∧ (∀ a ∈ snapRegs page, t.held? mid a = s.live mid.code a) ∧
      (∀ (m : Mid) (a : Nat), m.code ≠ mid.code → a < 0x40000 → t.held? m a = s.held? m a) ∧ Only [.snaps] [] s t) ∧
  (∀ (mid : Mid) (s : State), exec (.snap mid 6) s = exec (.timSnap mid) s ∧ exec (.snap mid 7) s = exec (.gauSnap mid) s) ∧
  (∀ (mid : Mid) (s : State), Passes s mid 0x3020 true → mid ≠ .own .safety →
    ∃ t, exec (.snap mid 3) s = .next t ∧ t.rd (errAddr 3) % 2 ^ 8 = ErrCode.midDeny.code ∧ Only [] [errAddr 3] s t)

/-- A master holds the three words of a time, laid out as SNAP_PT (R46). -/
abbrev HoldsTime (t : State) (mid : Mid) (a x : Nat) : Prop :=
  t.held? mid a = w32 (timeSec x) ∧ t.held? mid (a + 4) = w32 (timeSec x / 2 ^ 32) ∧ t.held? mid (a + 8) = w32 (timeNs x)

/-- TIM_SNAP and GAU_SNAP (R46, R384): the copies are the values of one instant, they are the writer's own, and nothing else changes. The model's choices
it rests on: log entries 88. -/
def Obligations.SnapHoldsOneInstant : Prop :=
  (∀ (mid : Mid) (s : State), Passes s mid 0x6020 true →
    ∃ t, exec (.timSnap mid) s = .next t ∧
      t.held? mid Reg.TIM_SNAP_ODO_LO = s.odoLo ∧ t.held? mid Reg.TIM_SNAP_ODO_HI = s.odoHi ∧
      HoldsTime t mid Reg.TIM_SNAP_PT_SECL s.plant ∧ HoldsTime t mid Reg.TIM_SNAP_CLKD0_SECL (s.clk 0) ∧
      HoldsTime t mid Reg.TIM_SNAP_CLKD1_SECL (s.clk 1) ∧ HoldsTime t mid Reg.TIM_SNAP_CLKD2_SECL (s.clk 2) ∧
      t.held? mid Reg.TIM_SNAP_CYCLE = w32 s.cycle ∧ t.held? mid Reg.TIM_SNAP_ANGLE = w32 s.angle ∧
      (∀ (m : Mid) (a : Nat), m.code ≠ mid.code → a < 0x40000 → t.held? m a = s.held? m a) ∧ Only [.snaps] [] s t) ∧
  (∀ (mid : Mid) (s : State), Passes s mid 0x7020 true →
    ∃ t, exec (.gauSnap mid) s = .next t ∧
      t.held? mid Reg.GAU_SNAP_ANGLE = w32 s.angle ∧ t.held? mid Reg.GAU_SNAP_CYCLE = w32 s.cycle ∧
      t.held? mid Reg.GAU_SNAP_FREQ = w32 s.freqMicroHz ∧ t.held? mid Reg.GAU_CYC_ERA = w32 (s.gau.cyc / 2 ^ 32) ∧
      t.held? mid Reg.GAU_SNAP_ODO_LO = s.odoLo ∧ t.held? mid Reg.GAU_SNAP_ODO_HI = s.odoHi ∧
      (∀ (m : Mid) (a : Nat), m.code ≠ mid.code → a < 0x40000 → t.held? m a = s.held? m a) ∧ Only [.snaps] [] s t)

/-- PPS_IN_EDGE, PPS_MISSING, PPS_OUT_EDGE, PPS_OUT_PULSE_END (R44, R45). PLANT_SEL_WRITE and SLEW_DONE (R25, R26): a move to another instance leaves
plant time where it is; one that is too far is refused with PLANT_FAR and changes nothing else. The model's choices it rests on: log entries 101, 110,
111. -/
def Obligations.PpsAndPlantTime : Prop :=
  (∀ (f : Bool) (s : State), s.bit Reg.TIM_PPS_IN_CFG 0 = true → s.bit Reg.TIM_PPS_IN_CFG 1 = f →
    ∃ t, exec (.ppsInEdge f) s = .next t ∧ t.reg Reg.TIM_PPS_IN_ODO_LO = s.odoLo ∧ t.reg Reg.TIM_PPS_IN_ODO_HI = s.odoHi ∧
      t.reg Reg.TIM_PPS_IN_PT_NS = w32 (timeNs s.plant) ∧ t.reg Reg.TIM_PPS_IN_SEQ = s.reg Reg.TIM_PPS_IN_SEQ + 1 ∧ evt t 6 0 = true ∧
      t.tim = { s.tim with ppsLast := some s.tim.odo } ∧
      OnlyEvents [.tim] [Reg.TIM_PPS_IN_ODO_LO, Reg.TIM_PPS_IN_ODO_HI, Reg.TIM_PPS_IN_PT_NS, Reg.TIM_PPS_IN_SEQ] [6] s t) ∧
  (∀ (f : Bool) (s : State), s.bit Reg.TIM_PPS_IN_CFG 0 = false ∨ s.bit Reg.TIM_PPS_IN_CFG 1 ≠ f → exec (.ppsInEdge f) s = .next s) ∧
  (∀ (s : State) (e : BitVec 64), s.tim.ppsLast = some e → s.bit Reg.TIM_PPS_IN_CFG 0 = true → secT 11 ≤ 10 * s.since e →
    ∃ t, exec .ppsMissing s = .next t ∧ evt t 6 1 = true ∧ t.tim = { s.tim with ppsLast := none } ∧ OnlyEvents [.tim] [] [6] s t) ∧
  (∀ (s : State) (e : BitVec 64), s.tim.ppsLast = some e → (s.bit Reg.TIM_PPS_IN_CFG 0 = false ∨ 10 * s.since e < secT 11) →
    exec .ppsMissing s = .next s) ∧
  (∀ s : State, s.tim.ppsLast = none → exec .ppsMissing s = .next s) ∧
  -- an edge at each whole second that is later than all those given, and at the first one after a step of plant time
  (∀ s : State, s.bit Reg.TIM_PPS_OUT_CFG 0 = true →
    (s.tim.ppsLand.getD (s.ppsSecond - 1) < s.ppsSecond) → (s.tim.ppsLand = none → s.tim.ppsSec.getD (s.ppsSecond - 1) < s.ppsSecond) →
    ∃ t, exec .ppsOutEdge s = .next t ∧ t.tim.ppsPulse = some s.tim.odo ∧ t.tim.ppsLand = none ∧
      t.tim.ppsSec = some (max (s.tim.ppsSec.getD s.ppsSecond) s.ppsSecond) ∧
      t.tim = { s.tim with ppsSec := t.tim.ppsSec, ppsLand := none, ppsPulse := some s.tim.odo } ∧ Only [.tim] [] s t) ∧
  (∀ (s : State) (k : Int), s.bit Reg.TIM_PPS_OUT_CFG 0 = false ∨ (s.tim.ppsLand = some k ∧ s.ppsSecond ≤ k) ∨
    (s.tim.ppsLand = none ∧ s.tim.ppsSec = some k ∧ s.ppsSecond ≤ k) → exec .ppsOutEdge s = .next s) ∧
  (∀ (s : State) (e : BitVec 64), s.tim.ppsPulse = some e → usT (s.rd Reg.TIM_PPS_OUT_WIDTH) ≤ s.since e →
    ∃ t, exec .ppsOutPulseEnd s = .next t ∧ t.tim = { s.tim with ppsPulse := none } ∧ Only [.tim] [] s t) ∧
  (∀ (s : State) (e : BitVec 64), s.tim.ppsPulse = some e → s.since e < usT (s.rd Reg.TIM_PPS_OUT_WIDTH) →
    exec .ppsOutPulseEnd s = .next s) ∧
  (∀ (mid : Mid) (v : Word) (s : State), Passes s mid Reg.TIM_PLANT_CFG true → v.toNat % 4 ≠ 3 → v.toNat % 4 ≠ s.tim.plantSel →
    let r := clkDiff s.plant (s.clk (v.toNat % 4))
    r ≤ s.slewLim → -s.slewLim ≤ r →
    ∃ t, exec (.plantSelWrite mid v) s = .next t ∧ t.plant = s.plant ∧
      t.tim = { s.tim with plantSel := v.toNat % 4, resid := r, slewing := decide (r ≠ 0) || s.tim.slewing } ∧ Only [.tim] [] s t) ∧
  (∀ (mid : Mid) (v : Word) (s : State), Passes s mid Reg.TIM_PLANT_CFG true → v.toNat % 4 ≠ s.tim.plantSel →
    (v.toNat % 4 = 3 ∨ s.slewLim < clkDiff s.plant (s.clk (v.toNat % 4)) ∨ clkDiff s.plant (s.clk (v.toNat % 4)) < -s.slewLim) →
    ∃ t, exec (.plantSelWrite mid v) s = .next t ∧ t.rd (errAddr 6) % 2 ^ 8 = ErrCode.plantFar.code ∧ Only [] [errAddr 6] s t) ∧
  (∀ (mid : Mid) (v : Word) (s : State), Passes s mid Reg.TIM_PLANT_CFG true → v.toNat % 4 ≠ 3 → v.toNat % 4 = s.tim.plantSel →
    exec (.plantSelWrite mid v) s = .next s) ∧
  (∀ s : State, s.tim.slewing = true → s.tim.resid = 0 →
    ∃ t, exec .slewDone s = .next t ∧ evt t 6 2 = true ∧ t.tim = { s.tim with slewing := false } ∧ OnlyEvents [.tim] [] [6] s t) ∧
  (∀ s : State, s.tim.slewing = false ∨ s.tim.resid ≠ 0 → exec .slewDone s = .next s)

/-- What a command that may move the grid position forward may change: the sweep that it passes opens at once (R389). -/
abbrev OnlyGrid (s t : State) : Prop :=
  OnlyPages [.recd, .free, .gau, .link, .swp, .est, .ctl, .pair, .nv, .draws] [0x07, 0x08, 0x09, 0x0A, 0x1B] s t

/-- The sum of the newest four periods once `d` is accepted (R28). -/
def periodSum (s : State) (d : Nat) : Nat := ((d :: s.gau.periods).take 4).foldl (· + ·) 0

/-- LOCK_LOST, HOLDOVER_END, GAU_SLEW_DONE (R32, R33, R30): how the GAU leaves its sources, and when it does not yet. PHREF_EDGE (R28 to R31, R34 to R37,
R389): an edge that is not selected, one that begins a sequence, one that is rejected, one accepted without a lock, the one that locks, and one
accepted under lock. NOMINAL_CROSSING, CYC_BIAS_AT_WRITE, BIAS_CHANGE, GAU_CFG_WRITE (R28, R33, R37, R388). The model's choices it rests on: log
entries 34, 91, 110, 112. -/
def Obligations.GridTimelineFollowsItsSources : Prop :=
  (∀ (s : State) (e : BitVec 64), s.gau.lastEdge = some e → s.gau.locked = true → 3 * s.gau.tracked ≤ 8 * s.since e →
    ∃ t, exec .lockLost s = .next t ∧ evt t 7 1 = true ∧
      t.gau = { s.gau with locked := false, src := .holdover, holdFrom := e, periods := [] } ∧ OnlyEvents [.gau] [] [7] s t) ∧
  (∀ (s : State) (e : BitVec 64), s.gau.lastEdge = some e → (s.gau.locked = false ∨ 8 * s.since e < 3 * s.gau.tracked) →
    exec .lockLost s = .next s) ∧
  (∀ s : State, s.gau.lastEdge = none → exec .lockLost s = .next s) ∧
  -- the end of holdover enters the nominal timeline: whole cycles at once, the rest within half a cycle to be slewed out
  (∀ s : State, s.gau.src = .holdover → msT (s.rd Reg.GAU_HOLDOVER) ≤ s.since s.gau.holdFrom →
    ∃ t, exec .holdoverEnd s = .next t ∧ evt t 7 2 = true ∧ t.gau.src = .nominal ∧ t.gau.locked = false ∧
      t.gau.cyc = cycWrap (s.gau.cyc + roundCycles (posDiff (posWrap s.nominalPos) s.gau.pos)) ∧
      -(2 ^ 63) ≤ t.gau.slew ∧ t.gau.slew < 2 ^ 63 ∧ OnlyGrid s t) ∧
  (∀ s : State, s.gau.src ≠ .holdover ∨ s.since s.gau.holdFrom < msT (s.rd Reg.GAU_HOLDOVER) → exec .holdoverEnd s = .next s) ∧
  (∀ s : State, s.gau.slewing = true → s.gau.slew = 0 →
    ∃ t, exec .gauSlewDone s = .next t ∧ t.gau = { s.gau with slewing := false } ∧ Only [.gau] [] s t) ∧
  (∀ s : State, s.gau.slewing = false ∨ s.gau.slew ≠ 0 → exec .gauSlewDone s = .next s) ∧
  (∀ (f : Bool) (s : State), s.bit Reg.GAU_GAU_CFG 1 = false ∨ s.bit Reg.GAU_GAU_CFG 2 ≠ f → exec (.phrefEdge f) s = .next s) ∧
  -- the first edge of a sequence, which a gap above 22.222 ms begins anew while the GAU is not locked
  (∀ (f : Bool) (s : State), s.bit Reg.GAU_GAU_CFG 1 = true → s.bit Reg.GAU_GAU_CFG 2 = f → s.gau.lateSweep = none →
    (s.gau.lastEdge = none ∨ (s.gau.locked = false ∧ 5555500 < s.since (s.gau.lastEdge.getD 0))) →
    ∃ t, exec (.phrefEdge f) s = .next t ∧ t.gau = { s.gau with lastEdge := some s.tim.odo, periods := [] } ∧
      t.reg Reg.GAU_XING_ODO_LO = s.odoLo ∧ t.reg Reg.GAU_XING_ODO_HI = s.odoHi ∧
      Only [.gau] [Reg.GAU_XING_ODO_LO, Reg.GAU_XING_ODO_HI] s t) ∧
  -- an edge outside 45 Hz to 65 Hz, or under lock more than 5 % off the tracked period
  (∀ (f : Bool) (s : State) (e : BitVec 64), s.bit Reg.GAU_GAU_CFG 1 = true → s.bit Reg.GAU_GAU_CFG 2 = f → s.gau.lateSweep = none →
    s.gau.lastEdge = some e →
    (s.since e < 3846250 ∨ (s.gau.locked = true ∧ (5555500 < s.since e ∨ s.nearTracked (s.since e) = false))) →
    ∃ t, exec (.phrefEdge f) s = .next t ∧ evt t 7 8 = true ∧ OnlyEvents [] [] [7] s t) ∧
  -- an accepted edge without a lock: fewer than four periods, or not each within 0.2 % of their mean
  (∀ (f : Bool) (s : State) (e : BitVec 64), s.bit Reg.GAU_GAU_CFG 1 = true → s.bit Reg.GAU_GAU_CFG 2 = f → s.gau.lateSweep = none →
    s.gau.lastEdge = some e → s.gau.locked = false → 3846250 ≤ s.since e → s.since e ≤ 5555500 →
    lockable ((s.since e :: s.gau.periods).take 4) = false →
    ∃ t, exec (.phrefEdge f) s = .next t ∧
      t.gau = { s.gau with lastEdge := some s.tim.odo, periods := (s.since e :: s.gau.periods).take 4 } ∧
      t.reg Reg.GAU_XING_ODO_LO = s.odoLo ∧ t.reg Reg.GAU_XING_ODO_HI = s.odoHi ∧
      Only [.gau] [Reg.GAU_XING_ODO_LO, Reg.GAU_XING_ODO_HI] s t) ∧
  -- the edge that locks: the cycle number is the nominal one
  (∀ (f : Bool) (s : State) (e : BitVec 64), s.bit Reg.GAU_GAU_CFG 1 = true → s.bit Reg.GAU_GAU_CFG 2 = f →
    s.gau.lastEdge = some e → s.gau.locked = false → 3846250 ≤ s.since e → s.since e ≤ 5555500 →
    lockable ((s.since e :: s.gau.periods).take 4) = true →
    ∃ t, exec (.phrefEdge f) s = .next t ∧ t.gau.locked = true ∧ t.gau.src = .phref ∧ t.gau.tracked = periodSum s (s.since e) ∧
      t.gau.cyc = cycWrap (roundCycles (posWrap s.nominalPos)) ∧ t.gau.lastEdge = some s.tim.odo ∧ evt t 7 0 = true ∧
      t.reg Reg.GAU_XING_ODO_LO = s.odoLo ∧ t.reg Reg.GAU_XING_ODO_HI = s.odoHi ∧ OnlyGrid s t) ∧
  -- an edge accepted under lock ends the cycle: the phase error is slewed out, or stepped out where it is above SLEW_TH
  (∀ (f : Bool) (s : State) (e : BitVec 64), s.bit Reg.GAU_GAU_CFG 1 = true → s.bit Reg.GAU_GAU_CFG 2 = f →
    s.gau.lastEdge = some e → s.gau.locked = true → inPeriodWindow (s.since e) = true → s.nearTracked (s.since e) = true →
    let n := cycWrap (s.gau.cyc + 1)
    let err := posDiff s.gau.pos (n * oneCycle)
    let off := posDiff (posWrap s.nominalPos) (n * oneCycle) / 2 ^ 48
    ∃ t, exec (.phrefEdge f) s = .next t ∧ t.gau.cyc = n ∧ t.gau.tracked = periodSum s (s.since e) ∧ t.gau.lastEdge = some s.tim.odo ∧
      t.reg Reg.GAU_PHASE_ERR = wInt (err / 2 ^ 32) ∧ t.reg Reg.GAU_CYC_OFFSET = wInt off ∧
      (0x6000 < off ∨ off < -0x6000 → evt t 7 7 = true ∧ t.bit Reg.GAU_GAU_STAT 4 = true) ∧
      (off ≤ 0x6000 → -0x6000 ≤ off → t.bit Reg.GAU_GAU_STAT 4 = false) ∧
      (err ≤ s.rd Reg.GAU_SLEW_TH * 2 ^ 32 → -(s.rd Reg.GAU_SLEW_TH * 2 ^ 32 : Int) ≤ err → s.gau.lateSweep = none →
        t.gau.pos = s.gau.pos ∧ t.gau.slew = -err ∧
        OnlyEvents [.gau] [Reg.GAU_XING_ODO_LO, Reg.GAU_XING_ODO_HI, Reg.GAU_PHASE_ERR, Reg.GAU_CYC_OFFSET, Reg.GAU_GAU_STAT,
          Reg.GAU_SWEEP_NEXT] [7] s t) ∧
      (s.rd Reg.GAU_SLEW_TH * 2 ^ 32 < err ∨ err < -(s.rd Reg.GAU_SLEW_TH * 2 ^ 32 : Int) →
        t.gau.pos = n * oneCycle % posModulus ∧ t.gau.slew = 0 ∧ evt t 7 3 = true) ∧
      OnlyGrid s t) ∧
  (∀ s : State, s.gau.src ≠ .phref → 0 ≤ posDiff s.gau.pos ((s.gau.cyc + 1) * oneCycle) →
    ∃ t, exec .nominalCrossing s = .next t ∧ t.gau.cyc = (s.gau.cyc + 1) % 2 ^ 48 ∧ t.gau.pos = s.gau.pos ∧
      t.gau.xFreq = (if s.usesTracked then s.gau.tracked else 0) ∧ Only [.gau] [Reg.GAU_SWEEP_NEXT] s t) ∧
  (∀ s : State, s.gau.src = .phref ∨ posDiff s.gau.pos ((s.gau.cyc + 1) * oneCycle) < 0 → exec .nominalCrossing s = .next s) ∧
  -- a cycle ahead is armed; the bias itself waits
  (∀ (mid : Mid) (v : Word) (s : State), Passes s mid Reg.GAU_CYC_BIAS_AT true → s.gau.lateSweep = none → 0 < sdiff 32 v.toNat s.cycle →
    ∃ t, exec (.cycBiasAtWrite mid v) s = .next t ∧ t.reg Reg.GAU_CYC_BIAS_AT = v ∧
      t.gau = { s.gau with biasAt := some (cycWrap (s.gau.cyc + sdiff 32 v.toNat s.cycle)) } ∧ Only [.gau] [Reg.GAU_CYC_BIAS_AT] s t) ∧
  -- a cycle not ahead applies the change at once; the position moves only on the nominal timeline
  (∀ (mid : Mid) (v : Word) (s : State), Passes s mid Reg.GAU_CYC_BIAS_AT true → sdiff 32 v.toNat s.cycle ≤ 0 →
    let u := s.setReg Reg.GAU_CYC_BIAS (s.reg Reg.GAU_CYC_BIAS_NEXT)
    ∃ t, exec (.cycBiasAtWrite mid v) s = .next t ∧ t.reg Reg.GAU_CYC_BIAS_AT = v ∧
      t.reg Reg.GAU_CYC_BIAS = s.reg Reg.GAU_CYC_BIAS_NEXT ∧ t.gau.biasAt = none ∧
      (s.gau.src ≠ .nominal → s.gau.lateSweep = none →
        t.gau = { s.gau with biasAt := none } ∧ Only [.gau] [Reg.GAU_CYC_BIAS_AT, Reg.GAU_CYC_BIAS] s t) ∧
      (s.gau.src = .nominal → t.gau.cyc = cycWrap (s.gau.cyc + roundCycles (posDiff (posWrap u.nominalPos) s.gau.pos))) ∧ OnlyGrid s t) ∧
  -- the armed cycle has begun
  (∀ (s : State) (c : Nat), s.gau.biasAt = some c → 0 ≤ sdiff 48 s.gau.cyc c →
    let u := s.setReg Reg.GAU_CYC_BIAS (s.reg Reg.GAU_CYC_BIAS_NEXT)
    ∃ t, exec .biasChange s = .next t ∧ t.reg Reg.GAU_CYC_BIAS = s.reg Reg.GAU_CYC_BIAS_NEXT ∧ t.gau.biasAt = none ∧
      (s.gau.src ≠ .nominal → s.gau.lateSweep = none → t.gau = { s.gau with biasAt := none } ∧ Only [.gau] [Reg.GAU_CYC_BIAS] s t) ∧
      (s.gau.src = .nominal → t.gau.cyc = cycWrap (s.gau.cyc + roundCycles (posDiff (posWrap u.nominalPos) s.gau.pos))) ∧ OnlyGrid s t) ∧
  (∀ (s : State) (c : Nat), s.gau.biasAt = some c → sdiff 48 s.gau.cyc c < 0 → exec .biasChange s = .next s) ∧
  (∀ s : State, s.gau.biasAt = none → exec .biasChange s = .next s) ∧
  -- GAU_CFG: a change of PHREF_EN ends the sequence of edges; clearing it enters the nominal timeline at once
  (∀ (mid : Mid) (v : Word) (s : State), Passes s mid Reg.GAU_GAU_CFG true → s.pageLocked 7 = false →
    ∃ t, exec (.gauCfgWrite mid v) s = .next t ∧ (∀ i, i < 3 → t.bit Reg.GAU_GAU_CFG i = v.toNat.testBit i) ∧
      t.gau.lastEdge = (if s.bit Reg.GAU_GAU_CFG 1 = v.getLsbD 1 then s.gau.lastEdge else none) ∧
      t.gau.periods = (if s.bit Reg.GAU_GAU_CFG 1 = v.getLsbD 1 then s.gau.periods else []) ∧
      t.gau.src = (if v.getLsbD 1 then s.gau.src else .nominal) ∧
      (v.getLsbD 1 = false → s.gau.src ≠ .nominal → t.gau.locked = false ∧ evt t 7 2 = true) ∧
      (v.getLsbD 1 = true → s.gau.src ≠ .nominal → s.gau.lateSweep = none →
        t.gau.pos = s.gau.pos ∧ t.gau.cyc = s.gau.cyc ∧ Only [.gau] [Reg.GAU_GAU_CFG] s t) ∧ OnlyGrid s t) ∧
  (∀ (mid : Mid) (v : Word) (s : State), Passes s mid Reg.GAU_GAU_CFG true → s.pageLocked 7 = true → s.gau.lateSweep = none →
    ∃ t, exec (.gauCfgWrite mid v) s = .next t ∧ t.rd (errAddr 7) % 2 ^ 8 = ErrCode.locked.code ∧ Only [] [errAddr 7] s t)

/-- WM_CREATE, WM_DESTROY, WM_QUERY (R39, R42, R10): an entry takes the lowest free slot with a new generation, and the other entries stay. WM_FIFO_READ,
GPIO_EDGE, GPIO_PULSE_END (R43, R375). The model's choices it rests on: log entries 4, 35, 110, 113. -/
def Obligations.WaymarkEntriesAndFiringLog : Prop :=
  (∀ (mid : Mid) (s : State) (i : Nat), Passes s mid Reg.GAU_WM_CMD true → s.gau.wms.firstFree 256 = some i →
    let target : BitVec 64 := BitVec.ofNat 64 (s.rd Reg.GAU_WM_TGT_CYCLE * 2 ^ 32 + s.rd Reg.GAU_WM_TGT_ANGLE)
    let d := sdiff 64 target.toNat s.gridPos.toNat
    d ≤ 2 ^ 62 → (0 < d ∨ (s.reg Reg.GAU_WM_CTRL).toNat.testBit 24 = true) →
    ∃ t, exec (.wmCreate mid) s = .next t ∧
      t.gau.wms.find? i = some { target := target, ctrl := s.reg Reg.GAU_WM_CTRL &&& wmCtrlMask, late := decide (d ≤ 0) } ∧
      (∀ j, j ≠ i → t.gau.wms.find? j = s.gau.wms.find? j) ∧
      t.gen .waymark i = (if s.gen .waymark i = 0xFF then 1 else s.gen .waymark i + 1) ∧
      t.reg Reg.GAU_WM_HANDLE = t.handleOf .waymark i ∧ Only [.gau, .gens] [Reg.GAU_WM_HANDLE] s t) ∧
  (∀ (mid : Mid) (s : State), Passes s mid Reg.GAU_WM_CMD true → s.gau.wms.firstFree 256 = none →
    ∃ t, exec (.wmCreate mid) s = .next t ∧ t.rd (errAddr 7) % 2 ^ 8 = ErrCode.waymarkFull.code ∧ Only [] [errAddr 7] s t) ∧
  -- a target more than 2^30 cycles ahead, and one not ahead without LATE_OK
  (∀ (mid : Mid) (s : State) (i : Nat), Passes s mid Reg.GAU_WM_CMD true → s.gau.wms.firstFree 256 = some i →
    let target : BitVec 64 := BitVec.ofNat 64 (s.rd Reg.GAU_WM_TGT_CYCLE * 2 ^ 32 + s.rd Reg.GAU_WM_TGT_ANGLE)
    let d := sdiff 64 target.toNat s.gridPos.toNat
    (2 ^ 62 < d ∨ (d ≤ 0 ∧ (s.reg Reg.GAU_WM_CTRL).toNat.testBit 24 = false)) →
    ∃ t, exec (.wmCreate mid) s = .next t ∧
      t.rd (errAddr 7) % 2 ^ 8 = (if 2 ^ 62 < d then ErrCode.waymarkRange else ErrCode.waymarkPast).code ∧ Only [] [errAddr 7] s t) ∧
  -- DESTROY: what fires in this TIME cycle fires first
  (∀ (mid : Mid) (s : State) (i : Nat), Passes s mid Reg.GAU_WM_CMD true →
    let u := s.fireDue 15
    u.wmHandle (u.reg Reg.GAU_WM_HANDLE) = .ok i →
    ∃ t, exec (.wmDestroy mid) s = .next t ∧ t.gau.wms.find? i = none ∧ (∀ j, j ≠ i → t.gau.wms.find? j = u.gau.wms.find? j) ∧
      (∀ h, t.wmHandle h ≠ .ok i) ∧ Only [.gau] [] u t) ∧
  (∀ s : State, s.wmNow = none → s.fireDue 15 = s) ∧
  (∀ (mid : Mid) (s : State) (e : ErrCode), Passes s mid Reg.GAU_WM_CMD true → s.wmNow = none →
    s.wmHandle (s.reg Reg.GAU_WM_HANDLE) = .error e →
    ∃ t, exec (.wmDestroy mid) s = .next t ∧ t.rd (errAddr 7) % 2 ^ 8 = e.code ∧ Only [] [errAddr 7] s t) ∧
  (∀ (mid : Mid) (s : State) (e : ErrCode), Passes s mid Reg.GAU_WM_CMD true → s.wmHandle (s.reg Reg.GAU_WM_HANDLE) = .error e →
    ∃ t, exec (.wmQuery mid) s = .next t ∧ t.rd (errAddr 7) % 2 ^ 8 = e.code ∧ Only [] [errAddr 7] s t) ∧
  (∀ (mid : Mid) (s : State) (i : Nat) (w : Waymark), Passes s mid Reg.GAU_WM_CMD true → s.wmHandle (s.reg Reg.GAU_WM_HANDLE) = .ok i →
    s.gau.wms.find? i = some w →
    ∃ t, exec (.wmQuery mid) s = .next t ∧ t.rd Reg.GAU_WM_TGT_CYCLE = w.target.toNat / 2 ^ 32 ∧
      t.rd Reg.GAU_WM_TGT_ANGLE = w.target.toNat % 2 ^ 32 ∧ t.reg Reg.GAU_WM_CTRL = w.ctrl ∧
      Only [] [Reg.GAU_WM_TGT_CYCLE, Reg.GAU_WM_TGT_ANGLE, Reg.GAU_WM_CTRL] s t) ∧
  (∀ (mid : Mid) (s : State) (f : WmFiring) (r : List WmFiring), Passes s mid Reg.GAU_WM_FIFO false → s.gau.wmFifo = f :: r →
    ∃ t, exec (.wmFifoRead mid) s = .next t ∧ t.busData = f.handle ∧ t.gau = { s.gau with wmFifo := r } ∧
      t.reg Reg.GAU_WM_FIFO_INFO = w32 (b2n f.late + 256 * f.skip) ∧ Only [.gau, .busData] [Reg.GAU_WM_FIFO_INFO] s t) ∧
  (∀ (mid : Mid) (s : State), Passes s mid Reg.GAU_WM_FIFO false → s.gau.wmFifo = [] →
    ∃ t, exec (.wmFifoRead mid) s = .next t ∧ t.busData = 0 ∧ Only [.busData] [] s t) ∧
  -- an edge at an input: the pin's level, the event of an enabled edge, and on the stamped pin a stamp 5 to 12 TIME cycles after it (a free
  -- value in that span)
  (∀ (pin : Fin 8) (r : Bool) (s : State), s.bit Reg.CLK_CLK_GATE_STAT_HI 0 = true → s.bit Reg.GPIO_GPIO_DIR pin.val = false →
    ∃ t, exec (.gpioEdge pin r) s = .next t ∧ t.gpio.pins.testBit pin.val = r ∧ t.gpio.pulses = s.gpio.pulses ∧
      (∀ j, j < 8 → j ≠ pin.val → t.gpio.pins.testBit j = s.gpio.pins.testBit j) ∧
      (s.bit Reg.GPIO_GPIO_EDGE (if r then pin.val else 8 + pin.val) = false → Only [.gpio] [] s t) ∧
      (s.bit Reg.GPIO_GPIO_EDGE (if r then pin.val else 8 + pin.val) = true → evt t 0x20 pin.val = true ∧
        (s.fld Reg.GPIO_GPIO_STAMP_SEL 0 3 ≠ pin.val → OnlyEvents [.gpio] [] [0x20] s t) ∧
        (s.fld Reg.GPIO_GPIO_STAMP_SEL 0 3 = pin.val →
          ∃ k : Nat, 5 ≤ k ∧ k ≤ 12 ∧ t.reg Reg.GPIO_GPIO_STAMP_LO = (s.tim.odo + BitVec.ofNat 64 k).setWidth 32 ∧
            t.reg Reg.GPIO_GPIO_STAMP_HI = ((s.tim.odo + BitVec.ofNat 64 k) >>> 32).setWidth 32)) ∧
      OnlyEvents [.gpio] [Reg.GPIO_GPIO_STAMP_LO, Reg.GPIO_GPIO_STAMP_HI] [0x20] s t) ∧
  -- the pin of an output is not sampled as an input, and a stopped clock samples none
  (∀ (pin : Fin 8) (r : Bool) (s : State), s.bit Reg.GPIO_GPIO_DIR pin.val = true ∨ s.bit Reg.CLK_CLK_GATE_STAT_HI 0 = false →
    exec (.gpioEdge pin r) s = .next s) ∧
  (∀ (pin : Fin 8) (s : State) (e : BitVec 64) (l : Bool), s.gpio.pulses.find? pin.val = some (e, l) →
    usT (s.fld Reg.GAU_WM_GPIO 16 16) ≤ s.since e →
    ∃ t, exec (.gpioPulseEnd pin) s = .next t ∧ t.gpio.pulses.find? pin.val = none ∧
      (∀ j, j ≠ pin.val → t.gpio.pulses.find? j = s.gpio.pulses.find? j) ∧ t.gpio.pins = s.gpio.pins ∧ Only [.gpio] [] s t) ∧
  (∀ (pin : Fin 8) (s : State) (e : BitVec 64) (l : Bool), s.gpio.pulses.find? pin.val = some (e, l) →
    s.since e < usT (s.fld Reg.GAU_WM_GPIO 16 16) → exec (.gpioPulseEnd pin) s = .next s) ∧
  (∀ (pin : Fin 8) (s : State), s.gpio.pulses.find? pin.val = none → exec (.gpioPulseEnd pin) s = .next s)

/-- REC_INTAKE, REC_POST, REC_WRITE (R18, R314, R315, R317 to R323): an event is stamped and takes the next SEQ, or is suppressed by its toll; a post
needs the master's range; a waiting record goes to the log. TOLL_REFILL, TOLL_PARAM_WRITE (R320, R321): tokens come back one per REFILL, a full bucket
stays as it is, and a write of TOLL_PARAM fills the bucket. The model's choices it rests on: log entries 47, 126. -/
def Obligations.RecorderTakesEventsThroughTolls : Prop :=
  -- a milestone or an event of severity 3 has no bucket
  (∀ (s : State) (a : Arrival) (r : List Arrival), s.recd.arriving = a :: r → s.recd.scanning = false → s.recd.frozen = none →
    (s.recd.queue.filter fun r => !r.fromBlotter).length < 256 → tollFree a.kind a.code a.sev = true →
    ∃ t x, exec .recIntake s = .next t ∧ t.recd.queue = s.recd.queue ++ [x] ∧ t.recd.arriving = r ∧
      t.recd.nextSeq = (s.recd.nextSeq + 1) % 2 ^ 32 ∧ x.seq = s.recd.nextSeq ∧ x.code = a.code ∧ x.sev = a.sev ∧ x.mid = a.mid ∧
      x.odo = s.tim.odo ∧ x.data = a.data ∧ x.ptInvalid = !s.tim.ptSet ∧ x.epoch = s.rd Reg.REC_CLEAR_EPOCH ∧
      t.recd.tolls = s.recd.tolls ∧ Only [.recd] [] s t) ∧
  -- an event that has a token takes it
  (∀ (s : State) (a : Arrival) (r : List Arrival), s.recd.arriving = a :: r → s.recd.scanning = false → s.recd.frozen = none →
    (s.recd.queue.filter fun r => !r.fromBlotter).length < 256 → tollFree a.kind a.code a.sev = false →
    (s.toll a.code).pending = 0 → 0 < (s.toll a.code).tokens →
    ∃ t x, exec .recIntake s = .next t ∧ t.recd.queue = s.recd.queue ++ [x] ∧ t.recd.arriving = r ∧ x.seq = s.recd.nextSeq ∧
      x.code = a.code ∧ x.sev = a.sev ∧ x.mid = a.mid ∧ x.odo = s.tim.odo ∧ x.data = a.data ∧ x.suppressed = 0 ∧
      (t.toll a.code).tokens = (s.refilled (s.toll a.code)).tokens - 1 ∧ (∀ c, c ≠ a.code → t.toll c = s.toll c) ∧ Only [.recd] [] s t) ∧
  -- while the log is frozen the record takes its SEQ and waits in the blotter; during the scan it waits there without one
  (∀ (s : State) (a : Arrival) (r : List Arrival), s.recd.arriving = a :: r → (s.recd.scanning = true ∨ s.recd.frozen.isSome = true) →
    s.recd.blotter.length < 1024 → tollFree a.kind a.code a.sev = true → (a.kind == 0 && codeMilestone a.code) = false →
    ∃ t x, exec .recIntake s = .next t ∧ t.recd.blotter = s.recd.blotter ++ [x] ∧ t.recd.queue = s.recd.queue ∧ t.recd.arriving = r ∧
      x.code = a.code ∧ x.odo = s.tim.odo ∧ x.data = a.data ∧ (s.recd.scanning = false → x.seq = s.recd.nextSeq) ∧
      t.recd.nextSeq = (if s.recd.scanning then s.recd.nextSeq else (s.recd.nextSeq + 1) % 2 ^ 32) ∧ Only [.recd] [] s t) ∧
  (∀ s : State, s.recd.arriving = [] → exec .recIntake s = .next s) ∧
  -- no token left and no refill due: counted, not recorded
  (∀ (s : State) (a : Arrival) (r : List Arrival), s.recd.arriving = a :: r → s.recd.scanning = false → s.recd.frozen = none →
    (s.recd.queue.filter fun r => !r.fromBlotter).length < 256 → tollFree a.kind a.code a.sev = false →
    (s.toll a.code).tokens = 0 → 0 < (s.toll a.code).burst → s.since (s.toll a.code).since < refillT (s.toll a.code).refill →
    ∃ t, exec .recIntake s = .next t ∧ t.recd.queue = s.recd.queue ∧ t.recd.arriving = r ∧ t.recd.nextSeq = s.recd.nextSeq ∧
      (t.toll a.code).pending = satAdd 65535 (s.toll a.code).pending 1 ∧ (t.toll a.code).tokens = 0 ∧
      t.reg Reg.REC_SUPPRESSED = s.reg Reg.REC_SUPPRESSED + 1 ∧ evt t 0x1A 1 = true ∧
      OnlyEvents [] [Reg.REC_SUPPRESSED] [0x1A] s t) ∧
  -- a full intake loses the event
  (∀ (s : State) (a : Arrival) (r : List Arrival), s.recd.arriving = a :: r → s.recd.scanning = false → s.recd.frozen = none →
    256 ≤ (s.recd.queue.filter fun r => !r.fromBlotter).length →
    ∃ t, exec .recIntake s = .next t ∧ t.recd.queue = s.recd.queue ∧ t.recd.gap = true ∧ evt t 0x1A 8 = true ∧
      t.reg Reg.REC_INTAKE_LOST = s.reg Reg.REC_INTAKE_LOST + 1 ∧ OnlyEvents [] [Reg.REC_INTAKE_LOST] [0x1A] s t) ∧
  (∀ (mid : Mid) (v : Word) (s : State), Passes s mid Reg.REC_REC_POST true → postAllowed mid (v.toNat % 2 ^ 12) = true →
    ∃ t x, exec (.recPost mid v) s = .next t ∧ x ∈ t.recd.arriving ∧ x.kind = 2 ∧ x.code = v.toNat % 2 ^ 12 ∧
      x.sev = bitsOf v.toNat 12 4 ∧ x.mid = mid.code ∧ x.odo = s.tim.odo ∧
      x.data = (List.range 6).map (fun i => s.recd.posts.get 0 (mid.code * 8 + i)) ∧
      t.recd.arriving.length = s.recd.arriving.length + 1 ∧ Only [.recd] [] s t) ∧
  (∀ (mid : Mid) (v : Word) (s : State), Passes s mid Reg.REC_REC_POST true → postAllowed mid (v.toNat % 2 ^ 12) = false →
    ∃ t, exec (.recPost mid v) s = .next t ∧ t.rd (errAddr 0x1A) % 2 ^ 8 = ErrCode.codeDeny.code ∧ Only [] [errAddr 0x1A] s t) ∧
  -- the oldest waiting record is written
  (∀ (s : State) (r : LogRec) (q : List LogRec), s.recd.scanning = false → s.recd.queue = r :: q → (∀ x ∈ r :: q, x.milestone = false) →
    ∃ t, exec .recWrite s = .next t ∧ t.recd.queue = q ∧ t.recd.gap = false ∧ t.rd Reg.REC_NEWEST_SEQ = r.seq % 2 ^ 32 ∧
      t.nv.log = ((if s.recd.gap then { r with gap := true } else r) :: s.nv.log).take logSize ∧
      t.nv = { s.nv with log := t.nv.log } ∧ evt t 0x1A 0 = true ∧ OnlyEvents [.nv] [Reg.REC_NEWEST_SEQ] [0x1A] s t) ∧
  -- the milestones that wait go to their own area first, while there is room, and what waits is their log copies
  (∀ (s : State) (r : LogRec) (q : List LogRec), s.recd.scanning = false → s.recd.queue = r :: q → s.recd.gap = false →
    let ms := (r :: q).filter (·.milestone)
    s.nv.milestones.length + ms.length ≤ milestoneSize →
    ∃ t, exec .recWrite s = .next t ∧ t.nv.milestones = ms.reverse ++ s.nv.milestones ∧
      t.recd.queue = q.map (fun x => { x with milestone := false }) ∧
      t.nv.log = ({ r with milestone := false } :: s.nv.log).take logSize ∧ t.rd Reg.REC_NEWEST_SEQ = r.seq % 2 ^ 32 ∧
      t.nv = { s.nv with log := t.nv.log, milestones := t.nv.milestones } ∧ evt t 0x1A 0 = true ∧
      OnlyEvents [.nv] [Reg.REC_NEWEST_SEQ, Reg.REC_MS_COUNT] [0x1A] s t) ∧
  -- a full milestone area is said once, and the milestone stays in the log
  (∀ (s : State) (r : LogRec) (q : List LogRec), s.recd.scanning = false → s.recd.queue = r :: q → r.milestone = true →
    milestoneSize ≤ s.nv.milestones.length →
    ∃ t, exec .recWrite s = .next t ∧ t.nv.milestones = s.nv.milestones ∧ t.recd.queue = q ∧ t.recd.msFullSaid = true ∧
      (s.recd.msFullSaid = false → evt t 0x1A 7 = true) ∧
      t.nv.log = ((if s.recd.gap then { r with gap := true } else r) :: s.nv.log).take logSize ∧
      OnlyEvents [.nv] [Reg.REC_NEWEST_SEQ] [0x1A] s t) ∧
  (∀ s : State, s.recd.scanning = true ∨ s.recd.queue = [] → exec .recWrite s = .next s) ∧
  (∀ (code : Nat) (s : State), (s.toll code).pending = 0 → (s.toll code).tokens < (s.toll code).burst → 0 < (s.toll code).refill →
    ∃ t, exec (.tollRefill code) s = .next t ∧
      (t.toll code).tokens = min (s.toll code).burst ((s.toll code).tokens + s.since (s.toll code).since / refillT (s.toll code).refill) ∧
      (t.toll code).burst = (s.toll code).burst ∧ (t.toll code).refill = (s.toll code).refill ∧ (t.toll code).pending = 0 ∧
      (∀ c, c ≠ code → t.toll c = s.toll c) ∧ t.recd.queue = s.recd.queue ∧ Only [.recd] [] s t) ∧
  -- a bucket that fills with suppressed events pending gives their summary
  (∀ (code : Nat) (s : State), s.recd.scanning = false → s.recd.frozen = none → (s.toll code).pending ≠ 0 →
    (s.toll code).tokens < (s.toll code).burst → (s.toll code).burst ≤ (s.refilled (s.toll code)).tokens →
    ∃ t x, exec (.tollRefill code) s = .next t ∧ t.recd.queue = s.recd.queue ++ [x] ∧ x.code = 0x007 ∧ x.sev = 1 ∧ x.mid = 0 ∧
      x.seq = s.recd.nextSeq ∧ x.data = [w32 code, w32 (s.toll code).pending] ∧ (t.toll code).pending = 0 ∧
      (t.toll code).tokens = (s.toll code).burst ∧ (∀ c, c ≠ code → t.toll c = s.toll c) ∧ Only [.recd] [] s t) ∧
  (∀ (mid : Mid) (v : Word) (s : State), Passes s mid Reg.REC_TOLL_PARAM true → s.pageLocked 0x1A = false → v.toNat / 2 ^ 16 = 0 →
    ∃ t, exec (.tollParamWrite mid v) s = .next t ∧ t.rd (errAddr 0x1A) % 2 ^ 8 = ErrCode.range.code ∧ Only [] [errAddr 0x1A] s t) ∧
  (∀ (mid : Mid) (v : Word) (s : State), Passes s mid Reg.REC_TOLL_PARAM true → s.pageLocked 0x1A = false → v.toNat / 2 ^ 16 ≠ 0 →
    (s.toll (s.fld Reg.REC_TOLL_CODE 0 12)).pending = 0 →
    ∃ t, exec (.tollParamWrite mid v) s = .next t ∧
      t.toll (s.fld Reg.REC_TOLL_CODE 0 12) = { tokens := v.toNat % 256, burst := v.toNat % 256, refill := v.toNat / 2 ^ 16, pending := 0, since := 0 } ∧
      (∀ c, c ≠ s.fld Reg.REC_TOLL_CODE 0 12 → t.toll c = s.toll c) ∧ Only [.recd] [] s t) ∧
  (∀ (mid : Mid) (v : Word) (s : State), Passes s mid Reg.REC_TOLL_PARAM true → s.pageLocked 0x1A = true →
    ∃ t, exec (.tollParamWrite mid v) s = .next t ∧ t.rd (errAddr 0x1A) % 2 ^ 8 = ErrCode.locked.code ∧ Only [] [errAddr 0x1A] s t)

/-- FREEZE, REC_THAW, FREEZE_TIMEOUT (R322, R323): a freeze begins with its register and event, a thaw or 10 s end it and empty the blotter. REC_SCAN,
SCAN_DONE, LOG_ERASE, RD_SELECT, CHECKPOINT_DONE, CLEAR (R18, R314, R324, R326, R327, R329 to R331, R361). The model's choices it rests on: log
entries 32, 48, 49, 123, 126, 127. -/
def Obligations.RecorderFreezeScanAndReaders : Prop :=
  (∀ (mid : Mid) (s : State), Passes s mid Reg.REC_REC_FREEZE true → s.recd.scanning = false → s.recd.frozen = none →
    ∃ t, exec (.freeze mid) s = .next t ∧ t.recd.frozen = some s.tim.odo ∧ t.rd Reg.REC_REC_FREEZE = 1 ∧ evt t 0x1A 2 = true ∧
      t.recd.blotter = s.recd.blotter ∧
      ((s.toll 0x005).pending = 0 → 0 < (s.toll 0x005).tokens → t.recd.queue.length = s.recd.queue.length + 1 ∧
        t.recd.queue.getLast?.map (·.code) = some 0x005 ∧ t.recd.queue.getLast?.map (·.data) = some [w32 mid.code]) ∧
      OnlyEvents [] [Reg.REC_REC_FREEZE, Reg.REC_SUPPRESSED] [0x1A] s t) ∧
  (∀ (mid : Mid) (s : State), Passes s mid Reg.REC_REC_FREEZE true → s.recd.scanning = true →
    ∃ t, exec (.freeze mid) s = .next t ∧ t.rd (errAddr 0x1A) % 2 ^ 8 = ErrCode.state.code ∧ Only [] [errAddr 0x1A] s t) ∧
  (∀ (mid : Mid) (s : State), Passes s mid Reg.REC_REC_FREEZE true → s.recd.scanning = false → s.recd.frozen.isSome = true →
    exec (.freeze mid) s = .next s) ∧
  (∀ (mid : Mid) (s : State) (e : BitVec 64), Passes s mid Reg.REC_REC_FREEZE true → s.recd.scanning = false → s.recd.frozen = some e →
    ∃ t q, exec (.recThaw mid) s = .next t ∧ t.recd.frozen = none ∧ t.recd.blotter = [] ∧ t.reg Reg.REC_REC_FREEZE = 0 ∧
      evt t 0x1A 3 = true ∧ t.recd.queue = s.recd.queue ++ s.recd.blotter.map (fun r => { r with fromBlotter := true }) ++ q ∧
      OnlyEvents [] [Reg.REC_REC_FREEZE, Reg.REC_SUPPRESSED] [0x1A] s t) ∧
  (∀ (mid : Mid) (s : State), Passes s mid Reg.REC_REC_FREEZE true → s.recd.frozen = none → exec (.recThaw mid) s = .next s) ∧
  (∀ (s : State) (e : BitVec 64), s.recd.scanning = false → s.recd.frozen = some e → secT 10 ≤ s.since e →
    ∃ t q, exec .freezeTimeout s = .next t ∧ t.recd.frozen = none ∧ t.recd.blotter = [] ∧ t.reg Reg.REC_REC_FREEZE = 0 ∧
      evt t 0x1A 3 = true ∧ t.recd.queue = s.recd.queue ++ s.recd.blotter.map (fun r => { r with fromBlotter := true }) ++ q ∧
      OnlyEvents [] [Reg.REC_REC_FREEZE, Reg.REC_SUPPRESSED] [0x1A] s t) ∧
  (∀ (s : State) (e : BitVec 64), s.recd.frozen = some e → s.since e < secT 10 → exec .freezeTimeout s = .next s) ∧
  (∀ s : State, s.recd.frozen = none → exec .freezeTimeout s = .next s) ∧
  -- the scan takes up the newest record of the log
  (∀ (s : State) (r : LogRec) (l : List LogRec), s.recd.scanning = true → s.nv.log = r :: l →
    ∃ t, exec .recScan s = .next t ∧ t.recd.scanned = true ∧ t.recd.nextSeq = (r.seq + 1) % 2 ^ 32 ∧
      t.recd.freezeLost = (r.code == 0x005) ∧ t.recd.erasing = ((r :: l).any fun x => x.epoch != r.epoch) ∧
      t.rd Reg.REC_BOOT_COUNT = (r.boot + 1) % 2 ^ 16 ∧ t.rd Reg.REC_NEWEST_SEQ = r.seq % 2 ^ 32 ∧
      t.rd Reg.REC_CLEAR_EPOCH = r.epoch % 2 ^ 32 ∧
      Only [.recd] [Reg.REC_CLEAR_EPOCH, Reg.REC_BOOT_COUNT, Reg.REC_NEWEST_SEQ, Reg.REC_MS_COUNT, Reg.REC_CKPT_SEQ, Reg.REC_CKPT_SLOT] s t) ∧
  (∀ s : State, s.recd.scanning = true → s.nv.log = [] →
    ∃ t, exec .recScan s = .next t ∧ t.recd.scanned = true ∧ t.recd.nextSeq = 0 ∧ t.recd.erasing = false ∧ t.rd Reg.REC_BOOT_COUNT = 1 ∧
      t.rd Reg.REC_CLEAR_EPOCH = 0 ∧
      Only [.recd] [Reg.REC_CLEAR_EPOCH, Reg.REC_BOOT_COUNT, Reg.REC_NEWEST_SEQ, Reg.REC_MS_COUNT, Reg.REC_CKPT_SEQ, Reg.REC_CKPT_SLOT] s t) ∧
  (∀ s : State, s.recd.scanning = false → exec .recScan s = .next s) ∧
  -- the end of the scan: BOOT first, then the blotter, each record taking the next SEQ
  (∀ s : State, s.recd.scanning = true → s.recd.scanned = true → s.recd.overflow = none → s.recd.frozen = none →
    (s.toll 0x002).pending = 0 → 0 < (s.toll 0x002).tokens →
    ∃ t, exec .scanDone s = .next t ∧ t.recd.scanning = false ∧ t.recd.blotter = [] ∧ evt t 0x1A 10 = true ∧
      t.recd.queue.head?.map (fun x => (x.code, x.seq)) = some (0x002, s.recd.nextSeq) ∧
      t.recd.queue.tail.map (fun x => (x.code, x.odo, x.seq)) = s.recd.blotter.zipIdx.map (fun (x, i) =>
        (x.code, x.odo, (s.recd.nextSeq + 1 + i) % 2 ^ 32)) ∧
      OnlyEvents [] [] [0x1A] s t) ∧
  (∀ s : State, s.recd.scanning = false ∨ s.recd.scanned = false → exec .scanDone s = .next s) ∧
  -- older epochs are overwritten behind what waits for the write port
  (∀ s : State, s.recd.erasing = true → s.recd.queue = [] → s.recd.ckpt = none →
    ∃ t, exec .logErase s = .next t ∧ t.nv = { s.nv with log := s.nv.log.filter fun r => r.epoch == s.rd Reg.REC_CLEAR_EPOCH } ∧
      t.recd = { s.recd with erasing := false } ∧ Only [.nv, .recd] [] s t) ∧
  (∀ s : State, s.recd.erasing = false ∨ s.recd.queue ≠ [] ∨ s.recd.ckpt.isSome = true → exec .logErase s = .next s) ∧
  -- a record of the present epoch is shown, one of an older epoch is not
  (∀ (mid : Mid) (v : Word) (s : State) (r : LogRec), Passes s mid Reg.REC_RD_KEY true → s.bit Reg.REC_RD_AREA 0 = false →
    s.nv.log.find? (fun r => r.seq == v.toNat) = some r →
    ∃ t, exec (.rdSelect mid v) s = .next t ∧ t.reg Reg.REC_RD_KEY = v ∧
      (if r.epoch = s.rd Reg.REC_CLEAR_EPOCH then t.recd.window = some r ∧ t.rd Reg.REC_RD_STAT = 0
        else t.recd.window = none ∧ t.rd Reg.REC_RD_STAT = 1) ∧ Only [.recd] [Reg.REC_RD_KEY, Reg.REC_RD_STAT] s t) ∧
  -- a SEQ that still waits, or one the log does not hold
  (∀ (mid : Mid) (v : Word) (s : State), Passes s mid Reg.REC_RD_KEY true → s.bit Reg.REC_RD_AREA 0 = false →
    s.nv.log.find? (fun r => r.seq == v.toNat) = none →
    ∃ t, exec (.rdSelect mid v) s = .next t ∧ t.reg Reg.REC_RD_KEY = v ∧ t.recd.window = none ∧
      t.rd Reg.REC_RD_STAT = (if (s.recd.queue ++ s.recd.blotter).any (fun r => r.seq == v.toNat) ∨
        0 < sdiff 32 v.toNat (s.rd Reg.REC_NEWEST_SEQ) then 2 else 1) ∧
      Only [.recd] [Reg.REC_RD_KEY, Reg.REC_RD_STAT] s t) ∧
  (∀ (mid : Mid) (v : Word) (s : State), Passes s mid Reg.REC_RD_KEY true → s.bit Reg.REC_RD_AREA 0 = true →
    ∃ t, exec (.rdSelect mid v) s = .next t ∧ t.reg Reg.REC_RD_KEY = v ∧
      (if v.toNat < s.nv.milestones.length then t.recd.window = s.nv.milestones[s.nv.milestones.length - 1 - v.toNat]? ∧ t.rd Reg.REC_RD_STAT = 0
        else t.recd.window = none ∧ t.rd Reg.REC_RD_STAT = 3) ∧ Only [.recd] [Reg.REC_RD_KEY, Reg.REC_RD_STAT] s t) ∧
  -- the checkpoint completes with its header, behind the records that wait
  (∀ (s : State) (i pub : Nat), s.recd.ckpt = some (i, pub) → s.recd.queue = [] → s.bit Reg.EST_EST_CFG 0 = true →
    ∃ t c, exec .checkpointDone s = .next t ∧ t.nv.ckpts.find? i = some c ∧ ckptValid c = true ∧ c.pubSeq = pub ∧
      c.seq = (s.rd Reg.REC_CKPT_SEQ + 1) % 2 ^ 32 ∧ c.cells.map (fun e => (e.1, e.2.cell)) = s.est.pub ∧
      c.cells.all (fun e => e.2.seq == c.seq && e.2.crc == crc32 (ckptCellBytes e.2)) = true ∧
      (∀ j, j ≠ i → t.nv.ckpts.find? j = s.nv.ckpts.find? j) ∧ t.nv = { s.nv with ckpts := t.nv.ckpts } ∧
      t.recd.ckpt = none ∧ t.rd Reg.REC_CKPT_SEQ = c.seq ∧ t.rd Reg.REC_CKPT_SLOT = i % 2 ^ 32 ∧ evt t 0x1A 9 = true ∧
      OnlyEvents [.nv] [Reg.REC_CKPT_SEQ, Reg.REC_CKPT_SLOT] [0x1A] s t) ∧
  -- with estimation off it is given up
  (∀ s : State, s.recd.ckpt.isSome = true → s.recd.queue = [] → s.bit Reg.EST_EST_CFG 0 = false →
    ∃ t, exec .checkpointDone s = .next t ∧ t.recd = { s.recd with ckpt := none } ∧ Only [.recd] [] s t) ∧
  (∀ s : State, s.recd.ckpt = none ∨ s.recd.queue ≠ [] → exec .checkpointDone s = .next s) ∧
  -- CLEAR: a good token begins a new epoch; a bad one is refused; either way the nonce is used up
  (∀ (mid : Mid) (s : State), Passes s mid Reg.REC_REC_CMD true → s.pair.mode ≠ .operate → s.pair.mode ≠ .formation →
    s.recd.frozen = none → s.recd.scanning = false →
    let token := s.tokenRead (s.rd Reg.REC_REC_TOKEN_ADDR)
    ∃ t, exec (.clear mid) s = .next t ∧ t.recd.nonce = s.draws ∧ t.draws = s.draws + 1 ∧
      (if token.1.tokenOk token.2 1 s.recNonce 5 then
        t.rd Reg.REC_CLEAR_EPOCH = (s.rd Reg.REC_CLEAR_EPOCH + 1) % 2 ^ 16 ∧ t.recd.erasing = true ∧ evt t 0x1A 5 = true ∧
          t.nv.log.head?.map (fun x => (x.code, x.epoch)) = some (0x001, (s.rd Reg.REC_CLEAR_EPOCH + 1) % 2 ^ 16)
      else t.rd (errAddr 0x1A) % 2 ^ 8 = ErrCode.tokenBad.code ∧ evt t 0x1A 6 = true ∧ evt t 0x1E 2 = true ∧ t.nv = s.nv ∧
        t.reg Reg.REC_CLEAR_EPOCH = s.reg Reg.REC_CLEAR_EPOCH) ∧
      OnlyPages [.recd, .free, .draws, .nv, .busData, .busHi, .busErr] [0x03, 0x1A, 0x1E] s t) ∧
  (∀ (mid : Mid) (s : State), Passes s mid Reg.REC_REC_CMD true →
    (s.pair.mode = .operate ∨ s.pair.mode = .formation ∨ s.recd.frozen.isSome = true ∨ s.recd.scanning = true) →
    ∃ t, exec (.clear mid) s = .next t ∧
      t.rd (errAddr 0x1A) % 2 ^ 8 = (if s.pair.mode = .operate ∨ s.pair.mode = .formation then ErrCode.mode else ErrCode.state).code ∧
      evt t 0x1A 6 = true ∧ OnlyEvents [] [errAddr 0x1A] [0x1A] s t)

/-- MBX refuses an operation with an error code, which stands in ERR_CODE of the window's page. -/
abbrev Refuses (s : State) (o : Out) (a : Nat) (e : ErrCode) : Prop :=
  ∃ t, o = .next t ∧ t.rd (errAddr (a / 0x1000)) % 2 ^ 8 = e.code ∧ Only [] [errAddr (a / 0x1000)] s t

/-- A class 3 frame is sent (R261): its content, and its bytes while the Causeway carries frames. -/
abbrev Sends (s t : State) (f : MbxFrame) : Prop :=
  let (type, payload) := mbxPayload f
  t.mbx.sent = f :: s.mbx.sent ∧
    (s.cswUp = true →
      t.pair.cswOut.find? (cswKey 3 type) = some [cswBytes 3 type (s.pair.cswSeq.get 0 (cswKey 3 type) % 2 ^ 16) 0 payload])

/-- A class 3 frame goes out exactly where the far end is the partner's. -/
abbrev SendsIf (far : Bool) (s t : State) (f : MbxFrame) : Prop := if far then Sends s t f else t.mbx.sent = s.mbx.sent

/-- What an operation on a channel may change: MBX, what it adds, and the Causeway where a frame goes out. -/
abbrev OnlyChannel (far : Bool) (parts : List Part) (regs pages : List Nat) (s t : State) : Prop :=
  if far then OnlyEvents (.mbx :: .pair :: parts) (Reg.CSW_TX_FRAMES :: regs) pages s t else OnlyEvents (.mbx :: parts) regs pages s t

/-- An access to a channel window does nothing but count: the master is no end of the channel, or the channel is unbound (R250). -/
abbrev Unbound (s : State) (mid : Mid) (a : Nat) (write : Bool) (o : Out) : Prop :=
  Passes s mid a write →
    ∃ t, o = .next t ∧ t.busData = (if write then s.busData else 0) ∧ t.rd (errAddr (a / 0x1000)) % 2 ^ 8 = ErrCode.mbxUnbound.code ∧
      evt t 4 0 = true ∧ t.reg Reg.MBX_UNBOUND_CNT = s.reg Reg.MBX_UNBOUND_CNT + 1 ∧
      OnlyEvents [.busData] [errAddr (a / 0x1000), Reg.MBX_UNBOUND_CNT] [4] s t

/-- MSG_WRITE, POST, TAKE, MBX_WITHDRAW, RING, BELL_CLEAR (R250 to R256, R261): what an end of a channel does to the slots and doorbells, the frames that
a remote channel sends, and the refusals. MBX_TMO, MUTUAL (R255). The model's choices it rests on: log entries 95, 127. -/
def Obligations.MailboxSlotsAndTimeouts : Prop :=
  (∀ (mid : Mid) (ch : Fin 64) (n : Fin 8) (v : Word) (s : State) (e : Bool), Passes s mid (mbxAddr ch.val (4 * n.val)) true →
    s.endOf ch.val mid.code = some e → (s.mbxEnd ch.val e).full = false →
    ∃ t, exec (.msgWrite mid ch n v) s = .next t ∧
      t.mbxEnd ch.val e = { s.mbxEnd ch.val e with msg := (s.mbxEnd ch.val e).msg.put 0 n.val v } ∧
      t.mbxEnd ch.val (!e) = s.mbxEnd ch.val (!e) ∧ (∀ c, c ≠ ch.val → t.mbxCh c = s.mbxCh c) ∧ Only [.mbx] [] s t) ∧
  (∀ (mid : Mid) (ch : Fin 64) (n : Fin 8) (v : Word) (s : State) (e : Bool), Passes s mid (mbxAddr ch.val (4 * n.val)) true →
    s.endOf ch.val mid.code = some e → (s.mbxEnd ch.val e).full = true →
    Refuses s (exec (.msgWrite mid ch n v) s) (mbxAddr ch.val (4 * n.val)) .mbxBusy) ∧
  -- POST: the words last written, as many as LEN says; a message for the partner crosses the Causeway
  (∀ (mid : Mid) (ch : Fin 64) (v : Word) (s : State) (e : Bool), Passes s mid (mbxAddr ch.val 0x20) true →
    s.endOf ch.val mid.code = some e → v.toNat.testBit 8 = false → (s.mbxEnd ch.val e).full = false → 1 ≤ v.toNat % 16 → v.toNat % 16 ≤ 8 →
    (s.farRemote ch.val e = true → s.mbxPeer = true) →
    ∃ t, exec (.post mid ch v) s = .next t ∧
      t.mbxEnd ch.val e = { s.mbxEnd ch.val e with full := true, len := v.toNat % 16, postAt := s.tim.odo, tmo := false } ∧
      t.mbxEnd ch.val (!e) = s.mbxEnd ch.val (!e) ∧ (∀ c, c ≠ ch.val → t.mbxCh c = s.mbxCh c) ∧
      t.reg Reg.MBX_POSTS = s.reg Reg.MBX_POSTS + 1 ∧
      SendsIf (s.farRemote ch.val e) s t (.post ch.val (v.toNat % 16) mid.code
        ((List.range 8).map fun i => if i < v.toNat % 16 then (s.mbxEnd ch.val e).msg.get 0 i else 0)) ∧
      OnlyChannel (s.farRemote ch.val e) [] [Reg.MBX_POSTS] [] s t) ∧
  (∀ (mid : Mid) (ch : Fin 64) (v : Word) (s : State) (e : Bool), Passes s mid (mbxAddr ch.val 0x20) true →
    s.endOf ch.val mid.code = some e → v.toNat.testBit 8 = false →
    ((s.mbxEnd ch.val e).full = true ∨ v.toNat % 16 = 0 ∨ 8 < v.toNat % 16 ∨ (s.farRemote ch.val e = true ∧ s.mbxPeer = false)) →
    Refuses s (exec (.post mid ch v) s) (mbxAddr ch.val 0x20)
      (if (s.mbxEnd ch.val e).full then .mbxBusy else if v.toNat % 16 = 0 ∨ 8 < v.toNat % 16 then .range else .mbxNoPeer)) ∧
  -- a POST with WITHDRAW is the withdrawal
  (∀ (mid : Mid) (ch : Fin 64) (v : Word) (s : State), v.toNat.testBit 8 = true → exec (.post mid ch v) s = exec (.mbxWithdraw mid ch) s) ∧
  (∀ (mid : Mid) (ch : Fin 64) (s : State) (e : Bool), Passes s mid (mbxAddr ch.val 0x24) false →
    s.endOf ch.val mid.code = some e → (s.mbxEnd ch.val (!e)).full = true →
    ∃ t, exec (.take mid ch) s = .next t ∧
      t.busData = w32 ((s.mbxEnd ch.val (!e)).len + 256 * s.endMid ch.val (!e) + 2 ^ 16) ∧
      t.mbxEnd ch.val (!e) = { s.mbxEnd ch.val (!e) with full := false, outFree := true } ∧ t.mbxEnd ch.val e = s.mbxEnd ch.val e ∧
      (∀ c, c ≠ ch.val → t.mbxCh c = s.mbxCh c) ∧ SendsIf (s.farRemote ch.val e) s t (.taken ch.val mid.code) ∧
      OnlyChannel (s.farRemote ch.val e) [.busData] [] [] s t) ∧
  (∀ (mid : Mid) (ch : Fin 64) (s : State) (e : Bool), Passes s mid (mbxAddr ch.val 0x24) false →
    s.endOf ch.val mid.code = some e → (s.mbxEnd ch.val (!e)).full = false → exec (.take mid ch) s = .next { s with busData := 0 }) ∧
  -- a withdrawal sets PEER_RESET at the other end, here or, by its frame, at the partner
  (∀ (mid : Mid) (ch : Fin 64) (s : State) (e : Bool), Passes s mid (mbxAddr ch.val 0x20) true →
    s.endOf ch.val mid.code = some e → (s.mbxEnd ch.val e).full = true →
    ∃ t, exec (.mbxWithdraw mid ch) s = .next t ∧ t.mbxEnd ch.val e = { s.mbxEnd ch.val e with full := false } ∧
      (if s.farRemote ch.val e then t.mbxEnd ch.val (!e) = s.mbxEnd ch.val (!e)
        else t.mbxEnd ch.val (!e) = { s.mbxEnd ch.val (!e) with peerReset := true } ∧ evt t 4 4 = true) ∧
      (∀ c, c ≠ ch.val → t.mbxCh c = s.mbxCh c) ∧ SendsIf (s.farRemote ch.val e) s t (.withdraw ch.val mid.code) ∧
      OnlyChannel (s.farRemote ch.val e) [] [] [4] s t) ∧
  (∀ (mid : Mid) (ch : Fin 64) (s : State) (e : Bool), Passes s mid (mbxAddr ch.val 0x20) true →
    s.endOf ch.val mid.code = some e → (s.mbxEnd ch.val e).full = false →
    Refuses s (exec (.mbxWithdraw mid ch) s) (mbxAddr ch.val 0x20) .notFull) ∧
  (∀ (mid : Mid) (ch : Fin 64) (b : Word) (s : State) (e : Bool), Passes s mid (mbxAddr ch.val 0x2c) true →
    s.endOf ch.val mid.code = some e →
    ∃ t, exec (.ring mid ch b) s = .next t ∧
      t.mbxEnd ch.val e = { s.mbxEnd ch.val e with ring := (s.mbxEnd ch.val e).ring ||| b.toNat % 2 ^ 16 } ∧
      t.mbxEnd ch.val (!e) = s.mbxEnd ch.val (!e) ∧ (∀ c, c ≠ ch.val → t.mbxCh c = s.mbxCh c) ∧
      SendsIf (s.farRemote ch.val e) s t (.ring ch.val (b.toNat % 2 ^ 16)) ∧ OnlyChannel (s.farRemote ch.val e) [] [] [] s t) ∧
  (∀ (mid : Mid) (ch : Fin 64) (b : Word) (s : State) (e : Bool), Passes s mid (mbxAddr ch.val 0x30) true →
    s.endOf ch.val mid.code = some e →
    ∃ t, exec (.bellClear mid ch b) s = .next t ∧
      t.mbxEnd ch.val (!e) = { s.mbxEnd ch.val (!e) with ring := (s.mbxEnd ch.val (!e)).ring &&& (2 ^ 16 - 1 - b.toNat % 2 ^ 16) } ∧
      t.mbxEnd ch.val e = s.mbxEnd ch.val e ∧ (∀ c, c ≠ ch.val → t.mbxCh c = s.mbxCh c) ∧
      SendsIf (s.farRemote ch.val e) s t (.bellClr ch.val (b.toNat % 2 ^ 16)) ∧ OnlyChannel (s.farRemote ch.val e) [] [] [] s t) ∧
  -- an access by a master that is no end of the channel, or to an unbound one, does nothing but count
  (∀ (mid : Mid) (ch : Fin 64) (n : Fin 8) (v : Word) (s : State), s.endOf ch.val mid.code = none →
    Unbound s mid (mbxAddr ch.val (4 * n.val)) true (exec (.msgWrite mid ch n v) s) ∧
      Unbound s mid (mbxAddr ch.val 0x20) true (exec (.post mid ch v) s) ∧
      Unbound s mid (mbxAddr ch.val 0x20) true (exec (.mbxWithdraw mid ch) s) ∧
      Unbound s mid (mbxAddr ch.val 0x24) false (exec (.take mid ch) s) ∧
      Unbound s mid (mbxAddr ch.val 0x2c) true (exec (.ring mid ch v) s) ∧
      Unbound s mid (mbxAddr ch.val 0x30) true (exec (.bellClear mid ch v) s)) ∧
  (∀ (ch : Fin 64) (e : Bool) (s : State), s.rd Reg.MBX_MBX_TMO ≠ 0 → (s.mbxEnd ch.val e).full = true → (s.mbxEnd ch.val e).tmo = false →
    usT (s.rd Reg.MBX_MBX_TMO) ≤ s.since (s.mbxEnd ch.val e).postAt →
    ∃ t, exec (.mbxTmo ch e) s = .next t ∧ t.mbxEnd ch.val e = { s.mbxEnd ch.val e with tmo := true } ∧
      t.mbxEnd ch.val (!e) = s.mbxEnd ch.val (!e) ∧ (∀ c, c ≠ ch.val → t.mbxCh c = s.mbxCh c) ∧ evt t 4 1 = true ∧
      OnlyEvents [.mbx] [] [4] s t) ∧
  (∀ (ch : Fin 64) (e : Bool) (s : State), (s.rd Reg.MBX_MBX_TMO = 0 ∨ (s.mbxEnd ch.val e).full = false ∨ (s.mbxEnd ch.val e).tmo = true ∨
    s.since (s.mbxEnd ch.val e).postAt < usT (s.rd Reg.MBX_MBX_TMO)) → exec (.mbxTmo ch e) s = .next s) ∧
  (∀ (ch : Fin 64) (s : State), s.rd Reg.MBX_MBX_TMO ≠ 0 → (s.mbxEnd ch.val false).full = true → (s.mbxEnd ch.val true).full = true →
    ((s.mbxEnd ch.val false).mutual_ = false ∨ (s.mbxEnd ch.val true).mutual_ = false) →
    usT (s.rd Reg.MBX_MBX_TMO) ≤ s.since (s.mbxEnd ch.val false).postAt →
    usT (s.rd Reg.MBX_MBX_TMO) ≤ s.since (s.mbxEnd ch.val true).postAt →
    ∃ t, exec (.mutualWait ch) s = .next t ∧ t.mbxEnd ch.val false = { s.mbxEnd ch.val false with mutual_ := true } ∧
      t.mbxEnd ch.val true = { s.mbxEnd ch.val true with mutual_ := true } ∧ (∀ c, c ≠ ch.val → t.mbxCh c = s.mbxCh c) ∧
      evt t 4 2 = true ∧ OnlyEvents [.mbx] [] [4] s t) ∧
  (∀ (ch : Fin 64) (e : Bool) (s : State), (s.rd Reg.MBX_MBX_TMO = 0 ∨ (s.mbxEnd ch.val e).full = false ∨
    s.since (s.mbxEnd ch.val e).postAt < usT (s.rd Reg.MBX_MBX_TMO)) → exec (.mutualWait ch) s = .next s)

/-- BIND_WRITE (R247, R248, R259): the safety core alone binds, before LOCK; the channel is cleared, and the first binding of a master to the partner
sends its END_RESET. -/
def Obligations.BindingByTheSafetyCore : Prop :=
  (∀ (ch : Fin 64) (v : Word) (s : State), Passes s (.own .safety) (Reg.MBX_BIND ch.val) true → s.pageLocked 5 = false → bindOk v.toNat = true →
    let a := v.toNat % 256
    let b := v.toNat / 256 % 256
    let remote := v.toNat.testBit 16 && (isPartner a || isPartner b)
    let m := if isPartner b then a else b
    ∃ t, exec (.bindWrite (.own .safety) ch v) s = .next t ∧ t.reg (Reg.MBX_BIND ch.val) = v &&& 0x0001FFFF ∧ t.mbxCh ch.val = {} ∧
      (∀ c, c ≠ ch.val → t.mbxCh c = s.mbxCh c) ∧ SendsIf (remote && !announced s ch.val m) s t (.endReset m) ∧
      OnlyChannel (remote && !announced s ch.val m) [] [Reg.MBX_BIND ch.val] [] s t) ∧
  (∀ (mid : Mid) (ch : Fin 64) (v : Word) (s : State), Passes s mid (Reg.MBX_BIND ch.val) true → mid ≠ .own .safety →
    ∃ t, exec (.bindWrite mid ch v) s = .next t ∧ t.rd (errAddr 5) % 2 ^ 8 = ErrCode.midDeny.code ∧ Only [] [errAddr 5] s t) ∧
  (∀ (ch : Fin 64) (v : Word) (s : State), Passes s (.own .safety) (Reg.MBX_BIND ch.val) true → s.pageLocked 5 = true →
    ∃ t, exec (.bindWrite (.own .safety) ch v) s = .next t ∧ t.rd (errAddr 5) % 2 ^ 8 = ErrCode.locked.code ∧ Only [] [errAddr 5] s t) ∧
  (∀ (ch : Fin 64) (v : Word) (s : State), Passes s (.own .safety) (Reg.MBX_BIND ch.val) true → s.pageLocked 5 = false → bindOk v.toNat = false →
    ∃ t, exec (.bindWrite (.own .safety) ch v) s = .next t ∧ t.rd (errAddr 5) % 2 ^ 8 = ErrCode.bindBad.code ∧ Only [] [errAddr 5] s t)

/-- A frame of the Causeway that is not taken (R229): a second copy, one over a lane that is down, and one with a CRC error, which is counted. -/
abbrev NotTaken (s : State) (cls type : Nat) (rx : CswRx) (o : Out) : Prop :=
  s.cswAccepts cls type rx = false →
    if s.cswUp && s.laneUp rx.lane.val && !rx.crcOk then
      ∃ t, o = .next t ∧ Only [.pair] [if rx.lane.val = 0 then Reg.CSW_CRC_ERR0 else Reg.CSW_CRC_ERR1] s t ∧
        t.reg (if rx.lane.val = 0 then Reg.CSW_CRC_ERR0 else Reg.CSW_CRC_ERR1)
          = s.reg (if rx.lane.val = 0 then Reg.CSW_CRC_ERR0 else Reg.CSW_CRC_ERR1) + 1
    else o = .next s

/-- A frame of the Causeway is taken (R229): it is counted, and its SEQ stands as the newest of its class and type. -/
abbrev Taken (s t : State) (cls type : Nat) (rx : CswRx) : Prop :=
  t.reg Reg.CSW_RX_FRAMES = s.reg Reg.CSW_RX_FRAMES + 1 ∧ t.pair.cswRx.find? (cswKey cls type) = some rx.seq

/-- POST_RX, TAKEN_RX, WITHDRAW_RX, RING_RX, BELL_CLR_RX, REFUSE_RX, END_RESET_RX (R229, R258 to R261): what the partner's frames do. The model's choices
it rests on: log entries 95, 120. -/
def Obligations.MailboxFramesFromThePartner : Prop :=
  (∀ (ch : Fin 64) (len : Nat) (m : LocalMid) (w : List Word) (rx : CswRx) (s : State) (e : Bool), s.cswAccepts 3 0 rx = true →
    s.nearEnd ch.val m.code = some e → (s.mbxEnd ch.val (!e)).full = false →
    ∃ t, exec (.postRx ch len m ⟨w, rx⟩) s = .next t ∧ Taken s t 3 0 rx ∧
      (t.mbxEnd ch.val (!e)).full = true ∧ (t.mbxEnd ch.val (!e)).len = len ∧ (t.mbxEnd ch.val (!e)).postAt = s.tim.odo ∧
      (∀ i, i < 8 → (t.mbxEnd ch.val (!e)).msg.get 0 i = if i < len then w.getD i 0 else 0) ∧
      t.mbxEnd ch.val e = s.mbxEnd ch.val e ∧ (∀ c, c ≠ ch.val → t.mbxCh c = s.mbxCh c) ∧ t.mbx.sent = s.mbx.sent ∧
      Only [.mbx, .pair] [Reg.CSW_RX_FRAMES] s t) ∧
  -- an unbound or a full slot answers REFUSE
  (∀ (ch : Fin 64) (len : Nat) (m : LocalMid) (w : List Word) (rx : CswRx) (s : State), s.cswAccepts 3 0 rx = true →
    (∀ e, s.nearEnd ch.val m.code = some e → (s.mbxEnd ch.val (!e)).full = true) →
    ∃ t, exec (.postRx ch len m ⟨w, rx⟩) s = .next t ∧ Taken s t 3 0 rx ∧
      Sends s t (.refuse ch.val (if s.nearEnd ch.val m.code = none then 1 else 2)) ∧ (∀ c, t.mbxCh c = s.mbxCh c) ∧ evt t 4 0 = true ∧
      OnlyEvents [.mbx, .pair] [Reg.CSW_RX_FRAMES, Reg.CSW_TX_FRAMES] [4] s t) ∧
  (∀ (ch : Fin 64) (m : LocalMid) (rx : CswRx) (s : State) (e : Bool), s.cswAccepts 3 1 rx = true → s.nearEnd ch.val m.code = some e →
    (s.mbxEnd ch.val e).full = true →
    ∃ t, exec (.takenRx ch ⟨m, rx⟩) s = .next t ∧ Taken s t 3 1 rx ∧
      t.mbxEnd ch.val e = { s.mbxEnd ch.val e with full := false, outFree := true } ∧
      t.mbxEnd ch.val (!e) = s.mbxEnd ch.val (!e) ∧ (∀ c, c ≠ ch.val → t.mbxCh c = s.mbxCh c) ∧
      Only [.mbx, .pair] [Reg.CSW_RX_FRAMES] s t) ∧
  (∀ (ch : Fin 64) (m : LocalMid) (rx : CswRx) (s : State) (e : Bool), s.cswAccepts 3 2 rx = true → s.nearEnd ch.val m.code = some e →
    (s.mbxEnd ch.val (!e)).full = true →
    ∃ t, exec (.withdrawRx ch ⟨m, rx⟩) s = .next t ∧ Taken s t 3 2 rx ∧
      t.mbxEnd ch.val (!e) = { s.mbxEnd ch.val (!e) with full := false } ∧
      t.mbxEnd ch.val e = { s.mbxEnd ch.val e with peerReset := true } ∧ (∀ c, c ≠ ch.val → t.mbxCh c = s.mbxCh c) ∧ evt t 4 4 = true ∧
      OnlyEvents [.mbx, .pair] [Reg.CSW_RX_FRAMES] [4] s t) ∧
  (∀ (ch : Fin 64) (b : Nat) (rx : CswRx) (s : State) (e : Bool), s.cswAccepts 3 3 rx = true → s.localEnd ch.val = some e →
    ∃ t, exec (.ringRx ch ⟨b, rx⟩) s = .next t ∧ Taken s t 3 3 rx ∧
      t.mbxEnd ch.val (!e) = { s.mbxEnd ch.val (!e) with ring := (s.mbxEnd ch.val (!e)).ring ||| b % 2 ^ 16 } ∧
      t.mbxEnd ch.val e = s.mbxEnd ch.val e ∧ (∀ c, c ≠ ch.val → t.mbxCh c = s.mbxCh c) ∧ Only [.mbx, .pair] [Reg.CSW_RX_FRAMES] s t) ∧
  (∀ (ch : Fin 64) (b : Nat) (rx : CswRx) (s : State) (e : Bool), s.cswAccepts 3 4 rx = true → s.localEnd ch.val = some e →
    ∃ t, exec (.bellClrRx ch ⟨b, rx⟩) s = .next t ∧ Taken s t 3 4 rx ∧
      t.mbxEnd ch.val e = { s.mbxEnd ch.val e with ring := (s.mbxEnd ch.val e).ring &&& (2 ^ 16 - 1 - b % 2 ^ 16) } ∧
      t.mbxEnd ch.val (!e) = s.mbxEnd ch.val (!e) ∧ (∀ c, c ≠ ch.val → t.mbxCh c = s.mbxCh c) ∧ Only [.mbx, .pair] [Reg.CSW_RX_FRAMES] s t) ∧
  (∀ (ch : Fin 64) (r : Nat) (rx : CswRx) (s : State) (e : Bool), s.cswAccepts 3 5 rx = true → s.localEnd ch.val = some e →
    (s.mbxEnd ch.val e).full = true →
    ∃ t, exec (.refuseRx ch ⟨r, rx⟩) s = .next t ∧ Taken s t 3 5 rx ∧
      t.mbxEnd ch.val e = { s.mbxEnd ch.val e with full := false, aborted := true } ∧
      t.mbxEnd ch.val (!e) = s.mbxEnd ch.val (!e) ∧ (∀ c, c ≠ ch.val → t.mbxCh c = s.mbxCh c) ∧ evt t 4 3 = true ∧
      OnlyEvents [.mbx, .pair] [Reg.CSW_RX_FRAMES] [4] s t) ∧
  -- END_RESET: both slots of the end's channels are empty, the local sender sees ABORTED and PEER_RESET, and other channels keep theirs
  (∀ (who : LocalMid) (rx : CswRx) (s : State), s.cswAccepts 3 6 rx = true →
    ∃ t, exec (.endResetRx ⟨who, rx⟩) s = .next t ∧ Taken s t 3 6 rx ∧
      (∀ ch e, ch < 64 → s.bound ch = true → s.endMid ch e = 0x40 + who.code → isPartner (s.endMid ch (!e)) = false →
        (t.mbxEnd ch false).full = false ∧ (t.mbxEnd ch true).full = false ∧ (t.mbxEnd ch e).ring = 0 ∧ (t.mbxEnd ch (!e)).ring = 0 ∧
          ((s.mbxEnd ch (!e)).full = true → (t.mbxEnd ch (!e)).aborted = true) ∧
          ((s.mbxEnd ch e).full = true ∨ (s.mbxEnd ch e).ring ≠ 0 → (t.mbxEnd ch (!e)).peerReset = true)) ∧
      (∀ ch, s.bound ch = false ∨ (s.endMid ch false ≠ 0x40 + who.code ∧ s.endMid ch true ≠ 0x40 + who.code) → t.mbxCh ch = s.mbxCh ch) ∧
      OnlyEvents [.mbx, .pair] [Reg.MBX_ABORTS, Reg.CSW_RX_FRAMES] [4] s t) ∧
  -- what no lane that is up brings whole, and a second copy, does nothing
  (∀ (ch : Fin 64) (k : Nat) (m : LocalMid) (w : List Word) (rx : CswRx) (s : State), NotTaken s 3 0 rx (exec (.postRx ch k m ⟨w, rx⟩) s) ∧
    NotTaken s 3 1 rx (exec (.takenRx ch ⟨m, rx⟩) s) ∧ NotTaken s 3 2 rx (exec (.withdrawRx ch ⟨m, rx⟩) s) ∧
    NotTaken s 3 3 rx (exec (.ringRx ch ⟨k, rx⟩) s) ∧ NotTaken s 3 4 rx (exec (.bellClrRx ch ⟨k, rx⟩) s) ∧
    NotTaken s 3 5 rx (exec (.refuseRx ch ⟨k, rx⟩) s) ∧ NotTaken s 3 6 rx (exec (.endResetRx ⟨m, rx⟩) s))

/-- THAW, VIOL_CLR, BLK_LOCK, EVT_FORCE, ERR_CODE_READ (R249, R264, R266, R267, R380, R381). The model's choices it rests on: log entries 50, 51, 109,
127. -/
def Obligations.FirewallCommandsAndHeaders : Prop :=
  -- THAW: the column's master goes on, its outstanding access with a bus error; a DMA channel stays stopped
  (∀ (v : Word) (s : State), Passes s (.own .safety) Reg.FWL_FWL_CMD true → v.toNat = 2 ^ 8 + v.toNat % 32 →
    s.bit Reg.FWL_FROZEN (v.toNat % 32) = true →
    let k := v.toNat % 32
    ∃ t, exec (.thaw (.own .safety) v) s = .next t ∧ t.bit Reg.FWL_FROZEN k = false ∧
      (∀ j, j ≠ k → t.bit Reg.FWL_FROZEN j = s.bit Reg.FWL_FROZEN j) ∧ evt t 3 1 = true ∧ t.busErr = columnMid k ∧
      (∀ j, j < 16 → t.dmaErr.testBit j = (s.dmaErr.testBit j || decide (8 + j = k))) ∧
      OnlyEvents [.busErr, .dmaErr] [Reg.FWL_FROZEN] [3] s t) ∧
  (∀ (v : Word) (s : State), Passes s (.own .safety) Reg.FWL_FWL_CMD true →
    (v.toNat ≠ 2 ^ 8 + v.toNat % 32 ∨ s.bit Reg.FWL_FROZEN (v.toNat % 32) = false) →
    ∃ t, exec (.thaw (.own .safety) v) s = .next t ∧
      t.rd (errAddr 3) % 2 ^ 8 = (if v.toNat = 2 ^ 8 + v.toNat % 32 then ErrCode.state else ErrCode.cmdBad).code ∧ Only [] [errAddr 3] s t) ∧
  (∀ (v : Word) (s : State), Passes s (.own .safety) Reg.FWL_VIOL_CLR true →
    ∃ t, exec (.violClr (.own .safety) v) s = .next t ∧ t.bit Reg.FWL_FWL_STAT 1 = (s.bit Reg.FWL_FWL_STAT 1 && !v.toNat.testBit 0) ∧
      (∀ k, k ≠ 1 → t.bit Reg.FWL_FWL_STAT k = s.bit Reg.FWL_FWL_STAT k) ∧ Only [] [Reg.FWL_FWL_STAT] s t) ∧
  (∀ (mid : Mid) (v : Word) (s : State), mid ≠ .own .safety →
    (Passes s mid Reg.FWL_FWL_CMD true → ∃ t, exec (.thaw mid v) s = .next t ∧ t.rd (errAddr 3) % 2 ^ 8 = ErrCode.midDeny.code ∧ Only [] [errAddr 3] s t) ∧
    (Passes s mid Reg.FWL_VIOL_CLR true →
      ∃ t, exec (.violClr mid v) s = .next t ∧ t.rd (errAddr 3) % 2 ^ 8 = ErrCode.midDeny.code ∧ Only [] [errAddr 3] s t)) ∧
  -- LOCK of a page whose LOCK does nothing besides
  (∀ (mid : Mid) (page : Nat) (v : Word) (s : State), page < 64 → Passes s mid (page * 0x1000 + 0x00c) true → v.toNat.testBit 0 = true →
    page ≠ 3 → page ≠ 5 → page ≠ 0x14 → (page = 0x13 → mid = .own .safety) →
    ∃ t, exec (.blkLock mid page v) s = .next t ∧ t.pageLocked page = true ∧ Only [] [page * 0x1000 + 0x00c] s t) ∧
  -- LOCK of the firewall and of the bindings: once both are locked, the held cores are released
  (∀ (page : Nat) (v : Word) (s : State), (page = 3 ∨ page = 5) → Passes s (.own .safety) (page * 0x1000 + 0x00c) true →
    v.toNat.testBit 0 = true →
    ∃ t, exec (.blkLock (.own .safety) page v) s = .next t ∧ t.pageLocked page = true ∧
      t.bit Reg.FWL_FWL_STAT 0 = (s.bit Reg.FWL_FWL_STAT 0 || page == 3) ∧
      t.reg Reg.RST_RST_HOLD = (if s.pageLocked (8 - page) then 0 else s.reg Reg.RST_RST_HOLD) ∧
      Only [] [page * 0x1000 + 0x00c, Reg.FWL_FWL_STAT, Reg.RST_RST_HOLD] s t) ∧
  -- LOCK of pages 0x03, 0x05 and 0x13 is the safety core's alone; a 0 does nothing, and page 0x14 has no LOCK
  (∀ (mid : Mid) (page : Nat) (v : Word) (s : State), page ∈ [3, 5, 0x13] → Passes s mid (page * 0x1000 + 0x00c) true →
    v.toNat.testBit 0 = true → mid ≠ .own .safety →
    ∃ t, exec (.blkLock mid page v) s = .next t ∧ t.rd (errAddr page) % 2 ^ 8 = ErrCode.midDeny.code ∧ Only [] [errAddr page] s t) ∧
  (∀ (mid : Mid) (page : Nat) (v : Word) (s : State), page < 64 → Passes s mid (page * 0x1000 + 0x00c) true →
    (v.toNat.testBit 0 = false ∨ page = 0x14) → exec (.blkLock mid page v) s = .next s) ∧
  -- EVT_FORCE
  (∀ (mid : Mid) (page : Nat) (v : Word) (s : State), page < 64 → Passes s mid (page * 0x1000 + 0x018) true →
    (page ∈ [3, 0x13, 0x14] → mid = .own .safety) →
    ∃ t, exec (.evtForce mid page v) s = .next t ∧
      (∀ b, b < 32 → evt t page b = (evt s page b || (v &&& evtMask page).toNat.testBit b)) ∧ OnlyEvents [] [] [page] s t) ∧
  (∀ (mid : Mid) (page : Nat) (v : Word) (s : State), page ∈ [3, 0x13, 0x14] → Passes s mid (page * 0x1000 + 0x018) true →
    mid ≠ .own .safety →
    ∃ t, exec (.evtForce mid page v) s = .next t ∧ t.rd (errAddr page) % 2 ^ 8 = ErrCode.midDeny.code ∧ Only [] [errAddr page] s t) ∧
  (∀ (mid : Mid) (page : Nat) (s : State), page < 64 → Passes s mid (errAddr page) false →
    ∃ t, exec (.errCodeRead mid page) s = .next t ∧ t.busData = s.reg (errAddr page) ∧ t.reg (errAddr page) = 0 ∧
      Only [.busData] [errAddr page] s t)

/-- What a command on one controller may change: that controller, its registers and its events. -/
abbrev OnlyCan (l : Nat) (regs : List Nat) (s t : State) : Prop :=
  t.can (1 - l) = s.can (1 - l) ∧ OnlyEvents [.can0, .can1] regs [canPage l] s t

/-- The error counters of a controller, its state by them and the events of a change (R283). -/
abbrev CanCounts (l tec rec : Nat) (s t : State) : Prop :=
  let warn (a b : Nat) : Bool := decide (96 ≤ a ∨ 96 ≤ b)
  let st := if 255 < tec then 3 else if 128 ≤ tec ∨ 128 ≤ rec then 2 else 1
  (t.can l).tec = tec ∧ (t.can l).rec_ = min 255 rec ∧ (t.can l).state = st ∧
    (warn (s.can l).tec (s.can l).rec_ ≠ warn tec rec → evt t (canPage l) 5 = true) ∧
    ((s.can l).state ≠ st → st ≠ 3 → (st = 2 ∨ (s.can l).state = 2) → evt t (canPage l) 6 = true) ∧
    ((s.can l).state ≠ 3 → st = 3 → evt t (canPage l) 7 = true)

/-- An entry has left the transmit FIFO, of which `r` is left: its TX event, or the event dropped (R280). -/
abbrev CanLeft (l : Nat) (e : CanTx) (r : List CanTx) (outcome : Nat) (s t : State) : Prop :=
  (t.can l).txf = r ∧ (t.can l).flying = false ∧ (r = [] → evt t (canPage l) 4 = true) ∧
    (if 32 ≤ (s.can l).txe.length then
      (t.can l).txe = (s.can l).txe ∧ t.reg (Reg.CAN_TXE_OVF l) = s.reg (Reg.CAN_TXE_OVF l) + 1 ∧ evt t (canPage l) 3 = true
    else (t.can l).txe = (s.can l).txe ++ [(w32 (e.tag + 256 * outcome + 2 ^ 16 * min 255 e.attempts), e.stamp, e.w0, e.w1)] ∧
      t.reg (Reg.CAN_TXE_OVF l) = s.reg (Reg.CAN_TXE_OVF l))

/-- A frame with SOF at `sof` is filtered, and enters the receive FIFO, is rejected or is dropped (R273 to R275). -/
abbrev CanPlaced (l : Nat) (sof : BitVec 64) (x : CanRx) (own : Bool) (s t : State) : Prop :=
  let hit := (s.fltOrder l sof).find? fun e => fltMatch e x.w0 x.w1
  let n := if x.w0.getLsbD 30 then 0 else canLen (x.w1.getLsbD 4) (x.w1.toNat % 16)
  let w1 := w32 (x.w1.toNat % 64 + 64 * b2n own + 256 * (hit.elim 0 (·.1)) + 2 ^ 14 * b2n hit.isNone + 2 ^ 16 * n)
  if hit.elim (s.bit (Reg.CAN_CAN_CTRL l) 8) (fun e => bitsOf e.2.1.toNat 30 2 == 1) then
    if 64 ≤ (s.can l).rxf.length then
      (t.can l).rxf = (s.can l).rxf ∧ (t.can l).rxSeq = (s.can l).rxSeq ∧ t.reg (Reg.CAN_RX_OVF l) = s.reg (Reg.CAN_RX_OVF l) + 1 ∧
        evt t (canPage l) 1 = true
    else (t.can l).rxf = (s.can l).rxf ++ [{ x with w1 := w1, seq := (s.can l).rxSeq, data := x.data.take n }] ∧
      (t.can l).rxSeq = ((s.can l).rxSeq + 1) % 2 ^ 16 ∧ t.reg (Reg.CAN_RX_OVF l) = s.reg (Reg.CAN_RX_OVF l) ∧
      (s.fld (Reg.CAN_RXF_WM l) 0 7 ≤ (s.can l).rxf.length + 1 → evt t (canPage l) 0 = true)
  else (t.can l).rxf = (s.can l).rxf ∧ (t.can l).rxSeq = (s.can l).rxSeq ∧ t.reg (Reg.CAN_RX_OVF l) = s.reg (Reg.CAN_RX_OVF l)

/-- CAN refuses a command with an error code. -/
abbrev CanRefuses (l : Nat) (s : State) (o : Out) (e : ErrCode) : Prop :=
  ∃ t, o = .next t ∧ t.rd (errAddr (canPage l)) % 2 ^ 8 = e.code ∧ Only [] [errAddr (canPage l)] s t

/-- CAN_INIT_CLEAR, CAN_INIT_SET, CAN_BUS_IDLE, RECOVER, CAN_RECOVERED (R268, R270, R284). TX_PUSH, CAN_TX_SOF, CAN_TX_ATTEMPT_END, TX_CANCEL,
CAN_ID_CLASH (R272, R276 to R284): the life of a transmit entry. The model's choices it rests on: log entries 4, 54. -/
def Obligations.CanControllersAndTransmission : Prop :=
  (∀ (l : Fin 2) (mid : Mid) (v : Word) (s : State), Passes s mid (Reg.CAN_CAN_CTRL l.val) true → s.canInit l.val = true →
    let x := v &&& 0xFFFFFFFE &&& canCtrlMask
    if s.canCfgOk l.val x.toNat then
      ∃ t, exec (.canInitClear l mid v) s = .next t ∧ t.reg (Reg.CAN_CAN_CTRL l.val) = x ∧
        t.can l.val = { s.can l.val with idleWait := true, state := 0, tec := 0, rec_ := 0 } ∧ t.can (1 - l.val) = s.can (1 - l.val) ∧
        Only [.can0, .can1] [Reg.CAN_CAN_CTRL l.val] s t
    else CanRefuses l.val s (exec (.canInitClear l mid v) s) .range) ∧
  -- while INIT is 0 only INIT may be written
  (∀ (l : Fin 2) (mid : Mid) (v : Word) (s : State), Passes s mid (Reg.CAN_CAN_CTRL l.val) true → s.canInit l.val = false →
    if (v ^^^ s.reg (Reg.CAN_CAN_CTRL l.val)) &&& 0x7FE = 0 then exec (.canInitClear l mid v) s = .next s
    else CanRefuses l.val s (exec (.canInitClear l mid v) s) .state) ∧
  (∀ (l : Fin 2) (mid : Mid) (v : Word) (s : State), Passes s mid (Reg.CAN_CAN_CTRL l.val) true → s.canInit l.val = true →
    ∃ t, exec (.canInitSet l mid v) s = .next t ∧ t.reg (Reg.CAN_CAN_CTRL l.val) = (v ||| 1) &&& canCtrlMask ∧
      Only [] [Reg.CAN_CAN_CTRL l.val] s t) ∧
  -- INIT set in traffic: the controller leaves the bus with its counters at 0
  (∀ (l : Fin 2) (mid : Mid) (v : Word) (s : State), Passes s mid (Reg.CAN_CAN_CTRL l.val) true → s.canInit l.val = false →
    let same := (v ^^^ s.reg (Reg.CAN_CAN_CTRL l.val)) &&& 0x7FE = 0
    ∃ t, exec (.canInitSet l mid v) s = .next t ∧ t.reg (Reg.CAN_CAN_CTRL l.val) = s.reg (Reg.CAN_CAN_CTRL l.val) ||| 1 ∧
      t.can l.val = { s.can l.val with
        state := 0, idleWait := false, recovering := false, tec := 0, rec_ := 0, flying := false, clash := 0, excepted := false } ∧
      t.can (1 - l.val) = s.can (1 - l.val) ∧ (¬ same → t.rd (errAddr (canPage l.val)) % 2 ^ 8 = ErrCode.state.code) ∧
      Only [.can0, .can1] (Reg.CAN_CAN_CTRL l.val :: if same then [] else [errAddr (canPage l.val)]) s t) ∧
  -- 11 recessive bits: the controller enters the traffic, or its protocol exception ends
  (∀ (l : Fin 2) (s : State),
    ∃ t, exec (.canBusIdle l) s = .next t ∧ t.can (1 - l.val) = s.can (1 - l.val) ∧ Only [.can0, .can1] [] s t ∧
      t.can l.val = if (s.can l.val).idleWait = true ∧ s.canInit l.val = false
        then { s.can l.val with idleWait := false, state := 1, tec := 0, rec_ := 0 } else { s.can l.val with excepted := false }) ∧
  (∀ (l : Fin 2) (mid : Mid) (s : State), Passes s mid (Reg.CAN_CAN_CMD l.val) true →
    if (s.can l.val).state = 3 then
      ∃ t, exec (.recover l mid) s = .next t ∧ t.can l.val = { s.can l.val with recovering := true } ∧
        t.can (1 - l.val) = s.can (1 - l.val) ∧ Only [.can0, .can1] [] s t
    else CanRefuses l.val s (exec (.recover l mid) s) .state) ∧
  (∀ (l : Fin 2) (s : State),
    if (s.can l.val).recovering then
      ∃ t, exec (.canRecovered l) s = .next t ∧ t.can l.val = { s.can l.val with recovering := false, state := 1, tec := 0, rec_ := 0 } ∧
        t.reg (Reg.CAN_BUSOFFS l.val) = s.reg (Reg.CAN_BUSOFFS l.val) + 1 ∧ evt t (canPage l.val) 8 = true ∧
        OnlyCan l.val [Reg.CAN_BUSOFFS l.val] s t
    else exec (.canRecovered l) s = .next s) ∧
  (∀ (l : Fin 2) (mid : Mid) (v : Word) (s : State), Passes s mid (Reg.CAN_TX_PUSH l.val) true → v.getLsbD 0 = true →
    let w0 := s.reg (Reg.CAN_TXB l.val 0)
    let w1 := s.reg (Reg.CAN_TXB l.val 1)
    let full := decide (32 ≤ (s.can l.val).txf.length)
    -- a frame form that CAN_CTRL does not permit
    let badFd := w1.getLsbD 4 && (w0.getLsbD 30 || !s.bit (Reg.CAN_CAN_CTRL l.val) 1)
    let badBrs := w1.getLsbD 5 && !(w1.getLsbD 4 && s.bit (Reg.CAN_CAN_CTRL l.val) 2)
    let bad := badFd || badBrs
    if full || bad || s.canInit l.val || (s.can l.val).state == 3 then
      CanRefuses l.val s (exec (.txPush l mid v) s) (if full then .txFull else if bad then .range else .state)
    else
      ∃ t, exec (.txPush l mid v) s = .next t ∧ t.reg (Reg.CAN_TX_TAG l.val) = w32 (s.can l.val).nextTag ∧
        t.can l.val = { s.can l.val with
          nextTag := ((s.can l.val).nextTag + 1) % 256,
          txf := (s.can l.val).txf ++ [{ tag := (s.can l.val).nextTag, w0 := w0 &&& 0x7FFFFFFF, w1 := w1 &&& 0x3F,
                                         data := (List.range 16).map fun i => s.reg (Reg.CAN_TXB l.val (2 + i)) }] } ∧
        t.can (1 - l.val) = s.can (1 - l.val) ∧ Only [.can0, .can1] [Reg.CAN_TX_TAG l.val] s t) ∧
  (∀ (l : Fin 2) (mid : Mid) (v : Word) (s : State), Passes s mid (Reg.CAN_TX_PUSH l.val) true → v.getLsbD 0 = false →
    exec (.txPush l mid v) s = .next s) ∧
  -- the head entry starts; its stamp is the odometer 0 to 10 cycles later (a free value in that span)
  (∀ (l : Fin 2) (s : State) (e : CanTx) (r : List CanTx), (s.can l.val).txf = e :: r → s.canOn l.val = true →
    (s.can l.val).flying = false → s.bit (Reg.CAN_CAN_CTRL l.val) 4 = false →
    ∃ t k, exec (.canTxSof l) s = .next t ∧ k ≤ 10 ∧
      t.can l.val = { s.can l.val with
        txf := { e with stamp := (s.tim.odo + BitVec.ofNat 64 k).setWidth 32 } :: r, flying := true, sofAt := s.tim.odo } ∧
      t.can (1 - l.val) = s.can (1 - l.val) ∧ Only [.can0, .can1, .free] [] s t) ∧
  (∀ (l : Fin 2) (s : State),
    ((s.can l.val).txf = [] ∨ s.canOn l.val = false ∨ (s.can l.val).flying = true ∨ s.bit (Reg.CAN_CAN_CTRL l.val) 4 = true) →
    exec (.canTxSof l) s = .next s) ∧
  -- an attempt ends in success: the entry leaves with its count of attempts; LOOP_RX receives it
  (∀ (l : Fin 2) (how : CanEnd) (ed : List Nat) (s : State) (e : CanTx) (r : List CanTx), (s.can l.val).txf = e :: r →
    (s.can l.val).flying = true → canEndOf (s.bit (Reg.CAN_CAN_CTRL l.val) 6) how = .sent →
    let esi := if (s.can l.val).state = 2 ∧ e.w1.getLsbD 4 = true then (0x80000000 : Word) else 0
    let frame : CanRx := { w0 := (e.w0 &&& 0x7FFFFFFF) ||| esi, w1 := e.w1 &&& 0x3F, stamp := e.stamp, seq := 0,
                           data := (e.data.map fun w => (List.range 4).map fun i => bitsOf w.toNat (8 * i) 8).flatten }
    ∃ t, exec (.canTxAttemptEnd l how ed) s = .next t ∧
      CanLeft l.val { e with attempts := e.attempts + 1 } r (if e.cancelled then 3 else 1) s t ∧
      CanCounts l.val ((s.can l.val).tec - 1) (s.can l.val).rec_ s t ∧ (t.can l.val).clash = 0 ∧
      t.reg (Reg.CAN_TX_OK l.val) = s.reg (Reg.CAN_TX_OK l.val) + 1 ∧ evt t (canPage l.val) 2 = true ∧
      (if s.bit (Reg.CAN_CAN_CTRL l.val) 7 then CanPlaced l.val (s.can l.val).sofAt frame true s t
        else (t.can l.val).rxf = (s.can l.val).rxf ∧ t.reg (Reg.CAN_RX_OVF l.val) = s.reg (Reg.CAN_RX_OVF l.val)) ∧
      OnlyCan l.val [Reg.CAN_TX_OK l.val, Reg.CAN_TXE_OVF l.val, Reg.CAN_RX_OVF l.val, Reg.CAN_TDCV l.val] s t) ∧
  -- lost arbitration is no attempt; a cancelled entry leaves
  (∀ (l : Fin 2) (ed : List Nat) (s : State) (e : CanTx) (r : List CanTx), (s.can l.val).txf = e :: r → (s.can l.val).flying = true →
    ∃ t, exec (.canTxAttemptEnd l .arbLost ed) s = .next t ∧ t.reg (Reg.CAN_ARB_LOST l.val) = s.reg (Reg.CAN_ARB_LOST l.val) + 1 ∧
      (if e.cancelled then CanLeft l.val e r 2 s t else t.can l.val = { s.can l.val with flying := false, clash := 0 }) ∧
      (t.can l.val).clash = 0 ∧ (t.can l.val).tec = (s.can l.val).tec ∧ (t.can l.val).rec_ = (s.can l.val).rec_ ∧
      (t.can l.val).rxf = (s.can l.val).rxf ∧ OnlyCan l.val [Reg.CAN_ARB_LOST l.val, Reg.CAN_TXE_OVF l.val, Reg.CAN_TDCV l.val] s t) ∧
  -- an error: the counters and PSR; the entry stays for another attempt, or leaves cancelled or after the attempts that TX_RETRY allows
  (∀ (l : Fin 2) (ed : List Nat) (k : CanError) (d f : Bool) (n : Nat) (s : State) (e : CanTx) (r : List CanTx),
    (s.can l.val).txf = e :: r → (s.can l.val).flying = true → (k = .ack → s.bit (Reg.CAN_CAN_CTRL l.val) 6 = false) →
    let limit := s.fld (Reg.CAN_TX_RETRY l.val) 0 8
    let e' := { e with attempts := e.attempts + 1 }
    let clash := if canErrorBit k && f then (s.can l.val).clash + 1 else 0
    ∃ t, exec (.canTxAttemptEnd l (.error k d f n) ed) s = .next t ∧ CanCounts l.val ((s.can l.val).tec + 8 * n) (s.can l.val).rec_ s t ∧
      t.fld (Reg.CAN_PSR l.val) (if d then 4 else 0) 3 = canErrorCode k ∧ (t.can l.val).clash = clash ∧
      (t.can l.val).clashDue = (if clash ≠ 0 ∧ clash % 3 = 0 then some (e.w0, e.tag) else (s.can l.val).clashDue) ∧
      (if e.cancelled then CanLeft l.val e' r 2 s t
        else if limit ≠ 0 ∧ limit ≤ e'.attempts then CanLeft l.val e' r 4 s t
        else (t.can l.val).txf = e' :: r ∧ (t.can l.val).flying = false ∧ (t.can l.val).txe = (s.can l.val).txe) ∧
      OnlyCan l.val [Reg.CAN_PSR l.val, Reg.CAN_TXE_OVF l.val, Reg.CAN_TDCV l.val] s t) ∧
  -- the transmitter delay of an FD frame with BRS, however its attempt ends
  (∀ (l : Fin 2) (how : CanEnd) (ed : List Nat) (s : State) (e : CanTx) (r : List CanTx), (s.can l.val).txf = e :: r →
    (s.can l.val).flying = true →
    let measured := s.bit (Reg.CAN_CAN_CTRL l.val) 10 && e.w1.getLsbD 4 && e.w1.getLsbD 5
    let x := if measured then ed.find? (fun x => decide (s.fld (Reg.CAN_TDC l.val) 8 7 ≤ x)) else none
    ∃ t, exec (.canTxAttemptEnd l how ed) s = .next t ∧
      t.reg (Reg.CAN_TDCV l.val) = (if x.isSome then w32 (min 127 (x.getD 0)) else s.reg (Reg.CAN_TDCV l.val)) ∧
      (x.isSome = true → 127 < x.getD 0 + s.fld (Reg.CAN_TDC l.val) 0 7 → evt t (canPage l.val) 11 = true)) ∧
  (∀ (l : Fin 2) (how : CanEnd) (ed : List Nat) (s : State), ((s.can l.val).txf = [] ∨ (s.can l.val).flying = false) →
    exec (.canTxAttemptEnd l how ed) s = .next s) ∧
  -- a cancel: not found, in flight, or removed at once
  (∀ (l : Fin 2) (mid : Mid) (v : Word) (s : State), Passes s mid (Reg.CAN_TX_CANCEL l.val) true →
    (s.can l.val).txf.find? (fun e => e.tag == v.toNat % 256) = none →
    ∃ t, exec (.txCancel l mid v) s = .next t ∧ t.reg (Reg.CAN_CXL_STAT l.val) = w32 (3 + 256 * (v.toNat % 256)) ∧
      Only [] [Reg.CAN_CXL_STAT l.val] s t) ∧
  (∀ (l : Fin 2) (mid : Mid) (v : Word) (s : State) (e h : CanTx) (r : List CanTx), Passes s mid (Reg.CAN_TX_CANCEL l.val) true →
    (s.can l.val).txf.find? (fun e => e.tag == v.toNat % 256) = some e → (s.can l.val).txf = h :: r →
    let tag := v.toNat % 256
    if (s.can l.val).flying = true ∧ h.tag = tag then
      ∃ t, exec (.txCancel l mid v) s = .next t ∧ t.reg (Reg.CAN_CXL_STAT l.val) = w32 (2 + 256 * tag) ∧
        t.can l.val = { s.can l.val with txf := (h :: r).map fun x => if x.tag == tag then { x with cancelled := true } else x } ∧
        t.can (1 - l.val) = s.can (1 - l.val) ∧ Only [.can0, .can1] [Reg.CAN_CXL_STAT l.val] s t
    else
      ∃ t, exec (.txCancel l mid v) s = .next t ∧ t.reg (Reg.CAN_CXL_STAT l.val) = w32 (1 + 256 * tag) ∧
        (t.can l.val).txf = (h :: r).filter (fun x => x.tag != tag) ∧ ((t.can l.val).txf = [] → evt t (canPage l.val) 4 = true) ∧
        (if 32 ≤ (s.can l.val).txe.length then
          (t.can l.val).txe = (s.can l.val).txe ∧ t.reg (Reg.CAN_TXE_OVF l.val) = s.reg (Reg.CAN_TXE_OVF l.val) + 1 ∧
            evt t (canPage l.val) 3 = true
        else (t.can l.val).txe = (s.can l.val).txe ++ [(w32 (e.tag + 256 * 2 + 2 ^ 16 * min 255 e.attempts), e.stamp, e.w0, e.w1)]) ∧
        (t.can l.val).flying = (s.can l.val).flying ∧ OnlyCan l.val [Reg.CAN_CXL_STAT l.val, Reg.CAN_TXE_OVF l.val] s t) ∧
  -- the clash is recorded; with CLASH_ACT the entry leaves, without it stays
  (∀ (l : Fin 2) (s : State) (id : Word) (tag : Nat), (s.can l.val).clashDue = some (id, tag) →
    let leaves := (s.can l.val).txf.head?.elim false fun e => e.tag == tag
    ∃ t, exec (.canIdClash l) s = .next t ∧ (t.can l.val).clashDue = none ∧ t.reg (Reg.CAN_CLASH_ID l.val) = id &&& 0x3FFFFFFF ∧
      t.reg (Reg.CAN_CLASH_CNT l.val) = s.reg (Reg.CAN_CLASH_CNT l.val) + 1 ∧ evt t (canPage l.val) 9 = true ∧
      (t.recd.arriving.any fun a => a.code == 0x021 && a.data == [w32 l.val, id &&& 0x3FFFFFFF, t.reg (Reg.CAN_CLASH_CNT l.val)]) = true ∧
      (if s.bit (Reg.CAN_CAN_CTRL l.val) 9 && leaves then
          CanLeft l.val ((s.can l.val).txf.headD ⟨0, 0, 0, [], 0, 0, false⟩) (s.can l.val).txf.tail 6 s t ∧ (t.can l.val).clash = 0
        else t.can l.val = { s.can l.val with clashDue := none }) ∧
      OnlyCan l.val [Reg.CAN_CLASH_ID l.val, Reg.CAN_CLASH_CNT l.val, Reg.CAN_TXE_OVF l.val] s t) ∧
  (∀ (l : Fin 2) (s : State), (s.can l.val).clashDue = none → exec (.canIdClash l) s = .next s)

/-- Filter set `i` stands as said, and from the next SOF the elements of the enabled sets filter; a frame in reception, with SOF at `sof`, is
filtered as before (R274). -/
abbrev CanFilters (l i : Nat) (x : Option FilterSet) (sof : BitVec 64) (s t : State) : Prop :=
  t.filters.find? i = x ∧ (∀ j, j ≠ i → t.filters.find? j = s.filters.find? j) ∧
    t.can l = { s.can l with fltHist := (t.can l).fltHist } ∧ t.can (1 - l) = s.can (1 - l) ∧
    t.fltOrder l t.tim.odo = t.fltNow l ∧ (sof ≠ s.tim.odo → s.since sof ≤ msT 10 → t.fltOrder l sof = s.fltOrder l sof) ∧
    Only [.filters, .can0, .can1] [] s t

/-- CAN_FRAME_RX, CAN_RX_ERROR, RXF_POP, TXE_POP, TX_FLUSH, RXF_FLUSH, TXE_FLUSH (R268, R273 to R276, R280, R283, R284). FS_CREATE, FS_DESTROY, FS_ENABLE,
FS_DISABLE, FS_QUERY, FLT_WRITE (R11, R273, R274). What filters a frame is what was in use at its SOF. The model's choices it rests on: log entries 4,
54, 55, 110. -/
def Obligations.CanReceptionFlushesAndFilters : Prop :=
  -- a frame without error, with its SOF stamp; ISO 11898-1 lowers REC by 1, or sets it to 119 to 127 (a free value in that span)
  (∀ (l : Fin 2) (sof : BitVec 64) (w0 w1 : Word) (d : List Nat) (s : State), s.canOn l.val = true →
    s.bit (Reg.CAN_CAN_CTRL l.val) 5 = false →
    ∃ t k n, exec (.canFrameRx l sof w0 w1 d) s = .next t ∧ k ≤ 10 ∧ (if 127 < (s.can l.val).rec_ then 119 ≤ n ∧ n ≤ 127 else n = (s.can l.val).rec_ - 1) ∧
      CanPlaced l.val sof { w0 := w0, w1 := w1 &&& 0x3F, stamp := (sof + BitVec.ofNat 64 k).setWidth 32, seq := 0, data := d } false s t ∧
      CanCounts l.val (s.can l.val).tec n s t ∧ t.reg (Reg.CAN_RX_OK l.val) = s.reg (Reg.CAN_RX_OK l.val) + 1 ∧
      (if w1.getLsbD 4 then t.bit (Reg.CAN_PSR l.val) 8 = w0.getLsbD 31 ∧ t.bit (Reg.CAN_PSR l.val) 9 = w1.getLsbD 5
        else t.reg (Reg.CAN_PSR l.val) = s.reg (Reg.CAN_PSR l.val)) ∧
      (t.can l.val).txf = (s.can l.val).txf ∧ (t.can l.val).txe = (s.can l.val).txe ∧
      OnlyCan l.val [Reg.CAN_RX_OK l.val, Reg.CAN_RX_OVF l.val, Reg.CAN_PSR l.val] s t) ∧
  -- a controller that is off the bus, or loops back internally, hears nothing
  (∀ (l : Fin 2) (sof : BitVec 64) (w0 w1 : Word) (d : List Nat) (f : CanRxFault) (s : State),
    (s.canOn l.val = false ∨ s.bit (Reg.CAN_CAN_CTRL l.val) 5 = true) →
    exec (.canFrameRx l sof w0 w1 d) s = .next s ∧ exec (.canRxError l f) s = .next s) ∧
  (∀ (l : Fin 2) (k : CanError) (d : Bool) (n : Nat) (s : State), s.canOn l.val = true → s.bit (Reg.CAN_CAN_CTRL l.val) 5 = false →
    ∃ t, exec (.canRxError l (.error k d n)) s = .next t ∧ t.fld (Reg.CAN_PSR l.val) (if d then 4 else 0) 3 = canErrorCode k ∧
      CanCounts l.val (s.can l.val).tec ((s.can l.val).rec_ + n) s t ∧ (t.can l.val).rxf = (s.can l.val).rxf ∧
      (t.can l.val).txf = (s.can l.val).txf ∧ OnlyCan l.val [Reg.CAN_PSR l.val] s t) ∧
  -- a recessive res bit: the protocol exception state, or a form error
  (∀ (l : Fin 2) (s : State), s.canOn l.val = true → s.bit (Reg.CAN_CAN_CTRL l.val) 5 = false →
    ∃ t, exec (.canRxError l .resBit) s = .next t ∧ OnlyCan l.val [Reg.CAN_PSR l.val] s t ∧
      (if s.bit (Reg.CAN_CAN_CTRL l.val) 3 then t.can l.val = { s.can l.val with excepted := true } ∧ t.canOn l.val = false ∧
        t.bit (Reg.CAN_PSR l.val) 10 = true ∧ evt t (canPage l.val) 10 = true
      else CanCounts l.val (s.can l.val).tec ((s.can l.val).rec_ + 1) s t ∧ t.fld (Reg.CAN_PSR l.val) 0 3 = canErrorCode .form)) ∧
  (∀ (l : Fin 2) (mid : Mid) (v : Word) (s : State), Passes s mid (Reg.CAN_RXF_POP l.val) true →
    ∃ t, exec (.rxfPop l mid v) s = .next t ∧
      t.can l.val = { s.can l.val with rxf := if v.getLsbD 0 then (s.can l.val).rxf.drop 1 else (s.can l.val).rxf } ∧
      t.can (1 - l.val) = s.can (1 - l.val) ∧ Only [.can0, .can1] [] s t) ∧
  (∀ (l : Fin 2) (mid : Mid) (v : Word) (s : State), Passes s mid (Reg.CAN_TXE_POP l.val) true →
    ∃ t, exec (.txePop l mid v) s = .next t ∧
      t.can l.val = { s.can l.val with txe := if v.getLsbD 0 then (s.can l.val).txe.drop 1 else (s.can l.val).txe } ∧
      t.can (1 - l.val) = s.can (1 - l.val) ∧ Only [.can0, .can1] [] s t) ∧
  (∀ (l : Fin 2) (mid : Mid) (s : State), Passes s mid (Reg.CAN_CAN_CMD l.val) true →
    (∃ t, exec (.rxfFlush l mid) s = .next t ∧ t.can l.val = { s.can l.val with rxf := [] } ∧ t.can (1 - l.val) = s.can (1 - l.val) ∧
      Only [.can0, .can1] [] s t) ∧
    (∃ t, exec (.txeFlush l mid) s = .next t ∧ t.can l.val = { s.can l.val with txe := [] } ∧ t.can (1 - l.val) = s.can (1 - l.val) ∧
      Only [.can0, .can1] [] s t) ∧
    -- TX_FLUSH: every entry leaves with outcome FLUSHED, as long as the TX event FIFO has room
    ((s.can l.val).state = 3 ∨ s.canInit l.val = true →
      ∃ t, exec (.txFlush l mid) s = .next t ∧ (t.can l.val).txf = [] ∧ (t.can l.val).rxf = (s.can l.val).rxf ∧
        (t.can l.val).txe = (s.can l.val).txe ++ ((s.can l.val).txf.take (32 - (s.can l.val).txe.length)).map (fun e =>
          (w32 (e.tag + 256 * 5 + 2 ^ 16 * min 255 e.attempts), e.stamp, e.w0, e.w1)) ∧
        ((s.can l.val).txf ≠ [] → evt t (canPage l.val) 4 = true) ∧
        (32 < (s.can l.val).txe.length + (s.can l.val).txf.length → (s.can l.val).txf ≠ [] → evt t (canPage l.val) 3 = true) ∧
        OnlyCan l.val [Reg.CAN_TXE_OVF l.val] s t) ∧
    ((s.can l.val).state ≠ 3 → s.canInit l.val = false → CanRefuses l.val s (exec (.txFlush l mid) s) .state)) ∧
  (∀ (l : Fin 2) (mid : Mid) (s : State), Passes s mid (Reg.CAN_FS_CMD l.val) true → s.filters.firstFree 8 = none →
    CanRefuses l.val s (exec (.fsCreate l mid) s) .fsFull) ∧
  (∀ (l : Fin 2) (mid : Mid) (s : State) (i : Nat), Passes s mid (Reg.CAN_FS_CMD l.val) true → s.filters.firstFree 8 = some i →
    let first := s.fld (Reg.CAN_FS_RANGE l.val) 0 6
    let count := s.fld (Reg.CAN_FS_RANGE l.val) 16 7
    let clash := s.filters.any fun e => e.2.ctl == l.val && decide (e.2.first < first + count) && decide (first < e.2.first + e.2.count)
    if count = 0 ∨ 64 < first + count ∨ clash = true then
      CanRefuses l.val s (exec (.fsCreate l mid) s) (if count = 0 ∨ 64 < first + count then .range else .fsOverlap)
    else
      ∃ t, exec (.fsCreate l mid) s = .next t ∧
        t.filters.find? i = some { ctl := l.val, first := first, count := count, en := false } ∧
        (∀ j, j ≠ i → t.filters.find? j = s.filters.find? j) ∧ t.reg (Reg.CAN_FS_HANDLE l.val) = t.handleOf .filter i ∧
        Only [.filters, .gens] [Reg.CAN_FS_HANDLE l.val] s t) ∧
  (∀ (l : Fin 2) (mid : Mid) (sof : BitVec 64) (s : State) (i : Nat) (f : FilterSet), Passes s mid (Reg.CAN_FS_CMD l.val) true →
    s.fsHandle l.val = .ok (i, f) →
    (∃ t, exec (.fsDestroy l mid) s = .next t ∧ CanFilters l.val i none sof s t) ∧
      (∃ t, exec (.fsEnable l mid) s = .next t ∧ CanFilters l.val i (some { f with en := true }) sof s t) ∧
      (∃ t, exec (.fsDisable l mid) s = .next t ∧ CanFilters l.val i (some { f with en := false }) sof s t) ∧
      ∃ t, exec (.fsQuery l mid) s = .next t ∧ t.reg (Reg.CAN_FS_RANGE l.val) = w32 (f.first + 2 ^ 16 * f.count) ∧
        Only [] [Reg.CAN_FS_RANGE l.val] s t) ∧
  -- a handle that names no set of this controller
  (∀ (l : Fin 2) (mid : Mid) (s : State) (e : ErrCode), Passes s mid (Reg.CAN_FS_CMD l.val) true → s.fsHandle l.val = .error e →
    CanRefuses l.val s (exec (.fsDestroy l mid) s) e ∧ CanRefuses l.val s (exec (.fsEnable l mid) s) e ∧
      CanRefuses l.val s (exec (.fsDisable l mid) s) e ∧ CanRefuses l.val s (exec (.fsQuery l mid) s) e) ∧
  -- an element of an enabled set is in use
  (∀ (l : Fin 2) (mid : Mid) (k : Fin 64) (m : Bool) (v : Word) (s : State),
    let a := if m then Reg.CAN_FLT_MASK l.val k.val else Reg.CAN_FLT_ID l.val k.val
    Passes s mid a true →
    if s.filters.any fun e => e.2.ctl == l.val && e.2.en && decide (e.2.first ≤ k.val) && decide (k.val < e.2.first + e.2.count) then
      CanRefuses l.val s (exec (.fltWrite l mid k m v) s) .inUse
    else if m = true ∧ v.toNat / 2 ^ 29 % 4 = 3 then CanRefuses l.val s (exec (.fltWrite l mid k m v) s) .range
    else ∃ t, exec (.fltWrite l mid k m v) s = .next t ∧ t.reg a = (if m then v &&& 0x7FFFFFFF else v) ∧ Only [] [a] s t)

/-- The clock block's page refuses a command with an error code. -/
abbrev ClkRefuses (s : State) (o : Out) (e : ErrCode) : Prop :=
  ∃ t, o = .next t ∧ t.rd (errAddr 1) % 2 ^ 8 = e.code ∧ Only [] [errAddr 1] s t

/-- The PLL uses REFCLK exactly while it is chosen and qualified; a change of reference is slewed (R332, R334). The other bits of CLK_STAT but
QUALIFYING stay. -/
abbrev RefFollows (s t : State) : Prop :=
  t.refInUse = (t.bit Reg.CLK_CLK_CFG 0 && t.clock.qualified) ∧ t.bit Reg.CLK_CLK_STAT 3 = (s.bit Reg.CLK_CLK_STAT 3 || t.refInUse != s.refInUse) ∧
    ∀ k, k ∉ [1, 2, 3] → t.bit Reg.CLK_CLK_STAT k = s.bit Reg.CLK_CLK_STAT k

/-- A change of operating point from `from_` to `p` runs: upward the point waits for the PMIC, where point 0 is the fastest; downward it is in
force at once (R336). -/
abbrev DvfsRuns (from_ p : Nat) (s t : State) : Prop :=
  let held := if s.clock.goal.isSome then none else s.clock.held
  t.clock = { s.clock with goal := some p, from_ := from_, confirmed := false, since := s.tim.odo, held := held } ∧
    t.bit Reg.CLK_DVFS_STAT 4 = true ∧ t.bit Reg.CLK_DVFS_STAT 5 = (s.bit Reg.CLK_DVFS_STAT 5 && s.clock.goal.isNone) ∧ t.point = max from_ p

/-- A change of operating point has ended: the newest request that was held is carried out, from the point now in force (R336). -/
abbrev DvfsEnds (p : Nat) (s t : State) : Prop :=
  if s.clock.held.isSome then DvfsRuns p (s.clock.held.getD 0) s t
  else t.clock = { s.clock with goal := none, confirmed := false } ∧ t.bit Reg.CLK_DVFS_STAT 4 = false ∧ t.bit Reg.CLK_DVFS_STAT 5 = false ∧
    t.point = p

/-- REF_SEL_WRITE, REF_QUALIFIED, REF_LOST, REF_SLEW_DONE, COMPAT_WRITE (R332 to R334, R337): the PLL follows REFCLK only while it is chosen and
qualified. DVFS_REQ, PMIC_CONFIRM, DVFS_DONE, DVFS_FAIL (R336, R337): a change in its two directions, its end, its failure, and the request held
meanwhile. CLK_GATE_WRITE, CLK_GATE_STOP, RST_KEY, WDT_KICK, TEMP_HIGH, TEMP_RESTORED (R338, R339, R342, R343, R376). The model's choices it rests on:
log entries 4, 52, 53, 100. -/
def Obligations.ClocksFollowTheirSources : Prop :=
  (∀ (mid : Mid) (b : Bool) (s : State), Passes s mid Reg.CLK_CLK_CFG true → s.pageLocked 1 = false → (b = true → s.rd Reg.CLK_OSC_QUAL ≠ 0) →
    ∃ t, exec (.refSelWrite mid b) s = .next t ∧ t.bit Reg.CLK_CLK_CFG 0 = b ∧
      (∀ k, k ≠ 0 → t.bit Reg.CLK_CLK_CFG k = s.bit Reg.CLK_CLK_CFG k) ∧ RefFollows s t ∧
      t.bit Reg.CLK_CLK_STAT 2 = s.bit Reg.CLK_CLK_STAT 2 ∧ Only [] [Reg.CLK_CLK_CFG, Reg.CLK_CLK_STAT] s t) ∧
  (∀ (mid : Mid) (b : Bool) (s : State), Passes s mid Reg.CLK_CLK_CFG true →
    (s.pageLocked 1 = true ∨ (b = true ∧ s.rd Reg.CLK_OSC_QUAL = 0)) →
    ClkRefuses s (exec (.refSelWrite mid b) s) (if s.pageLocked 1 then .locked else .range)) ∧
  -- REF_ERR then holds a value within ±100 ppm, free in that span
  (∀ s : State, s.bit Reg.CLK_CLK_STAT 2 = true →
    ∃ t, exec .refQualified s = .next t ∧ t.clock = { s.clock with qualified := true } ∧ RefFollows s t ∧ evt t 1 0 = true ∧
      t.bit Reg.CLK_CLK_STAT 2 = false ∧ -100000 ≤ (t.reg Reg.CLK_REF_ERR).toInt ∧ (t.reg Reg.CLK_REF_ERR).toInt ≤ 100000 ∧
      OnlyEvents [.clock] [Reg.CLK_CLK_STAT, Reg.CLK_REF_ERR] [1] s t) ∧
  (∀ s : State, s.bit Reg.CLK_CLK_STAT 2 = false → exec .refQualified s = .next s) ∧
  (∀ s : State, s.clock.qualified = true →
    ∃ t, exec .refLost s = .next t ∧ t.clock = { s.clock with qualified := false } ∧ RefFollows s t ∧ t.refInUse = false ∧ evt t 1 1 = true ∧
      t.bit Reg.CLK_CLK_STAT 2 = (s.rd Reg.CLK_OSC_QUAL != 0) ∧ OnlyEvents [.clock] [Reg.CLK_CLK_STAT] [1] s t) ∧
  (∀ s : State, s.clock.qualified = false → exec .refLost s = .next s) ∧
  (∀ s : State, ∃ t, exec .refSlewDone s = .next t ∧ t.bit Reg.CLK_CLK_STAT 3 = false ∧
    (∀ k, k ≠ 3 → t.bit Reg.CLK_CLK_STAT k = s.bit Reg.CLK_CLK_STAT k) ∧ Only [] [Reg.CLK_CLK_STAT] s t) ∧
  -- compatibility mode: CORE runs at point 1, and no change of point is left
  (∀ (on : Bool) (s : State), Passes s (.own .loader) Reg.CLK_CLK_CFG true → s.fld Reg.RST_RST_HOLD 0 4 = 15 → s.pageLocked 1 = false →
    ∃ t, exec (.compatWrite (.own .loader) on) s = .next t ∧ t.bit Reg.CLK_CLK_CFG 1 = on ∧
      (∀ k, k ≠ 1 → t.bit Reg.CLK_CLK_CFG k = s.bit Reg.CLK_CLK_CFG k) ∧
      (if on then t.point = 1 ∧ t.bit Reg.CLK_DVFS_STAT 4 = false ∧ t.bit Reg.CLK_DVFS_STAT 5 = false ∧
          t.clock = { s.clock with goal := none, held := none }
        else t.clock = s.clock ∧ t.reg Reg.CLK_DVFS_STAT = s.reg Reg.CLK_DVFS_STAT) ∧
      Only [.clock] [Reg.CLK_CLK_CFG, Reg.CLK_DVFS_STAT] s t) ∧
  (∀ (mid : Mid) (b : Bool) (s : State), Passes s mid Reg.CLK_CLK_CFG true →
    (mid ≠ .own .loader ∨ s.fld Reg.RST_RST_HOLD 0 4 ≠ 15 ∨ s.pageLocked 1 = true) →
    ClkRefuses s (exec (.compatWrite mid b) s) (if mid ≠ .own .loader ∨ s.fld Reg.RST_RST_HOLD 0 4 ≠ 15 then .midDeny else .locked)) ∧
  (∀ (mid : Mid) (v : Word) (s : State), Passes s mid Reg.CLK_DVFS_REQ true → s.bit Reg.CLK_CLK_CFG 1 = false → s.clock.goal = none →
    ∃ t, exec (.dvfsReq mid v) s = .next t ∧ DvfsRuns s.point (v.toNat % 4) s t ∧ t.rd Reg.CLK_DVFS_REQ = v.toNat % 4 ∧
      Only [.clock] [Reg.CLK_DVFS_REQ, Reg.CLK_DVFS_STAT] s t) ∧
  -- while a change runs, the newest request is held
  (∀ (mid : Mid) (v : Word) (s : State) (p : Nat), Passes s mid Reg.CLK_DVFS_REQ true → s.bit Reg.CLK_CLK_CFG 1 = false → s.clock.goal = some p →
    ∃ t, exec (.dvfsReq mid v) s = .next t ∧ t.clock = { s.clock with held := some (v.toNat % 4) } ∧ t.bit Reg.CLK_DVFS_STAT 5 = true ∧
      t.point = s.point ∧ t.bit Reg.CLK_DVFS_STAT 4 = s.bit Reg.CLK_DVFS_STAT 4 ∧ Only [.clock] [Reg.CLK_DVFS_REQ, Reg.CLK_DVFS_STAT] s t) ∧
  (∀ (mid : Mid) (v : Word) (s : State), Passes s mid Reg.CLK_DVFS_REQ true → s.bit Reg.CLK_CLK_CFG 1 = true →
    ClkRefuses s (exec (.dvfsReq mid v) s) .mode) ∧
  (∀ (s : State) (p : Nat), s.clock.goal = some p → p < 4 →
    ∃ t, exec .pmicConfirm s = .next t ∧ t.point = p ∧ t.clock = { s.clock with confirmed := true } ∧
      (∀ k, 2 ≤ k → t.bit Reg.CLK_DVFS_STAT k = s.bit Reg.CLK_DVFS_STAT k) ∧ Only [.clock] [Reg.CLK_DVFS_STAT] s t) ∧
  (∀ (s : State) (p : Nat), s.clock.goal = some p → s.clock.confirmed = true → s.clock.held.getD 0 < 4 →
    ∃ t, exec .dvfsDone s = .next t ∧ DvfsEnds s.point s t ∧ evt t 1 2 = true ∧ OnlyEvents [.clock] [Reg.CLK_DVFS_STAT] [1] s t) ∧
  (∀ (s : State) (p : Nat), s.clock.goal = some p → s.clock.confirmed = false → s.clock.from_ < 4 → s.clock.held.getD 0 < 4 →
    usT 100 ≤ s.since s.clock.since →
    ∃ t, exec .dvfsFail s = .next t ∧ DvfsEnds s.clock.from_ s t ∧ evt t 1 3 = true ∧ OnlyEvents [.clock] [Reg.CLK_DVFS_STAT] [1] s t) ∧
  (∀ s : State, s.clock.goal = none → exec .pmicConfirm s = .next s ∧ exec .dvfsDone s = .next s ∧ exec .dvfsFail s = .next s) ∧
  (∀ s : State, (s.clock.confirmed = false → exec .dvfsDone s = .next s) ∧ (s.clock.confirmed = true → exec .dvfsFail s = .next s) ∧
    (s.since s.clock.since < usT 100 → exec .dvfsFail s = .next s)) ∧
  -- gates open and close as written, an opened block runs at once; a gate that may not close refuses the whole write
  (∀ (mid : Mid) (hi : Bool) (v : Word) (s : State),
    let a := if hi then Reg.CLK_CLK_GATE_HI else Reg.CLK_CLK_GATE_LO
    let st := if hi then Reg.CLK_CLK_GATE_STAT_HI else Reg.CLK_CLK_GATE_STAT_LO
    let pages := gateable.filter fun p => decide (32 ≤ p) == hi
    let bad := pages.any fun p => s.bit a (p % 32) && !v.getLsbD (p % 32) && !s.gateMayClose p
    Passes s mid a true →
    if bad then ClkRefuses s (exec (.clkGateWrite mid hi v) s) .state
    else
      ∃ t, exec (.clkGateWrite mid hi v) s = .next t ∧
        (∀ b, b < 32 → t.bit a b = (if b + 32 * b2n hi ∈ gateable then v.getLsbD b else s.bit a b)) ∧
        (∀ b, b < 32 → t.bit st b = (s.bit st b || (decide (b + 32 * b2n hi ∈ gateable) && v.getLsbD b))) ∧ Only [] [a, st] s t) ∧
  -- what each gate needs to close: its block idle
  (∀ s : State, (s.gateMayClose 0x08 = true ↔ s.lnkState 0 = 0) ∧ (s.gateMayClose 0x09 = true ↔ s.lnkState 1 = 0) ∧
    (s.gateMayClose 0x12 = true ↔ s.frm.state ≠ 1) ∧ s.gateMayClose 0x15 = s.canInit 0 ∧ s.gateMayClose 0x16 = s.canInit 1 ∧
    (s.gateMayClose 0x17 = true ↔ s.bit Reg.ETH_ETH_CFG 0 = false ∧ s.bit Reg.ETH_ETH_CFG 1 = false ∧ s.eth.launches = []) ∧
    (s.gateMayClose 0x1D = true ↔ s.upd.boot ≠ .overwriting ∧ s.upd.staging = none ∧ s.upd.wrapIn = none) ∧
    (s.gateMayClose 0x20 = true ↔ s.gpio.pulses = [])) ∧
  (∀ (page : Fin 64) (s : State),
    let st := if page.val < 32 then Reg.CLK_CLK_GATE_STAT_LO else Reg.CLK_CLK_GATE_STAT_HI
    if gateable.contains page.val && !s.pageOpen page.val then
      ∃ t, exec (.clkGateStop page) s = .next t ∧ t.bit st (page.val % 32) = false ∧
        (∀ k, k ≠ page.val % 32 → t.bit st k = s.bit st k) ∧ Only [] [st] s t
    else exec (.clkGateStop page) s = .next s) ∧
  -- the key arms the writer alone; another value arms nothing
  (∀ (mid : Mid) (v : Word) (s : State), Passes s mid Reg.RST_RST_KEY true →
    ∃ t, exec (.rstKey mid v) s = .next t ∧ t.rst.key.find? mid.code = (if v = 0x0000A5C3#32 then some s.tim.odo else s.rst.key.find? mid.code) ∧
      (∀ m, m ≠ mid.code → t.rst.key.find? m = s.rst.key.find? m) ∧ t.rst = { s.rst with key := t.rst.key } ∧ Only [.rst] [] s t) ∧
  (∀ (n : Fin 5) (mid : Mid) (v : Word) (s : State), Passes s mid (Reg.RST_WDT_KICK n.val) true →
    ∃ t, exec (.wdtKick n mid v) s = .next t ∧
      t.rst.wdt.find? n.val = (if v = 0x00005A5A#32 then some s.tim.odo else s.rst.wdt.find? n.val) ∧
      (∀ k, k ≠ n.val → t.rst.wdt.find? k = s.rst.wdt.find? k) ∧ t.rst = { s.rst with wdt := t.rst.wdt } ∧ Only [.rst] [] s t) ∧
  -- the die temperature read is free, beyond the threshold that was passed
  (∀ s : State, ∃ t, exec .tempHigh s = .next t ∧ t.pair = { s.pair with hot := true } ∧ evt t 0 3 = true ∧
    10500 ≤ ((t.reg Reg.SYS_DIE_TEMP).setWidth 16).toInt ∧ OnlyEvents [.pair] [Reg.SYS_DIE_TEMP] [0] s t) ∧
  (∀ s : State, s.pair.hot = true →
    ∃ t, exec .tempRestored s = .next t ∧ t.pair = { s.pair with hot := false } ∧ evt t 0 3 = false ∧
      ((t.reg Reg.SYS_DIE_TEMP).setWidth 16).toInt < 10000 ∧ (∀ b, b ≠ 3 → evt t 0 b = evt s 0 b) ∧
      Only [.pair, .free] [Reg.SYS_DIE_TEMP, State.evtAddr 0] s t) ∧
  (∀ s : State, s.pair.hot = false → exec .tempRestored s = .next s)

/-- A frame of the switch is stamped at an external port (R290, R291): the stamp enters the FIFO of 128, or is lost. -/
abbrev EthStamped (port : Nat) (tx : Bool) (f : List Nat) (s t : State) : Prop :=
  let lat := s.fld (if port = 1 then Reg.ETH_P1_LAT else Reg.ETH_P2_LAT) (if tx then 16 else 0) 16
  let odo := s.tim.odo + BitVec.ofInt 64 ((if tx then (lat : Int) else -(lat : Int)) / 4)
  let typ := (ptpOff f).elim 0 fun o => beAt f o 1 % 16
  if 128 ≤ s.eth.ts.length then t.eth.ts = s.eth.ts ∧ evt t 0x17 3 = true
  else t.eth.ts.length = s.eth.ts.length + 1 ∧ t.eth.ts.take s.eth.ts.length = s.eth.ts ∧ evt t 0x17 2 = true ∧
    ((t.eth.ts.getLastD []).getD 0 0).toNat % 256 = port + 4 * b2n tx + 16 * typ ∧
    (t.eth.ts.getLastD []).drop 4 = [odo.setWidth 32, (odo >>> 32).setWidth 32]

/-- What the switch may change when it stores or sends frames. -/
abbrev OnlySwitch (regs : List Nat) (s t : State) : Prop :=
  OnlyEvents [.eth] (Reg.ETH_P1_RX :: Reg.ETH_P2_RX :: Reg.ETH_P1_TX :: Reg.ETH_P2_TX :: Reg.ETH_DROPS :: regs) [0x17] s t

/-- ETH_FRAME_RX (R286 to R291, R296): a frame is learned, stamped and stored for the ports it goes to. ETH_EGRESS (R287, R289 to R291, R296, R299): the
oldest frame of the highest queue leaves a port, with the residence added, or enters a receive ring. The model's choices it rests on: log entries 4,
55, 124. -/
def Obligations.SwitchStoresAndSends : Prop :=
  -- stored once for each of its targets, in its queue, where there is room; its source is learned
  (∀ (port : Fin 2) (bytes : List Nat) (s : State), s.clockRuns 0x17 = true → s.ethPortOn (port.val + 1) = true →
    (∀ p, p < 3 → s.ethUsed p + bytes.length ≤ s.rd Reg.ETH_Q_LIMIT) →
    s.ethUsed 0 + s.ethUsed 1 + s.ethUsed 2 + 3 * bytes.length ≤ 262144 →
    let src := beAt bytes 6 6
    ∃ t, exec (.ethFrameRx port bytes) s = .next t ∧
      (∀ p, p < 3 → t.ethQ p = if p ∈ s.ethTargets (port.val + 1) bytes
        then s.ethQ p ++ [(ethQueue bytes, s.ethFrame (port.val + 1) bytes)] else s.ethQ p) ∧
      (src / 2 ^ 40 % 2 = 0 → ((s.eth.macs.find? src).isSome = true ∨ s.eth.macs.length < 1024) →
        t.eth.macs.find? src = some (port.val + 1, s.tim.odo)) ∧
      (if ptpEvent bytes then EthStamped (port.val + 1) false bytes s t else t.eth.ts = s.eth.ts) ∧
      t.reg (if port.val = 0 then Reg.ETH_P1_RX else Reg.ETH_P2_RX) = s.reg (if port.val = 0 then Reg.ETH_P1_RX else Reg.ETH_P2_RX) + 1 ∧
      t.reg Reg.ETH_DROPS = s.reg Reg.ETH_DROPS ∧ OnlySwitch [] s t) ∧
  -- a queue without room drops its copy
  (∀ (port : Fin 2) (bytes : List Nat) (s : State), s.clockRuns 0x17 = true → s.ethPortOn (port.val + 1) = true →
    (∀ p, p < 3 → s.rd Reg.ETH_Q_LIMIT < s.ethUsed p + bytes.length) →
    ∃ t, exec (.ethFrameRx port bytes) s = .next t ∧ (∀ p, p < 3 → t.ethQ p = s.ethQ p) ∧
      t.reg Reg.ETH_DROPS = s.reg Reg.ETH_DROPS + w32 (s.ethTargets (port.val + 1) bytes).length ∧
      (s.ethTargets (port.val + 1) bytes ≠ [] → evt t 0x17 6 = true) ∧ OnlySwitch [] s t) ∧
  (∀ (port : Fin 2) (bytes : List Nat) (s : State), (s.ethPortOn (port.val + 1) = false ∨ s.clockRuns 0x17 = false) →
    exec (.ethFrameRx port bytes) s = .next s) ∧
  -- where a frame goes: to enabled ports, where its address is known if it is, and between P1 and P2 only with forwarding on
  (∀ (p src : Nat) (bytes : List Nat) (s : State), p < 3 →
    let dst := beAt bytes 0 6
    let known := if dst / 2 ^ 40 % 2 = 1 then none else s.eth.macs.find? dst
    let crosses := s.bit Reg.ETH_ETH_CFG 2 && dst != 0x0180C200000E && !ptpPdelay bytes
    (p ∈ s.ethTargets src bytes ↔ p ≠ src ∧ s.ethPortOn p = true ∧ (known.map (·.1)).getD p = p ∧ (src = 0 ∨ p = 0 ∨ crosses = true) ∧
      ¬ (p = 0 ∧ s.ethToDsp bytes = true ∧ s.bit Reg.DSP_DSP_CFG 4 = false))) ∧
  -- the queue: 3 for PTP and Dispatch, by the priority of the tag, 0 untagged
  (∀ bytes : List Nat, ethQueue bytes =
    if (ptpOff bytes).isSome || isDispatch bytes then 3 else if beAt bytes 12 2 = 0x8100 then bytes.getD 14 0 / 64 else 0) ∧
  (∀ (port : Fin 3) (s : State) (f : EthFrame) (rest : List (Nat × EthFrame)), port.val ≠ 0 → s.ethPick port.val = some (f, rest) →
    s.ethPortOn port.val = true → s.ethLink port.val = true → s.ethBusy port.val = false → s.launchHolds port.val f.bytes = false →
    (∀ d ∈ f.desc, s.held ringMid = false ∧ s.rangeRight (midColumn ringMid) (d.1 + 8) 8 true = true) →
    let tc := f.port != 0 && s.bit Reg.ETH_ETH_CFG 3 && ptpEvent f.bytes
    let delay := s.rd (if f.port = 1 then Reg.PTP_PDELAY1 else Reg.PTP_PDELAY2)
    let pd := if s.bit Reg.ETH_ETH_CFG 4 && ptpType f.bytes == some 0 then delay else 0
    let sent := if tc then addCorrection f.bytes (s.residence f + pd * 65536) else f.bytes
    let tx := if port.val = 1 then Reg.ETH_P1_TX else Reg.ETH_P2_TX
    let d := (f.desc.map (·.1)).getD 0
    ∃ t, exec (.ethEgress port) s = .next t ∧ t.ethQ port.val = rest ∧ (∀ p, p < 3 → p ≠ port.val → t.ethQ p = s.ethQ p) ∧
      (if port.val = 1 then t.eth.sent1 = sent ∧ t.eth.busy1 = s.tim.odo + BitVec.ofNat 64 (frameCycles sent) ∧ t.eth.sent2 = s.eth.sent2 ∧
          t.eth.busy2 = s.eth.busy2
        else t.eth.sent2 = sent ∧ t.eth.busy2 = s.tim.odo + BitVec.ofNat 64 (frameCycles sent) ∧ t.eth.sent1 = s.eth.sent1 ∧
          t.eth.busy1 = s.eth.busy1) ∧
      t.reg tx = s.reg tx + 1 ∧ t.reg Reg.ETH_TC_FRAMES = (if tc then s.reg Reg.ETH_TC_FRAMES + 1 else s.reg Reg.ETH_TC_FRAMES) ∧
      t.reg Reg.ETH_TC_LONG = (if tc = true ∧ 1000000 * 65536 < s.residence f then s.reg Reg.ETH_TC_LONG + 1 else s.reg Reg.ETH_TC_LONG) ∧
      (if f.tsReq || ptpEvent sent then EthStamped port.val true sent s t else t.eth.ts = s.eth.ts) ∧
      -- its descriptor is given back with the odometer at the SFD
      (if f.desc.isSome then evt t 0x17 8 = true ∧ t.readLE (d + 8) 2 = f.bytes.length % 2 ^ 16 ∧ (t.readByte (d + 10)).getLsbD 0 = false ∧
          t.readLE (d + 12) 4 = s.tim.odo.toNat % 2 ^ 32 ∧ (∀ a, (a < d + 8 ∨ d + 16 ≤ a) → t.readByte a = s.readByte a)
        else t.mem = s.mem) ∧
      OnlyEvents [.eth, .mem] [tx, Reg.ETH_TC_FRAMES, Reg.ETH_TC_LONG] [0x17] s t) ∧
  -- nothing starts on a port with nothing queued, off, without a link or busy, or while a launch needs the time
  (∀ (port : Fin 3) (s : State), s.ethPick port.val = none → exec (.ethEgress port) s = .next s) ∧
  (∀ (port : Fin 3) (s : State) (f : EthFrame) (rest : List (Nat × EthFrame)), port.val ≠ 0 → s.ethPick port.val = some (f, rest) →
    (s.ethPortOn port.val = false ∨ s.ethLink port.val = false ∨ s.ethBusy port.val = true ∨ s.launchHolds port.val f.bytes = true) →
    exec (.ethEgress port) s = .next s) ∧
  -- at P0 a frame goes to the buffer of the next descriptor of its ring
  (∀ (s : State) (f : EthFrame) (rest : List (Nat × EthFrame)) (r : Nat), s.ethPick 0 = some (f, rest) →
    r = (if (ptpOff f.bytes).isSome then 1 else 0) → s.held ringMid = false → s.rd (Reg.ETH_RXR_SIZE r) ≠ 0 →
    s.rd (Reg.ETH_RXR_HEAD r) ≠ s.rd (Reg.ETH_RXR_TAIL r) →
    let d := s.rd (Reg.ETH_RXR_BASE r) + 16 * s.rd (Reg.ETH_RXR_HEAD r)
    let b := s.readLE d 8
    s.rangeRight (midColumn ringMid) d 16 false = true → s.rangeRight (midColumn ringMid) b f.bytes.length true = true →
    s.rangeRight (midColumn ringMid) (d + 8) 8 true = true → (s.readByte (d + 10)).getLsbD 0 = true →
    ∃ t, exec (.ethEgress 0) s = .next t ∧ t.ethQ 0 = rest ∧ t.ethQ 1 = s.ethQ 1 ∧ t.ethQ 2 = s.ethQ 2 ∧
      t.rd (Reg.ETH_RXR_HEAD r) = (s.rd (Reg.ETH_RXR_HEAD r) + 1) % s.rd (Reg.ETH_RXR_SIZE r) ∧ evt t 0x17 7 = true ∧
      (∀ i, i < f.bytes.length → (b + f.bytes.length ≤ d + 8 ∨ d + 16 ≤ b) → t.readByte (b + i) = BitVec.ofNat 8 (f.bytes.getD i 0)) ∧
      (∀ a, (a < b ∨ b + f.bytes.length ≤ a) → (a < d + 8 ∨ d + 16 ≤ a) → t.readByte a = s.readByte a) ∧
      t.readLE (d + 8) 2 = f.bytes.length % 2 ^ 16 ∧ (t.readByte (d + 10)).getLsbD 0 = false ∧
      t.readLE (d + 12) 4 = f.odo.toNat % 2 ^ 32 ∧ OnlyEvents [.eth, .mem] [Reg.ETH_RXR_HEAD r] [0x17] s t) ∧
  -- it waits for a descriptor, and for a channel that may reach it
  (∀ (s : State) (f : EthFrame) (rest : List (Nat × EthFrame)) (r : Nat), s.ethPick 0 = some (f, rest) →
    r = (if (ptpOff f.bytes).isSome then 1 else 0) →
    (s.rd (Reg.ETH_RXR_SIZE r) = 0 ∨ s.rd (Reg.ETH_RXR_HEAD r) = s.rd (Reg.ETH_RXR_TAIL r) ∨ s.held ringMid = true) →
    exec (.ethEgress 0) s = .next s)

/-- MAC_AGE, ETH_LINK_CHANGE, TX_RING_KICK, TS_FIFO_READ (R286, R289, R291). The model's choices it rests on: log entries 55, 109. -/
def Obligations.SwitchTablesRingsAndStamps : Prop :=
  (∀ s : State, ∃ t, exec .macAge s = .next t ∧
    t.eth = { s.eth with macs := s.eth.macs.filter fun e => decide (s.since e.2.2 < secT (s.rd Reg.ETH_AGE_TIME)) } ∧ Only [.eth] [] s t) ∧
  (∀ (port : Fin 2) (up : Bool) (s : State), s.bit Reg.ETH_ETH_STAT port.val ≠ up →
    ∃ t, exec (.ethLinkChange port up) s = .next t ∧ t.bit Reg.ETH_ETH_STAT port.val = up ∧ t.bit Reg.ETH_ETH_STAT (2 + port.val) = up ∧
      (∀ k, k ≠ port.val → k ≠ 2 + port.val → t.bit Reg.ETH_ETH_STAT k = s.bit Reg.ETH_ETH_STAT k) ∧ evt t 0x17 port.val = true ∧
      OnlyEvents [] [Reg.ETH_ETH_STAT] [0x17] s t) ∧
  (∀ (port : Fin 2) (s : State), exec (.ethLinkChange port (s.bit Reg.ETH_ETH_STAT port.val)) s = .next s) ∧
  -- one descriptor that ETH owns: its frame is stored for the ports it goes to; a buffer under 14 bytes is given back with ERROR
  (∀ (mid : Mid) (q : Fin 4) (v : Word) (s : State), Passes s mid (Reg.ETH_TXR_TAIL q.val) true → s.held ringMid = false →
    s.rd (Reg.ETH_TXR_SIZE q.val) ≠ 0 → s.rd (Reg.ETH_TXR_HEAD q.val) ≠ v.toNat →
    (s.rd (Reg.ETH_TXR_HEAD q.val) + 1) % s.rd (Reg.ETH_TXR_SIZE q.val) = v.toNat →
    let d := s.rd (Reg.ETH_TXR_BASE q.val) + 16 * s.rd (Reg.ETH_TXR_HEAD q.val)
    let n := s.readLE (d + 8) 2
    let flags := s.readLE (d + 10) 2
    let bytes := s.readBytes (s.readLE d 8) n
    let f := { s.ethFrame 0 bytes with tsReq := flags.testBit 1, desc := some (d, flags) }
    flags % 2 = 1 → s.rangeRight (midColumn ringMid) d 16 false = true → s.rangeRight (midColumn ringMid) (s.readLE d 8) n false = true →
    s.rangeRight (midColumn ringMid) (d + 8) 8 true = true → (∀ p, p < 3 → s.ethUsed p + n ≤ s.rd Reg.ETH_Q_LIMIT) →
    s.ethUsed 0 + s.ethUsed 1 + s.ethUsed 2 + 3 * n ≤ 262144 →
    ∃ t, exec (.txRingKick mid q v) s = .next t ∧ t.rd (Reg.ETH_TXR_HEAD q.val) = v.toNat ∧ t.reg (Reg.ETH_TXR_TAIL q.val) = v ∧
      t.dmaErr.testBit 15 = false ∧
      (if n < 14 then (∀ p, p < 3 → t.ethQ p = s.ethQ p) ∧ (t.readByte (d + 10)).getLsbD 0 = false ∧ (t.readByte (d + 10)).getLsbD 2 = true ∧
          (∀ a, (a < d + 8 ∨ d + 16 ≤ a) → t.readByte a = s.readByte a)
        else (∀ p, p < 3 → t.ethQ p = if p ∈ s.ethTargets 0 bytes then s.ethQ p ++ [(ethQueue bytes, f)] else s.ethQ p) ∧ t.mem = s.mem) ∧
      Only [.eth, .mem, .dmaErr] [Reg.ETH_TXR_HEAD q.val, Reg.ETH_TXR_TAIL q.val] s t) ∧
  -- a ring with nothing to fetch
  (∀ (mid : Mid) (q : Fin 4) (v : Word) (s : State), Passes s mid (Reg.ETH_TXR_TAIL q.val) true →
    (s.rd (Reg.ETH_TXR_SIZE q.val) = 0 ∨ s.rd (Reg.ETH_TXR_HEAD q.val) = v.toNat) →
    ∃ t, exec (.txRingKick mid q v) s = .next t ∧ t.reg (Reg.ETH_TXR_TAIL q.val) = v ∧ t.dmaErr = s.dmaErr % 2 ^ 15 ∧
      Only [.dmaErr] [Reg.ETH_TXR_TAIL q.val] s t) ∧
  (∀ (mid : Mid) (s : State), Passes s mid (Reg.ETH_TS_HEAD 5) false →
    ∃ t, exec (.tsFifoRead mid) s = .next t ∧ t.busData = (s.eth.ts.headD []).getD 5 0 ∧ t.eth = { s.eth with ts := s.eth.ts.tail } ∧
      Only [.busData, .eth] [] s t)

/-- Instance `n` has been moved by `d` (R27, R294): another instance does not touch plant time; of the selected one, a step within the slew limit
is taken into the residual, and a larger one by plant time. -/
abbrev InstanceMoved (n : Nat) (d : Int) (s t : State) : Prop :=
  let r := s.tim.resid - d
  (t.clk n : Int) = ((s.clk n : Int) + d) % (clkModulus : Int) ∧ (∀ k, k ≠ n → t.clk k = s.clk k) ∧
    t.fld (Reg.PTP_CLKD_STAT n) 8 8 = (s.fld (Reg.PTP_CLKD_STAT n) 8 8 + 1) % 256 ∧ evt t 0x18 (1 + n) = true ∧
    (if n ≠ s.tim.plantSel then t.tim = { s.tim with clk := t.tim.clk }
      else if -s.slewLim ≤ r ∧ r ≤ s.slewLim then
        t.tim = { s.tim with clk := t.tim.clk, ptSet := true, resid := r, slewing := decide (r ≠ 0) || s.tim.slewing }
      else t.tim = { s.tim with clk := t.tim.clk, ptSet := true, ppsLand := t.tim.ppsLand } ∧ evt t 6 3 = true) ∧
    (if n ≠ s.tim.plantSel ∨ (-s.slewLim ≤ r ∧ r ≤ s.slewLim) then
      s.gau.lateSweep = none → OnlyEvents [.tim] [Reg.PTP_CLKD_STAT n] [0x18] s t
    else OnlyPages [.recd, .free, .tim, .gau, .link, .swp, .est, .ctl, .pair, .nv, .draws] [0x06, 0x07, 0x08, 0x09, 0x0A, 0x18, 0x1B] s t)

/-- CLKD_STEP, CLKD_SET, ADJ_WRITE, CLKD_CFG_WRITE (R24, R27, R293, R294): stepping an instance moves plant time only beyond the slew limit. The model's
choices it rests on: log entries 110, 111. -/
def Obligations.PtpInstances : Prop :=
  (∀ (n : Fin 3) (mid : Mid) (s : State), Passes s mid (Reg.PTP_CLKD_CMD n.val) true →
    (∃ t, exec (.clkdStep n mid) s = .next t ∧ InstanceMoved n.val (s.stepValue n.val) s t) ∧
    (∃ t, exec (.clkdSet n mid) s = .next t ∧ InstanceMoved n.val (clkDiff (s.setValue n.val % clkModulus) (s.clk n.val)) s t)) ∧
  (∀ (n : Fin 3) (mid : Mid) (v : Word) (s : State), Passes s mid (Reg.PTP_ADJ n.val) true →
    let y := max (-8589934) (min 8589934 v.toInt)
    ∃ t, exec (.adjWrite n mid v) s = .next t ∧ t.rdI (Reg.PTP_ADJ n.val) = y ∧ t.bit (Reg.PTP_CLKD_STAT n.val) 1 = decide (v.toInt ≠ y) ∧
      (∀ k, k ≠ 1 → t.bit (Reg.PTP_CLKD_STAT n.val) k = s.bit (Reg.PTP_CLKD_STAT n.val) k) ∧
      (if v.toInt = y then Only [] [Reg.PTP_ADJ n.val, Reg.PTP_CLKD_STAT n.val] s t
        else t.rd (errAddr 0x18) % 2 ^ 8 = ErrCode.rateClamp.code ∧ evt t 0x18 0 = true ∧
          OnlyEvents [] [Reg.PTP_ADJ n.val, Reg.PTP_CLKD_STAT n.val, errAddr 0x18] [0x18] s t)) ∧
  -- one domain and one port have one instance
  (∀ (n : Fin 3) (mid : Mid) (v : Word) (s : State), Passes s mid (Reg.PTP_CLKD_CFG n.val) true →
    let both (m k : Nat) : Bool := v.getLsbD k && s.bit (Reg.PTP_CLKD_CFG m) k
    let dup (m : Nat) : Bool := both m 16 && (s.rd (Reg.PTP_CLKD_CFG m) % 256 == v.toNat % 256) && (both m 8 || both m 9)
    if (List.range 3).any fun m => m != n.val && dup m then
      ∃ t, exec (.clkdCfgWrite n mid v) s = .next t ∧ t.rd (errAddr 0x18) % 2 ^ 8 = ErrCode.domDup.code ∧ evt t 0x18 4 = true ∧
        OnlyEvents [] [errAddr 0x18] [0x18] s t
    else
      ∃ t, exec (.clkdCfgWrite n mid v) s = .next t ∧ t.reg (Reg.PTP_CLKD_CFG n.val) = v &&& 0x000103FF ∧
        t.bit (Reg.PTP_CLKD_STAT n.val) 0 = v.getLsbD 16 ∧
        (∀ k, k ≠ 0 → t.bit (Reg.PTP_CLKD_STAT n.val) k = s.bit (Reg.PTP_CLKD_STAT n.val) k) ∧
        Only [] [Reg.PTP_CLKD_CFG n.val, Reg.PTP_CLKD_STAT n.val] s t)

/-- ETH refuses a command with an error code. -/
abbrev EthRefuses (s : State) (o : Out) (e : ErrCode) : Prop :=
  ∃ t, o = .next t ∧ t.rd (errAddr 0x17) % 2 ^ 8 = e.code ∧ Only [] [errAddr 0x17] s t

/-- The word of LA_FIFO for a launch and its outcome (R299). -/
abbrev laWord (s : State) (i outcome : Nat) : Word := w32 ((s.handleOf .launch i).toNat % 256 + 256 * i + 2 ^ 24 * outcome)

/-- LAUNCH_CREATE, LAUNCH_DESTROY, LAUNCH, LA_FIFO_READ (R298 to R300). The model's choices it rests on: log entries 35, 55, 110, 124. -/
def Obligations.TimedLaunches : Prop :=
  (∀ (mid : Mid) (s : State) (i : Nat), Passes s mid Reg.ETH_LA_CMD true → s.eth.launches.firstFree 64 = some i →
    let sec := s.rd Reg.ETH_LA_TIME_SECL + 2 ^ 32 * s.fld Reg.ETH_LA_TIME_SECH 0 16
    let time := (sec * fracPerSec + s.fld Reg.ETH_LA_TIME_NS 0 30 * fracPerNs) % clkModulus
    let len := s.fld Reg.ETH_LA_CTRL 0 11
    let form := decide (60 ≤ len) && decide (len ≤ 1518) && (s.bit Reg.ETH_LA_CTRL 16 || s.bit Reg.ETH_LA_CTRL 17)
    let past := decide (clkDiff time s.plant ≤ ((20000 * fracPerNs : Nat) : Int))
    let far := decide (((1000 * fracPerSec : Nat) : Int) < clkDiff time s.plant)
    let reach := s.rangeRight (midColumn mid) (s.rd Reg.ETH_LA_ADDR) len false
    if form && !past && !far && reach then
      ∃ t, exec (.launchCreate mid) s = .next t ∧
        t.eth = { s.eth with launches := t.eth.launches } ∧
        t.eth.launches.find? i = some ⟨time, s.readBytes (s.rd Reg.ETH_LA_ADDR) len, s.bit Reg.ETH_LA_CTRL 16, s.bit Reg.ETH_LA_CTRL 17⟩ ∧
        (∀ j, j ≠ i → t.eth.launches.find? j = s.eth.launches.find? j) ∧ t.reg Reg.ETH_LA_HANDLE = t.handleOf .launch i ∧
        Only [.eth, .gens] [Reg.ETH_LA_HANDLE] s t
    else EthRefuses s (exec (.launchCreate mid) s)
      (if !form then .range else if past then .launchPast else if far then .launchRange else .fwlDeny)) ∧
  (∀ (mid : Mid) (s : State), Passes s mid Reg.ETH_LA_CMD true → s.eth.launches.firstFree 64 = none →
    EthRefuses s (exec (.launchCreate mid) s) .launchFull) ∧
  -- a launch whose time is reached starts before a destroy of the same TIME cycle is looked at; the destroy of one that has not started withdraws it
  (∀ (mid : Mid) (idx : Fin 64) (s u : State), Passes s mid Reg.ETH_LA_CMD true → s.rd Reg.ETH_LA_HANDLE / 2 ^ 8 % 2 ^ 12 = idx.val →
    (if (s.eth.launches.find? idx.val).any s.launchReached then exec (.launch idx) s = .next u else u = s) →
    (∀ e, u.checkHandle .launch (fun i => (u.eth.launches.find? i).isSome) (u.reg Reg.ETH_LA_HANDLE) = .error e →
      EthRefuses u (exec (.launchDestroy mid) s) e) ∧
    (u.checkHandle .launch (fun i => (u.eth.launches.find? i).isSome) (u.reg Reg.ETH_LA_HANDLE) = .ok idx.val →
      ∃ t, exec (.launchDestroy mid) s = .next t ∧ t.eth.launches.find? idx.val = none ∧
        (∀ j, j ≠ idx.val → t.eth.launches.find? j = u.eth.launches.find? j) ∧
        t.eth.laFifo = (if u.eth.laFifo.length < 32 then u.eth.laFifo ++ [laWord u idx.val 4] else u.eth.laFifo) ∧
        t.eth = { u.eth with launches := t.eth.launches, laFifo := t.eth.laFifo } ∧ Only [.eth] [] u t)) ∧
  -- a launch that is due, and first of those due on its ports: each port with a link sends it, and the outcomes enter LA_FIFO
  (∀ (idx : Fin 64) (s : State) (e : LaunchEnt), s.eth.launches.find? idx.val = some e → s.launchDue e = true →
    s.launchFirst idx.val e = true → s.eth.laFifo.length ≤ 32 →
    let up1 := e.p1 && s.ethLink 1 && s.ethPortOn 1
    let up2 := e.p2 && s.ethLink 2 && s.ethPortOn 2
    let late := decide (((50 * fracPerNs : Nat) : Int) < clkDiff s.plant e.time)
    let down := if (e.p1 && !up1) || (e.p2 && !up2) then [laWord s idx.val 3] else []
    let sent := if up1 || up2 then [laWord s idx.val (if late then 2 else 1)] else []
    (up1 && s.launchBusy 1) = false → (up2 && s.launchBusy 2) = false →
    ∃ t, exec (.launch idx) s = .next t ∧ t.eth.launches.find? idx.val = none ∧
      (∀ j, j ≠ idx.val → t.eth.launches.find? j = s.eth.launches.find? j) ∧
      t.eth.sent1 = (if up1 then e.bytes else s.eth.sent1) ∧ t.eth.sent2 = (if up2 then e.bytes else s.eth.sent2) ∧
      t.eth.busy1 = (if up1 then s.tim.odo + BitVec.ofNat 64 (frameCycles e.bytes) else s.eth.busy1) ∧
      t.eth.busy2 = (if up2 then s.tim.odo + BitVec.ofNat 64 (frameCycles e.bytes) else s.eth.busy2) ∧
      t.reg Reg.ETH_P1_TX = (if up1 then s.reg Reg.ETH_P1_TX + 1 else s.reg Reg.ETH_P1_TX) ∧
      t.reg Reg.ETH_P2_TX = (if up2 then s.reg Reg.ETH_P2_TX + 1 else s.reg Reg.ETH_P2_TX) ∧
      t.eth.laFifo = (s.eth.laFifo ++ (down ++ sent)).take 32 ∧ evt t 0x17 4 = true ∧ (late = true → (up1 || up2) = true → evt t 0x17 5 = true) ∧
      (ptpEvent e.bytes = false → t.eth.ts = s.eth.ts) ∧ (∀ p, p < 3 → t.ethQ p = s.ethQ p) ∧
      OnlyEvents [.eth] [Reg.ETH_P1_TX, Reg.ETH_P2_TX] [0x17] s t) ∧
  -- it waits for its time, for an earlier launch, and for a port that is sending
  (∀ (idx : Fin 64) (s : State) (e : LaunchEnt), s.eth.launches.find? idx.val = some e →
    (s.launchDue e = false ∨ s.launchFirst idx.val e = false ∨ (e.p1 && s.ethLink 1 && s.ethPortOn 1 && s.launchBusy 1) = true ∨
      (e.p2 && s.ethLink 2 && s.ethPortOn 2 && s.launchBusy 2) = true) → exec (.launch idx) s = .next s) ∧
  (∀ (idx : Fin 64) (s : State), s.eth.launches.find? idx.val = none → exec (.launch idx) s = .next s) ∧
  (∀ (mid : Mid) (s : State), Passes s mid Reg.ETH_LA_FIFO false →
    ∃ t, exec (.laFifoRead mid) s = .next t ∧ t.busData = s.eth.laFifo.headD 0 ∧ t.eth = { s.eth with laFifo := s.eth.laFifo.tail } ∧
      Only [.busData, .eth] [] s t)

/-- The entries that another one's firing leaves as they are, but that an entry whose target is reached and that waits for a comparator will fire
LATE (R41). -/
abbrev OthersWait (i : Nat) (s t : State) : Prop :=
  let waits (e : Nat × Waymark) : Bool := s.wmDue e.2 && !(s.onComparators.map (·.1)).contains e.1
  ∀ j, j ≠ i → t.gau.wms.find? j = (s.gau.wms.find? j).map fun w => if waits (j, w) then { w with late := true } else w

/-- Entry `w` of slot `i` has fired (R40 to R43, R174, R375): one-shot it is destroyed, periodic its target moves to the first occurrence still ahead;
LOG, CTL and GPIO are carried out. -/
abbrev WaymarkFired (i : Nat) (w : Waymark) (s t : State) : Prop :=
  let p := w.ctrl.toNat % 2 ^ 16
  let late := w.late || decide (1 < s.wmAge w)
  let k := (sdiff 64 s.gridPos.toNat w.target.toNat).toNat / (p * 2 ^ 32)
  let pin := s.fld Reg.GAU_WM_GPIO 0 3
  let runs := s.bit Reg.CLK_CLK_GATE_STAT_HI 0
  t.gau.wms.find? i =
      (if p = 0 then none
        else some { w with target := w.target + BitVec.ofNat 64 ((k + 1) * (p * 2 ^ 32)), late := false, skip := 0 }) ∧
    OthersWait i s t ∧ (late = true → evt t 7 5 = true) ∧ t.gau.refill = s.tim.odo :: s.refilling ∧
    (if w.action 16 then
      (if s.gau.wmFifo.length < 64 then
        t.gau.wmFifo = s.gau.wmFifo ++ [⟨s.handleOf .waymark i, late, if p = 0 then 0 else min 255 k⟩] ∧ evt t 7 4 = true
      else t.gau.wmFifo = s.gau.wmFifo ∧ evt t 7 6 = true)
    else t.gau.wmFifo = s.gau.wmFifo) ∧
    t.gau.ctlFired = s.gau.ctlFired ++ (if w.action 17 then [s.handleOf .waymark i] else []) ∧
    (if w.action 19 && runs && s.bit Reg.GPIO_GPIO_DIR pin then
      t.gpio.pulses.find? pin = some (s.tim.odo, (s.gpio.pulses.find? pin).elim (!s.bit Reg.GPIO_GPIO_OUT pin) (·.2)) ∧
        ∀ j, j ≠ pin → t.gpio.pulses.find? j = s.gpio.pulses.find? j
    else t.gpio = s.gpio) ∧
    ((w.action 19 && runs && !s.bit Reg.GPIO_GPIO_DIR pin) = true → evt t 0x20 8 = true) ∧
    t.gau = { s.gau with wms := t.gau.wms, refill := t.gau.refill, wmFifo := t.gau.wmFifo, ctlFired := t.gau.ctlFired }

/-- WM_FIRE (R40 to R43, R174, R309 to R312, R375): the entry on a comparator that has reached its target fires, with its actions. The model's choices it
rests on: log entries 4, 35, 94, 113. -/
def Obligations.WaymarkFires : Prop :=
  (∀ (s : State) (i : Nat) (w : Waymark), s.clockRuns 0x07 = true → s.wmNow = some (i, w) →
    (w.action 18 = false ∨ s.dsp.rptWm ≠ some (s.handleOf .waymark i) ∨ s.bit Reg.DSP_RPT_CFG 16 = false ∨
      (s.dsp.key0 = none ∧ s.dsp.key1 = none) ∨ s.dspOn = false ∨ s.senderOk = false) →
    ∃ t, exec .wmFire s = .next t ∧ WaymarkFired i w s t ∧ OnlyEvents [.gau, .gpio] [] [7, 0x20] s t) ∧
  -- the one that fires is the lowest INDEX of those due on a comparator, and stays due until it does
  (∀ (s : State) (i : Nat) (w : Waymark), s.wmNow = some (i, w) →
    s.wmDue w = true ∧ (i, w) ∈ s.onComparators ∧ (s.onComparators.all fun e => !s.wmDue e.2 || decide (i ≤ e.1)) = true) ∧
  -- nothing fires while no target on a comparator is reached
  (∀ s : State, s.clockRuns 0x07 = true → s.wmNow = none →
    ∃ t, exec .wmFire s = .next t ∧ OthersWait 256 s t ∧ t.gau = { s.gau with wms := t.gau.wms } ∧ Only [.gau] [] s t) ∧
  (∀ s : State, (s.clockRuns 0x07 = false ∨ ∀ e ∈ s.gau.wms, s.wmDue e.2 = false) → exec .wmFire s = .next s) ∧
  -- the report's entry sends a report, numbered, under the key of slot 0 or else of slot 1, from each port of DSP_CFG.PORTS
  (∀ (s : State) (i : Nat) (w : Waymark) (key : List Word), s.clockRuns 0x07 = true → s.wmNow = some (i, w) → w.action 18 = true →
    s.dsp.rptWm = some (s.handleOf .waymark i) → s.bit Reg.DSP_RPT_CFG 16 = true → s.dsp.key0.or s.dsp.key1 = some key →
    s.dspOn = true → s.senderOk = true →
    (∀ p, p < 3 → s.ethUsed p + 400 ≤ s.rd Reg.ETH_Q_LIMIT) → s.ethUsed 0 + s.ethUsed 1 + s.ethUsed 2 + 800 ≤ 262144 →
    let slot := if s.dsp.key0.isSome then 0 else 1
    ∃ t, exec .wmFire s = .next t ∧ WaymarkFired i w s t ∧ t.reg Reg.DSP_RPT_SENT = s.reg Reg.DSP_RPT_SENT + 1 ∧
      t.dsp.txLo = (if s.dsp.txLo % 2 ^ 32 = 2 ^ 32 - 1 then 0 else s.dsp.txLo + 1) ∧
      t.nv = (if s.dsp.txLo % 2 ^ 32 = 2 ^ 32 - 1 then { s.nv with txCtrHi := (s.nv.txCtrHi + 1) % 2 ^ 32 } else s.nv) ∧
      t.dsp.lastReport.length = 26 ∧ t.dsp.lastReport.getD 0 0 = s.reg Reg.DSP_STRING_ID ∧
      t.dsp.lastReport.getD 4 0 = w32 (s.gridPos.toNat / 2 ^ 32) ∧ t.dsp.lastReport.getD 5 0 = w32 s.gridPos.toNat ∧
      t.dsp.lastReport.getD 20 0 = w32 s.dsp.spNow ∧ evt t 0x19 8 = true ∧
      (∀ p, p < 3 → t.ethQ p = if p ≠ 0 ∧ s.bit Reg.DSP_DSP_CFG (1 + p) = true ∧ s.ethPortOn p = true
        then s.ethQ p ++ [(3, s.ethFrame 0 (s.rptFrame (s.rptMessage slot key t.dsp.lastReport) s.rptCounter))] else s.ethQ p) ∧
      OnlyEvents [.gau, .gpio, .dsp, .eth, .nv] [Reg.DSP_RPT_SENT] [7, 0x19, 0x20] s t)

/-- What lets a Dispatch message through the checks of R303, in their order. -/
def DspAccepts (s : State) (typ : Nat) (h : DspHdr) : Prop :=
  s.dspOn = true ∧ h.typ = typ ∧ h.ver = 1 ∧ (s.dspKey h.keyId).isSome = true ∧ s.isPeer h.sender = true ∧ h.tagOk = true ∧
    ∀ l, s.dsp.counters.find? (h.keyId * 2 ^ 32 + h.sender) = some l → l < h.counter

/-- A message that does not pass them is counted and has no other effect (R303): a malformed one, one whose tag is wrong, a copy, a replay. -/
abbrev DspDrops (s : State) (typ : Nat) (h : DspHdr) (o : Out) : Prop :=
  let bad := h.typ != typ || h.ver != 1 || (s.dspKey h.keyId).isNone || !s.isPeer h.sender
  let last := s.dsp.counters.find? (h.keyId * 2 ^ 32 + h.sender)
  let dup := h.tagOk && last == some h.counter
  let replay := h.tagOk && last.any (fun l => decide (h.counter < l))
  let cnt := if bad then Reg.DSP_RX_BAD else if dup then Reg.DSP_RX_DUP else if replay then Reg.DSP_RX_REPLAY else Reg.DSP_RX_AUTH
  (s.dspOn = false → o = .next s) ∧
    (s.dspOn = true → (bad || !h.tagOk || dup || replay) = true →
      ∃ t, o = .next t ∧ t.reg cnt = s.reg cnt + 1 ∧ (bad = false → h.tagOk = false → evt t 0x19 1 = true) ∧
        (bad = false → replay = true → evt t 0x19 2 = true) ∧ ((bad || dup) = true → Only [] [cnt] s t) ∧ OnlyEvents [] [cnt] [0x19] s t)

/-- A message taken is counted, and its counter stands for its sender and key (R303). -/
abbrev DspTaken (h : DspHdr) (s t : State) : Prop :=
  t.dsp.counters.find? (h.keyId * 2 ^ 32 + h.sender) = some h.counter ∧ t.reg Reg.DSP_RX_OK = s.reg Reg.DSP_RX_OK + 1 ∧ evt t 0x19 0 = true

/-- The report waymark entry is gone (R309). -/
abbrev RptGone (s t : State) : Prop :=
  t.dsp = { s.dsp with rptWm := none } ∧ ((s.dsp.rptWm.bind fun h => (s.wmHandle h).toOption).all fun i => (t.gau.wms.find? i).isNone) = true ∧
    t.gau = { s.gau with wms := t.gau.wms }

/-- SETPOINT_RX, WITHDRAW_MSG_RX, TIMEBASE_RX (R303 to R308). KEY_LOAD0, KEY_LOAD1, KEY_ERASE0, KEY_ERASE1, RPT_CFG_WRITE, SENDER_ID_WRITE, PEER_WRITE
(R302, R309, R312). The model's choices it rests on: log entries 7, 8, 35, 92, 93, 94. -/
def Obligations.DispatchMessagesKeysAndReports : Prop :=
  (∀ (h : DspHdr) (es : List SpEntry) (ps : List (Nat × Nat)) (b : TimebaseBody) (s : State),
    DspDrops s 1 h (exec (.setpointRx h es) s) ∧ DspDrops s 2 h (exec (.withdrawMsgRx h ps) s) ∧ DspDrops s 3 h (exec (.timebaseRx h b) s)) ∧
  -- a set-point for this string is staged with a waymark entry of its own
  (∀ (h : DspHdr) (e : SpEntry) (s : State) (i : Nat), DspAccepts s 1 h → e.stringId = s.rd Reg.DSP_STRING_ID → 0 < e.spId →
    e.spId < 0xFFFFFFFF → s.dsp.staged.find? e.spId = none → s.gau.wms.firstFree 256 = some i →
    let target : BitVec 64 := BitVec.ofNat 64 (e.actCycle * 2 ^ 32 + e.actAngle)
    let ahead := sdiff 64 target.toNat s.gridPos.toNat
    ahead ≤ 2 ^ 62 → (0 < ahead ∨ e.flags.testBit 1 = true) → s.spRange e.kind e.value e.limit = true → s.ctl.staged.length < 16 →
    (∀ x ∈ s.dsp.staged, ¬(x.2.cycle = e.actCycle ∧ x.2.angle = e.actAngle)) →
    ∃ t, exec (.setpointRx h [e]) s = .next t ∧
      t.gau.wms.find? i = some { target := target, ctrl := spCtrl e, late := decide (ahead ≤ 0) } ∧
      (∀ j, j ≠ i → t.gau.wms.find? j = s.gau.wms.find? j) ∧
      t.ctl.staged = s.ctl.staged.filter (fun x => x.handle != t.handleOf .waymark i) ++
        [{ handle := t.handleOf .waymark i, kind := e.kind, value := e.value, limit := e.limit, keep := false }] ∧
      t.dsp.staged.find? e.spId = some
        { handle := t.handleOf .waymark i, cycle := e.actCycle, angle := e.actAngle, ditherOk := e.flags.testBit 0 } ∧
      (∀ k, k ≠ e.spId → t.dsp.staged.find? k = s.dsp.staged.find? k) ∧ DspTaken h s t ∧
      t.reg Reg.DSP_SP_ACCEPT = s.reg Reg.DSP_SP_ACCEPT + 1 ∧ evt t 0x19 3 = true ∧
      OnlyEvents [.gau, .gens, .ctl, .dsp] [Reg.DSP_SP_ACCEPT, Reg.DSP_RX_OK] [0x19] s t) ∧
  -- a refused one changes nothing but what records the refusal
  (∀ (h : DspHdr) (e : SpEntry) (s : State) (c : Nat), DspAccepts s 1 h → e.stringId = s.rd Reg.DSP_STRING_ID → s.dspStage e = .error c →
    ∃ t, exec (.setpointRx h [e]) s = .next t ∧ DspTaken h s t ∧ t.reg Reg.DSP_LAST_REFUSE = w32 (c + 256) ∧
      t.reg Reg.DSP_LAST_REF_SPID = w32 e.spId ∧ t.reg Reg.DSP_SP_REFUSE = s.reg Reg.DSP_SP_REFUSE + 1 ∧ evt t 0x19 4 = true ∧
      t.dsp.staged = s.dsp.staged ∧
      OnlyEvents [.dsp] [Reg.DSP_RX_OK, Reg.DSP_LAST_REFUSE, Reg.DSP_LAST_REF_SPID, Reg.DSP_SP_REFUSE] [0x19] s t) ∧
  -- why: 1 its time is past, 2 a value that is not permitted, 3 no room, 4 another set-point for that instant
  (∀ (e : SpEntry) (s : State), (e.spId = 0 ∨ 0xFFFFFFFF ≤ e.spId) → s.dspStage e = .error 2) ∧
  (∀ (e : SpEntry) (s : State), 0 < e.spId → e.spId < 0xFFFFFFFF → s.dsp.staged.find? e.spId = none →
    let target : BitVec 64 := BitVec.ofNat 64 (e.actCycle * 2 ^ 32 + e.actAngle)
    let ahead := sdiff 64 target.toNat s.gridPos.toNat
    let past := decide (ahead ≤ 0) && !e.flags.testBit 1
    let clash := s.dsp.staged.any fun x => x.2.cycle == e.actCycle && x.2.angle == e.actAngle
    (s.gau.wms.firstFree 256 = none → s.dspStage e = .error 3) ∧
    (s.gau.wms.firstFree 256 ≠ none → 2 ^ 62 < ahead → s.dspStage e = .error 2) ∧
    (s.gau.wms.firstFree 256 ≠ none → past = true → s.dspStage e = .error 1) ∧
    (s.gau.wms.firstFree 256 ≠ none → ahead ≤ 2 ^ 62 → past = false → s.spRange e.kind e.value e.limit = false → s.dspStage e = .error 2) ∧
    (s.gau.wms.firstFree 256 ≠ none → ahead ≤ 2 ^ 62 → past = false → s.spRange e.kind e.value e.limit = true → s.ctl.staged.length < 16 →
      clash = true → s.dspStage e = .error 4)) ∧
  -- an entry for another string is skipped; the entries of a message are taken in their order
  (∀ (h : DspHdr) (e : SpEntry) (s : State), DspAccepts s 1 h → e.stringId ≠ s.rd Reg.DSP_STRING_ID →
    exec (.setpointRx h [e]) s = exec (.setpointRx h []) s) ∧
  (∀ (h : DspHdr) (s : State), DspAccepts s 1 h →
    ∃ t, exec (.setpointRx h []) s = .next t ∧ DspTaken h s t ∧ t.dsp.staged = s.dsp.staged ∧ OnlyEvents [.dsp] [Reg.DSP_RX_OK] [0x19] s t) ∧
  (∀ (h : DspHdr) (e : SpEntry) (es : List SpEntry) (s u : State), DspAccepts s 1 h → exec (.setpointRx h [e]) s = .next u →
    exec (.setpointRx h (e :: es)) s = .next (es.foldl State.dspEntry u)) ∧
  -- a withdrawal of a staged set-point frees it, its table place and its entry
  (∀ (h : DspHdr) (id i : Nat) (d : DspSp) (s : State), DspAccepts s 2 h → s.gau.ctlFired = [] → s.wmNow = none → id ≠ 0xFFFFFFFF →
    s.dsp.staged.find? id = some d → s.wmHandle d.handle = .ok i →
    ∃ t, exec (.withdrawMsgRx h [(s.rd Reg.DSP_STRING_ID, id)]) s = .next t ∧ DspTaken h s t ∧ t.dsp.staged.find? id = none ∧
      (∀ j, j ≠ id → t.dsp.staged.find? j = s.dsp.staged.find? j) ∧ t.gau.wms.find? i = none ∧
      (∀ j, j ≠ i → t.gau.wms.find? j = s.gau.wms.find? j) ∧
      t.ctl.staged = s.ctl.staged.filter (fun x => x.handle != d.handle) ∧ evt t 0x19 5 = true ∧
      OnlyEvents [.gau, .ctl, .dsp] [Reg.DSP_RX_OK] [0x19] s t) ∧
  -- 0xFFFF_FFFF withdraws each one that DSP staged; what is not staged, or is for another string, is no withdrawal
  (∀ (h : DspHdr) (s : State), DspAccepts s 2 h → s.gau.ctlFired = [] → s.wmNow = none →
    ∃ t, exec (.withdrawMsgRx h [(s.rd Reg.DSP_STRING_ID, 0xFFFFFFFF)]) s = .next t ∧ DspTaken h s t ∧
      (∀ e ∈ s.dsp.staged, t.dsp.staged.find? e.1 = none) ∧ (s.dsp.staged ≠ [] → evt t 0x19 5 = true) ∧
      OnlyEvents [.gau, .ctl, .dsp] [Reg.DSP_RX_OK] [0x19] s t) ∧
  (∀ (h : DspHdr) (str id : Nat) (s : State), DspAccepts s 2 h → s.gau.ctlFired = [] → s.wmNow = none →
    (str ≠ s.rd Reg.DSP_STRING_ID ∨ (id ≠ 0xFFFFFFFF ∧ s.dsp.staged.find? id = none)) →
    ∃ t, exec (.withdrawMsgRx h [(str, id)]) s = .next t ∧ DspTaken h s t ∧ t.dsp.staged = s.dsp.staged ∧
      OnlyEvents [.gau, .dsp] [Reg.DSP_RX_OK] [0x19] s t) ∧
  -- another origin is not followed, and a bias is armed only where DSP may follow it and it lies ahead
  (∀ (h : DspHdr) (b : TimebaseBody) (s : State), DspAccepts s 3 h → s.gau.lateSweep = none → b.biasAt < 2 ^ 32 →
    let same := b.origin % 2 ^ 48 == s.cycOrigin
    let follow := same && s.bit Reg.DSP_DSP_CFG 1 && decide (0 < sdiff 32 b.biasAt s.cycle)
    ∃ t, exec (.timebaseRx h b) s = .next t ∧ DspTaken h s t ∧ t.bit Reg.DSP_DSP_STAT 3 = !same ∧ (same = false → evt t 0x19 6 = true) ∧
      (same = true → wInt b.bias ≠ s.reg Reg.GAU_CYC_BIAS → evt t 0x19 7 = true) ∧ t.dsp.staged = s.dsp.staged ∧
      (if follow then t.reg Reg.GAU_CYC_BIAS_NEXT = wInt b.biasNext ∧ t.reg Reg.GAU_CYC_BIAS_AT = w32 b.biasAt ∧
          t.gau = { s.gau with biasAt := some (cycWrap (s.gau.cyc + sdiff 32 b.biasAt s.cycle)) } ∧
          OnlyEvents [.dsp, .gau] [Reg.DSP_RX_OK, Reg.DSP_DSP_STAT, Reg.GAU_CYC_BIAS_NEXT, Reg.GAU_CYC_BIAS_AT] [0x19] s t
        else OnlyEvents [.dsp] [Reg.DSP_RX_OK, Reg.DSP_DSP_STAT] [0x19] s t)) ∧
  (∀ (mid : Mid) (s : State), Passes s mid Reg.DSP_KEY_CMD true →
    (∃ t, exec (.keyLoad0 mid) s = .next t ∧ t.dsp.key0 = some ((List.range 8).map fun i => s.dsp.keyIn.get 0 i) ∧
      (∀ k, k < 2 ^ 32 → t.dsp.counters.find? k = none) ∧ (∀ k, 2 ^ 32 ≤ k → t.dsp.counters.find? k = s.dsp.counters.find? k) ∧
      t.dsp = { s.dsp with key0 := t.dsp.key0, counters := t.dsp.counters } ∧ evt t 0x19 9 = true ∧ OnlyEvents [.dsp] [] [0x19] s t) ∧
    (∃ t, exec (.keyLoad1 mid) s = .next t ∧ t.dsp.key1 = some ((List.range 8).map fun i => s.dsp.keyIn.get 0 i) ∧
      (∀ k, k / 2 ^ 32 = 1 → t.dsp.counters.find? k = none) ∧ (∀ k, k / 2 ^ 32 ≠ 1 → t.dsp.counters.find? k = s.dsp.counters.find? k) ∧
      t.dsp = { s.dsp with key1 := t.dsp.key1, counters := t.dsp.counters } ∧ evt t 0x19 9 = true ∧ OnlyEvents [.dsp] [] [0x19] s t) ∧
    (∃ t, exec (.keyErase0 mid) s = .next t ∧ t.dsp = { s.dsp with key0 := none } ∧ Only [.dsp] [] s t) ∧
    (∃ t, exec (.keyErase1 mid) s = .next t ∧ t.dsp = { s.dsp with key1 := none } ∧ Only [.dsp] [] s t)) ∧
  -- EN clear: no report entry stands
  (∀ (mid : Mid) (v : Word) (s : State), Passes s mid Reg.DSP_RPT_CFG true → v.toNat % 2 ^ 16 ≠ 0 → v.getLsbD 16 = false →
    ∃ t, exec (.rptCfgWrite mid v) s = .next t ∧ t.bit Reg.DSP_RPT_CFG 16 = false ∧ t.fld Reg.DSP_RPT_CFG 0 16 = v.toNat % 2 ^ 16 ∧
      RptGone s t ∧ Only [.dsp, .gau] [Reg.DSP_RPT_CFG] s t) ∧
  -- EN set: the report waymark entry is created at RPT_ANGLE of the first fitting cycle, or EN reads 0 again
  (∀ (mid : Mid) (v : Word) (s : State) (i : Nat), Passes s mid Reg.DSP_RPT_CFG true → v.toNat % 2 ^ 16 ≠ 0 → v.getLsbD 16 = true →
    s.senderOk = true → s.dsp.rptWm = none → s.gau.wms.firstFree 256 = some i →
    let p := v.toNat % 2 ^ 16
    let target : BitVec 64 := BitVec.ofNat 64 (s.rptFirst p * 2 ^ 32 + s.rd Reg.DSP_RPT_ANGLE)
    0 < sdiff 64 target.toNat s.gridPos.toNat → sdiff 64 target.toNat s.gridPos.toNat ≤ 2 ^ 62 →
    ∃ t, exec (.rptCfgWrite mid v) s = .next t ∧ t.bit Reg.DSP_RPT_CFG 16 = true ∧ t.fld Reg.DSP_RPT_CFG 0 16 = p ∧
      t.gau.wms.find? i = some { target := target, ctrl := w32 (p + 2 ^ 18), late := false } ∧
      (∀ j, j ≠ i → t.gau.wms.find? j = s.gau.wms.find? j) ∧
      t.dsp = { s.dsp with rptWm := some (t.handleOf .waymark i) } ∧ Only [.dsp, .gau, .gens] [Reg.DSP_RPT_CFG] s t) ∧
  (∀ (mid : Mid) (v : Word) (s : State), Passes s mid Reg.DSP_RPT_CFG true → v.toNat % 2 ^ 16 ≠ 0 → v.getLsbD 16 = true →
    s.senderOk = true → s.dsp.rptWm = none → s.gau.wms.firstFree 256 = none →
    ∃ t, exec (.rptCfgWrite mid v) s = .next t ∧ t.bit Reg.DSP_RPT_CFG 16 = false ∧ RptGone s t ∧
      t.rd (errAddr 0x19) % 2 ^ 8 = ErrCode.waymarkFull.code ∧ Only [.dsp, .gau] [Reg.DSP_RPT_CFG, errAddr 0x19] s t) ∧
  (∀ (mid : Mid) (v : Word) (s : State), Passes s mid Reg.DSP_RPT_CFG true → (v.toNat % 2 ^ 16 = 0 ∨ (v.getLsbD 16 = true ∧ s.senderOk = false)) →
    ∃ t, exec (.rptCfgWrite mid v) s = .next t ∧ t.rd (errAddr 0x19) % 2 ^ 8 = ErrCode.range.code ∧ Only [] [errAddr 0x19] s t) ∧
  -- a SENDER_ID of 0, or one that is also a PEER, stops the reports
  (∀ (mid : Mid) (v : Word) (s : State), Passes s mid Reg.DSP_SENDER_ID true →
    let stops := s.bit Reg.DSP_RPT_CFG 16 && (v == 0 || s.isPeer v.toNat)
    ∃ t, exec (.senderIdWrite mid v) s = .next t ∧ t.reg Reg.DSP_SENDER_ID = v ∧
      (if stops then t.bit Reg.DSP_RPT_CFG 16 = false ∧ RptGone s t ∧ t.rd (errAddr 0x19) % 2 ^ 8 = ErrCode.range.code ∧
          Only [.dsp, .gau] [Reg.DSP_SENDER_ID, Reg.DSP_RPT_CFG, errAddr 0x19] s t
        else Only [] [Reg.DSP_SENDER_ID] s t)) ∧
  (∀ (n : Fin 4) (mid : Mid) (v : Word) (s : State), Passes s mid (Reg.DSP_PEER n.val) true →
    let id := s.reg Reg.DSP_SENDER_ID
    let other := (List.range 4).any fun m => m != n.val && s.reg (Reg.DSP_PEER m) == id
    let stops := s.bit Reg.DSP_RPT_CFG 16 && (id == 0 || v == id || other)
    ∃ t, exec (.peerWrite mid n v) s = .next t ∧ t.reg (Reg.DSP_PEER n.val) = v ∧
      (if stops then t.bit Reg.DSP_RPT_CFG 16 = false ∧ RptGone s t ∧ t.rd (errAddr 0x19) % 2 ^ 8 = ErrCode.range.code ∧
          Only [.dsp, .gau] [Reg.DSP_PEER n.val, Reg.DSP_RPT_CFG, errAddr 0x19] s t
        else Only [] [Reg.DSP_PEER n.val] s t))

/-- A frame that fits its slot or poll passes the checks of R51: the radio listens, the CRC holds, CYC8 is that of the superframe, and so does the
MIC. -/
def rxTakes (s : State) (l : Nat) (info : RxInfo) (fit mic : Bool) : Bool :=
  s.radioHears l && info.crcOk && s.sfCyc8 == some info.cyc8 && fit && mic

/-- A command only counts one in a register. -/
abbrev CountsOne (a : Nat) (s : State) (o : Out) : Prop := ∃ t, o = .next t ∧ t.reg a = s.reg a + 1 ∧ Only [] [a] s t

/-- A frame is dropped at the first check of R51 that it fails. -/
abbrev RxTurned (s : State) (l : Nat) (info : RxInfo) (fit : Bool) (o : Out) : Prop :=
  if s.radioHears l = false then o = .next s
  else if info.crcOk = false then CountsOne (Reg.LNK_RX_CRC l) s o
  else if s.sfCyc8 ≠ some info.cyc8 ∨ fit = false then CountsOne (Reg.LNK_RX_REJECT l) s o
  else ∃ t, o = .next t ∧ t.reg (Reg.LNK_RX_MIC l) = s.reg (Reg.LNK_RX_MIC l) + 1 ∧ evt t (8 + l) 3 = true ∧
    OnlyEvents [] [Reg.LNK_RX_MIC l] [8 + l] s t

/-- The radio has received a valid frame (R51, R239). -/
abbrev RxCounted (l : Nat) (s t : State) : Prop :=
  t.reg (Reg.LNK_RX_OK l) = s.reg (Reg.LNK_RX_OK l) + 1 ∧ t.link.hear0 = (s.link.hear0 || l == 0) ∧ t.link.hear1 = (s.link.hear1 || l != 0)

/-- A report without a safety flag, and one without a reset. -/
def QuietBody (b : UplinkBody) : Prop := b.ov = 0 ∧ b.uv = 0 ∧ b.tflag = 0 ∧ b.nstat.testBit 4 = false

/-- No capture lists the node. -/
def Uncaptured (s : State) (n : Nat) : Prop := (s.est.caps.all fun c => (c.nodes.find? n).isNone) = true

/-- The record with a node's data entered. -/
def placed (r : SweepRec) (n : Nat) (b : UplinkBody) (path : Nat) : SweepRec :=
  { r with present := r.present ||| 2 ^ n, nodes := r.nodes.set n { body := b, path := path } }

/-- The node as its own report leaves it: NSTAT, CMDECHO, and what the echo acknowledges (R61, R82, R113). -/
def reported (x : NodeSt) (b : UplinkBody) : NodeSt :=
  { x with
    nstat := b.nstat, echo := b.cmdEcho
    move := x.move.map fun m => { m with echoed := m.echoed || m.seqs.contains b.cmdEcho }
    groups := x.groups.map fun g => if g.seq = b.cmdEcho then { g with shown := true } else g }

/-- The die temperature with it, where no newer sweep has reported one (R110). -/
def withTdie (x : NodeSt) (cycle : Nat) (b : UplinkBody) : NodeSt :=
  if x.tdieAt.all fun k => decide (0 ≤ sdiff 48 cycle k) then { x with tdie := b.tdie, tdieAt := some cycle } else x

/-- The lane a node uses while a change settles (R82). -/
def usingLane (x : NodeSt) (l slot : Nat) : NodeSt :=
  { x with move := x.move.map fun m => { m with usedNew := m.radio == l && m.lane + 1 == slot } }

/-- A queued entry that the echo ends: a LANE of the node sent in that frame, and a FREEZE that all its nodes have echoed (R70, R82). -/
def echoEnds (s : State) (n : Nat) (b : UplinkBody) (e : CmdEntry) : Bool :=
  match e with
  | .freeze id .. => !s.est.caps.any fun c => c.id == id && c.nodes.any fun (_, x) => !x.accepted
  | .lane m .. => m == n && (s.node n).move.any fun m => m.seqs.contains b.cmdEcho
  | _ => false

/-- A quiet report of a node that no capture lists: the node is `x`, the echoed entries leave the queue, and its flags count no more. -/
abbrev NodeReported (n : Nat) (b : UplinkBody) (x : NodeSt) (s t : State) : Prop :=
  t.node n = x ∧ (∀ k, k ≠ n → t.node k = s.node k) ∧ t.fld (Reg.NOD_NODE_STAT n) 16 8 = b.stat % 256 ∧
    t.link = { s.link with
      nodes := t.link.nodes, cmds := s.link.cmds.filter fun e => !echoEnds s n b e,
      sf := t.link.sf, hear0 := t.link.hear0, hear1 := t.link.hear1 } ∧
    t.saf.flagV.testBit n = false ∧ t.saf.flagT.testBit n = false ∧ t.saf.latched = s.saf.latched ∧ t.saf.gLatch = s.saf.gLatch

/-- Data of the present sweep enters the record being assembled; of a node that is in it already a copy that differs is counted (R92, R95). -/
abbrev DataPlaced (n : Nat) (b : UplinkBody) (path : Nat) (s t : State) : Prop :=
  let old := s.swp.cur.bind fun r => recNode r n
  let dup := old.any fun d => decide (d.body ≠ b)
  t.swp = { s.swp with cur := s.swp.cur.map fun r => if (recNode r n).isNone then placed r n b path else r } ∧
    t.bit (Reg.NOD_NODE_STAT n) 24 = b.nstat.testBit 7 ∧
    t.reg Reg.SWP_DUP_MISMATCH = s.reg Reg.SWP_DUP_MISMATCH + w32 (b2n dup) ∧ (dup = true → evt t 0x0B 8 = true)

/-- Set safety flags latch a demand by both paths, with the node as its detail (R200). -/
abbrev FlagsTrip (n : Nat) (b : UplinkBody) (s t : State) : Prop :=
  let v := decide (b.ov ≠ 0 ∨ b.uv ≠ 0)
  t.saf.latched = true ∧ t.saf.gLatch = true ∧ (v = true → t.saf.sources.testBit 1 = true) ∧ (b.tflag ≠ 0 → t.saf.sources.testBit 2 = true) ∧
    (s.saf.latched = false → t.rd Reg.SAF_FIRST_CAUSE = (if v then 2 else 3) + n * 2 ^ 8)

/-- A node that reports a reset has lost its captures (R64, R72). -/
abbrev ResetTaken (n : Nat) (s t : State) : Prop :=
  t.bit (Reg.NOD_NODE_STAT n) 25 = true ∧ (s.bit (Reg.NOD_NODE_STAT n) 25 = false → evt t 0x0A 4 = true) ∧
    (t.est.caps.all fun c => (c.nodes.find? n).all fun x => decide (22 ≤ x.frags.length)) = true

/-- What a report without a reset says of the one capture that lists only its node (R70, R72). -/
abbrev CaptureReported (n : Nat) (c : Capture) (x : NodeCap) (b : UplinkBody) (s t : State) : Prop :=
  let st := bitsOf b.stat (4 + 2 * x.buf) 2
  let without : Capture := { c with gone := c.gone ||| 2 ^ n, nodes := [] }
  if x.accepted = true ∧ x.frags.length < 22 ∧ (st = 0 ∨ x.ready = true ∧ st ≠ 2) then
    t.est = { s.est with caps := [without] } ∧ t.reg Reg.NOD_CAP_ABANDON = s.reg Reg.NOD_CAP_ABANDON + 1 ∧ evt t 0x0A 5 = true ∧
      (s.inControl = true → CmdEntry.release n (2 ^ x.buf) ∈ t.link.cmds)
  else if x.accepted = true then t.est = { s.est with caps := [{ c with nodes := [(n, { x with ready := x.ready || st == 2 })] }] }
  else if x.seqs.contains b.cmdEcho = false then t.est = s.est
  else if st = 0 then
    t.est = { s.est with caps := [without] } ∧ t.reg Reg.NOD_CAP_REFUSED = s.reg Reg.NOD_CAP_REFUSED + 1 ∧ evt t 0x0A 6 = true
  else t.est = { s.est with caps := [{ c with nodes := [(n, { x with accepted := true, ready := st == 2 })] }] }

/-- UPLINK_RX, STATUS_RX (R51, R61, R64, R70, R72, R82, R92, R95, R99, R110, R200): the checks in their order; a quiet report and its data; the safety
flags; a reset; and captures. The model's choices it rests on: log entries 8, 26, 29, 33. -/
def Obligations.NodeReportsReceived : Prop :=
  (∀ (radio : Fin 2) (info : RxInfo) (b : UplinkBody) (s : State),
    let fit := !s.sfAux && s.laneSender radio.val info.slot info.src
    rxTakes s radio.val info fit (s.linkMic info) = false → RxTurned s radio.val info fit (exec (.uplinkRx radio info b) s)) ∧
  (∀ (radio : Fin 2) (info : RxInfo) (b : UplinkBody) (s : State),
    let fit := s.sfAux && s.laneSender radio.val info.slot info.src
    rxTakes s radio.val info fit (s.linkMic info) = false → RxTurned s radio.val info fit (exec (.statusRx radio info b) s)) ∧
  -- an uplink reports its node, and its data enters the record being assembled
  (∀ (radio : Fin 2) (info : RxInfo) (b : UplinkBody) (s : State),
    rxTakes s radio.val info (!s.sfAux && s.laneSender radio.val info.slot info.src) (s.linkMic info) = true → QuietBody b →
    Uncaptured s info.src →
    let n := info.src
    let x := withTdie (reported (s.node n) b) ((s.swp.cur.map (·.cycle)).getD 0) b
    ∃ t, exec (.uplinkRx radio info b) s = .next t ∧ RxCounted radio.val s t ∧
      NodeReported n b { usingLane x radio.val info.slot with first := true, heard := bitsOf b.nstat 5 2 } s t ∧ t.link.sf = s.link.sf ∧
      DataPlaced n b 0 s t ∧ t.fld (Reg.LNK_LANE_Q radio.val (info.slot - 1)) 0 8 = (info.rssi % 256).toNat ∧
      t.laneNode radio.val (info.slot - 1) = s.laneNode radio.val (info.slot - 1) ∧
      OnlyEvents [.link, .swp, .saf]
        [Reg.LNK_RX_OK radio.val, Reg.NOD_NODE_STAT n, Reg.LNK_LANE_Q radio.val (info.slot - 1), Reg.SWP_DUP_MISMATCH] [0x0B] s t) ∧
  -- a status slot reports without data
  (∀ (radio : Fin 2) (info : RxInfo) (b : UplinkBody) (s : State),
    rxTakes s radio.val info (s.sfAux && s.laneSender radio.val info.slot info.src) (s.linkMic info) = true → QuietBody b →
    Uncaptured s info.src →
    ∃ t, exec (.statusRx radio info b) s = .next t ∧ RxCounted radio.val s t ∧
      NodeReported info.src b (usingLane (reported (s.node info.src) b) radio.val info.slot) s t ∧ t.link.sf = s.link.sf ∧
      Only [.link, .saf] [Reg.LNK_RX_OK radio.val, Reg.NOD_NODE_STAT info.src] s t) ∧
  -- set flags, a reset and a capture's report, in both frames
  (∀ (radio : Fin 2) (info : RxInfo) (b : UplinkBody) (s : State),
    rxTakes s radio.val info (!s.sfAux && s.laneSender radio.val info.slot info.src) (s.linkMic info) = true →
    ∃ t, exec (.uplinkRx radio info b) s = .next t ∧ (b.ov ≠ 0 ∨ b.uv ≠ 0 ∨ b.tflag ≠ 0 → FlagsTrip info.src b s t) ∧
      (b.nstat.testBit 4 = true → ResetTaken info.src s t)) ∧
  (∀ (radio : Fin 2) (info : RxInfo) (b : UplinkBody) (s : State),
    rxTakes s radio.val info (s.sfAux && s.laneSender radio.val info.slot info.src) (s.linkMic info) = true →
    ∃ t, exec (.statusRx radio info b) s = .next t ∧ (b.ov ≠ 0 ∨ b.uv ≠ 0 ∨ b.tflag ≠ 0 → FlagsTrip info.src b s t) ∧
      (b.nstat.testBit 4 = true → ResetTaken info.src s t)) ∧
  (∀ (radio : Fin 2) (info : RxInfo) (b : UplinkBody) (s : State) (c : Capture) (x : NodeCap),
    rxTakes s radio.val info (!s.sfAux && s.laneSender radio.val info.slot info.src) (s.linkMic info) = true → QuietBody b →
    s.est.caps = [c] → c.nodes = [(info.src, x)] →
    ∃ t, exec (.uplinkRx radio info b) s = .next t ∧ CaptureReported info.src c x b s t) ∧
  (∀ (radio : Fin 2) (info : RxInfo) (b : UplinkBody) (s : State) (c : Capture) (x : NodeCap),
    rxTakes s radio.val info (s.sfAux && s.laneSender radio.val info.slot info.src) (s.linkMic info) = true → QuietBody b →
    s.est.caps = [c] → c.nodes = [(info.src, x)] →
    ∃ t, exec (.statusRx radio info b) s = .next t ∧ CaptureReported info.src c x b s t)

/-- The poll of a radio has its answer; the superframe is otherwise as before. -/
abbrev Answered (l : Nat) (s t : State) : Prop := t.poll l = none ∧ t.link.sf = (s.setPoll l none).link.sf

/-- A DETOUR fits its slot and the poll; its inner frame is the target's uplink in the target's own slot (R63). -/
def detourFits (s : State) (l : Nat) (info inner : RxInfo) : Bool :=
  let asked := (s.poll l).any fun p => p.2.1 == 2 && p.1 == inner.src
  !s.sfAux && decide (21 ≤ info.slot) && decide (info.slot ≤ 22) && (asked || !s.sfServed) && s.laneSender l inner.slot inner.src

/-- A NOT_HELD fits: it comes from the relay or the node that the poll asked; in a module that polls nothing, from a node of the radio. -/
def notHeldFits (s : State) (l : Nat) (info : RxInfo) : Bool :=
  let detour := decide (21 ≤ info.slot) && decide (info.slot ≤ 22)
  let late := s.backfillSlotNo info.slot
  let other := !s.sfServed && s.joined info.src && s.nodeRadio info.src == l && ((detour && !s.sfAux) || late)
  decide (info.src < 32) &&
    (s.poll l).elim other fun (t, k, a) => if k = 2 then detour && a == info.src else if k = 3 ∨ k = 4 then late && t == info.src else other

/-- Data for a sweep already in the ring (R97, R98). -/
abbrev LateStored (n : Nat) (b : UplinkBody) (r : SweepRec) (age : Nat) (s t : State) : Prop :=
  let base := s.rd Reg.SWP_REC_BASE + r.index % 8 * 0x1000
  let r' := (t.swp.ring.find? fun x => x.index == r.index).getD r
  t.swp.ring = s.swp.ring.map (fun x => if x.index = r.index then r' else x) ∧
    ((recNode r' n).any fun d => decide (d.body = b) && d.path == 3 && d.age == age) = true ∧ r' = { r with present := r.present ||| 2 ^ n, late := r.late ||| 2 ^ n, nodes := r'.nodes, scr := r'.scr } ∧
    (∀ i, i < 3648 → t.readByte (base + i) = BitVec.ofNat 8 ((recordBytes r').getD i 0)) ∧
    (∀ x, x < base ∨ base + 3648 ≤ x → t.readByte x = s.readByte x) ∧ evt t 0x0B 1 = true ∧
    if age ≤ s.fld Reg.SWP_SWP_CFG 8 3 ∧ s.swp.gathered.get 0 n ≤ r.index then
      t.reg Reg.SWP_BF_LATE = s.reg Reg.SWP_BF_LATE + 1 ∧ t.reg Reg.SWP_BF_HIST = s.reg Reg.SWP_BF_HIST ∧
        t.swp.latePend.get 0 n = max r.index (s.swp.latePend.get 0 n)
    else
      t.reg Reg.SWP_BF_HIST = s.reg Reg.SWP_BF_HIST + 1 ∧ t.reg Reg.SWP_BF_LATE = s.reg Reg.SWP_BF_LATE ∧
        t.swp.latePend = s.swp.latePend

/-- A JOIN_REQ fits its slot: it is the join slot, and a node was named in it (R78). -/
def joinFits (s : State) (l slot : Nat) : Bool :=
  (s.joinAdv l).any (fun n => decide (n < 32)) && slot == if s.sfAux then 34 else 30

/-- A frame is only counted. -/
abbrev OnlyCounted (l : Nat) (s : State) (o : Out) : Prop :=
  ∃ t, o = .next t ∧ RxCounted l s t ∧ t.link = { s.link with hear0 := t.link.hear0, hear1 := t.link.hear1 } ∧
    Only [.link] [Reg.LNK_RX_OK l] s t

/-- RETRY_UP_RX, DETOUR_RX, BACKFILL_RX, FRAGMENT_RX, NOT_HELD_RX (R51, R62, R63, R71 to R73, R75, R76, R92, R93, R95, R97 to R99, R200). JOIN_REQ_RX,
DISC_REPLY_RX (R49, R51, R53, R54, R78 to R80, R105). The model's choices it rests on: log entries 8, 19, 26, 29, 30, 33, 114. -/
def Obligations.PollAnswersAndNodesJoining : Prop :=
  -- the checks of R51
  (∀ (radio : Fin 2) (info : RxInfo) (b : UplinkBody) (s : State),
    let fit := !s.sfAux && decide (17 ≤ info.slot) && decide (info.slot ≤ 20) && s.pollFits radio.val 1 info.src fun _ => true
    rxTakes s radio.val info fit (s.linkMic info) = false → RxTurned s radio.val info fit (exec (.retryUpRx radio info b) s)) ∧
  (∀ (radio : Fin 2) (info inner : RxInfo) (b : UplinkBody) (s : State),
    let fit := detourFits s radio.val info inner
    rxTakes s radio.val info fit (s.linkMic inner) = false → RxTurned s radio.val info fit (exec (.detourRx radio info inner b) s)) ∧
  (∀ (radio : Fin 2) (info : RxInfo) (data : Nat) (b : UplinkBody) (s : State),
    let fit := s.backfillSlotNo info.slot && s.pollFits radio.val 3 info.src fun _ => true
    rxTakes s radio.val info fit (s.linkMic info) = false → RxTurned s radio.val info fit (exec (.backfillRx radio info data b) s)) ∧
  (∀ (radio : Fin 2) (info : RxInfo) (id frag : Nat) (buf : Fin 2) (values : List Nat) (s : State),
    let fit := s.backfillSlotNo info.slot && s.pollFits radio.val 4 info.src fun _ => true
    rxTakes s radio.val info fit (s.linkMic info) = false → RxTurned s radio.val info fit (exec (.fragmentRx radio info id buf frag values) s)) ∧
  (∀ (radio : Fin 2) (info : RxInfo) (reason : Nat) (s : State),
    rxTakes s radio.val info (notHeldFits s radio.val info) (s.linkMic info) = false →
    RxTurned s radio.val info (notHeldFits s radio.val info) (exec (.notHeldRx radio info reason) s)) ∧
  -- a second attempt, and the copy a relay heard, report their node and enter its data
  (∀ (radio : Fin 2) (info : RxInfo) (b : UplinkBody) (s : State),
    let fit := !s.sfAux && decide (17 ≤ info.slot) && decide (info.slot ≤ 20) && s.pollFits radio.val 1 info.src fun _ => true
    rxTakes s radio.val info fit (s.linkMic info) = true → QuietBody b → Uncaptured s info.src →
    ∃ t, exec (.retryUpRx radio info b) s = .next t ∧ RxCounted radio.val s t ∧
      NodeReported info.src b (withTdie (reported (s.node info.src) b) ((s.swp.cur.map (·.cycle)).getD 0) b) s t ∧ DataPlaced info.src b 1 s t ∧
      Answered radio.val s t ∧
      OnlyEvents [.link, .swp, .saf] [Reg.LNK_RX_OK radio.val, Reg.NOD_NODE_STAT info.src, Reg.SWP_DUP_MISMATCH] [0x0B] s t) ∧
  (∀ (radio : Fin 2) (info inner : RxInfo) (b : UplinkBody) (s : State),
    rxTakes s radio.val info (detourFits s radio.val info inner) (s.linkMic inner) = true → QuietBody b → Uncaptured s inner.src →
    let n := inner.src
    ∃ t, exec (.detourRx radio info inner b) s = .next t ∧ RxCounted radio.val s t ∧
      NodeReported n b (withTdie (reported (s.node n) b) ((s.swp.cur.map (·.cycle)).getD 0) b) s t ∧ DataPlaced n b 2 s t ∧
      Answered radio.val s t ∧ (s.watcher n 0 = some info.src → t.fld (Reg.NOD_NODE_DET n) 16 8 = 0) ∧
      (s.watcher n 1 = some info.src → t.fld (Reg.NOD_NODE_DET n) 24 8 = 0) ∧ t.fld (Reg.NOD_NODE_DET n) 0 16 = s.fld (Reg.NOD_NODE_DET n) 0 16 ∧
      OnlyEvents [.link, .swp, .saf]
        [Reg.LNK_RX_OK radio.val, Reg.NOD_NODE_STAT n, Reg.NOD_NODE_DET n, Reg.SWP_DUP_MISMATCH] [0x0B] s t) ∧
  -- set flags count in a retry, a detour and a backfill as they do in an uplink
  (∀ (radio : Fin 2) (info : RxInfo) (b : UplinkBody) (s : State),
    let fit := !s.sfAux && decide (17 ≤ info.slot) && decide (info.slot ≤ 20) && s.pollFits radio.val 1 info.src fun _ => true
    rxTakes s radio.val info fit (s.linkMic info) = true → b.ov ≠ 0 ∨ b.uv ≠ 0 ∨ b.tflag ≠ 0 →
    ∃ t, exec (.retryUpRx radio info b) s = .next t ∧ FlagsTrip info.src b s t) ∧
  (∀ (radio : Fin 2) (info inner : RxInfo) (b : UplinkBody) (s : State),
    rxTakes s radio.val info (detourFits s radio.val info inner) (s.linkMic inner) = true → b.ov ≠ 0 ∨ b.uv ≠ 0 ∨ b.tflag ≠ 0 →
    ∃ t, exec (.detourRx radio info inner b) s = .next t ∧ FlagsTrip inner.src b s t) ∧
  (∀ (radio : Fin 2) (info : RxInfo) (data : Nat) (b : UplinkBody) (s : State),
    let fit := s.backfillSlotNo info.slot && s.pollFits radio.val 3 info.src fun _ => true
    rxTakes s radio.val info fit (s.linkMic info) = true → b.ov ≠ 0 ∨ b.uv ≠ 0 ∨ b.tflag ≠ 0 →
    ∃ t, exec (.backfillRx radio info data b) s = .next t ∧ FlagsTrip info.src b s t) ∧
  -- late data enters its record in the ring, in the table and in memory
  (∀ (radio : Fin 2) (info : RxInfo) (data : Nat) (b : UplinkBody) (s : State) (r : SweepRec) (place : Nat),
    let fit := s.backfillSlotNo info.slot && s.pollFits radio.val 3 info.src fun _ => true
    rxTakes s radio.val info fit (s.linkMic info) = true → QuietBody b → s.backfillRec data = some (r, place) → recNode r info.src = none →
    s.lateAge r place < 8 → (s.saf.pset.all fun p => outsideBits p b == 0) = true →
    ∃ t, exec (.backfillRx radio info data b) s = .next t ∧ RxCounted radio.val s t ∧ LateStored info.src b r (s.lateAge r place) s t ∧
      Answered radio.val s t ∧ (t.node info.src).missed = (s.node info.src).missed.filter (fun c => c != r.cycle) ∧
      (t.node info.src).tdie = (withTdie (s.node info.src) r.cycle b).tdie ∧ (∀ k, k ≠ info.src → t.node k = s.node k) ∧
      OnlyEvents [.link, .swp, .saf, .mem] [Reg.LNK_RX_OK radio.val, Reg.SWP_BF_LATE, Reg.SWP_BF_HIST] [0x0B] s t) ∧
  -- late readings outside a limit in two consecutive sweeps of the node latch a demand
  (∀ (radio : Fin 2) (info : RxInfo) (data : Nat) (b : UplinkBody) (s : State) (r m : SweepRec) (d : NodeData) (p : Pset),
    let fit := s.backfillSlotNo info.slot && s.pollFits radio.val 3 info.src fun _ => true
    rxTakes s radio.val info fit (s.linkMic info) = true → QuietBody b → s.swp.ring = [m, r] → s.backfillRec data = some (r, 1) →
    recNode r info.src = none → s.lateAge r 1 < 8 → r.index < m.index → recNode m info.src = some d → s.saf.pset = some p →
    (outsideBits p b &&& outsideBits p d.body) % 2 ^ 16 ≠ 0 →
    ∃ t, exec (.backfillRx radio info data b) s = .next t ∧ t.saf.latched = true ∧ t.saf.sources.testBit 1 = true ∧
      (s.saf.latched = false → t.rd Reg.SAF_FIRST_CAUSE = 2 + info.src * 2 ^ 8)) ∧
  -- data that is in the record already is compared with it
  (∀ (radio : Fin 2) (info : RxInfo) (data : Nat) (b : UplinkBody) (s : State) (r : SweepRec) (place : Nat) (d : NodeData),
    let fit := s.backfillSlotNo info.slot && s.pollFits radio.val 3 info.src fun _ => true
    rxTakes s radio.val info fit (s.linkMic info) = true → QuietBody b → s.backfillRec data = some (r, place) →
    recNode r info.src = some d →
    ∃ t, exec (.backfillRx radio info data b) s = .next t ∧ RxCounted radio.val s t ∧ t.swp = s.swp ∧ Answered radio.val s t ∧
      t.reg Reg.SWP_DUP_MISMATCH = s.reg Reg.SWP_DUP_MISMATCH + w32 (b2n (decide (d.body ≠ b))) ∧
      (t.node info.src).missed = (s.node info.src).missed.filter (fun c => c != r.cycle) ∧
      OnlyEvents [.link, .saf] [Reg.LNK_RX_OK radio.val, Reg.SWP_DUP_MISMATCH] [0x0B] s t) ∧
  -- data of no record in the ring, and data 8 sweeps old, is dropped and counted
  (∀ (radio : Fin 2) (info : RxInfo) (data : Nat) (b : UplinkBody) (s : State),
    let fit := s.backfillSlotNo info.slot && s.pollFits radio.val 3 info.src fun _ => true
    rxTakes s radio.val info fit (s.linkMic info) = true → QuietBody b →
    ((s.backfillRec data).all fun (r, place) => (recNode r info.src).isNone && decide (8 ≤ s.lateAge r place)) = true →
    ∃ t, exec (.backfillRx radio info data b) s = .next t ∧ RxCounted radio.val s t ∧ t.reg Reg.SWP_BF_DROP = s.reg Reg.SWP_BF_DROP + 1 ∧
      Answered radio.val s t ∧ (∀ k, k ≠ info.src → t.node k = s.node k) ∧
      Only [.link, .saf] [Reg.LNK_RX_OK radio.val, Reg.SWP_BF_DROP] s t) ∧
  -- a fragment is stored where its ID and buffer match; the 22nd completes the node's part and releases the buffer
  (∀ (radio : Fin 2) (info : RxInfo) (id frag : Nat) (buf : Fin 2) (values : List Nat) (s : State),
    rxTakes s radio.val info (s.backfillSlotNo info.slot && s.pollFits radio.val 4 info.src fun _ => true) (s.linkMic info) = true →
    let old := (s.est.caps.find? fun c => c.id == id).bind fun c => c.nodes.find? info.src
    let fits := old.any fun x => x.buf == buf.val && decide (frag < 22) && decide (x.frags.length < 22)
    let y : NodeCap := { old.getD { buf := 0 } with frags := (old.getD { buf := 0 }).frags.set frag (values.take 24) }
    let done := fits && y.frags.length == 22
    ∃ t, exec (.fragmentRx radio info id buf frag values) s = .next t ∧ RxCounted radio.val s t ∧ Answered radio.val s t ∧
      t.est = (if fits then
        { s.est with caps := s.est.caps.map fun (c : Capture) => if c.id = id then { c with nodes := c.nodes.set info.src y } else c }
        else s.est) ∧
      t.reg Reg.NOD_CAP_DONE = s.reg Reg.NOD_CAP_DONE + w32 (b2n done) ∧
      t.link.cmds = (if done && s.inControl then s.queueCmd (.release info.src (2 ^ buf.val)) else s).link.cmds ∧
      t.link = { s.link with cmds := t.link.cmds, sf := t.link.sf, hear0 := t.link.hear0, hear1 := t.link.hear1 } ∧
      Only [.link, .est] [Reg.LNK_RX_OK radio.val, Reg.NOD_CAP_DONE] s t) ∧
  -- NOT_HELD of a relay advances its failure count; at 8 the next node takes its place, and LANE entries tell both
  (∀ (radio : Fin 2) (info : RxInfo) (reason n a : Nat) (s : State),
    rxTakes s radio.val info (notHeldFits s radio.val info) (s.linkMic info) = true → s.poll radio.val = some (n, 2, a) → n < 32 →
    s.watcher n 1 ≠ s.watcher n 0 → s.watcher n 0 = some a →
    let k := min 255 (s.fld (Reg.NOD_NODE_DET n) 16 8 + 1)
    ∃ t, exec (.notHeldRx radio info reason) s = .next t ∧ RxCounted radio.val s t ∧ t.poll radio.val = none ∧
      (k < 8 → s.fld (Reg.NOD_NODE_DET n) 24 8 < 8 →
        t.fld (Reg.NOD_NODE_DET n) 16 8 = k ∧ t.fld (Reg.NOD_NODE_DET n) 0 16 = s.fld (Reg.NOD_NODE_DET n) 0 16 ∧
          Answered radio.val s t ∧ t.link.cmds = s.link.cmds) ∧
      (8 ≤ k → ((s.watcherOrder n).filter fun m => some m != s.watcher n 1) ≠ [] →
        t.fld (Reg.NOD_NODE_DET n) 16 8 = 0 ∧ t.fld (Reg.NOD_NODE_DET n) 0 8 ∈ s.watcherOrder n ∧ some (t.fld (Reg.NOD_NODE_DET n) 0 8) ≠ s.watcher n 1 ∧
          ((s.node n).move = none → s.link.wants.find? n = none →
            (t.link.cmds.any fun e => decide (State.entryNode e = some n) && entryRank e == 4) = true)) ∧
      Only [.link] [Reg.LNK_RX_OK radio.val, Reg.NOD_NODE_DET n] s t) ∧
  -- a sweep the node does not hold is asked for no more; a buffer it does not hold is an abandoned capture; any other reason ends the poll alone
  (∀ (radio : Fin 2) (info : RxInfo) (reason arg : Nat) (s : State),
    rxTakes s radio.val info (notHeldFits s radio.val info) (s.linkMic info) = true → s.poll radio.val = some (info.src, 3, arg) →
    ∃ t, exec (.notHeldRx radio info reason) s = .next t ∧ RxCounted radio.val s t ∧ Answered radio.val s t ∧
      t.node info.src = (if reason = 2 then
        { s.node info.src with missed := (s.node info.src).missed.filter fun c => c % 256 != arg } else s.node info.src) ∧
      (∀ k, k ≠ info.src → t.node k = s.node k) ∧ t.link.cmds = s.link.cmds ∧ Only [.link] [Reg.LNK_RX_OK radio.val] s t) ∧
  (∀ (radio : Fin 2) (info : RxInfo) (reason arg : Nat) (s : State) (c : Capture) (x : NodeCap),
    rxTakes s radio.val info (notHeldFits s radio.val info) (s.linkMic info) = true → s.poll radio.val = some (info.src, 4, arg) →
    s.est.caps = [c] → c.nodes = [(info.src, x)] →
    let gone := reason == 3 && x.buf == arg / 128 && x.accepted && decide (x.frags.length < 22)
    ∃ t, exec (.notHeldRx radio info reason) s = .next t ∧ RxCounted radio.val s t ∧ Answered radio.val s t ∧
      t.est = (if gone then { s.est with caps := [{ c with gone := c.gone ||| 2 ^ info.src, nodes := [] }] } else s.est) ∧
      t.reg Reg.NOD_CAP_ABANDON = s.reg Reg.NOD_CAP_ABANDON + w32 (b2n gone) ∧ (gone = true → evt t 0x0A 5 = true) ∧
      t.link.cmds = (if gone && s.inControl then s.queueCmd (.release info.src (2 ^ x.buf)) else s).link.cmds ∧
      OnlyEvents [.link, .est] [Reg.LNK_RX_OK radio.val, Reg.NOD_CAP_ABANDON] [0x0A] s t) ∧
  -- a SHADOW that polls nothing only counts the frame
  (∀ (radio : Fin 2) (info : RxInfo) (reason : Nat) (s : State),
    rxTakes s radio.val info (notHeldFits s radio.val info) (s.linkMic info) = true → s.poll radio.val = none →
    ∃ t, exec (.notHeldRx radio info reason) s = .next t ∧ RxCounted radio.val s t ∧
      t.link = { s.link with hear0 := t.link.hear0, hear1 := t.link.hear1 } ∧ Only [.link] [Reg.LNK_RX_OK radio.val] s t) ∧
  -- the named node takes the place it is given, and JOIN_ACCEPT tells it
  (∀ (radio : Fin 2) (info : RxInfo) (nn : Word) (fw rc : Nat) (s : State) (n lr lane : Nat) (e : PlanEntry),
    rxTakes s radio.val info (joinFits s radio.val info.slot) info.micOk = true → s.serves radio.val = true → s.joinAdv radio.val = some n →
    s.planOf n = some e → s.joinPlace radio.val n e = some (lr, lane) → lr < 2 → lane < 16 →
    let body (t : State) := leBytes 16 t.kNet ++ leBytes 2 t.nv.epoch ++ [n, lr, lane, e.w0, e.w1, s.rd Reg.NOD_PLAN_VER % 256] ++ leBytes 5 s.link.chMask ++ wordBytes nn
    let slot := if s.sfAux then 34 else 30
    ∃ t, exec (.joinReqRx radio info nn fw rc) s = .next t ∧ t.joined n = true ∧ t.bit Reg.NOD_JOINED_MASK n = true ∧ t.nodeRadio n = lr ∧
      t.nodeLane n = lane ∧ t.laneNode lr lane = some n ∧ t.fld (Reg.NOD_NODE_DET n) 0 16 = (e.w0 + 256 * e.w1) % 2 ^ 16 ∧
      (s.laneNode (s.nodeRadio n) (s.nodeLane n) = some n → (s.nodeRadio n ≠ lr ∨ s.nodeLane n ≠ lane) →
        t.laneNode (s.nodeRadio n) (s.nodeLane n) = none) ∧
      t.node n = { s.node n with move := none, lostAt := none, missed := [], groups := [] } ∧ (∀ k, k ≠ n → t.node k = s.node k) ∧
      t.link.objs.testBit n = true ∧ (s.link.objs.testBit n = false → evt t 0x0A 1 = true ∧ t.handleOf .node n ≠ s.handleOf .node n) ∧
      t.joinAdv radio.val = none ∧ t.link.rejoin.testBit n = false ∧ evt t 0x0A 0 = true ∧ t.link.plan = s.link.plan ∧
      t.link.cmds = s.link.cmds.filter (fun e => !(decide (State.entryNode e = some n) && (entryRank e == 4 || entryRank e == 5))) ∧
      -- the first join under no key draws K_NET
      (s.nv.knet = none → t.nv = { s.nv with knet := some (draw128 s.draws), epoch := 0 } ∧ t.draws = s.draws + 4) ∧
      (s.nv.knet.isSome = true → t.nv = s.nv ∧ t.draws = s.draws) ∧
      -- a node that comes back after a reset has its broken wires forgotten
      t.bit (Reg.NOD_NODE_STAT n) 25 = false ∧ (s.bit (Reg.NOD_NODE_STAT n) 25 = true → ∀ w, w < 17 → (t.wire n w).confirmed = false) ∧
      (if radio.val = 0 then t.link.sent0 = some (0xD, body t) else t.link.sent1 = some (0xD, body t)) ∧
      (if radio.val = 0 then t.link.air0 else t.link.air1) =
        airFrame joinSync (airPdu (.join e.key s.nv.jctr) (t.airHead radio.val 0xD slot) [] (body t)) ∧
      RxCounted radio.val s t ∧ t.reg (Reg.LNK_TX_FRAMES radio.val) = s.reg (Reg.LNK_TX_FRAMES radio.val) + 1 ∧
      OnlyPages [.link, .swp, .nv, .draws, .gens, .pair, .recd, .free] [8, 9, 0x0A, 0x1B] s t) ∧
  -- without a plan entry or a lane, and in a module that has ceased to transmit, it is not accepted
  (∀ (radio : Fin 2) (info : RxInfo) (nn : Word) (fw rc n : Nat) (s : State),
    rxTakes s radio.val info (joinFits s radio.val info.slot) info.micOk = true → s.joinAdv radio.val = some n →
    s.serves radio.val = false ∨ s.planOf n = none ∨ ((s.planOf n).any fun e => (s.joinPlace radio.val n e).isNone) = true →
    OnlyCounted radio.val s (exec (.joinReqRx radio info nn fw rc) s)) ∧
  -- a request under a bad MIC is counted as such
  (∀ (radio : Fin 2) (info : RxInfo) (nn : Word) (fw rc : Nat) (s : State),
    rxTakes s radio.val info (joinFits s radio.val info.slot) true = true → info.micOk = false →
    ∃ t, exec (.joinReqRx radio info nn fw rc) s = .next t ∧ t.reg (Reg.LNK_RX_MIC radio.val) = s.reg (Reg.LNK_RX_MIC radio.val) + 1 ∧
      evt t 0x0A 8 = true ∧ evt t (8 + radio.val) 3 = true ∧
      OnlyEvents [] [Reg.LNK_RX_MIC radio.val] [8 + radio.val, 0x0A] s t) ∧
  (∀ (radio : Fin 2) (info : RxInfo) (nn : Word) (fw rc : Nat) (s : State),
    rxTakes s radio.val info (joinFits s radio.val info.slot) true = false →
    RxTurned s radio.val info (joinFits s radio.val info.slot) (exec (.joinReqRx radio info nn fw rc) s)) ∧
  -- serials answer a DISCOVER; the FIFO holds 16
  (∀ (radio : Fin 2) (info : RxInfo) (serial : Nat) (s : State),
    let fit := s.joinAdv radio.val == some 32 && info.slot == if s.sfAux then 34 else 30
    rxTakes s radio.val info fit true = true →
    ∃ t, exec (.discReplyRx radio info serial) s = .next t ∧ RxCounted radio.val s t ∧
      t.link = { s.link with
        hear0 := t.link.hear0, hear1 := t.link.hear1,
        disc := if s.link.disc.length < 16 then s.link.disc ++ [serial % 2 ^ 64] else s.link.disc } ∧
      (s.link.disc.length < 16 → evt t 0x0A 7 = true) ∧
      (if s.link.disc.length < 16 then OnlyEvents [.link] [Reg.LNK_RX_OK radio.val] [0x0A] s t
        else Only [.link] [Reg.LNK_RX_OK radio.val] s t)) ∧
  (∀ (radio : Fin 2) (info : RxInfo) (serial : Nat) (s : State),
    let fit := s.joinAdv radio.val == some 32 && info.slot == if s.sfAux then 34 else 30
    rxTakes s radio.val info fit true = false → RxTurned s radio.val info fit (exec (.discReplyRx radio info serial) s))

/-- A radio has sent a frame in a slot of the present superframe (R49, R50, R52, R53). -/
abbrev AirSent (l typ slot : Nat) (aad body : List Nat) (s t : State) : Prop :=
  (if l = 0 then t.link.sent0 else t.link.sent1) = some (typ, body) ∧
    (if l = 0 then t.link.air0 else t.link.air1) =
      airFrame (netSync t.kNet) (airPdu (.link (kLink t.kNet t.nv.epoch) t.nv.epoch) (t.airHead l typ slot) aad body) ∧
    t.reg (Reg.LNK_TX_FRAMES l) = s.reg (Reg.LNK_TX_FRAMES l) + 1

/-- A radio begins a superframe: its registers, and its beacon where it transmits (R55, R56, R60, R66). -/
abbrev RadioBegins (c : Nat) (aux : Bool) (seq l : Nat) (s t : State) : Prop :=
  let odo (k : Nat) := (s.tim.odo + BitVec.ofNat 64 k).toNat
  let body := leBytes 3 (if aux then 0 else 250000 - (10000 + txCal l)) ++ [t.gau.swpDiv - 1 + 8 * b2n aux + 16 * b2n s.pair.slotB + 32, s.rd Reg.NOD_PLAN_VER % 256, seq] ++ leBytes 2 t.periodField ++ [0]
  if s.lnkState l = 0 ∨ s.lnkState l = 3 then
    ∀ a, a / 0x1000 = 8 + l → t.reg a = s.reg a
  else t.reg (Reg.LNK_SF_CYCLE l) = w32 c ∧ t.reg (Reg.LNK_CH_CUR l) = w32 (t.chCur l c) ∧
    t.bit (Reg.LNK_LNK_STAT l) 16 = t.nv.epoch.testBit 0 ∧
    (aux = false → t.reg (Reg.LNK_SMP_ODO_LO l) = w32 (odo 250000) ∧ t.reg (Reg.LNK_SMP_ODO_HI l) = w32 (odo 250000 / 2 ^ 32)) ∧
    (s.lnkState l = 2 →
      t.reg (Reg.LNK_BCN_ODO_LO l) = w32 (odo (10000 + txCal l)) ∧ t.reg (Reg.LNK_BCN_ODO_HI l) = w32 (odo (10000 + txCal l) / 2 ^ 32) ∧
        AirSent l 1 0 (leBytes 4 c ++ leBytes 2 t.nv.epoch) body s t)

/-- The key epoch advances at the beacon where it is due; past 0xFFFF a new K_NET is drawn and every node named anew (R54). -/
abbrev EpochStep (s t : State) : Prop :=
  if s.inControl = true ∧ (s.link.epochDue = true ∨ 2 ^ 30 ≤ sdiff 48 s.gau.cyc s.link.epochAt) then
    t.link.epochDue = false ∧ t.link.epochAt = s.gau.cyc ∧
      if s.nv.epoch = 0xFFFF then
        t.nv = { s.nv with knet := some (draw128 s.draws), epoch := 0 } ∧ t.draws = s.draws + 4 ∧ t.link.epochOld = 0 ∧
          (s.planNodes.all fun n => t.link.rejoin.testBit n) = true
      else t.nv = { s.nv with epoch := s.nv.epoch + 1 } ∧ t.draws = s.draws ∧ t.link.epochOld = 3
  else t.nv = s.nv ∧ t.draws = s.draws ∧ t.link.epochDue = s.link.epochDue ∧
    t.link.epochOld = s.link.epochOld - (if s.link.epochAt = s.gau.cyc then 0 else 1)

/-- An entry stays in the queue: a FREEZE only while a node's ring still holds its samples (R70). -/
def entryStays (s : State) (e : CmdEntry) : Bool :=
  match e with
  | .freeze id .. => s.est.caps.any fun c => c.id == id && decide (s.since c.ts ≤ msT 248)
  | _ => true

/-- The command frame of a radio: the entries in the order of R18 with the balance plan, which goes first behind a CHMASK once it has waited two
superframes; nodes under test have ON_MASK 0; an entry that does not fit is left out (R18, R65, R103, R106). -/
def frameOf (s : State) (l : Nat) (aux : Bool) : List CmdEntry :=
  let mine := s.link.cmds.filter fun e =>
    entryStays s e && (State.entryNode e).all (fun n => s.entryRadio n == l) && !(aux && entryRank e == 3)
  let sent := if aux then (s.swp.owts.filter fun o => o.sent && o.sweep.isNone).map (·.node) else []
  let tests := sent ++ (mine.filter fun e => entryRank e == 3).filterMap State.entryNode
  let gs := (s.link.balPlan.filter fun g => s.nodeRadio g.node == l).map fun g => if tests.contains g.node then { g with mask := 0 } else g
  let bal : List CmdEntry := if gs.isEmpty then [] else [.bal gs]
  let list := if (if l = 0 then s.link.balWait0 else s.link.balWait1) < 2 then mine ++ bal else mine.filter (entryRank · == 0) ++ bal ++ mine.filter (entryRank · != 0)
  placeEntries 125 list

/-- Where no poll was left unanswered: the command frames, and what a superframe resets of each node (R16, R73, R74, R82). -/
abbrev Composed (aux : Bool) (f : Superframe) (s t : State) : Prop :=
  f.frame0 = (if s.inControl then frameOf s 0 aux else []) ∧ f.frame1 = (if s.inControl then frameOf s 1 aux else []) ∧
    t.link.cmds = s.link.cmds.filter (entryStays s) ∧
    t.link.nodes = s.link.nodes.map (fun (n, x) => (n, { x with first := false, retries := 0, heard := 0, move := x.move.map fun m => { m with accept := m.accept.map (· - 1) } })) ∧
    f.poll0 = none ∧ f.poll1 = none ∧ f.join0 = none ∧ f.join1 = none ∧ f.asked = []

/-- The superframe of cycle `c` and its sweep have opened (R38, R54, R58, R60, R66, R69, R92, R93, R103, R134). -/
abbrev SweepOpened (c : Nat) (f : Superframe) (r : SweepRec) (s t : State) : Prop :=
  let smp := s.tim.odo + 250000#64
  t.link.sf = some f ∧ f.cycle = c ∧ f.aux = false ∧ f.start = s.tim.odo ∧ f.served = s.inControl ∧ f.cmdSeq = t.link.cmdSeq ∧
    t.link.cmdSeq = (if s.inControl then (s.link.cmdSeq + 1) % 256 else s.link.cmdSeq) ∧ EpochStep s t ∧
    RadioBegins c false t.link.cmdSeq 0 s t ∧ RadioBegins c false t.link.cmdSeq 1 s t ∧
    t.swp.cur = some r ∧
    r = { cycle := c, index := c / s.gau.swpDiv, smpOdo := smp, angle := r.angle, freq := s.freqMicroHz, rflags := 256 * b2n (s.gau.src != .phref), tests := r.tests } ∧
    t.swp.owts = s.swp.owts.map (fun (o : Owt) => if o.sent && o.sweep.isNone then { o with sweep := some c } else o) ∧
    r.tests = (t.swp.owts.filter fun o => o.sweep == some c).map (fun o => (o.node, o.wire)) ∧ t.swp.ring = s.swp.ring ∧
    t.est = { s.est with ditherArm := t.est.ditherArm, caps := s.est.caps.map fun (x : Capture) => { x with after := (x.after ++ [smp]).take 3 } } ∧
    t.gau.lastSweep = some c ∧ t.gau.lastSuper = some c ∧ t.gau.lateSweep = none ∧ t.gau.pos = s.gau.pos ∧ t.gau.cyc = s.gau.cyc ∧
    t.gau.src = s.gau.src ∧ t.ctl = { s.ctl with diffMax := 0 }

/-- SWEEP_WAYMARK, AUX_SUPERFRAME (R15, R16, R18, R38, R54, R58, R60, R66, R92, R239, R389): a superframe opens once for its cycle. The model's choices it
rests on: log entries 15, 35, 104, 114. -/
def Obligations.SuperframesOpen : Prop :=
  (∀ (s : State),
    let c := s.newestFired s.gau.pos
    c % s.gau.swpDiv = 0 → (s.gau.lastSweep.all fun l => decide (0 < sdiff 48 c l)) = true →
    ∃ t f r, exec .sweepWaymark s = .next t ∧ SweepOpened c f r s t ∧
      t.link.heard0 = s.link.hear0 ∧ t.link.heard1 = s.link.hear1 ∧
      t.link.hear0 = false ∧ t.link.hear1 = false ∧
      -- a SHADOW compares its control engine with the partner's over the period just ended (R239)
      (s.isShadow = true →
        t.pair = { s.pair with ctlOk := s.pair.ctlWhole && decide (s.ctl.diffMax ≤ s.fld Reg.CTL_DIS_CFG 0 24), ctlWhole := true } ∧
          t.reg Reg.CSW_CTL_DIFF = (if s.pair.ctlWhole then w32 s.ctl.diffMax else s.reg Reg.CSW_CTL_DIFF)) ∧
      (s.isShadow = false → t.pair = s.pair ∧ t.reg Reg.CSW_CTL_DIFF = s.reg Reg.CSW_CTL_DIFF) ∧
      OnlyPages [.gau, .link, .swp, .est, .nv, .draws, .ctl, .pair] [7, 8, 9, 0x0A, 0x1B] s t) ∧
  (∀ (s : State),
    let c := s.newestFired s.gau.pos
    c % s.gau.swpDiv = 0 → (s.gau.lastSweep.all fun l => decide (0 < sdiff 48 c l)) = true → s.poll 0 = none → s.poll 1 = none →
    ∃ t f, exec .sweepWaymark s = .next t ∧ t.link.sf = some f ∧ Composed false f s t) ∧
  -- no second superframe opens for a cycle, and none of a sweep between the sweeps
  (∀ (s : State),
    let c := s.newestFired s.gau.pos
    c % s.gau.swpDiv ≠ 0 ∨ (s.gau.lastSweep.any fun l => decide (sdiff 48 c l ≤ 0)) = true →
    exec .sweepWaymark s = .next s) ∧
  -- a sweep that a jump passes opens at once, LATE
  (∀ (s : State) (k : Nat), s.gau.biasAt = some k → 0 ≤ sdiff 48 s.gau.cyc k → s.gau.src = .nominal →
    let u := s.setReg Reg.GAU_CYC_BIAS (s.reg Reg.GAU_CYC_BIAS_NEXT)
    let new := posWrap (s.gau.pos + roundCycles (posDiff (posWrap u.nominalPos) s.gau.pos) * 2 ^ 64)
    let c := s.newestSweepCycle (s.newestFired new)
    0 < posDiff new s.gau.pos → 0 < posDiff (s.firePos c) s.gau.pos → (s.gau.lastSweep.all fun l => decide (0 < sdiff 48 c l)) = true →
    ∃ t f r, exec .biasChange s = .next t ∧ evt t 7 5 = true ∧ t.link.sf = some f ∧ f.cycle = c ∧ f.aux = false ∧ f.start = s.tim.odo ∧
      t.swp.cur = some r ∧ r.cycle = c ∧ t.gau.lastSweep = some c ∧ t.gau.lastSuper = some c ∧ t.gau.lateSweep = none ∧ t.gau.pos = new ∧
      OnlyGrid s t) ∧
  -- an auxiliary superframe in a cycle between sweeps
  (∀ (s : State),
    let c := s.newestFired s.gau.pos
    c % s.gau.swpDiv ≠ 0 → (s.gau.lastSuper.all fun l => decide (0 < sdiff 48 c l)) = true →
    ∃ t f, exec .auxSuperframe s = .next t ∧ t.link.sf = some f ∧ f.cycle = c ∧ f.aux = true ∧ f.start = s.tim.odo ∧
      f.served = s.inControl ∧ f.cmdSeq = t.link.cmdSeq ∧
      t.link.cmdSeq = (if s.inControl then (s.link.cmdSeq + 1) % 256 else s.link.cmdSeq) ∧ EpochStep s t ∧
      RadioBegins c true t.link.cmdSeq 0 s t ∧ RadioBegins c true t.link.cmdSeq 1 s t ∧ t.gau = { s.gau with lastSuper := some c } ∧
      t.link.hear0 = s.link.hear0 ∧ t.link.hear1 = s.link.hear1 ∧
      (s.poll 0 = none → s.poll 1 = none → Composed true f s t) ∧
      OnlyPages [.gau, .link, .nv, .draws] [8, 9, 0x0A] s t) ∧
  (∀ (s : State),
    let c := s.newestFired s.gau.pos
    c % s.gau.swpDiv = 0 ∨ (s.gau.lastSuper.any fun l => decide (sdiff 48 c l ≤ 0)) = true →
    exec .auxSuperframe s = .next s)

/-- The radio has sent a POLL (R62). -/
abbrev Polls (l slot n k a : Nat) (s t : State) : Prop := t.poll l = some (n, k, a) ∧ AirSent l 3 slot [] [n, k, a] s t

/-- What an entry of a sent command frame leaves behind: an OWT, a RELEASE and a REJOIN go once; the others note the CMDSEQ that an echo will
name (R65, R70, R82, R103, R113). -/
def entryDone (seq l : Nat) (frame : List CmdEntry) (s t : State) (e : CmdEntry) : Bool :=
  match e with
  | .chmask .. => t.link.cmds.contains e == s.link.cmds.contains e
  | .freeze id _ _ map =>
    t.est.caps.all fun c => c.id != id || c.nodes.all fun (n, x) => (map.find? n).isNone || s.nodeRadio n != l || x.seqs.contains seq
  | .lane n .. => (t.node n).move.all fun m => m.seqs.contains seq
  | .bal gs => gs.all fun g =>
      let same := frame.flatMap fun e => match e with
        | .bal hs => hs.filter fun h => h.node == g.node
        | _ => []
      decide (16 < same.length) || (t.node g.node).groups.any fun x => x.group == g && x.seq == seq && x.sent == s.tim.odo
  | .owt n w => !t.link.cmds.contains e && t.swp.owts.all fun o => o.node != n || o.wire != w || o.sent
  | .release .. => !t.link.cmds.contains e
  | .rejoin _ => !t.link.cmds.contains e

/-- RETRY_SLOT, DETOUR_SLOT, BACKFILL_SLOT, COMMAND_SLOT, JOIN_SLOT (R54, R56, R62, R65, R70, R73, R75, R76, R78, R79, R103, R117). The model's choices it
rests on: log entries 31, 40, 114, 115. -/
def Obligations.SlotsServed : Prop :=
  -- a retry slot polls the node with the highest MISS, then the lowest lane, of those asked the fewest times
  (∀ (radio : Fin 2) (slot : Nat) (s : State), s.serves radio.val = true → s.sfAux = false → 17 ≤ slot → slot ≤ 20 → s.poll radio.val = none →
    let wait := (s.missingNodes radio.val).filter fun n => decide ((s.node n).retries < 2)
    wait ≠ [] →
    ∃ t n, exec (.retrySlot radio slot) s = .next t ∧ n ∈ wait ∧
      (∀ m ∈ wait, s.retryKey (s.node n).retries n ≤ s.retryKey (s.node m).retries m) ∧ Polls radio.val slot n 1 0 s t ∧
      t.node n = { s.node n with retries := (s.node n).retries + 1 } ∧ (∀ k, k ≠ n → t.node k = s.node k) ∧
      Only [.link] [Reg.LNK_TX_FRAMES radio.val] s t) ∧
  (∀ (radio : Fin 2) (slot : Nat) (s : State), s.poll radio.val = none →
    (s.missingNodes radio.val).filter (fun n => decide ((s.node n).retries < 2)) = [] → exec (.retrySlot radio slot) s = .next s) ∧
  -- a detour slot polls through the first watcher that may know
  (∀ (radio : Fin 2) (slot : Nat) (s : State), s.serves radio.val = true → s.sfAux = false → 21 ≤ slot → slot ≤ 22 → s.poll radio.val = none →
    let wait := (s.missingNodes radio.val).filter fun n => (s.relayFor n).isSome
    let key (n : Nat) := s.retryKey (s.askedFor n).length n
    wait ≠ [] →
    ∃ t n w, exec (.detourSlot radio slot) s = .next t ∧ n ∈ wait ∧ (∀ m ∈ wait, key n ≤ key m) ∧ s.relayFor n = some w ∧
      Polls radio.val slot n 2 w s t ∧ w ∈ t.askedFor n ∧ t.link.nodes = s.link.nodes ∧ Only [.link] [Reg.LNK_TX_FRAMES radio.val] s t) ∧
  (∀ (radio : Fin 2) (slot : Nat) (s : State), s.poll radio.val = none →
    (s.missingNodes radio.val).filter (fun n => (s.relayFor n).isSome) = [] → exec (.detourSlot radio slot) s = .next s) ∧
  (∀ (radio : Fin 2) (slot n k a : Nat) (s : State), s.serves radio.val = true → s.backfillSlotNo slot = true → s.poll radio.val = none →
    s.backfillAsk radio.val = some (n, k, a) →
    ∃ t, exec (.backfillSlot radio slot) s = .next t ∧ Polls radio.val slot n k a s t ∧ t.link.nodes = s.link.nodes ∧
      Only [.link] [Reg.LNK_TX_FRAMES radio.val] s t) ∧
  (∀ (radio : Fin 2) (slot : Nat) (s : State), s.poll radio.val = none → s.backfillAsk radio.val = none →
    exec (.backfillSlot radio slot) s = .next s) ∧
  -- a module that does not serve the superframe sends nothing, nor does a slot of another kind
  (∀ (radio : Fin 2) (slot : Nat) (s : State), s.serves radio.val = false →
    exec (.retrySlot radio slot) s = .next s ∧ exec (.detourSlot radio slot) s = .next s ∧ exec (.backfillSlot radio slot) s = .next s ∧
      exec (.commandSlot { radio := radio }) s = .next s) ∧
  (∀ (radio : Fin 2) (slot : Nat) (s : State),
    (slot < 17 ∨ 20 < slot ∨ s.sfAux = true → exec (.retrySlot radio slot) s = .next s) ∧
      (slot < 21 ∨ 22 < slot ∨ s.sfAux = true → exec (.detourSlot radio slot) s = .next s) ∧
      (s.backfillSlotNo slot = false → exec (.backfillSlot radio slot) s = .next s)) ∧
  -- a poll left unanswered ends at the next slot of its radio; a detour so asked has failed its watcher
  (∀ (radio : Fin 2) (slot n k a : Nat) (s : State), s.serves radio.val = true → s.poll radio.val = some (n, k, a) →
    let d := min 255 (s.fld (Reg.NOD_NODE_DET n) 16 8 + 1)
    k ≠ 2 ∨ s.watcher n 0 = some a ∧ s.watcher n 1 ≠ some a ∧ d < 8 ∧ s.fld (Reg.NOD_NODE_DET n) 24 8 < 8 →
    let u := (if k = 2 then s.setFld (Reg.NOD_NODE_DET n) 16 8 d else s).setPoll radio.val none
    (s.sfAux = false → 17 ≤ slot → slot ≤ 20 → exec (.retrySlot radio slot) s = exec (.retrySlot radio slot) u) ∧
      (s.sfAux = false → 21 ≤ slot → slot ≤ 22 → exec (.detourSlot radio slot) s = exec (.detourSlot radio slot) u) ∧
      (s.backfillSlotNo slot = true → exec (.backfillSlot radio slot) s = exec (.backfillSlot radio slot) u) ∧
      exec (.commandSlot { radio := radio }) s = exec (.commandSlot { radio := radio }) u ∧ exec (.joinSlot radio) s = exec (.joinSlot radio) u) ∧
  -- the command frame composed at the waymark is sent
  (∀ (radio : Fin 2) (b : Bool) (h : Option (Nat × List FreezeEntry)) (s : State) (f : Superframe), s.link.sf = some f → s.serves radio.val = true →
    s.poll radio.val = none →
    let frame := if radio.val = 0 then f.frame0 else f.frame1
    ∃ t, exec (.commandSlot ⟨radio, b, h⟩) s = .next t ∧ AirSent radio.val 0xA (if f.aux then 33 else 29) [] (frame.flatMap entryBytes) s t ∧
      (frame.all (entryDone f.cmdSeq radio.val frame s t)) = true ∧
      t.link.cmds = s.link.cmds.filter (fun e => !(frame.contains e && [2, 3, 5].contains (entryRank e))) ∧
      t.reg Reg.SWP_OWT_RUN = s.reg Reg.SWP_OWT_RUN + w32 (frame.filter fun e => entryRank e == 3).length ∧ t.link.sf = s.link.sf ∧
      Only [.link, .est, .swp] [Reg.LNK_TX_FRAMES radio.val, Reg.SWP_OWT_RUN] s t) ∧
  -- a radio that listens takes in the partner's beacon, and what follows it
  (∀ (radio : Fin 2) (h : Option (Nat × List FreezeEntry)) (s : State), s.link.sf = none ∨ s.lnkState radio.val ≠ 1 →
    exec (.commandSlot ⟨radio, true, h⟩) s = exec (.commandSlot ⟨radio, false, h⟩) s) ∧
  (∀ (radio : Fin 2) (h : Option (Nat × List FreezeEntry)) (s : State), s.link.sf.isSome = true → s.lnkState radio.val = 1 →
    ∃ t, exec (.commandSlot ⟨radio, true, none⟩) s = .next t ∧ RxCounted radio.val s t ∧
      t.link = { s.link with hear0 := t.link.hear0, hear1 := t.link.hear1 } ∧ Only [.link] [Reg.LNK_RX_OK radio.val] s t ∧
      exec (.commandSlot ⟨radio, true, h⟩) s = exec (.commandSlot ⟨radio, false, h⟩) t) ∧
  -- a SHADOW takes the partner's FREEZE as its own capture, and a repetition tells it the CMDSEQ to look for
  (∀ (radio : Fin 2) (seq : Nat) (fs : List FreezeEntry) (s : State), s.serves radio.val = false →
    s.link.sf = none ∨ s.isShadow = false ∨ s.lnkState radio.val ≠ 1 → exec (.commandSlot ⟨radio, false, some (seq, fs)⟩) s = .next s) ∧
  (∀ (radio : Fin 2) (seq : Nat) (fe : FreezeEntry) (s : State), s.link.sf.isSome = true → s.isShadow = true → s.lnkState radio.val = 1 →
    let known := s.est.caps.any fun c => c.id == fe.id && c.cycle % 2 ^ 32 == fe.cycle
    let sweep := s.swp.smps.find? fun (k, _) => k % 2 ^ 32 == fe.cycle
    let note (x : NodeCap) (n : Nat) : NodeCap := if s.nodeRadio n = radio.val then { x with seqs := seq :: x.seqs } else x
    ∃ t, exec (.commandSlot ⟨radio, false, some (seq, [fe])⟩) s = .next t ∧ RxCounted radio.val s t ∧
      t.link = { s.link with hear0 := t.link.hear0, hear1 := t.link.hear1 } ∧
      (known = true → t.est = { s.est with caps := s.est.caps.map fun (c : Capture) => if c.id = fe.id then { c with nodes := c.nodes.map fun (n, x) => (n, note x n) } else c }) ∧
      (known = false → sweep = none ∨ 8 ≤ s.est.caps.length → t.est = s.est) ∧
      (known = false → sweep.isSome = true → s.est.caps.length < 8 →
        t.est.caps.length = s.est.caps.length + 1 ∧ t.est.nextCap = (fe.id + 1) % 256 ∧
          (t.est.caps.getLast?.any fun c => c.id == fe.id && c.cycle % 2 ^ 32 == fe.cycle && c.j == fe.j && some (c.cycle, c.sk) == sweep &&
            (List.range 32).all fun n =>
              let m := fe.map / 4 ^ n % 4
              if m = 1 ∨ m = 2 then c.nodes.find? n == some (note { buf := m - 1 } n) else (c.nodes.find? n).isNone) = true) ∧
      Only [.link, .est, .recd, .free] [Reg.LNK_RX_OK radio.val] s t) ∧
  -- the join slot names the next node that waits, or discovers; JCTR advances; the superframe ends
  (∀ (radio : Fin 2) (s : State) (f : Superframe), s.link.sf = some f → s.radioHears radio.val = true → s.serves radio.val = true →
    s.poll radio.val = none →
    let l := radio.val
    let named := if s.bit Reg.NOD_NOD_CFG 0 then s.nextNamed l (joinPos l f.cycle) else none
    let discover := s.bit Reg.NOD_NOD_CFG 1 && (s.pair.mode == .commission || s.pair.mode == .service)
    let jctr := (s.nv.jctr + 1) % 2 ^ 32
    let slot := if s.sfAux then 34 else 30
    let aad (serial : Nat) := leBytes 4 f.cycle ++ leBytes 8 serial ++ leBytes 4 jctr
    let air (t : State) := if l = 0 then t.link.air0 else t.link.air1
    ∃ t, exec (.joinSlot radio) s = .next t ∧ evt t (8 + l) 0 = true ∧
      t.joinAdv l = (if named.isSome then named else if discover then some 32 else none) ∧
      (named.isSome = true ∨ discover = true →
        t.nv = { s.nv with jctr := jctr } ∧ (if l = 0 then t.link.sent0 else t.link.sent1) = some (0xB, []) ∧
          t.reg (Reg.LNK_TX_FRAMES l) = s.reg (Reg.LNK_TX_FRAMES l) + 1) ∧
      (named.isSome = true → t.link.turn.get 32 (l * 3 + joinPos l f.cycle) = named.getD 0) ∧
      ((named.bind s.planOf).all fun e => decide (air t = airFrame joinSync (airPdu (.join e.key jctr) (s.airHead l 0xB slot) (aad e.serial) []))) = true ∧
      (named = none → discover = true → s.planOf 32 = none →
        air t = airFrame joinSync (airPdu .clear (s.airHead l 0xB slot) (aad (2 ^ 64 - 1)) [])) ∧
      (named = none → discover = false → t.nv = s.nv ∧ t.reg (Reg.LNK_TX_FRAMES l) = s.reg (Reg.LNK_TX_FRAMES l)) ∧
      OnlyEvents [.link, .nv] [Reg.LNK_TX_FRAMES l] [8 + l] s t) ∧
  (∀ (radio : Fin 2) (s : State), s.link.sf.isSome = true → s.radioHears radio.val = true → s.serves radio.val = false → s.poll radio.val = none →
    ∃ t, exec (.joinSlot radio) s = .next t ∧ evt t (8 + radio.val) 0 = true ∧ OnlyEvents [] [] [8 + radio.val] s t) ∧
  (∀ (radio : Fin 2) (s : State), s.link.sf = none ∨ s.radioHears radio.val = false → exec (.joinSlot radio) s = .next s)

/-- RADIO_TX_FAULT, PLL_UNLOCK, LOOPBACK_TEST, CAPTURE_ABANDON, NODE_FORGET, LANE_CHANGE, LANE_ACCEPT_END, CHMASK_EFFECTIVE (R57, R72, R80, R82, R233,
R240). The model's choices it rests on: log entries 15, 28, 33, 116. -/
def Obligations.LinkEventsAndDeadlines : Prop :=
  -- a transmit fault stops the radio; what the module does with its role is R233
  (∀ (radio : Fin 2) (s : State), s.bit (Reg.LNK_LNK_CFG radio.val) 0 = true →
    ∃ t, exec (.radioTxFault radio) s = .next t ∧ t.bit (Reg.LNK_LNK_STAT radio.val) 3 = true ∧ t.poll radio.val = none ∧
      evt t (8 + radio.val) 1 = true ∧
      (s.pair.role = .active → s.partnerFit = true →
        t.pair.role = .shadow ∧ t.pair.claim = false ∧ t.rd Reg.RED_LAST_CAUSE = 1 ∧ t.reg Reg.RED_RESIGNS = s.reg Reg.RED_RESIGNS + 1 ∧
          evt t 0x1C 3 = true) ∧
      (s.pair.role = .active → s.partnerFit = false →
        t.pair.role = .active ∧ 1 ∈ t.pair.blocked ∧ evt t 0x1C 7 = true ∧
          OnlyEvents [.link, .pair] [Reg.LNK_LNK_STAT radio.val] [8 + radio.val, 0x1C] s t) ∧
      (s.pair.role = .solo →
        t.pair.role = .solo ∧ 1 ∈ t.pair.blocked ∧ OnlyEvents [.link, .pair] [Reg.LNK_LNK_STAT radio.val] [8 + radio.val] s t) ∧
      (s.inControl = false → OnlyEvents [.link] [Reg.LNK_LNK_STAT radio.val] [8 + radio.val] s t)) ∧
  (∀ (radio : Fin 2) (locked : Bool) (s : State), s.bit (Reg.LNK_LNK_CFG radio.val) 0 = true →
    ∃ t, exec (.pllUnlock radio locked) s = .next t ∧ t.bit (Reg.LNK_LNK_STAT radio.val) 2 = locked ∧
      (s.bit (Reg.LNK_LNK_STAT radio.val) 2 = true → locked = false → evt t (8 + radio.val) 2 = true) ∧
      OnlyEvents [] [Reg.LNK_LNK_STAT radio.val] [8 + radio.val] s t) ∧
  (∀ (radio : Fin 2) (locked : Bool) (s : State), s.bit (Reg.LNK_LNK_CFG radio.val) 0 = false →
    exec (.radioTxFault radio) s = .next s ∧ exec (.pllUnlock radio locked) s = .next s) ∧
  (∀ (radio : Fin 2) (pass : Bool) (s : State), s.pair.role = .shadow → s.lnkState radio.val = 1 →
    ∃ t, exec (.loopbackTest radio pass) s = .next t ∧ (radio.val = 0 → t.link = { s.link with loop0 := pass }) ∧
      (radio.val = 1 → t.link = { s.link with loop1 := pass }) ∧ Only [.link] [] s t) ∧
  (∀ (radio : Fin 2) (pass : Bool) (s : State), s.pair.role ≠ .shadow ∨ s.lnkState radio.val ≠ 1 →
    exec (.loopbackTest radio pass) s = .next s) ∧
  -- a capture whose step lies more than CAP_MAXAGE in the past: what is not whole is abandoned, and its buffers are released
  (∀ (id n : Nat) (s : State) (c : Capture) (x : NodeCap), (s.est.caps.find? fun c => c.id == id) = some c →
    msT (s.rd Reg.NOD_CAP_MAXAGE) < s.since c.ts → c.nodes = [(n, x)] →
    let gone := decide (x.frags.length < 22)
    ∃ t, exec (.captureAbandon id) s = .next t ∧ t.reg Reg.NOD_CAP_ABANDON = s.reg Reg.NOD_CAP_ABANDON + w32 (b2n gone) ∧
      (gone = true → evt t 0x0A 5 = true) ∧
      t.est = (if gone then { s.est with caps := s.est.caps.map fun (d : Capture) => if d.id = id then { d with gone := d.gone ||| 2 ^ n, nodes := d.nodes.erase n } else d } else s.est) ∧
      t.link = (if gone && s.inControl then s.queueCmd (.release n (2 ^ x.buf)) else s).link ∧
      OnlyEvents [.est, .link] [Reg.NOD_CAP_ABANDON] [0x0A] s t) ∧
  (∀ (id : Nat) (s : State), ((s.est.caps.find? fun c => c.id == id).all fun c => decide (s.since c.ts ≤ msT (s.rd Reg.NOD_CAP_MAXAGE))) = true →
    exec (.captureAbandon id) s = .next s) ∧
  -- a node LOST for NODE_FORGET is forgotten
  (∀ (node : Fin 32) (s : State), s.link.objs.testBit node.val = true → s.bit Reg.NOD_LOST_MASK node.val = true →
    ((s.node node.val).lostAt.any fun t0 => decide (secT (s.rd Reg.NOD_NODE_FORGET) ≤ s.since t0)) = true →
    ∃ t, exec (.nodeForget node) s = .next t ∧ t.joined node.val = false ∧ t.link.objs.testBit node.val = false ∧ t.node node.val = {} ∧
      t.reg (Reg.NOD_NODE_STAT node.val) = 0 ∧ t.bit Reg.NOD_JOINED_MASK node.val = false ∧ t.bit Reg.NOD_LOST_MASK node.val = false ∧
      t.bit Reg.NOD_STALE_MASK node.val = false ∧
      (s.nodeRadio node.val < 2 → s.laneNode (s.nodeRadio node.val) (s.nodeLane node.val) = some node.val →
        t.laneNode (s.nodeRadio node.val) (s.nodeLane node.val) = none) ∧
      (∀ n, n ≠ node.val → t.node n = s.node n) ∧ t.link.wants = s.link.wants.erase node.val ∧
      (t.est.caps.all fun c => (c.nodes.find? node.val).all fun x => decide (22 ≤ x.frags.length)) = true ∧
      t.link.cmds.all (fun e => !(decide (State.entryNode e = some node.val) && entryRank e == 4)) = true ∧
      OnlyPages [.link, .est, .pair, .recd, .free] [8, 9, 0x0A, 0x1B] s t) ∧
  (∀ (node : Fin 32) (s : State), s.link.objs.testBit node.val = false ∨ s.bit Reg.NOD_LOST_MASK node.val = false ∨
    ((s.node node.val).lostAt.all fun t0 => decide (s.since t0 < secT (s.rd Reg.NOD_NODE_FORGET))) = true →
    exec (.nodeForget node) s = .next s) ∧
  -- the effective cycle of a LANE entry: the node changes its lane, and either lane is accepted for 8 superframes
  (∀ (node : Fin 32) (s : State) (m : LaneMove), (s.node node.val).move = some m → m.accept = none → 0 ≤ sdiff 48 s.gau.cyc m.eff →
    (m.radio ≠ m.oldRadio ∨ m.lane ≠ m.oldLane) → m.radio < 2 → m.lane < 16 → m.oldRadio < 2 → m.oldLane < 16 → s.link.wants = [] →
    ∃ t, exec (.laneChange node) s = .next t ∧ t.nodeRadio node.val = m.radio ∧ t.nodeLane node.val = m.lane ∧
      t.laneNode m.radio m.lane = some node.val ∧ t.laneNode m.oldRadio m.oldLane = none ∧
      t.node node.val = { s.node node.val with move := some { m with accept := some 8 }, movedAt := some (s.gau.cyc / s.gau.swpDiv) } ∧
      (∀ n, n ≠ node.val → t.node n = s.node n) ∧ t.link.cmds = s.link.cmds ∧
      evt t (8 + m.radio) 4 = true ∧ OnlyPages [.link, .pair, .recd, .free] [8, 9, 0x0A, 0x1B] s t) ∧
  -- an entry that changes only the watchers settles once echoed
  (∀ (node : Fin 32) (s : State) (m : LaneMove), (s.node node.val).move = some m → m.accept = none → 0 ≤ sdiff 48 s.gau.cyc m.eff →
    m.radio = m.oldRadio → m.lane = m.oldLane → s.link.wants = [] →
    ∃ t, exec (.laneChange node) s = .next t ∧
      t.node node.val = { s.node node.val with move := if m.echoed then none else some { m with accept := some 8, usedNew := true } } ∧
      (∀ n, n ≠ node.val → t.node n = s.node n) ∧ t.link = { s.link with nodes := t.link.nodes } ∧ Only [.link] [] s t) ∧
  (∀ (node : Fin 32) (s : State), ((s.node node.val).move.all fun m => m.accept.isSome || decide (sdiff 48 s.gau.cyc m.eff < 0)) = true →
    exec (.laneChange node) s = .next s) ∧
  -- 8 superframes later the lane the node uses is its lane; a node that missed the change is told anew
  (∀ (node : Fin 32) (s : State) (m : LaneMove), (s.node node.val).move = some m → m.accept = some 0 → m.usedNew = true →
    s.link.wants = [] →
    ∃ t, exec (.laneAcceptEnd node) s = .next t ∧
      t.node node.val = { s.node node.val with move := if m.echoed then none else some { m with oldRadio := m.radio, oldLane := m.lane, accept := none } } ∧
      (∀ n, n ≠ node.val → t.node n = s.node n) ∧ t.link = { s.link with nodes := t.link.nodes } ∧ Only [.link] [] s t) ∧
  (∀ (node : Fin 32) (s : State) (m : LaneMove), (s.node node.val).move = some m → m.accept = some 0 → m.usedNew = false →
    m.radio < 2 → m.lane < 16 → m.oldRadio < 2 → m.oldLane < 16 → (m.radio ≠ m.oldRadio ∨ m.lane ≠ m.oldLane) →
    ∃ t m', exec (.laneAcceptEnd node) s = .next t ∧ t.nodeRadio node.val = m.oldRadio ∧ t.nodeLane node.val = m.oldLane ∧
      t.laneNode m.oldRadio m.oldLane = some node.val ∧ t.laneNode m.radio m.lane = none ∧ (t.node node.val).move = some m' ∧
      m'.radio = m.radio ∧ m'.lane = m.lane ∧ m'.oldRadio = m.oldRadio ∧ m'.oldLane = m.oldLane ∧ m'.accept = none ∧ m'.seqs = [] ∧
      0 < sdiff 48 m'.eff s.gau.cyc ∧
      CmdEntry.lane node.val m.radio m.lane m'.w0 m'.w1 m'.eff ∈ t.link.cmds ∧ (∀ n, n ≠ node.val → t.node n = s.node n) ∧
      OnlyPages [.link, .pair] [8, 9, 0x0A, 0x1B] s t) ∧
  (∀ (node : Fin 32) (s : State), ((s.node node.val).move.all fun m => m.accept != some 0) = true → exec (.laneAcceptEnd node) s = .next s) ∧
  -- the channel mask in force
  (∀ (s : State) (m eff : Nat), s.link.chMaskPend = some (m, eff) → 0 ≤ sdiff 48 s.gau.cyc eff →
    ∃ t, exec .chmaskEffective s = .next t ∧
      t.link = { s.link with chMask := m, chMaskPend := none, cmds := s.link.cmds.filter fun e => entryRank e != 0 } ∧ Only [.link] [] s t) ∧
  (∀ s : State, (s.link.chMaskPend.all fun p => decide (sdiff 48 s.gau.cyc p.2 < 0)) = true → exec .chmaskEffective s = .next s)

/-- NOD refuses a command of its PLAN_CMD. -/
abbrev PlanRefuses (s : State) (o : Out) (e : ErrCode) : Prop :=
  ∃ t, o = .next t ∧ t.rd (errAddr 0x0A) % 2 ^ 8 = e.code ∧ Only [] [errAddr 0x0A] s t

/-- A refused LOAD: the error, the event, and nothing else. -/
abbrev LoadRefused (s t : State) (e : ErrCode) : Prop :=
  t.rd (errAddr 0x0A) % 2 ^ 8 = e.code ∧ evt t 0x0A 9 = true ∧ OnlyEvents [] [errAddr 0x0A] [0x0A] s t

/-- PLAN_LOAD, PLAN_REMOVE, PLAN_REJOIN, REJOIN_ALL, PLAN_HANDLE, CH_MASK_WRITE, DISC_READ (R11, R54, R57, R79 to R81, R350). The model's choices it rests
on: log entries 7, 15, 27. -/
def Obligations.PlansAndChannels : Prop :=
  -- the block at PLAN_ADDR is the plan, or is refused; whether its keys unwrap and its signature holds are free values
  (∀ (mid : Mid) (s : State) (fleet bench : Nat), Passes s mid Reg.NOD_PLAN_CMD true → s.fwlOn = false → s.nv.keys.find? 1 = some fleet →
    s.nv.keys.find? 3 = some bench →
    let a := s.rd Reg.NOD_PLAN_ADDR
    let p := planCheck fleet bench (s.readBytes a (min planMax (leAt (s.readBytes a 16) 8 4)))
    let takes := p.any fun p => !(s.running && s.planDisturbs p)
    ∃ t, exec (.planLoad mid) s = .next t ∧ t.mem = s.mem ∧
      (takes = true → t.link.plan = p ∧ t.reg Reg.NOD_PLAN_VER = w32 ((p.map (·.ver)).getD 0)) ∧
      -- a joined node that the plan omits, or whose serial or key changes, leaves
      (takes = true → ∀ n, n < 32 → s.joined n = true →
        let keeps := ((s.planOf n).bind fun o => (t.planOf n).map fun e => o.serial == e.serial && o.key == e.key).getD false
        t.joined n = keeps ∧ (keeps = false → t.link.objs.testBit n = false ∧ t.reg (Reg.NOD_NODE_STAT n) = 0 ∧
          (s.inControl = true → CmdEntry.rejoin n ∈ t.link.cmds))) ∧
      (p = none → LoadRefused s t .planBad) ∧ (p.isSome = true → takes = false → LoadRefused s t .mode) ∧
      (takes = true → OnlyPages [.link, .est, .pair, .recd, .free] [8, 9, 0x0A, 0x1B] s t)) ∧
  (∀ (mid : Mid) (s : State), Passes s mid Reg.NOD_PLAN_CMD true → s.fwlOn = false →
    s.nv.keys.find? 1 = none ∨ s.nv.keys.find? 3 = none → ∃ t, exec (.planLoad mid) s = .next t ∧ LoadRefused s t .planBad) ∧
  (∀ (mid : Mid) (s : State) (n : Nat), Passes s mid Reg.NOD_PLAN_CMD true → s.nodHandle = .ok n →
    ∃ t, exec (.planRemove mid) s = .next t ∧ t.link.objs.testBit n = false ∧ t.joined n = false ∧ t.node n = {} ∧
      t.reg (Reg.NOD_NODE_STAT n) = 0 ∧ (s.inControl = true → CmdEntry.rejoin n ∈ t.link.cmds) ∧
      -- its REJOIN goes out on the radio it was on
      t.entryRadio n = s.nodeRadio n ∧
      (s.laneNode (s.nodeRadio n) (s.nodeLane n) = some n → t.laneNode (s.nodeRadio n) (s.nodeLane n) = none) ∧
      (t.est.caps.all fun c => (c.nodes.find? n).all fun x => decide (22 ≤ x.frags.length)) = true ∧
      (∀ k, k ≠ n → t.node k = s.node k) ∧ t.link.plan = s.link.plan ∧ OnlyPages [.link, .est, .pair, .recd, .free] [8, 9, 0x0A, 0x1B] s t) ∧
  (∀ (mid : Mid) (s : State) (n : Nat), Passes s mid Reg.NOD_PLAN_CMD true → s.nodHandle = .ok n →
    ∃ t, exec (.planRejoin mid) s = .next t ∧ t.link = { s.link with rejoin := s.link.rejoin ||| 2 ^ n } ∧ Only [.link] [] s t) ∧
  (∀ (mid : Mid) (s : State) (e : ErrCode), Passes s mid Reg.NOD_PLAN_CMD true → s.nodHandle = .error e →
    PlanRefuses s (exec (.planRemove mid) s) e ∧ PlanRefuses s (exec (.planRejoin mid) s) e) ∧
  (∀ (mid : Mid) (s : State), Passes s mid Reg.NOD_PLAN_CMD true → s.running = false →
    ∃ t, exec (.rejoinAll mid) s = .next t ∧ t.nv = { s.nv with knet := some (draw128 s.draws), epoch := 0 } ∧ t.draws = s.draws + 4 ∧
      (∀ n, n ∈ s.planNodes → t.link.rejoin.testBit n = true) ∧
      t.link = { s.link with rejoin := t.link.rejoin, epochDue := false, epochOld := 0, epochAt := s.gau.cyc } ∧
      Only [.link, .nv, .draws] [] s t) ∧
  (∀ (mid : Mid) (s : State), Passes s mid Reg.NOD_PLAN_CMD true → s.running = true → PlanRefuses s (exec (.rejoinAll mid) s) .mode) ∧
  (∀ (mid : Mid) (s : State), Passes s mid Reg.NOD_PLAN_CMD true →
    ∃ t, exec (.planHandle mid) s = .next t ∧
      t.reg Reg.NOD_NOD_HANDLE = (if s.hasNode (s.fld Reg.NOD_NOD_INDEX 0 5) then s.handleOf .node (s.fld Reg.NOD_NOD_INDEX 0 5) else 0) ∧
      Only [] [Reg.NOD_NOD_HANDLE] s t) ∧
  -- CH_MASK: a mask of at least 15 channels is announced at once and takes effect 8 superframes later
  (∀ (mid : Mid) (hi : Bool) (v : Word) (s : State),
    let a := if hi then Reg.NOD_CH_MASK_HI else Reg.NOD_CH_MASK_LO
    let lo := if hi then s.rd Reg.NOD_CH_MASK_LO else v.toNat
    let up := if hi then v.toNat % 256 else s.rd Reg.NOD_CH_MASK_HI
    let m := lo + 2 ^ 32 * up
    let eff := (s.gau.cyc + 9) % 2 ^ 48
    Passes s mid a true →
    if channelCount m < 15 then PlanRefuses s (exec (.chMaskWrite mid hi v) s) .chFew
    else if s.running then PlanRefuses s (exec (.chMaskWrite mid hi v) s) .mode
    else ∃ t, exec (.chMaskWrite mid hi v) s = .next t ∧ t.reg Reg.NOD_CH_MASK_LO = w32 lo ∧ t.reg Reg.NOD_CH_MASK_HI = w32 up ∧
      t.link = { s.link with chMaskPend := some (m, eff), cmds := .chmask m (eff % 2 ^ 32) :: s.link.cmds.filter fun e => entryRank e != 0 } ∧
      Only [.link] [Reg.NOD_CH_MASK_LO, Reg.NOD_CH_MASK_HI] s t) ∧
  -- the head of the discovery FIFO is read, and goes; an empty FIFO reads 0
  (∀ (mid : Mid) (s : State), Passes s mid Reg.NOD_DISC_LO false →
    ∃ t, exec (.discRead mid) s = .next t ∧ t.busData = w32 (s.link.disc.head?.getD 0) ∧ t.link = { s.link with disc := s.link.disc.drop 1 } ∧
      Only [.busData, .link] [] s t)

/-- A record has closed: it is the newest of the ring and stands in memory, its blocks are those received, and it has the currents of its period
(R77, R90, R92 to R94, R113). -/
abbrev RecordClosed (r r' : SweepRec) (s t : State) : Prop :=
  let prev := s.prevSmp r
  let base := s.rd Reg.SWP_REC_BASE + r.index % 8 * 0x1000
  let mine := s.sns.pend.filter fun (x, _) => atOrBefore x r.smpOdo && isAfter x prev
  t.swp.cur = none ∧ t.newestRec = some r' ∧ (t.swp.ring.drop 1).length ≤ 7 ∧
    (∀ x ∈ t.swp.ring.drop 1, x ∈ s.swp.ring ∧ x.index % 8 ≠ r.index % 8) ∧
    r' = { r with
      qsum := sumOuts mine, nsum := mine.length, iSpan := s.spanAt (recFlag r' 4) r.smpOdo, rflags := r'.rflags,
      bal := (List.range 32).filterMap fun n => (s.groupInForce n prev).map fun g => (n, g.group.mask, g.group.duty),
      nodes := r'.nodes, qbal := r'.qbal } ∧
    (∀ c, c < 3 → recFlag r' (1 + c) = (recFlag r (1 + c) || !r.got.testBit c)) ∧
    recFlag r' 6 = (s.lnkState 0 == 3 || s.lnkState 1 == 3) ∧ recFlag r' 7 = s.swp.takeover ∧
    (∀ n, n < 32 → (recNode r' n).map (fun d => (d.body, d.path, d.age)) = (recNode r n).map fun d => (d.body, d.path, d.age)) ∧
    (∀ i, i < 3648 → t.readByte (base + i) = BitVec.ofNat 8 ((recordBytes r').getD i 0)) ∧
    (∀ x, x < base ∨ base + 3648 ≤ x → t.readByte x = s.readByte x) ∧
    t.sns.pend = s.sns.pend.filter (fun (x, _) => isAfter x r.smpOdo) ∧ t.rd Reg.NOD_PRESENT_MASK = r.present % 2 ^ 32 ∧
    (∀ n, n < 32 → t.fld (Reg.NOD_NODE_STAT n) 26 2 = ((recNode r n).map (·.path)).getD 3 % 4) ∧ evt t 0x0B 0 = true ∧
    t.swp.gapCount = s.swp.gapCount + 1 ∧ t.swp.takeover = false

/-- Gather has begun the run of a record, with the charge of a run stopped before it (R115, R116, R127). Where estimation begins or ends with the
run, in the stopped run's place too, no charge is left. -/
abbrev RunBegun (r r' : SweepRec) (s t : State) : Prop :=
  let unheld (c : Nat) := (s.workCell c).has 1 && !((s.pubCell c).has 0 || (s.pubCell c).has 1)
  let anew := s.est.run.isSome && s.est.aux.any fun (c, a) => a.started && unheld c
  let left := if s.bit Reg.EST_EST_CFG 0 == s.est.on then s.est.run.elim s.est.carry fun q => some (q.dt, q.qsum, q.nsum, q.qbal) else none
  let carry := left.getD (0, 0, 0, [])
  let charge (q : Run) := q.dt == (r.smpOdo - s.prevSmp r).toNat + carry.1 && q.qsum == r'.qsum + carry.2.1 && q.nsum == r'.nsum + carry.2.2.1
  (t.est.run.any fun q => q.done == 1 && q.cycle == r.cycle && q.index == r.index && q.start == s.tim.odo && (anew || charge q) &&
      q.curOk == curValid r' && decide (q.ring = t.swp.ring)) = true ∧
    t.est.carry = none ∧ (s.est.run.isSome = true → evt t 0x0D 7 = true)

/-- RECORD_CLOSE, SCREEN_STAGE (R77, R90, R92 to R94, R98, R100, R101, R104, R113, R115, R116, R163, R200, R201): the record goes to its slot of the ring,
in memory too; MISS and the limits are evaluated; the run begins; and Screen flags its cells. The model's choices it rests on: log entries 21, 23, 24,
26, 117. -/
def Obligations.RecordsCloseAndAreScreened : Prop :=
  (∀ (s : State) (r : SweepRec), s.swp.cur = some r →
    ∃ t r', exec .recordClose s = .next t ∧ RecordClosed r r' s t ∧ RunBegun r r' s t ∧
      -- a tap entry that has not drained is dropped
      ((s.est.taps.map (·.1)).Nodup → ∀ i, (t.est.taps.find? i).map (fun y => (y.stays, y.drops)) =
        (s.est.taps.find? i).map fun x => (false, if x.stays then (x.drops + 1) % 2 ^ 32 else x.drops))) ∧
  (∀ (s : State) (r : SweepRec), s.swp.cur = some r → s.est.run = none → s.saf.pset = none →
    ∃ t, exec .recordClose s = .next t ∧
      OnlyPages [.swp, .sns, .link, .saf, .est, .mem, .pair, .recd, .free] [8, 9, 0x0A, 0x0B, 0x0D, 0x0E, 0x0F, 0x1A] s t) ∧
  (∀ s : State, s.swp.cur = none → exec .recordClose s = .next s) ∧
  -- MISS of a joined node: 0 where its data has come, else one more; 2 makes it STALE, LOST_MISS makes it LOST
  (∀ (s : State) (r : SweepRec) (n : Nat), s.swp.cur = some r → s.est.run = none → s.saf.pset = none →
    (s.isShadow && s.partnerAlive) = false → n < 32 → s.joined n = true →
    let m := min 255 (s.miss n + 1)
    let lost := decide (s.fld Reg.NOD_NOD_CFG 8 8 ≤ m)
    ∃ t, exec .recordClose s = .next t ∧
      (r.present.testBit n = true →
        t.miss n = 0 ∧ t.bit Reg.NOD_STALE_MASK n = false ∧ t.bit Reg.NOD_LOST_MASK n = false ∧ (t.node n).lostAt = none) ∧
      (r.present.testBit n = false →
        t.miss n = m ∧ t.bit Reg.NOD_STALE_MASK n = decide (2 ≤ m) ∧ t.bit Reg.NOD_LOST_MASK n = lost ∧
          (t.node n).missed = (r.cycle :: (s.node n).missed).take 8 ∧ (s.miss n < 2 → 2 ≤ m → evt t 0x0A 3 = true) ∧
          (lost = true → s.bit (Reg.NOD_NODE_STAT n) 15 = false → evt t 0x0A 2 = true ∧ (t.node n).lostAt = some s.tim.odo))) ∧
  -- readings outside a limit in two consecutive present sweeps of a node latch a demand
  (∀ (s : State) (r : SweepRec) (n : Nat) (d : NodeData) (p : Pset), s.swp.cur = some r → s.saf.pset = some p →
    r.nodes.filter (·.1 == n) = [(n, d)] →
    let both := outsideBits p d.body &&& (s.node n).outside
    both ≠ 0 →
    ∃ t, exec .recordClose s = .next t ∧ t.saf.latched = true ∧ t.saf.gLatch = true ∧ (both % 2 ^ 16 ≠ 0 → t.saf.sources.testBit 1 = true) ∧
      (both / 2 ^ 16 ≠ 0 → t.saf.sources.testBit 2 = true)) ∧
  -- a node silent for SIL_LIMIT sweeps latches one in OPERATE and FORMATION
  (∀ (s : State) (r : SweepRec) (n : Nat) (p : Pset), s.swp.cur = some r → s.saf.pset = some p → s.est.run = none →
    (r.nodes.all fun e => outsideBits p e.2.body == 0) = true → (s.isShadow && s.partnerAlive) = false → n < 32 → s.joined n = true →
    r.present.testBit n = false → s.running = true → p.silLimit ≤ min 255 (s.miss n + 1) →
    ∃ t, exec .recordClose s = .next t ∧ t.saf.latched = true ∧ t.saf.gLatch = true ∧ t.saf.sources.testBit 3 = true ∧ t.saf.silent = true) ∧
  -- Screen: the bits of SCR of every cell, in the run's own record and in the ring's
  (∀ (s : State) (run : Run) (x live : SweepRec), s.est.run = some run → run.done = 1 → run.ring.head? = some x → s.recOf x.index = some live →
    let base := s.rd Reg.SWP_REC_BASE + x.index % 8 * 0x1000
    ∃ t x' y, exec .screenStage s = .next t ∧
      t.est.run = some { run with done := 2, ring := run.ring.map fun z => if z.index = x.index then x' else z } ∧
      x' = { x with scr := x'.scr, rflags := x'.rflags } ∧
      -- a cell with data: RANGE, STUCK, TIMING; without data neither RANGE nor TIMING; STALE from MISS
      (∀ c, c < 512 → ((recNode x (c / 16)).elim
        (!(x'.scr.get 0 c).testBit 2 && !(x'.scr.get 0 c).testBit 3 && !(x'.scr.get 0 c).testBit 5) fun d =>
          let v := (d.body.v[c % 16]?).getD 0xFFFF
          (x'.scr.get 0 c).testBit 2 == (decide (v < s.rd Reg.SWP_V_LO ∨ s.rd Reg.SWP_V_HI < v) || v == 0xFFFF || d.body.nstat.testBit 1) &&
            (x'.scr.get 0 c).testBit 4 == (t.swp.cells.get {} c).stuck &&
            (x'.scr.get 0 c).testBit 5 == (d.body.nstat.testBit 3 || (!d.body.nstat.testBit 7 && decide (63 < d.body.sampleErr.natAbs)) || d.freeLoose)) = true) ∧
      (∀ c, c < 512 → (x'.scr.get 0 c).testBit 1 = decide (2 ≤ s.miss (c / 16))) ∧
      (∀ c, c < 512 → ((t.wire (c / 16) (c % 16)).suspect || (t.wire (c / 16) (c % 16 + 1)).suspect) = true → (x'.scr.get 0 c).testBit 6 = true) ∧
      (∀ c, c < 512 → ((t.wire (c / 16) (c % 16)).confirmed || (t.wire (c / 16) (c % 16 + 1)).confirmed) = true → (x'.scr.get 0 c).testBit 7 = true) ∧
      recFlag x' 0 = s.curDis x ∧ t.bit Reg.SNS_SNS_STAT 16 = s.curDis x ∧ (s.curDis x = true → evt t 0x0C 6 = true) ∧
      recFlag x' 5 = (s.sumCheck x').getD (recFlag x 5) ∧ (∀ b, b ≠ 0 → b ≠ 5 → recFlag x' b = recFlag x b) ∧
      -- the ring's record takes them; nodes whose late data has come since keep what it brought
      t.recOf x.index = some y ∧ y = { live with scr := y.scr, rflags := x'.rflags } ∧
      (∀ c, c < 512 → y.scr.get 0 c = (if live.late.testBit (c / 16) && !x.late.testBit (c / 16) then live.scr.get 0 c else x'.scr.get 0 c)) ∧
      (∀ i, i < 3648 → t.readByte (base + i) = BitVec.ofNat 8 ((recordBytes y).getD i 0)) ∧
      (∀ a, a < base ∨ base + 3648 ≤ a → t.readByte a = s.readByte a) ∧
      OnlyPages [.swp, .est, .link, .mem, .recd, .free] [0x0B, 0x0C] s t) ∧
  -- an open-wire test is judged by its record: intact, open, or repeated
  (∀ (s : State) (run : Run) (x : SweepRec) (o : Owt) (pre : Nat), s.est.run = some run → run.done = 1 → run.ring.head? = some x →
    s.swp.owts = [o] → o.sweep = some x.cycle → o.wire ≤ 16 → o.node < 32 → x.tests = [(o.node, o.wire)] →
    (s.swp.cells.get {} (owtCell o.node o.wire)).last = some pre →
    let drop := (recV x (owtCell o.node o.wire)).map fun (v : Nat) => ((pre : Int) - v, v)
    let intact := drop.any fun p => decide (p.1 < (s.fld Reg.SWP_OWT_CFG 0 16 : Int))
    let open_ := !intact && drop.any fun p => decide (p.2 < s.fld Reg.SWP_OWT_CFG 16 16)
    let again := decide (o.tries < s.fld Reg.SWP_OWT_ROUTINE 16 4)
    ∃ t, exec .screenStage s = .next t ∧
      (intact = true → (t.wire o.node o.wire).suspect = false ∧ (t.wire o.node o.wire).holdoff = some s.tim.odo ∧ evt t 0x0B 4 = true) ∧
      (open_ = true → (t.wire o.node o.wire).confirmed = true ∧ evt t 0x0B 3 = true) ∧
      (intact = true ∨ open_ = true ∨ again = false → (t.swp.owts.all fun p => p.node != o.node || p.wire != o.wire) = true) ∧
      (intact = false → open_ = false → again = true →
        { o with tries := o.tries + 1, sent := false, sweep := none } ∈ t.swp.owts ∧ CmdEntry.owt o.node o.wire ∈ t.link.cmds) ∧
      (intact = false → open_ = false → again = false → (t.wire o.node o.wire).suspect = true ∧ evt t 0x0B 5 = true)) ∧
  (∀ s : State, (s.est.run.all fun r => r.done != 1 || r.ring.isEmpty) = true → exec .screenStage s = .next s)

/-- The source is chosen, and SF8 is timed, as the channels now stand (R90, R204). -/
abbrev SourceJudged (s t : State) : Prop :=
  t.sns.useB = t.srcWanted ∧ (t.sns.useB ≠ s.sns.useB → evt t 0x0C 7 = true) ∧
    (if t.sf8Disagree then t.sns.sf8Since = some (s.sns.sf8Since.getD s.tim.odo) ∧ t.sns.sf8Low = s.isShadow
      else t.sns.sf8Since = none ∧ t.sns.sf8Low = false ∧ t.saf.sources.testBit 7 = false)

/-- SWP refuses a command. -/
abbrev SwpRefuses (s : State) (o : Out) (e : ErrCode) : Prop :=
  ∃ t, o = .next t ∧ t.rd (errAddr 0x0B) % 2 ^ 8 = e.code ∧ Only [] [errAddr 0x0B] s t

/-- SNS_OUTPUT, SNS_STUCK, SNS_BAD_END, SF8_RESIGN, SF8_DEMAND (R86 to R90, R94, R131, R132, R204, R233). SWP_CFG_WRITE, SWP_DIV_CHANGE, WIRE_TEST,
WIRE_CLEAR, OWT_ROUTINE, WIRE_HOLDOFF_END (R91, R103 to R106). The model's choices it rests on: log entries 21, 22, 117. -/
def Obligations.StreamsSweepDividerAndWireTests : Prop :=
  (∀ (ch : Fin 3) (r : Nat) (s : State), s.snsEn ch.val = true →
    let m := if s.bit Reg.SNS_SNS_CFG 3 then 128 else 256
    let x0 : Int := ((min r (m ^ 3) : Nat) : Int) * (2 ^ 24 / m ^ 3 : Nat) - 2 ^ 23
    let x := if s.bit Reg.SNS_SNS_CFG (5 + ch.val) then -x0 else x0
    let cal := Reg.SNS_GAIN_A + 12 * ch.val
    let v := divRound ((x - s.rdI (cal + 4)) * s.rdI cal) (2 ^ 23)
    let at_ := s.tim.odo - BitVec.ofNat 64 (((if s.bit Reg.SNS_SNS_CFG 3 then 19050 else 19125) + s.rd (cal + 8)) / 4)
    let old := s.snsCh ch.val
    let ovr := decide (s.rd Reg.SNS_OVR_TH < x.natAbs)
    ∃ t, exec (.snsOutput ch r) s = .next t ∧
      t.snsCh ch.val = { old with outs := ((at_, v) :: old.outs).take 2600, ovr := ovr, tail := if ovr || old.stuck || old.ovr then 256 else old.tail - 1 } ∧
      t.reg (Reg.SNS_I_A_LIVE + 4 * ch.val) = wInt v ∧ t.reg (Reg.SNS_RAW_A + 4 * ch.val) = wInt x ∧
      t.reg Reg.SNS_LIVE_ODO = w32 at_.toNat ∧ (∀ c, c < 3 → c ≠ ch.val → t.snsCh c = s.snsCh c) ∧
      (ovr = true → old.ovr = false → evt t 0x0C (2 * ch.val + 1) = true) ∧
      t.sns.useB = t.srcWanted ∧ (t.sns.useB ≠ s.sns.useB → evt t 0x0C 7 = true) ∧ (ch.val ≠ 2 → SourceJudged s t) ∧
      t.ctl = { s.ctl with outs := s.ctl.outs + b2n (ch.val != 2 && t.sns.useB == (ch.val == 1)) } ∧
      -- the value at the sample instant of the record being assembled
      t.swp = { s.swp with cur := t.swp.cur } ∧
      (s.swp.cur.all fun q =>
        let take := !q.got.testBit ch.val && atOrBefore q.smpOdo at_
        let y := if t.snsBad ch.val then none else interpolate (t.snsCh ch.val).outs q.smpOdo
        if take then t.swp.cur.any fun q' =>
            q'.got == q.got + 2 ^ ch.val && recFlag q' (1 + ch.val) == y.isNone && (ch.val == 2 || recFlag q' 4 == t.sns.useB) &&
              (if ch.val = 0 then q'.iA else if ch.val = 1 then q'.iB else q'.vStr) == y.getD 0
        else decide (t.swp.cur = some q)) = true ∧
      -- a step of the source current (R131), and its capture (R132)
      (let outs := t.srcCh.outs
       let now := (outs.head?.map (·.1)).getD 0
       let late := (outs.dropWhile fun (z, _) => isAfter z (now - 500000#64)).take 64
       let held := s.sns.stepAt.any fun z => decide (s.since z < msT (s.fld Reg.EST_STEP_CFG 16 8))
       let step := ch.val != 2 && t.sns.useB == (ch.val == 1) && s.bit Reg.EST_EST_CFG 2 && s.rd Reg.EST_C_RATE != 0 && !held && (outs.take 64).length == 64 && late.length == 64 && decide (64 * (s.fld Reg.EST_STEP_CFG 0 16 * s.rd Reg.EST_C_RATE) ≤ (sumOuts (outs.take 64) - sumOuts late).natAbs * 1000)
       (step = false → t.reg Reg.EST_STEP_COUNT = s.reg Reg.EST_STEP_COUNT ∧ t.est.caps.length = s.est.caps.length) ∧
       (step = true → t.reg Reg.EST_STEP_COUNT = s.reg Reg.EST_STEP_COUNT + 1 ∧ evt t 0x0D 0 = true ∧ t.sns.stepAt = some s.tim.odo ∧
         (s.inControl = false → t.est.caps.length = s.est.caps.length) ∧
         (s.inControl = true →
           (t.est.caps.length = s.est.caps.length + 1 ∧ t.est.nextCap = (s.est.nextCap + 1) % 256 ∧ evt t 0x0D 1 = true) ∨
             (t.est.caps.length = s.est.caps.length ∧ t.reg Reg.EST_CAP_SKIP = s.reg Reg.EST_CAP_SKIP + 1)))) ∧
      OnlyPages [.sns, .swp, .est, .link, .ctl, .saf, .recd, .free] [0x0C, 0x0D] s t) ∧
  (∀ (ch : Fin 3) (r : Nat) (b : Bool) (s : State), s.snsEn ch.val = false →
    exec (.snsOutput ch r) s = .next s ∧ exec (.snsStuck ch b) s = .next s ∧ exec (.snsBadEnd ch) s = .next s) ∧
  (∀ (ch : Fin 3) (b : Bool) (s : State), s.snsEn ch.val = true →
    let old := s.snsCh ch.val
    ∃ t, exec (.snsStuck ch b) s = .next t ∧
      t.snsCh ch.val = { old with stuck := b, tail := if b || old.stuck then 256 else old.tail } ∧ (b = true → t.snsBad ch.val = true) ∧
      (b = true → old.stuck = false → evt t 0x0C (2 * ch.val) = true) ∧ SourceJudged s t ∧ (∀ c, c < 3 → c ≠ ch.val → t.snsCh c = s.snsCh c) ∧
      OnlyEvents [.sns, .saf] [] [0x0C] s t) ∧
  (∀ (ch : Fin 3) (s : State), s.snsEn ch.val = true → s.snsBad ch.val = false →
    ∃ t, exec (.snsBadEnd ch) s = .next t ∧ SourceJudged s t ∧ (∀ c, c < 3 → t.snsCh c = s.snsCh c) ∧
      OnlyEvents [.sns, .saf] [] [0x0C] s t) ∧
  (∀ (ch : Fin 3) (s : State), s.snsBad ch.val = true → exec (.snsBadEnd ch) s = .next s) ∧
  -- SF8: half of SF8_TIME is a cause to resign, all of it a demand
  (∀ s : State,
    let half := (s.sns.sf8Since.bind fun t0 => s.saf.pset.map fun p => decide (msT p.sf8Time ≤ 2 * s.since t0)).getD false
    (s.pair.role ≠ .active ∨ half = false → exec .sf8Resign s = .next s) ∧
    (s.pair.role = .active → half = true → ∃ t, exec .sf8Resign s = .next t ∧
      if s.partnerFit then
        t.pair.role = .shadow ∧ t.pair.claim = false ∧ t.rd Reg.RED_LAST_CAUSE = 4 ∧ t.reg Reg.RED_RESIGNS = s.reg Reg.RED_RESIGNS + 1 ∧ evt t 0x1C 3 = true
      else t.pair.role = .active ∧ 4 ∈ t.pair.blocked ∧ evt t 0x1C 7 = true ∧ OnlyEvents [.pair] [] [0x1C] s t)) ∧
  (∀ s : State,
    let past := (s.sns.sf8Since.bind fun t0 => s.saf.pset.map fun p => decide (msT p.sf8Time ≤ s.since t0)).getD false
    (s.inControl = false ∨ past = false → exec .sf8Demand s = .next s) ∧
    (s.inControl = true → past = true → ∃ t, exec .sf8Demand s = .next t ∧ t.saf.latched = true ∧ t.saf.gLatch = true ∧
      t.saf.sources.testBit 7 = true ∧ (s.saf.latched = false → t.rd Reg.SAF_FIRST_CAUSE = 8))) ∧
  -- SWP_DIV changes only in READY, COMMISSION and SERVICE
  (∀ (mid : Mid) (v : Word) (s : State), Passes s mid Reg.SWP_SWP_CFG true →
    let new := bitsOf v.toNat 0 3
    if new = s.fld Reg.SWP_SWP_CFG 0 3 then
      ∃ t, exec (.swpCfgWrite mid v) s = .next t ∧ t.reg Reg.SWP_SWP_CFG = v &&& 0x707 ∧ Only [] [Reg.SWP_SWP_CFG] s t
    else if s.pair.mode = .ready ∨ s.pair.mode = .commission ∨ s.pair.mode = .service then
      ∃ t, exec (.swpCfgWrite mid v) s = .next t ∧ t.reg Reg.SWP_SWP_CFG = v &&& 0x707 ∧
        t.gau = { s.gau with swpDivPend := some (new + 1, s.gau.cyc) } ∧ Only [.gau] [Reg.SWP_SWP_CFG] s t
    else SwpRefuses s (exec (.swpCfgWrite mid v) s) .mode) ∧
  (∀ s : State,
    let due := s.gau.swpDivPend.any fun p => decide (2 ≤ sdiff 48 s.openingCycle p.2) && s.openingCycle % p.1 == 0
    (due = false → exec .swpDivChange s = .next s) ∧
    (due = true → ∃ t, exec .swpDivChange s = .next t ∧
      t.gau = { s.gau with swpDiv := (s.gau.swpDivPend.getD (0, 0)).1, swpDivPend := none } ∧ evt t 0x0B 9 = true ∧
      OnlyEvents [.gau] [] [0x0B] s t)) ∧
  -- a test is requested, or merges with one that waits
  (∀ (mid : Mid) (v : Word) (s : State), Passes s mid Reg.SWP_WIRE_CMD true →
    let n := bitsOf v.toNat 0 5
    let w := bitsOf v.toNat 8 5
    if 16 < w then SwpRefuses s (exec (.wireTest mid v) s) .range
    else if s.swp.owts.any (fun o => o.node == n && o.wire == w) then exec (.wireTest mid v) s = .next s
    else ∃ t, exec (.wireTest mid v) s = .next t ∧ t.swp = { s.swp with owts := s.swp.owts ++ [{ node := n, wire := w }] } ∧
      t.link = (s.queueCmd (.owt n w)).link ∧ CmdEntry.owt n w ∈ t.link.cmds ∧ Only [.swp, .link] [] s t) ∧
  (∀ (mid : Mid) (v : Word) (s : State), Passes s mid Reg.SWP_WIRE_CMD true →
    let n := bitsOf v.toNat 0 5
    let w := bitsOf v.toNat 8 5
    if 16 < w then SwpRefuses s (exec (.wireClear mid v) s) .range
    else ∃ t, exec (.wireClear mid v) s = .next t ∧ t.wire n w = { s.wire n w with confirmed := false } ∧
      (∀ k, k ≠ n * 17 + w → t.swp.wires.get {} k = s.swp.wires.get {} k) ∧ t.swp = { s.swp with wires := t.swp.wires } ∧
      Only [.swp] [] s t) ∧
  -- every GAP sweeps the next wire of the joined nodes
  (∀ s : State,
    let gap := s.fld Reg.SWP_OWT_ROUTINE 0 16
    let all := s.joinedNodes.flatMap fun n => (List.range 17).map fun w => n * 17 + w
    let k := ((all.find? fun k => decide (s.swp.gapWire ≤ k)).orElse fun _ => all.head?).getD 0
    if gap = 0 ∨ s.swp.gapCount < gap ∨ s.inControl = false ∨ s.joinedNodes = [] then exec .owtRoutine s = .next s
    else ∃ t, exec .owtRoutine s = .next t ∧ (t.swp.owts.any fun o => o.node == k / 17 && o.wire == k % 17) = true ∧ k / 17 ∈ s.joinedNodes ∧
      t.swp = { s.swp with gapCount := 0, gapWire := k + 1, owts := t.swp.owts } ∧
      t.swp.owts.length ≤ s.swp.owts.length + 1 ∧ Only [.swp, .link] [] s t) ∧
  (∀ (node : Fin 32) (wire : Fin 17) (s : State),
    let past := (s.wire node.val wire.val).holdoff.any fun t0 => decide (secT (s.rd Reg.SWP_WIRE_HOLDOFF) ≤ s.since t0)
    (past = false → exec (.wireHoldoffEnd node wire) s = .next s) ∧
    (past = true → ∃ t, exec (.wireHoldoffEnd node wire) s = .next t ∧
      t.wire node.val wire.val = { s.wire node.val wire.val with holdoff := none } ∧ Only [.swp] [] s t))

/-- A cell after Charge (R126, R127): its temperature, the table's values at it, and its net charge on the charge path. -/
abbrev CellCharged (s t : State) (r : Run) (q : Word) (gap scaled : Bool) (c : Nat) (tab : ChemTable) : Prop :=
  let a := s.cellAux c
  let t0 := a.tHeld.getD (s.workCell c).t
  let x := { s.workCell c with
    t := t0, sdRate := paramAt tab (·.sd) t0, cp1 := paramAt tab (·.cp1) t0, cp2 := paramAt tab (·.cp2) t0, cycle := r.cycle % 2 ^ 32 }
  let qn := if F32.lt F32.zero q then F32.mul q tab.etaC else q
  let sd := F32.div (F32.mul (F32.mul x.sdRate (capAs x)) (secF r.dt)) (F32.ofInt 3600)
  let dq := F32.sub (F32.sub qn (F32.ofFrac (r.qbal.get 0 c) 1000000)) sd
  let e := F32.div (F32.mul (s.reg Reg.EST_CUR_EPS) q) (capAs x)
  let g := F32.div q (capAs x)
  let v := F32.add (F32.mul (s.reg Reg.EST_Q_S) (secF r.dt)) (F32.mul e e)
  let y := { x with
    socQ := F32.add x.socQ (F32.div dq (capAs x)), varQ := F32.add x.varQ (if gap then F32.add v (F32.mul g g) else v) }
  t.workCell c = (y.flag 2 gap).flag 3 scaled ∧ t.cellAux c = { a with dq := dq }

/-- A cell after steps 1 and 2 of R128. -/
abbrev predicted (s : State) (r : Run) (c : Nat) (tab : ChemTable) : Cell :=
  let x := s.workCell c
  let d := F32.div (s.cellAux c).dq (capAs x)
  predict (s.reg Reg.EST_Q_S) (s.reg Reg.EST_Q_V) (secF r.dt) r.ibar d (tempRatio tab x.t) (hystStep (s.bit Reg.EST_EST_CFG 4) tab.gamma d x)

/-- A cell after a reading with innovation `e`, row `h` and noise `rn` was offered to it (R128 Step 5): refused by the gate, or applied. -/
abbrev offered (s : State) (x : Cell) (e h rn : Word) : Cell :=
  let sv := innovVar x h rn
  let y := { x with innov := e, innovVar := sv }
  if s.gated e sv then (setRefusals y (refusals y + 1)).flag 6 true else (setRefusals (kalman y e h sv) 0).flag 6 false

/-- A cell with SOC_V within -0.05 to 1.05 (R128 Step 6). -/
abbrev clamped (x : Cell) : Cell :=
  let v := F32.clamp x.socV (f32c (-1) 20) (f32c 21 20)
  if v = x.socV then x else { x with socV := v }.flag 4 true

/-- Whether a fit of a cell of a node's part of a capture is accepted, and the fit (R135, R136). -/
abbrev fitOfCell (s : State) (cap : Capture) (n : NodeCap) (c : Nat) (tab : ChemTable) : Bool × Word × Word × Word :=
  let x := s.workCell c
  let v := (List.range 32).map fun k => capSample n (c % 16) k
  let tau := F32.clamp (F32.mul (F32.mul x.rp125 (tempRatio tab x.t)) x.cp1) (f32c 1 2000) (f32c 1 20)
  let f := fitOf (fitRows cap tau (v.map fun o => o.getD 0))
  (v.all (·.isSome) && !cap.badCells.contains c && s.fitGood f, f)

/-- Captures that Step discards, and those left of which it fits the four oldest (R133). -/
abbrev capsGone (s : State) : List Capture :=
  s.est.caps.filter fun c => c.nodes.isEmpty || (capReady c && decide (msT (s.rd Reg.NOD_CAP_MAXAGE) < s.since c.ts))
abbrev capsLeft (s : State) : List Capture := s.est.caps.filter fun c => !(capsGone s).any (·.id == c.id)
abbrev capsReady (s : State) : List Capture := (((capsLeft s).filter capReady).foldl (fun l c => insertCap c l) []).take 4

/-- CHARGE_STAGE, MODEL_STAGE, GATE_RESET, STEP_STAGE (R115, R126 to R130, R133, R135 to R137): each stage runs once, in its order, over every estimated
cell. The model's choices it rests on: log entries 9, 10, 58, 59, 118. -/
def Obligations.EstimatorStagesChargeToStep : Prop :=
  -- the charge path of every estimated cell takes its net charge; the other cells stay
  (∀ (s : State) (r : Run), s.est.run = some r → r.done = 2 →
    let gap := !r.curOk || decide (r.nsum = 0)
    let off := decide (12800 < ((r.nsum * 3200 : Nat) - (r.dt : Int)).natAbs)
    let q0 := F32.ofFrac (r.qsum * 128) 10000000000
    let q := if gap then F32.mul s.est.lastIbar (secF r.dt) else if off then F32.div (F32.mul q0 (F32.ofFrac r.dt 3200)) (F32.ofNat r.nsum) else q0
    let ibar := F32.div q (secF r.dt)
    ∃ t, exec .chargeStage s = .next t ∧ t.bit Reg.EST_EST_STAT 4 = gap ∧ (gap = true → evt t 0x0D 8 = true) ∧
      t.est = { s.est with run := some { r with done := 3, q := q, ibar := ibar }, lastIbar := if gap then s.est.lastIbar else ibar,
                           work := t.est.work, aux := t.est.aux } ∧
      (∀ c tab, c < 512 → s.estimated c = true → s.tableOf c = some tab → CellCharged s t r q gap (!gap && off) c tab) ∧
      (∀ c, s.estimated c = false → t.workCell c = s.workCell c ∧ t.cellAux c = s.cellAux c) ∧
      OnlyEvents [.est] [Reg.EST_EST_STAT] [0x0D] s t) ∧
  -- Model: every estimated cell is predicted; its history takes the sweep
  (∀ (s : State) (r : Run) (x : SweepRec), s.est.run = some r → r.done = 3 → r.ring.head? = some x →
    ∃ t, exec .modelStage s = .next t ∧ t.est = { s.est with run := some { r with done := 4 }, work := t.est.work, aux := t.est.aux } ∧
      (∀ c tab, c < 512 → s.estimated c = true → s.tableOf c = some tab →
        let i := F32.ofFrac (recI x) 1000
        let p := predicted s r c tab
        let yhat := yhatOf tab p i
        let hj0 := hj0Of tab p
        let fin (y : Cell) : Cell := { y with slope := ocvSlope tab y.socV y.t, iLast := if curValid x then i else y.iLast }
        (t.workCell c).socQ = (s.workCell c).socQ ∧ (t.workCell c).varQ = (s.workCell c).varQ ∧
        (t.cellAux c).hist = ((r.index, if curValid x then some (yhat, hj0) else none) :: (s.cellAux c).hist).take 8 ∧
        -- flagged: steps 1 to 3 only
        (cleanV x c = none → t.workCell c = fin p ∧ t.cellAux c = { s.cellAux c with hist := (t.cellAux c).hist }) ∧
        -- unflagged, nothing late: the present reading, unless the current or the temperature does not allow it
        (∀ v ∈ cleanV x c, r.late.find? (c / 16) = none →
          let takes := !(s.cellAux c).tempOld && curValid x
          let e := F32.sub (volts v) yhat
          let rn := s.reg Reg.EST_R_MEAS
          t.workCell c = fin (clamped (if takes then { offered s p e hj0 rn with vLast := volts v } else p)) ∧
          ((takes && !s.gated e (innovVar p hj0 rn)) = true → (t.cellAux c).usedNow = true ∧ (t.cellAux c).used = some r.index))) ∧
      -- a cell that waits starts cold at its first reading
      (∀ c tab t0 v, c < 512 → s.est.on = true → (s.cellAux c).started = false → s.tableOf c = some tab → (s.cellAux c).tHeld = some t0 →
        s.presentReading x c = some v →
        t.workCell c = s.coldCell r tab t0 (F32.ofFrac (recI x) 1000) v ∧ (t.cellAux c).started = true ∧ (t.workCell c).has 0 = true ∧
          (t.workCell c).socQ = socNearest tab t0 (F32.sub (volts v) (F32.mul (paramAt tab (·.rohm) t0) (F32.ofFrac (recI x) 1000)))) ∧
      OnlyEvents [.est] [Reg.EST_GATE_REJ, Reg.EST_LATE_USED] [0x0D] s t) ∧
  -- the late reading stands before the present one, with its own row and the noise of its age
  (∀ (s : State) (r : Run) (c v age : Nat) (x : Cell) (yhat hj0 : Word), s.lateReading r c = some (v, age, yhat, hj0) →
    let e := F32.sub (volts v) yhat
    let rn := F32.mul (s.reg Reg.EST_R_MEAS) (F32.ofNat (1 + age))
    let y := offered s x e hj0 rn
    let z := if s.gateDue y then s.gateResetCell y else y
    if s.gated e (innovVar x hj0 rn) then
      (lateStep r c s x).2 = (z, false) ∧ (lateStep r c s x).1.reg Reg.EST_GATE_REJ = s.reg Reg.EST_GATE_REJ + 1
    else (lateStep r c s x).2 = (z.flag 7 true, true) ∧ (lateStep r c s x).1.reg Reg.EST_LATE_USED = s.reg Reg.EST_LATE_USED + 1) ∧
  (∀ (cell : Fin 512) (s : State) (r : Run), s.est.run = some r → r.done = 4 → s.estimated cell.val = true →
    s.fld Reg.EST_GATE_CFG 8 8 ≤ refusals (s.workCell cell.val) →
    ∃ t, exec (.gateReset cell) s = .next t ∧
      t.workCell cell.val = setRefusals { s.workCell cell.val with p00 := s.reg Reg.EST_P_INIT, p01 := 0, p02 := 0, p12 := 0 } 0 ∧
      t.est = { s.est with work := t.est.work } ∧
      (∀ c, c ≠ cell.val → t.workCell c = s.workCell c) ∧ evt t 0x0D 6 = true ∧ OnlyEvents [.est] [] [0x0D] s t) ∧
  (∀ (cell : Fin 512) (s : State) (r : Run), s.est.run = some r → r.done = 4 →
    (s.estimated cell.val = false ∨ refusals (s.workCell cell.val) < s.fld Reg.EST_GATE_CFG 8 8) → exec (.gateReset cell) s = .next s) ∧
  -- Step: a capture without a node left or too old is discarded, the four oldest ready ones are taken
  (∀ (s : State) (r : Run), s.est.run = some r → r.done = 4 →
    ∃ t, exec .stepStage s = .next t ∧ t.est.run = some { r with done := 5 } ∧
      t.est.caps = (capsLeft s).filter (fun c => !(capsReady s).any (·.id == c.id)) ∧
      ((capsGone s ≠ [] ∨ (capsReady s).any s.capRefused = true) → evt t 0x0D 3 = true) ∧
      (if (capsReady s).any (fun c => !s.capRefused c) then evt t 0x0D 2 = true ∧ t.est.lastFitAt = s.tim.odo else
        t.est.lastFitAt = s.est.lastFitAt) ∧
      t.est = { s.est with run := t.est.run, caps := t.est.caps, lastFitAt := t.est.lastFitAt, work := t.est.work, aux := t.est.aux } ∧
      OnlyEvents [.est] [Reg.EST_FIT_OK, Reg.EST_FIT_REJ] [0x0D] s t) ∧
  -- covariance resets still due come first; without a capture to take they are all it does to a cell
  (∀ (s : State) (r : Run), s.est.run = some r → r.done = 4 → s.est.caps = [] →
    ∃ t, exec .stepStage s = .next t ∧
      (∀ c, c < 512 → t.workCell c = if s.estimated c && s.gateDue (s.workCell c) then s.gateResetCell (s.workCell c) else s.workCell c) ∧
      t.reg Reg.EST_FIT_REJ = s.reg Reg.EST_FIT_REJ) ∧
  -- a ready capture is fitted cell by cell, or refused as a whole
  (∀ (s : State) (r : Run) (cap : Capture), s.est.run = some r → r.done = 4 → s.est.caps = [cap] → capsReady s = [cap] →
    (∀ c, c < 512 → (s.estimated c && s.gateDue (s.workCell c)) = false) → (cap.nodes.map (·.1)).Nodup →
    if s.capRefused cap then
      ∃ t, exec .stepStage s = .next t ∧ (∀ c, c < 512 → t.workCell c = s.workCell c) ∧ t.reg Reg.EST_FIT_REJ = s.reg Reg.EST_FIT_REJ + 1
    else
      ∃ t, exec .stepStage s = .next t ∧
        (∀ n ∈ cap.nodes, ∀ i, i < 16 →
          let c := 16 * n.1 + i
          ∀ tab ∈ s.tableOf c, s.estimated c = true →
            let f := fitOfCell s cap n.2 c tab
            let a := s.cellAux c
            if f.1 then t.workCell c = s.takeFit tab r.cycle f.2 (s.workCell c) ∧
              t.cellAux c = { a with fits := ((cap.ts, F32.ofFrac (capMeanN cap) 207000, f.2.2.2, f.2.1, f.2.2.1) :: a.fits).take 16 }
            else t.workCell c = s.workCell c ∧ t.cellAux c = a) ∧
        (∀ c, (c / 16 ∉ cap.nodes.map (·.1) ∨ s.estimated c = false) → t.workCell c = s.workCell c ∧ t.cellAux c = s.cellAux c)) ∧
  -- a stage that is not due does nothing
  (∀ s : State, s.est.run = none →
    exec .chargeStage s = .next s ∧ exec .modelStage s = .next s ∧ exec .stepStage s = .next s ∧ exec .fuseStage s = .next s ∧
      exec .scaleStage s = .next s ∧ exec .publish s = .next s ∧ (∀ c : Fin 512, exec (.gateReset c) s = .next s)) ∧
  (∀ (s : State) (r : Run), s.est.run = some r →
    (r.done ≠ 2 → exec .chargeStage s = .next s) ∧ (r.done ≠ 3 → exec .modelStage s = .next s) ∧
      (r.done ≠ 4 → exec .stepStage s = .next s ∧ (∀ c : Fin 512, exec (.gateReset c) s = .next s)) ∧
      (r.done ≠ 5 → exec .fuseStage s = .next s) ∧ (r.done ≠ 6 → exec .scaleStage s = .next s) ∧ (r.done ≠ 7 → exec .publish s = .next s))

/-- A cell as Fuse takes it: FLAGS.NO_READ cleared by a used reading, CONFLICT as its count says (R142, R143). -/
abbrev fuseIn (s : State) (c : Nat) : Cell :=
  let x := if (s.cellAux c).usedNow then (s.workCell c).flag 31 false else s.workCell c
  x.flag 26 (decide (s.fld Reg.FUS_FUSE_CFG 16 8 ≤ x.conflictN))

/-- Fusion and write-back with a weight (R141). -/
abbrev mixed (w : Word) (x : Cell) : Cell :=
  let f := F32.add x.socQ (F32.mul w (F32.sub x.socV x.socQ))
  let u := F32.sub F32.one w
  let v := F32.add (F32.mul (F32.mul u u) x.varQ) (F32.mul (F32.mul w w) x.p00)
  let y := { x with socF := F32.clamp f F32.zero F32.one, socQ := f, varQ := v }
  if F32.mant w = 0 then y.flag 24 true else if F32.le (f32c 19 20) w then y.flag 25 true else y

/-- The weight of the voltage path with `g` (R140). -/
abbrev weight (g : Word) (x : Cell) : Word := F32.div (F32.mul g x.varQ) (F32.add x.varQ x.p00)

/-- A weight that makes an anchor by itself (R145). -/
abbrev wideAt (s : State) (w : Word) : Bool := F32.le (F32.ofFrac (s.fld Reg.FUS_FUSE_CFG 0 8) 256) w

/-- A cell at an end of its range (R142 rows 2 and 3); `sus`: its capacity becomes suspect. -/
abbrev edged (sus : Bool) (edge : Word) (x : Cell) : Cell :=
  let y := { x with socF := edge, socQ := edge, socV := edge, varQ := x.p00 }.flag 25 true
  let m := F32.mul (f32c 1 20) y.cap
  if sus then { y with capVar := F32.max y.capVar (F32.mul m m) }.flag 30 true else y

/-- A cell that takes its voltage path, its capacity suspect (R142 rows 4 and 5). -/
abbrev voltaged (x : Cell) : Cell :=
  let m := F32.mul (f32c 1 20) x.cap
  ({ x with socF := F32.clamp x.socV F32.zero F32.one, socQ := x.socV, varQ := x.p00,
            capVar := F32.max x.capVar (F32.mul m m) }.flag 30 true).flag 25 true

/-- A conflict decided by the slope at SOC_V (R144): the cell, whether it is an anchor, and whether its capacity run is cut. -/
abbrev resolved (s : State) (x : Cell) : Cell × Bool × Bool :=
  if F32.lt x.slope s.slopeLo then
    (mixed F32.zero { x with socV := x.socQ, p00 := x.varQ, p01 := 0, p02 := 0, conflictN := 0 }, wideAt s F32.zero, false)
  else if F32.le s.slopeHi x.slope then
    let y := { x with socQ := x.socV, varQ := x.p00, conflictN := 0 }
    (((mixed (weight (s.fuseG y) y) y).flag 27 true).flag 25 true, true, true)
  else (mixed (weight (s.fuseG x) x) x, wideAt s (weight (s.fuseG x) x), false)

/-- Steps 4 and 5 of R139 for a cell left as `y` by its row: the anchor where there is one, CONF and the span of LOW_CONF (R145, R146, R150). -/
abbrev Finished (s t : State) (r : Run) (c : Nat) (y : Cell) (anchor cut : Bool) : Prop :=
  let a := s.cellAux c
  let z := t.workCell c
  let low := F32.lt (F32.ofFrac (s.fld Reg.FUS_CONF_CFG 0 16) 10000) z.conf
  let span := if low then a.span + r.dt else 0
  z.socF = y.socF ∧ z.socQ = y.socQ ∧ z.socV = y.socV ∧ z.varQ = y.varQ ∧ z.p00 = y.p00 ∧ z.p01 = y.p01 ∧ z.p02 = y.p02 ∧
  z.conflictN = y.conflictN ∧ z.conf = F32.mul F32.two (F32.sqrt y.varQ) ∧ z.lowSpan = min 65535 (span / secT 1) ∧
  (∀ b ∈ [24, 25, 26, 27, 31], z.has b = y.has b) ∧ (low = false → z.has 28 = false) ∧
  (if anchor then z.anchorPt = timeSec s.plant % 2 ^ 32 ∧ z.socAnchor = y.socF ∧ z.varAnchor = y.varQ ∧ z.qAnchor = 0 ∧ z.runValid = true ∧
      z.has 29 = false
    else z.qAnchor = F32.add y.qAnchor a.dq ∧ z.runValid = (y.runValid && !(y.has 2 || y.has 3 || cut)) ∧ z.cap = y.cap ∧
      z.capVar = y.capVar ∧ z.has 29 = y.has 29 ∧ z.has 30 = y.has 30) ∧
  t.cellAux c = { a with span := span, fusedNow := true, confirmed := false }

/-- A cell that Fuse evaluates in a run without a taper. -/
abbrev FuseRow (s : State) (r : Run) (x : SweepRec) (c : Nat) (tab : ChemTable) : Prop :=
  s.est.run = some r ∧ r.done = 5 ∧ r.ring.head? = some x ∧ s.taperDue r x true = false ∧ s.taperDue r x false = false ∧ c < 512 ∧
    s.estimated c = true ∧ s.tableOf c = some tab ∧ (s.cellAux c).fusedNow = false

/-- Fuse leaves a cell as its row says. -/
abbrev FusedAs (o : Out) (s : State) (r : Run) (c : Nat) (y : Cell) (anchor cut : Bool) : Prop :=
  ∃ t, o = .next t ∧ Finished s t r c y anchor cut

/-- The counters of Fuse. -/
abbrev fuseRegs : List Nat := [Reg.FUS_CONFLICTS, Reg.FUS_REANCHORS, Reg.FUS_CAP_SAMPLES, Reg.FUS_CAP_REJ]

/-- FUSE_STAGE, TAPER_FIRE, CONFLICT_CONFIRM, ANCHOR_OLD, LOW_CONF (R139 to R150). The model's choices it rests on: log entries 9, 62, 63. -/
def Obligations.FusionAndItsFindings : Prop :=
  -- every estimated cell is fused, or waits for the confirmation of a conflict; the taper timers move
  (∀ (s : State) (r : Run) (x : SweepRec), s.est.run = some r → r.done = 5 → r.ring.head? = some x →
    let hi := s.taperDue r x true
    let lo := s.taperDue r x false
    let ch := s.taperCond r x true
    let cl := s.taperCond r x false
    ∃ t, exec .fuseStage s = .next t ∧
      t.est = { s.est with
        run := some { r with done := 6, full := r.full || hi, empty := r.empty || lo }, work := t.est.work, aux := t.est.aux,
        taperHi := if ch then F32.add s.est.taperHi (secF r.dt) else 0, firedHi := (s.est.firedHi || hi) && ch,
        taperLo := if cl then F32.add s.est.taperLo (secF r.dt) else 0, firedLo := (s.est.firedLo || lo) && cl } ∧
      (hi = true → evt t 0x0E 7 = true) ∧ (lo = true → evt t 0x0E 8 = true) ∧
      (∀ c, c < 512 → s.estimated c = true → (t.cellAux c).fusedNow = true ∨ (t.cellAux c).confirmed = true) ∧
      (∀ c, s.estimated c = false → t.workCell c = s.workCell c ∧ t.cellAux c = s.cellAux c) ∧ OnlyEvents [.est] fuseRegs [0x0E] s t) ∧
  -- the rows of R142, in their order: the voltage path at or past an end with a used reading
  (∀ (s : State) (r : Run) (x : SweepRec) (c : Nat) (tab : ChemTable), FuseRow s r x c tab → (s.cellAux c).usedNow = true →
    F32.le (s.workCell c).socV F32.zero = true →
    FusedAs (exec .fuseStage s) s r c (edged (F32.lt s.emptyMargin (s.workCell c).socQ) F32.zero (fuseIn s c)) true false) ∧
  (∀ (s : State) (r : Run) (x : SweepRec) (c : Nat) (tab : ChemTable), FuseRow s r x c tab → (s.cellAux c).usedNow = true →
    F32.le (s.workCell c).socV F32.zero = false → F32.le F32.one (s.workCell c).socV = true →
    FusedAs (exec .fuseStage s) s r c (edged (F32.lt (s.workCell c).socQ (F32.sub F32.one s.emptyMargin)) F32.one (fuseIn s c)) true false) ∧
  -- the charge path past an end and the voltage path away from it: the voltage path is taken, with an event
  (∀ (s : State) (r : Run) (x : SweepRec) (c : Nat) (tab : ChemTable), FuseRow s r x c tab → (s.cellAux c).usedNow = true →
    let v := s.workCell c
    F32.le v.socV F32.zero = false → F32.le F32.one v.socV = false →
    let empty := F32.le v.socQ F32.zero && F32.le s.emptyMargin v.socV
    let full := F32.le F32.one v.socQ && F32.le v.socV (F32.sub F32.one s.emptyMargin)
    (empty || full) = true →
    ∃ t, exec .fuseStage s = .next t ∧ evt t 0x0E (if empty then 3 else 4) = true ∧ Finished s t r c (voltaged (fuseIn s c)) true true) ∧
  -- past an end otherwise: mixed with g = 1, or held at the end without a reading
  (∀ (s : State) (r : Run) (x : SweepRec) (c : Nat) (tab : ChemTable), FuseRow s r x c tab → (s.cellAux c).usedNow = true →
    let v := s.workCell c
    F32.le v.socV F32.zero = false → F32.le F32.one v.socV = false → (F32.le v.socQ F32.zero || F32.le F32.one v.socQ) = true →
    (F32.le v.socQ F32.zero && F32.le s.emptyMargin v.socV || F32.le F32.one v.socQ && F32.le v.socV (F32.sub F32.one s.emptyMargin)) = false →
    let w := weight F32.one v
    FusedAs (exec .fuseStage s) s r c (mixed w (fuseIn s c)) (wideAt s w) false) ∧
  (∀ (s : State) (r : Run) (x : SweepRec) (c : Nat) (tab : ChemTable), FuseRow s r x c tab → (s.cellAux c).usedNow = false →
    let v := s.workCell c
    (F32.le v.socQ F32.zero || F32.le F32.one v.socQ) = true →
    FusedAs (exec .fuseStage s) s r c ({ fuseIn s c with socF := if F32.le v.socQ F32.zero then F32.zero else F32.one }.flag 31 true) false false) ∧
  -- within the range: the conflict count, then the mix, the wait for confirmation, or the resolution
  (∀ (s : State) (r : Run) (x : SweepRec) (c : Nat) (tab : ChemTable), FuseRow s r x c tab →
    let v := fuseIn s c
    let u := (s.cellAux c).usedNow
    let n := s.fld Reg.FUS_FUSE_CFG 16 8
    F32.le v.socQ F32.zero = false → F32.le F32.one v.socQ = false →
    (u && (F32.le v.socV F32.zero || F32.le F32.one v.socV)) = false →
    let z := F32.div (F32.abs (F32.sub v.socV v.socQ)) (F32.sqrt (F32.add v.p00 v.varQ))
    let k := if F32.lt (F32.ofFrac (s.fld Reg.FUS_FUSE_CFG 8 8) 16) z then min 255 (v.conflictN + 1) else 0
    let y := { v with conflictN := if u then k else v.conflictN }.flag 26 (decide (n ≤ if u then k else v.conflictN))
    if (u && decide (n ≤ k)) = false then
      FusedAs (exec .fuseStage s) s r c (mixed (weight (s.fuseG y) y) y) (wideAt s (weight (s.fuseG y) y)) false
    else if v.conflictN < n then
      ∃ t, exec .fuseStage s = .next t ∧ t.workCell c = y ∧ t.cellAux c = { s.cellAux c with confirmed := true }
    else FusedAs (exec .fuseStage s) s r c (resolved s y).1 (resolved s y).2.1 (resolved s y).2.2) ∧
  -- an anchor takes the capacity sample of the run that ends (R150)
  (∀ (s : State) (tab : ChemTable) (x : Cell),
    let ds := F32.sub x.socF x.socAnchor
    let smp := F32.div x.qAnchor (F32.mul (F32.ofInt 3600) ds)
    let cn := cNomAh tab
    let part (lo n d : Nat) : Word := F32.mul (F32.ofFrac (s.fld Reg.FUS_CAP_CFG lo n) d) cn
    let vs := F32.div (F32.mul (F32.mul smp smp) (F32.add x.varQ x.varAnchor)) (F32.mul ds ds)
    let k := F32.div x.capVar (F32.add x.capVar vs)
    let t := (s.anchorCell tab x).1
    let y := (s.anchorCell tab x).2
    if (!x.runValid || F32.lt (F32.abs ds) (F32.ofFrac (s.fld Reg.FUS_CAP_CFG 0 8) 100)) = true then y.cap = x.cap ∧ y.capVar = x.capVar ∧ t = s
    else if (F32.le (part 16 8 100) smp && F32.le smp (part 24 8 100)) = false then
      y.cap = x.cap ∧ y.capVar = x.capVar ∧ t.reg Reg.FUS_CAP_REJ = s.reg Reg.FUS_CAP_REJ + 1 ∧ evt t 0x0E 10 = true ∧
        OnlyEvents [] [Reg.FUS_CAP_REJ] [0x0E] s t
    else
      y.cap = F32.add x.cap (F32.mul k (F32.sub smp x.cap)) ∧
        y.capVar = F32.max (F32.mul (F32.sub F32.one k) x.capVar) (F32.mul (part 8 8 1000) (part 8 8 1000)) ∧ y.has 30 = false ∧
        t.reg Reg.FUS_CAP_SAMPLES = s.reg Reg.FUS_CAP_SAMPLES + 1 ∧ evt t 0x0E 9 = true ∧ OnlyEvents [] [Reg.FUS_CAP_SAMPLES] [0x0E] s t) ∧
  -- a taper puts the cells near its end there, and mixes those on a slope
  (∀ (full : Bool) (s : State) (r : Run) (x : SweepRec), s.est.run = some r → r.done = 5 → r.ring.head? = some x →
    s.taperDue r x full = true →
    let edge := if full then F32.one else F32.zero
    ∃ t, exec (.taperFire full) s = .next t ∧ evt t 0x0E (if full then 7 else 8) = true ∧
      t.est = { s.est with
        run := some (if full then { r with full := true } else { r with empty := true }), firedHi := s.est.firedHi || full,
        firedLo := s.est.firedLo || !full, work := t.est.work, aux := t.est.aux } ∧
      (∀ c v, c < 512 → s.estimated c = true → (s.cellAux c).fusedNow = false → cleanV x c = some v →
        let y := fuseIn s c
        let near := if full then decide (s.fld Reg.FUS_TAPER_V 16 16 ≤ v + s.rd Reg.FUS_TAPER_DV)
          else decide (v ≤ s.fld Reg.FUS_TAPER_V 0 16 + s.rd Reg.FUS_TAPER_DV)
        if near then
          Finished s t r c ({ y with
            socF := edge, socQ := edge, socV := edge, varQ := f32c 25 1000000, p00 := f32c 25 1000000, p01 := 0, p02 := 0 }.flag 25 true) true false
        else if F32.le s.slopeHi y.slope then
          Finished s t r c (mixed (weight F32.one y) y) (wideAt s (weight F32.one y)) false
        else t.workCell c = s.workCell c ∧ t.cellAux c = s.cellAux c) ∧
      (∀ c, (s.estimated c = false ∨ (s.cellAux c).fusedNow = true ∨ cleanV x c = none) →
        t.workCell c = s.workCell c ∧ t.cellAux c = s.cellAux c) ∧
      OnlyEvents [.est] fuseRegs [0x0E] s t) ∧
  -- the condition of a taper, and when one fires (R148)
  (∀ (full : Bool) (s : State) (r : Run) (x : SweepRec), s.taperDue r x full = true ↔
    (curValid x = true ∧ s.rd Reg.EST_C_RATE ≠ 0 ∧ (if full then F32.le F32.zero r.ibar else F32.le r.ibar F32.zero) = true ∧
      F32.le (F32.abs r.ibar) (F32.ofFrac (s.fld Reg.FUS_TAPER_CFG 0 16 * s.rd Reg.EST_C_RATE) 1000000) = true ∧
      (s.countedCells.any fun c => (cleanV x c).any fun v =>
        if full then decide (s.fld Reg.FUS_TAPER_V 16 16 ≤ v) else decide (v ≤ s.fld Reg.FUS_TAPER_V 0 16)) = true) ∧
    (if full then s.est.firedHi else s.est.firedLo) = false ∧
    F32.le (F32.ofNat (s.fld Reg.FUS_TAPER_CFG 16 16)) (F32.add (if full then s.est.taperHi else s.est.taperLo) (secF r.dt)) = true) ∧
  (∀ (full : Bool) (s : State) (r : Run), s.est.run = some r →
    (r.done ≠ 5 ∨ r.ring.head? = none ∨ (r.ring.head?.all fun x => !s.taperDue r x full) = true) → exec (.taperFire full) s = .next s) ∧
  -- a conflict is confirmed: counted, and decided by the slope
  (∀ (cell : Fin 512) (s : State) (r : Run), s.est.run = some r → r.done = 6 → s.estimated cell.val = true →
    (s.cellAux cell.val).confirmed = true →
    let d := resolved s (s.workCell cell.val)
    let steep := !F32.lt (s.workCell cell.val).slope s.slopeLo && F32.le s.slopeHi (s.workCell cell.val).slope
    ∃ t, exec (.conflictConfirm cell) s = .next t ∧ t.reg Reg.FUS_CONFLICTS = s.reg Reg.FUS_CONFLICTS + 1 ∧ evt t 0x0E 1 = true ∧
      Finished s t r cell.val d.1 d.2.1 d.2.2 ∧
      t.reg Reg.FUS_REANCHORS = s.reg Reg.FUS_REANCHORS + (if steep then 1 else 0) ∧ (steep = true → evt t 0x0E 2 = true) ∧
      t.est = { s.est with work := t.est.work, aux := t.est.aux } ∧
      (∀ c, c ≠ cell.val → t.workCell c = s.workCell c ∧ t.cellAux c = s.cellAux c) ∧ OnlyEvents [.est] fuseRegs [0x0E] s t) ∧
  (∀ (cell : Fin 512) (s : State) (r : Run), s.est.run = some r →
    (r.done ≠ 6 ∨ s.estimated cell.val = false ∨ (s.cellAux cell.val).confirmed = false) → exec (.conflictConfirm cell) s = .next s) ∧
  (∀ (cell : Fin 512) (s : State) (r : Run), s.est.run = some r →
    let x := s.workCell cell.val
    let age := sdiff 32 (timeSec s.plant) x.anchorPt
    let old := decide (((s.rd Reg.FUS_ANCHOR_MAX * 3600 : Nat) : Int) ≤ age)
    if r.done = 6 ∧ (s.estimated cell.val && !x.has 29 && !(s.cellAux cell.val).confirmed && old) = true then
      ∃ t, exec (.anchorOld cell) s = .next t ∧ t.workCell cell.val = (s.workCell cell.val).flag 29 true ∧
        t.est = { s.est with work := t.est.work } ∧ (∀ c, c ≠ cell.val → t.workCell c = s.workCell c) ∧ evt t 0x0E 6 = true ∧
        OnlyEvents [.est] [] [0x0E] s t
    else exec (.anchorOld cell) s = .next s) ∧
  (∀ (cell : Fin 512) (s : State) (r : Run), s.est.run = some r →
    let a := s.cellAux cell.val
    let long := decide (a.span ≠ 0 ∧ secT (s.fld Reg.FUS_CONF_CFG 16 16) ≤ a.span)
    if r.done = 6 ∧ (s.estimated cell.val && !(s.workCell cell.val).has 28 && !a.confirmed && long) = true then
      ∃ t, exec (.lowConf cell) s = .next t ∧ t.workCell cell.val = (s.workCell cell.val).flag 28 true ∧
        t.est = { s.est with work := t.est.work } ∧ (∀ c, c ≠ cell.val → t.workCell c = s.workCell c) ∧ evt t 0x0E 5 = true ∧
        OnlyEvents [.est] [] [0x0E] s t
    else exec (.lowConf cell) s = .next s)

/-- The state as Publish's balance plan sees it: the working buffer is published. -/
abbrev published (s : State) : State := { s with est := { s.est with pub := s.est.work } }

/-- What Scale has put by for a register. -/
abbrev scaled (t : State) (a : Nat) : Option Word := t.est.run.bind fun r => r.out.find? a

/-- A finished run stands for Publish: its values are of page 0x0E and none of them is a register that Publish itself writes. -/
abbrev PublishDue (s : State) (r : Run) (x rec_ : SweepRec) : Prop :=
  s.est.run = some r ∧ r.done = 7 ∧ r.ring.head? = some x ∧ s.newestRec = some rec_ ∧ r.out.wf = true ∧
    ∀ e ∈ r.out, e.1 / 0x1000 = 0x0E ∧ e.1 ≠ Reg.FUS_PUB_SEQ ∧ e.1 ≠ State.evtAddr 0x0E

/-- SCALE_STAGE, PUBLISH, PIPELINE_OVERRUN, LIMITS_ZEROED (R107 to R110, R116, R118, R151 to R160, R163). The model's choices it rests on: log entries 9,
64, 65, 67, 68, 69, 118. -/
def Obligations.ScalePublishAndOverrun : Prop :=
  -- Scale completes what Fuse left open, filters the powers, and puts its values by for Publish
  (∀ (s : State) (r : Run) (x : SweepRec), s.est.run = some r → r.done = 6 → r.ring.head? = some x →
    let f := s.fuseRest r
    let p := F32.mul r.ibar (State.vStr x)
    let k := F32.div (secF r.dt) (F32.ofNat (s.rd Reg.FUS_ZP_TAU))
    let step (a b : Word) : Word := F32.add a (F32.mul k (F32.sub (F32.max b F32.zero) a))
    let reads := s.cleanReads x
    ∃ t, exec .scaleStage s = .next t ∧ t.est.run.map (fun (u : Run) => { u with out := r.out }) = some { r with done := 7 } ∧
      t.est.pfDis = step s.est.pfDis (F32.neg p) ∧ t.est.pfChg = step s.est.pfChg p ∧ t.est.work = f.est.work ∧ t.est.pub = s.est.pub ∧
      (scaled t Reg.FUS_STR_CYCLE = some (w32 r.cycle) ∧
       scaled t Reg.FUS_PF_DIS = some (w32 (unsignedField 32 1 t.est.pfDis)) ∧
       scaled t Reg.FUS_PF_CHG = some (w32 (unsignedField 32 1 t.est.pfChg)) ∧
       (reads ≠ [] → scaled t Reg.FUS_V_RANGE = some (halves (reads.foldl min (reads.headD 0)) (reads.foldl max 0))) ∧
       scaled t Reg.FUS_FUSE_COUNT = some (halves (min 1023 ((f.estCells.filter fun c => (f.workCell c).has 28).length))
         (min 1023 ((f.estCells.filter fun c => (f.workCell c).has 29).length)))) ∧
      t.est = { s.est with run := t.est.run, work := t.est.work, aux := t.est.aux, rep := t.est.rep, raw := t.est.raw, repOk := t.est.repOk,
                           rawOk := t.est.rawOk, validOnce := t.est.validOnce, pfDis := t.est.pfDis, pfChg := t.est.pfChg } ∧
      OnlyEvents [.est] fuseRegs [0x0E] s t) ∧
  -- a run whose counted cells are not all valid, or with none: SOC reads 0xFFFF, the energies 0, the limits PLIM_FALLBACK
  (∀ (s : State) (r : Run) (x : SweepRec), s.est.run = some r → r.done = 6 → r.ring.head? = some x →
    (s.countedCells = [] ∨ (s.fuseRest r).countedCells.any (fun c => !(s.estimated c && F32.finite ((s.fuseRest r).workCell c).socF)) = true) →
    let low := ((s.fuseRest r).estCells.any fun c => ((s.fuseRest r).workCell c).has 29)
    ∃ t, exec .scaleStage s = .next t ∧
      (scaled t Reg.FUS_SOC_REP = some 0xFFFFFFFF#32 ∧ scaled t Reg.FUS_SOC_RANGE = some 0xFFFFFFFF#32 ∧
       scaled t Reg.FUS_E_DIS = some 0 ∧ scaled t Reg.FUS_E_CHG = some 0 ∧
       scaled t Reg.FUS_STR_FLAGS = some (w32 (2 * b2n r.full + 4 * b2n r.empty + 8 * b2n low + 16)) ∧
       (∀ i, i < 6 → scaled t (Reg.FUS_P_DIS_2S + 4 * i) = some (w32 (min (2 ^ 31 - 1) (s.rd Reg.FUS_PLIM_FALLBACK))))) ∧
      t.est.rep = s.est.rep ∧ t.est.raw = s.est.raw ∧ t.est.repOk = (s.est.repOk && !s.est.validOnce) ∧
      t.est.rawOk = (s.est.rawOk && !s.est.validOnce)) ∧
  -- a valid run: A_MIN, B_MIN, raw and rep, the energies and the limits of R153 to R158
  (∀ (s : State) (r : Run) (x : SweepRec) (rows : List ScaleRow), s.est.run = some r → r.done = 6 → r.ring.head? = some x →
    (s.fuseRest r).scaleRows = some rows →
    let g := (s.fuseRest r).powerFilter r x
    let iz := g.zeroCurrents x
    let ws := rows.map fun y => (g.window iz y, y.cell)
    let a := leastOf (ws.map fun (w, c) => (w.1, c))
    let b := leastOf (ws.map fun (w, c) => (w.2, c))
    let tot := F32.add a.1 b.1
    let zero := decide (F32.mant tot = 0)
    let ls := [2, 10, 60].map (s.limitsAt rows)
    let dnat := F32.div r.q (F32.mul (F32.ofInt 3600) tot)
    let base := if s.est.repOk then s.ratchet r s.est.rep (F32.div a.1 tot) dnat else F32.div a.1 tot
    ∃ t, exec .scaleStage s = .next t ∧ t.est.validOnce = true ∧
      (zero = false → t.est.raw = F32.div a.1 tot ∧ t.est.rep = (s.repEnd r (s.cleanReads x)).getD base ∧ t.est.rawOk = true ∧ t.est.repOk = true) ∧
      (zero = true → evt t 0x0E 11 = true ∧ t.est.raw = s.est.raw ∧ t.est.rawOk = s.est.rawOk) ∧
      (scaled t Reg.FUS_SOC_REP = some (halves (if t.est.repOk then socField t.est.rep else 0xFFFF) (if t.est.rawOk then socField t.est.raw else 0xFFFF)) ∧
       scaled t Reg.FUS_CELL_IDX = some (halves a.2 b.2) ∧ scaled t Reg.FUS_A_MIN = some (w32 (unsignedField 32 1000 a.1)) ∧
       scaled t Reg.FUS_B_MIN = some (w32 (unsignedField 32 1000 b.1)) ∧
       scaled t Reg.FUS_E_DIS = some (w32 (energies rows a.1 b.1 iz).1) ∧ scaled t Reg.FUS_E_CHG = some (w32 (energies rows a.1 b.1 iz).2) ∧
       (∀ i, i < 3 → scaled t (Reg.FUS_P_DIS_2S + 4 * i) = some (w32 ((ls.getD i (0, 0)).1)) ∧
         scaled t (Reg.FUS_P_DIS_2S + 4 * (i + 3)) = some (w32 ((ls.getD i (0, 0)).2))))) ∧
  -- the events that move rep to an end (R156)
  (∀ (s : State) (r : Run) (reads : List Nat), s.repEnd r reads =
    if r.full then some F32.one else if r.empty then some F32.zero
    else if (F32.lt s.ratchetI r.ibar && reads.any fun v => decide (s.fld Reg.FUS_SHUT_V 16 16 ≤ v)) = true then some F32.one
    else if (F32.lt r.ibar (F32.neg s.ratchetI) && reads.any fun v => decide (v ≤ s.fld Reg.FUS_SHUT_V 0 16)) = true then some F32.zero else none) ∧
  -- Publish swaps the buffers and shows the run's values; the balance plan names every joined node
  (∀ (s : State) (r : Run) (x rec_ : SweepRec), PublishDue s r x rec_ →
    let p := published s
    let off := s.balModeOff || decide (s.fld Reg.BAL_BAL_CFG 0 2 = 0)
    let us := min 65535 (s.since r.start / 250)
    ∃ t, exec .publish s = .next t ∧ t.est.pub = s.est.work ∧ t.est.run = none ∧ t.est.noPub = 0 ∧ t.est.pubAt = s.tim.odo ∧
      (∀ c, (t.cellAux c).retable = false) ∧
      (∀ a v, r.out.find? a = some v → t.reg a = v) ∧ t.reg Reg.FUS_PUB_SEQ = s.reg Reg.FUS_PUB_SEQ + 1 ∧
      t.rd Reg.EST_PIPE_CYCLE = r.cycle % 2 ^ 32 ∧ t.fld Reg.EST_PIPE_TIME 0 16 = us ∧
      t.fld Reg.EST_PIPE_TIME 16 16 = max us (s.fld Reg.EST_PIPE_TIME 16 16) ∧
      t.ctl = { s.ctl with plim := (List.range 6).map (fun i => ((t.rd (Reg.FUS_P_DIS_2S + 4 * i) : Nat) : Int)) } ∧
      t.link = { s.link with balPlan := s.joinedNodes.map (p.balGroup (if off then [] else p.balWants x) x.index), balSent := false } ∧
      t.reg Reg.BAL_BAL_PLANS = s.reg Reg.BAL_BAL_PLANS + 1 ∧ evt t 0x0F 0 = true ∧ evt t 0x0E 0 = true ∧
      t.reg Reg.BAL_BAL_REPLACED = s.reg Reg.BAL_BAL_REPLACED + (if (s.inControl && !s.link.balSent && !s.link.balPlan.isEmpty) = true then 1 else 0) ∧
      (s.balModeOff = true → evt t 0x0F 4 = true ∧ ∀ b ∈ t.link.balPlan, b.mask = 0) ∧
      (s.inControl = true → s.cswUp = true → t.pair.snapSent.isSome = true) ∧
      OnlyPages [.est, .link, .recd, .pair, .frm, .ctl, .nv, .mem, .busData, .busHi, .busErr, .draws, .free] [0x03, 0x0D, 0x0E, 0x0F, 0x1A, 0x1B] s t) ∧
  -- the cells and the groups of a plan (R107 to R110)
  (∀ (s : State) (x : SweepRec) (c v : Nat), s.balReading x c = some v ↔
    recV x c = some v ∧ recScr x c &&& 0xD7 = 0 ∧ s.rd Reg.BAL_BAL_VMIN ≤ v ∧ s.bit Reg.BAL_BAL_INHIBIT (c / 16) = false ∧
      s.bit Reg.BAL_BAL_FAULT (c / 16) = false ∧
      (s.fld Reg.BAL_BAL_CFG 0 2 ≠ 1 ∨ (s.estimated c = true ∧ F32.finite (s.pubCell c).socF = true))) ∧
  (∀ (s : State) (x : SweepRec) (n i : Nat), n < 32 → i < 16 →
    let wants := s.balWants x
    let g := s.balGroup wants x.index n
    let q (c : Nat) : Bool := wants.any fun w => w.1 == c
    let c := 16 * n + i
    let beside := (decide (i ≠ 0) && q (c - 1)) || (decide (i ≠ 15) && q (c + 1))
    g.node = n ∧ g.mask.testBit i = (q c && (!beside || c % 2 == x.index % 2)) ∧ g.duty ≤ s.dutyMax ∧ g.duty ≤ s.nodeCapDuty n ∧
      (g.mask.testBit i = true → (wants.all fun w => w.1 != c || decide (g.duty ≤ w.2)) = true)) ∧
  -- a tap that is due posts its entry, keeps it in its buffer, or drops it; a tap that is not due waits
  (∀ (s : State) (r : Run) (x rec_ : SweepRec) (i : Nat) (p : Tap), PublishDue s r x rec_ → i < 32 → s.est.taps = [(i, p)] →
    s.frm.state = 0 → s.held (.own .pipe) = false → s.fwlOn = false →
    let next := (p.widx + 1) % p.depth
    let out := fun (t : State) => (t.est.taps.find? i).getD p
    ∃ t, exec .publish s = .next t ∧
      (if rec_.index % p.decim ≠ 0 then out t = p ∧ (∀ a, t.readByte a = s.readByte a)
      else if next = s.readLE (p.base + 4) 4 then
        out t = { p with seq := (p.seq + 1) % 2 ^ 32, drops := (p.drops + 1) % 2 ^ 32 } ∧ evt t 0x0E 13 = true ∧ (∀ a, t.readByte a = s.readByte a)
      else (out t = { p with seq := (p.seq + 1) % 2 ^ 32, stays := true } ∧ (∀ a, t.readByte a = s.readByte a)) ∨
        (out t = { p with seq := (p.seq + 1) % 2 ^ 32, widx := next } ∧
          t.mem = ((s.writeBytes (p.base + 8 + p.widx * p.size) (t.tapEntry rec_ p)).writeBytes p.base (leBytes 4 next)).mem))) ∧
  -- the run has taken too long: it is stopped, and its charge goes to the next
  (∀ (s : State) (r : Run), s.est.run = some r → msT 2 ≤ s.since r.start →
    let second := s.est.overrunAt.any fun k => decide (r.index < k + 100)
    ∃ t, exec .pipelineOverrun s = .next t ∧
      t.est = { s.est with run := none, overrunAt := some r.index, noPub := s.est.noPub + 1, carry := some (r.dt, r.qsum, r.nsum, r.qbal),
                           aux := t.est.aux, on := t.est.on } ∧
      (∀ c, c < 512 → t.cellAux c =
        if (s.cellAux c).started && !((s.pubCell c).has 0 || (s.pubCell c).has 1) then
          { s.cellAux c with started := false, hist := [], used := none } else s.cellAux c) ∧
      evt t 0x0D 7 = true ∧
      (second = false ∨ s.inControl = false → OnlyEvents [.est] [] [0x0D] s t) ∧
      -- the second within 100 sweeps is a cause for resignation
      (second = true → s.pair.role = .active → s.partnerFit = true → t.pair.role = .shadow ∧ t.fld Reg.RED_LAST_CAUSE 0 8 = 2 ∧ evt t 0x1C 3 = true) ∧
      (second = true → s.inControl = true → (s.pair.role = .solo ∨ s.partnerFit = false) → 2 ∈ t.pair.blocked ∧ t.pair.role = s.pair.role)) ∧
  (∀ s : State, (s.est.run.all fun r => decide (s.since r.start < msT 2)) = true → exec .pipelineOverrun s = .next s) ∧
  (∀ s : State,
    if s.rd Reg.FUS_PLIM_HOLD ≤ s.est.noPub then
      ∃ t, exec .limitsZeroed s = .next t ∧ t.ctl = { s.ctl with plim := [0, 0, 0, 0, 0, 0] } ∧ t.bit Reg.FUS_STR_FLAGS 5 = true ∧
        t.reg Reg.FUS_STR_FLAGS &&& ~~~(0x20 : Word) = s.reg Reg.FUS_STR_FLAGS &&& ~~~(0x20 : Word) ∧
        evt t 0x0E 12 = true ∧ OnlyEvents [.ctl] [Reg.FUS_STR_FLAGS] [0x0E] s t
    else exec .limitsZeroed s = .next s)

/-- A command of the chemistry tables is refused (R121, R122). -/
abbrev ChemRefused (o : Out) (s : State) (e : ErrCode) (load : Bool) : Prop :=
  ∃ t, o = .next t ∧ t.rd (errAddr 0x0D) % 2 ^ 8 = e.code ∧ (if load then evt t 0x0D 9 = true ∧ OnlyEvents [] [errAddr 0x0D] [0x0D] s t
    else Only [] [errAddr 0x0D] s t)

/-- A command of the taps is refused (R161). -/
abbrev TapRefused (o : Out) (s : State) (e : ErrCode) : Prop :=
  ∃ t, o = .next t ∧ t.rd (errAddr 0x0E) % 2 ^ 8 = e.code ∧ Only [] [errAddr 0x0E] s t

/-- CHEM_LOAD, CHEM_DESTROY, CHEM_ASSIGN, EST_CFG_WRITE, DITHER_START, DITHER_END, TAP_CREATE, TAP_DESTROY, TAP_QUERY (R121, R122, R125, R134, R161).
Whether a table's signature holds is opaque (log entry 7); that the lowest free slot is taken is the model's choice (log entry 110). The model's
choices it rests on: log entries 7, 61, 66, 110. -/
def Obligations.EstimatorTablesTapsAndDither : Prop :=
  -- a table that R121 accepts takes the lowest free slot
  (∀ (mid : Mid) (s : State) (i : Nat), Passes s mid Reg.EST_CHEM_CMD true → s.fwlOn = false → s.held (.own .pipe) = false →
    s.est.chems.firstFree 4 = some i →
    let b := s.readBytes (s.rd Reg.EST_CHEM_ADDR) 4068
    if (s.nv.keys.find? 3).any (fun bench => chemOk bench b) then
      ∃ t, exec (.chemLoad mid) s = .next t ∧
        t.est.chems.find? i = some (chemParse b) ∧ (∀ j, j ≠ i → t.est.chems.find? j = s.est.chems.find? j) ∧
        t.est = { s.est with chems := t.est.chems } ∧ t.reg Reg.EST_CHEM_HANDLE = t.handleOf .chem i ∧ t.bit Reg.EST_CHEM_MAP i = true ∧
        Only [.est, .gens] [Reg.EST_CHEM_HANDLE, Reg.EST_CHEM_MAP] s t
    else ChemRefused (exec (.chemLoad mid) s) s .chemBad true) ∧
  (∀ (mid : Mid) (s : State), Passes s mid Reg.EST_CHEM_CMD true → s.est.chems.firstFree 4 = none →
    ChemRefused (exec (.chemLoad mid) s) s .chemFull true) ∧
  -- what R121 asks of a table
  (∀ (bench : Nat) (b : List Nat),
    let tab := chemParse b
    chemOk bench b = true ↔ leAt b 0 4 = 0x43484D54 ∧ leAt b 4 2 = 1 ∧ leAt b 8 4 = 4068 ∧ tab.cNom ≠ 0 ∧ tab.vMin < tab.vMax ∧ ascending tab.temps = true ∧
      (tab.ocv.all fun g => nonDecreasing g && g.all fun v => decide (tab.vMin ≤ v) && decide (v ≤ tab.vMax)) = true ∧
      (tab.params.all fun p => ([p.rohm, p.rp1, p.cp1, p.rp2, p.cp2].all fun y => F32.finite y && F32.lt F32.zero y) && F32.finite p.sd &&
        F32.le F32.zero p.sd) = true ∧
      F32.le (f32c 9 10) tab.etaC = true ∧ F32.le tab.etaC F32.one = true ∧ F32.finite tab.gamma = true ∧ F32.le F32.zero tab.gamma = true ∧
      Config.ecdsaOk bench (b.take 0xF84) ((b.drop 0xF84).take 96) = true) ∧
  (∀ (mid : Mid) (s : State) (i : Nat), Passes s mid Reg.EST_CHEM_CMD true → s.chemHandle = .ok i →
    let first := s.fld Reg.EST_CHEM_RANGE 0 9
    let last := s.fld Reg.EST_CHEM_RANGE 16 9
    (if s.chemInUse i then ChemRefused (exec (.chemDestroy mid) s) s .inUse false
    else
      ∃ t, exec (.chemDestroy mid) s = .next t ∧ t.est.chems.find? i = none ∧ (∀ j, j ≠ i → t.est.chems.find? j = s.est.chems.find? j) ∧
        t.est = { s.est with chems := t.est.chems } ∧ t.bit Reg.EST_CHEM_MAP i = false ∧ Only [.est] [Reg.EST_CHEM_MAP] s t) ∧
    (if first ≤ last then
      ∃ t, exec (.chemAssign mid) s = .next t ∧ t.est = { s.est with assigns := s.est.assigns ++ [(i, first, last)] } ∧ Only [.est] [] s t
    else ChemRefused (exec (.chemAssign mid) s) s .range false)) ∧
  (∀ (mid : Mid) (s : State) (e : ErrCode), Passes s mid Reg.EST_CHEM_CMD true → s.chemHandle = .error e →
    ChemRefused (exec (.chemDestroy mid) s) s e false ∧ ChemRefused (exec (.chemAssign mid) s) s e false) ∧
  (∀ (mid : Mid) (v : Word) (s : State), Passes s mid Reg.EST_EST_CFG true →
    ∃ t, exec (.estCfgWrite mid v) s = .next t ∧ t.reg Reg.EST_EST_CFG &&& 0x1F = v &&& 0x1F ∧ t.est = s.est ∧ Only [] [Reg.EST_EST_CFG] s t) ∧
  -- a dither starts 5 ms after the sample instant of the sweep that opened with it due, and at no other time
  (∀ (s : State) (cyc : Nat) (t0 : BitVec 64) (l : List (Nat × BitVec 64)), s.swp.smps = (cyc, t0) :: l →
    if (s.est.ditherArm && s.ditherDue && s.est.dither.isNone && decide (s.tim.odo = t0 + 1250000) && !s.activationNear) = true then
      ∃ t, exec .ditherStart s = .next t ∧ t.est = { s.est with dither := some (s.tim.odo, s.ditherAmp), ditherEarly := none } ∧
        evt t 0x0D 4 = true ∧ OnlyEvents [.est] [] [0x0D] s t
    else exec .ditherStart s = .next s) ∧
  (∀ s : State, (s.swp.smps = [] ∨ s.inControl = false ∨ s.pair.mode ≠ .operate ∨ s.bit Reg.EST_EST_CFG 3 = false ∨ s.rd Reg.EST_C_RATE = 0) →
    exec .ditherStart s = .next s) ∧
  -- its sign: against a current that is at least its amplitude, else toward the middle of the fused SOC
  (∀ s : State,
    let amp : Int := s.rd Reg.EST_DITHER_AMP
    let i : Int := (s.srcCh.outs.head?.map (·.2)).getD 0
    s.ditherAmp = if amp ≤ i.natAbs then (if 0 < i then -amp else amp) else if s.fusedLow then amp else -amp) ∧
  -- it ends after 100 ms, or early when the module no longer runs the dispatch
  (∀ (s : State) (t0 : BitVec 64) (a : Int), s.est.dither = some (t0, a) →
    let term := decide (msT 100 ≤ s.since t0)
    if (term || !(s.pair.mode == .operate && s.inControl)) = true then
      ∃ t, exec .ditherEnd s = .next t ∧ t.est = { s.est with dither := none, ditherEarly := if term then none else some s.tim.odo } ∧
        evt t 0x0D 5 = true ∧ OnlyEvents [.est] [] [0x0D] s t
    else exec .ditherEnd s = .next s) ∧
  (∀ s : State, s.est.dither = none → exec .ditherEnd s = .next s) ∧
  (∀ (mid : Mid) (s : State) (i : Nat), Passes s mid Reg.FUS_TAP_CMD true → s.est.taps.firstFree 32 = some i →
    let fields := s.fld Reg.FUS_TAP_CFG 0 16
    let decim := s.fld Reg.FUS_TAP_CFG 16 8
    let first := s.fld Reg.FUS_TAP_RANGE 0 9
    let last := s.fld Reg.FUS_TAP_RANGE 16 9
    let base := s.rd Reg.FUS_TAP_BASE
    let depth := s.rd Reg.FUS_TAP_DEPTH
    let size := tapSize fields first last
    if fields = 0 ∨ decim = 0 ∨ last < first ∨ depth < 2 ∨ 65535 < depth then TapRefused (exec (.tapCreate mid) s) s .range
    else if 131072 < size + s.tapUsed then TapRefused (exec (.tapCreate mid) s) s .tapSpace
    else if !s.rangeRight (midColumn (.own .pipe)) base (8 + depth * size) true then TapRefused (exec (.tapCreate mid) s) s .fwlDeny
    else
      ∃ t, exec (.tapCreate mid) s = .next t ∧
        t.est.taps.find? i = some { fields := fields, decim := decim, first := first, last := last, base := base, depth := depth, size := size } ∧
        (∀ j, j ≠ i → t.est.taps.find? j = s.est.taps.find? j) ∧ t.est = { s.est with taps := t.est.taps } ∧
        t.reg Reg.FUS_TAP_HANDLE = t.handleOf .tap i ∧ t.rd Reg.FUS_TAP_ESIZE = size ∧ t.rd Reg.FUS_TAP_SPACE = 131072 - (size + s.tapUsed) ∧
        t.rd Reg.FUS_TAP_COUNT = t.est.taps.length % 2 ^ 32 ∧
        Only [.est, .gens] [Reg.FUS_TAP_HANDLE, Reg.FUS_TAP_ESIZE, Reg.FUS_TAP_SPACE, Reg.FUS_TAP_COUNT] s t) ∧
  (∀ (mid : Mid) (s : State), Passes s mid Reg.FUS_TAP_CMD true → s.est.taps.firstFree 32 = none →
    TapRefused (exec (.tapCreate mid) s) s .tapFull) ∧
  (∀ (mid : Mid) (s : State) (i : Nat) (x : Tap), Passes s mid Reg.FUS_TAP_CMD true → s.tapHandle = .ok i → s.est.taps.find? i = some x →
    (∃ t, exec (.tapDestroy mid) s = .next t ∧ t.est.taps.find? i = none ∧ (∀ j, j ≠ i → t.est.taps.find? j = s.est.taps.find? j) ∧
      t.est = { s.est with taps := t.est.taps } ∧ t.reg Reg.FUS_TAP_COUNT = w32 t.est.taps.length ∧ t.reg Reg.FUS_TAP_SPACE = w32 (131072 - t.tapUsed) ∧
      Only [.est] [Reg.FUS_TAP_SPACE, Reg.FUS_TAP_COUNT] s t) ∧
    (∃ t, exec (.tapQuery mid) s = .next t ∧ t.reg Reg.FUS_TAP_ESIZE = w32 x.size ∧ t.reg Reg.FUS_TAP_DROPS = w32 x.drops ∧
      Only [] [Reg.FUS_TAP_ESIZE, Reg.FUS_TAP_DROPS] s t)) ∧
  (∀ (mid : Mid) (s : State) (e : ErrCode), Passes s mid Reg.FUS_TAP_CMD true → s.tapHandle = .error e →
    TapRefused (exec (.tapDestroy mid) s) s e ∧ TapRefused (exec (.tapQuery mid) s) s e)

/-- Nothing an earlier step has left, and no frame of the partner, waits for the next control step. -/
abbrev StepClear (s : State) : Prop :=
  s.ctl.fallDue = false ∧ s.ctl.oscDue = none ∧ s.ctl.restore = false ∧ s.gau.ctlFired = [] ∧ s.ctl.next = none ∧ s.ctl.mirror = none

/-- A frame of the converter reference link (R183): sent where the port can, with REF 0 in a STOP frame. -/
abbrev FrameSent (s t : State) (stop rep : Bool) (ref : Int) : Prop :=
  if s.cvlSends then
    let old := s.ctl.frame
    t.ctl.frame.ref = (if stop then 0 else ref) ∧ t.ctl.frame.seq = (old.seq + 1) % 256 ∧ t.ctl.frame.role = s.pair.role.code ∧
    t.ctl.frame.stop = stop ∧ t.ctl.frame.rep = rep ∧ t.ctl.frame.tko = s.pair.tko ∧ t.ctl.frameAt = some s.tim.odo ∧
    t.ctl.frame.path = (if rep then old.path else t.ctl.path) ∧ t.ctl.frame.sel = (if rep then old.sel else t.ctl.sel) ∧
    t.ctl.gap = s.ctl.frameAt.elim s.ctl.gap (fun at_ => max s.ctl.gap (s.since at_)) ∧
    t.reg Reg.CVL_CVL_FRAMES = s.reg Reg.CVL_CVL_FRAMES + 1 ∧
    t.reg Reg.CVL_CVL_STOPS = s.reg Reg.CVL_CVL_STOPS + (if stop then 1 else 0) ∧
    t.reg Reg.CVL_CVL_REPEATS = s.reg Reg.CVL_CVL_REPEATS + (if rep then 1 else 0) ∧
    t.reg Reg.CTL_U_OUT = w32 (refField t.ctl.frame.ref) ∧
    (let w := cvlWord t.ctl.frame + crc16 (leBytes 6 (cvlWord t.ctl.frame)) * 2 ^ 48; t.reg Reg.CVL_CVL_LAST_LO = w32 w ∧
      t.reg Reg.CVL_CVL_LAST_HI = w32 (w / 2 ^ 32)) ∧
    ((stop && !old.stop) = true → evt t 0x11 1 = true) ∧ ((old.stop && !stop) = true → evt t 0x11 2 = true)
  else t.ctl.frame = s.ctl.frame ∧ t.reg Reg.CVL_CVL_FRAMES = s.reg Reg.CVL_CVL_FRAMES

/-- The state in which the loops of a step run: the step counted, the budgets and the ramp moved on. -/
abbrev loopsState (s : State) (i v : Int) : State := ((s.beginStep.frmTick (some (i, v))).budgets (i * v)).1.rampNow

/-- The two paths of a step (R166 to R169, R176). -/
abbrev mainOf (s : State) (i v : Int) : StepOut :=
  let l := ((s.beginStep.frmTick (some (i, v))).budgets (i * v)).2
  mainStep (loopsState s i v).ctl ((loopsState s i v).mainIn i v l.1 l.2)
abbrev fixOf (s : State) (i v : Int) : StepOutX :=
  let l := ((s.beginStep.frmTick (some (i, v))).budgets (i * v)).2
  fixStep (loopsState s i v).ctl ((loopsState s i v).fixIn i v l.1 l.2)

/-- CONTROL_STEP (R164 to R170, R176 to R178, R181, R183, R184). The model's choices it rests on: log entries 9, 70, 71, 73, 121. -/
def Obligations.ControlSteps : Prop :=
  -- what waits is done first: a detection, a fall-over, a RESTORE_MAIN, the firings, and a set-point of IMMEDIATE or FRM
  (∀ (lat : Nat) (s : State), s.ctl.set.n ≤ s.ctl.outs →
    exec (.controlStep lat) s = exec (.controlStep lat) (s.oscDetect.fallOver.switchBack.takeFirings).takeNext) ∧
  -- STOPPED sends a STOP frame with REF 0
  (∀ (lat : Nat) (s : State), StepClear s → (s.ctl.set.n ≤ s.ctl.outs ∨ s.ctlSource = none) → s.ctl.state = 0 →
    ∃ t, exec (.controlStep lat) s = .next t ∧ FrameSent s t true false 0 ∧ t.ctl.state = 0 ∧ t.ctl.outs = 0 ∧
      t.reg Reg.CTL_STEPS = s.reg Reg.CTL_STEPS + 1 ∧ OnlyPages [.ctl, .pair, .recd, .free] [0x10, 0x11, 0x1B] s t) ∧
  -- RUN, TRACK and HOLD run both paths on a measurement, and show it
  (∀ (lat : Nat) (s : State) (b : Bool) (st : BitVec 64) (i v : Int), StepClear s → s.ctl.set.n ≤ s.ctl.outs → s.ctl.state ≠ 0 →
    (s.ctl.state ≠ 3 ∨ s.mayRun = true) → s.ctlMeas = some (b, st, i, v) →
    let m := mainOf s i v
    let f := fixOf s i v
    let cm := max (-(2 ^ 23)) (min (2 ^ 23 - 1) (F32.toIntScaled m.u (2 ^ 23)))
    let cf := max (-(2 ^ 23)) (min (2 ^ 23 - 1) ((f.u + 64) / 128))
    let dis := decide (s.ctl.set.disTh < (cm - cf).natAbs)
    ∃ t, exec (.controlStep lat) s = .next t ∧ t.reg Reg.CTL_I_MEAS = wInt i ∧ t.reg Reg.CTL_V_MEAS = wInt v ∧
      t.reg Reg.CTL_P_MEAS = wInt ((i * v + 500000) / 1000000) ∧ t.reg Reg.CTL_I_REF = wInt (F32.toIntScaled m.iRef 1000) ∧
      t.ctl.srcB = b ∧ t.ctl.sample = st ∧ t.ctl.noMeas = false ∧ t.ctl.charge = m.charge ∧ t.ctl.presetU0 = false ∧ t.ctl.presetPrev = false ∧
      ((b != s.ctl.srcB && b != s.bit Reg.SNS_SNS_CFG 4) = true → evt t 0x10 14 = true) ∧
      (m.hi = true → evt t 0x10 12 = true) ∧ (m.lo = true → evt t 0x10 13 = true) ∧
      -- the comparison of the paths decides what is sent (R177, R178)
      (if f.sat then
        t.ctl.sat = true ∧ (if m.finite then evt t 0x10 6 = true ∧ FrameSent s t s.ctl.stopping false cm ∧
            t.ctl.curX = loopXOf (2 ^ 30) 1000 m.cur ∧ t.ctl.volX = loopXOf 1000 1000 m.vol ∧ t.ctl.pwrX = loopXOf 1000 1 m.pwr
          else evt t 0x10 15 = true ∧ FrameSent s t s.ctl.stopping false s.ctl.frame.ref ∧ (s.ctl.state ≠ 2 → t.ctl.state = 3))
      else if s.ctl.path then
        FrameSent s t s.ctl.stopping false cf ∧ t.ctl.cur = loopOfX (2 ^ 30) 1000 f.cur ∧ t.ctl.vol = loopOfX 1000 1000 f.vol ∧
          t.ctl.pwr = loopOfX 1000 1 f.pwr ∧ t.ctl.sinceDis = (if dis && m.finite then 0 else min 64 (s.ctl.sinceDis + 1))
      else if m.finite = false ∨ (dis = true ∧ s.ctl.set.disN ≤ s.ctl.disRun + 1) then
        t.ctl.fallDue = true ∧ t.ctl.frame = s.ctl.frame
      else FrameSent s t s.ctl.stopping false cm ∧ t.ctl.disRun = (if dis then s.ctl.disRun + 1 else 0) ∧ t.ctl.fallDue = false) ∧
      (dis = true → f.sat = false → m.finite = true → t.reg Reg.CTL_DIS_CNT = s.reg Reg.CTL_DIS_CNT + 1 ∧ evt t 0x10 7 = true) ∧
      t.reg Reg.CTL_STEPS = s.reg Reg.CTL_STEPS + 1 ∧ OnlyPages [.ctl, .frm, .pair, .recd, .free] [0x10, 0x11, 0x1B] s t) ∧
  -- without a measurement, or in HOLD without the conditions of RUN, the last reference is sent; RUN is then HOLD
  (∀ (lat : Nat) (s : State), StepClear s → (s.ctl.set.n ≤ s.ctl.outs ∨ s.ctlSource = none) → s.ctl.state ≠ 0 →
    (s.ctlMeas = none ∨ (s.ctl.state = 3 ∧ s.mayRun = false)) →
    let lost := s.ctlMeas.isNone && !s.ctl.noMeas
    ∃ t, exec (.controlStep lat) s = .next t ∧ t.ctl.state = (if s.ctl.state = 1 then 3 else s.ctl.state) ∧
      t.ctl.holdAt = (if s.ctl.state = 1 then s.tim.odo else s.ctl.holdAt) ∧ t.ctl.noMeas = s.ctlMeas.isNone ∧
      (lost = true → t.ctl.noMeasAt = s.tim.odo ∧ evt t 0x10 11 = true) ∧ t.ctl.sel = 4 ∧
      FrameSent s t s.ctl.stopping false s.ctl.frame.ref ∧ t.ctl.cur = s.ctl.cur ∧ t.ctl.curX = s.ctl.curX ∧
      t.reg Reg.CTL_STEPS = s.reg Reg.CTL_STEPS + 1 ∧ OnlyPages [.ctl, .frm, .pair, .recd, .free] [0x10, 0x11, 0x1B] s t) ∧
  -- what HOLD becomes with its measurement back
  (∀ (lat : Nat) (s : State) (b : Bool) (st : BitVec 64) (i v : Int), StepClear s → s.ctl.set.n ≤ s.ctl.outs → s.ctl.state = 3 →
    s.mayRun = true → s.ctlMeas = some (b, st, i, v) → (mainOf s i v).finite = true →
    ∃ t, exec (.controlStep lat) s = .next t ∧ t.ctl.state = 1) ∧
  -- no step before its N outputs have come
  (∀ (lat : Nat) (s : State) (b : Bool), s.ctl.outs < s.ctl.set.n → s.ctlSource = some b → exec (.controlStep lat) s = .next s) ∧
  -- the source: PRIMARY, or with SRC_AUTO the other channel while PRIMARY is BAD (R165)
  (∀ s : State,
    let p := s.bit Reg.SNS_SNS_CFG 4
    s.ctlSource = if s.snsBad (b2n p) = false then some p
      else if (s.bit Reg.CTL_CTL_CFG 9 && !s.snsBad (1 - b2n p)) = true then some (!p) else none) ∧
  -- the latency is kept with its extremes
  (∀ (lat : Nat) (s : State), StepClear s → s.ctl.set.n ≤ s.ctl.outs →
    ∃ t, exec (.controlStep lat) s = .next t ∧ t.fld Reg.CTL_CTL_LAT 0 16 = min 65535 lat ∧
      t.fld Reg.CTL_CTL_LAT 16 16 = max (min 65535 lat) (s.fld Reg.CTL_CTL_LAT 16 16) ∧
      t.rd Reg.CTL_LAT_MIN = min (min 65535 lat) (s.rd Reg.CTL_LAT_MIN) ∧ (s.rd Reg.CTL_LAT_TH < lat → evt t 0x10 10 = true))

/-- STOP frames begin (R185): RUN and HOLD are left, and the next frame is STOP unless STOP frames are being sent. -/
abbrev StopsNow (o : Out) (s : State) : Prop :=
  ∃ t, o = .next t ∧ t.ctl.state = (if s.isShadow then 2 else 0) ∧ t.ctl.stopping = true ∧ (s.ctl.state = 1 → evt t 0x10 1 = true) ∧
    (if s.ctl.stopping then t.ctl.frame = s.ctl.frame else FrameSent s t true false 0) ∧ OnlyPages [.ctl, .recd, .free] [0x10, 0x11] s t

/-- FALLOVER, OSC_DETECT, CVL_REPEAT, NOMEAS_TIMEOUT, HOLD_TIMEOUT, ZERO_DWELL_END, RUN_START, CVL_LINE_FAULT, CVL_GAP_READ (R165, R169, R172, R177 to
R180, R184, R185, R233). The model's choices it rests on: log entries 37, 71, 73, 119. -/
def Obligations.ControlEngineEvents : Prop :=
  (∀ s : State, s.ctl.fallDue = true →
    ∃ t, exec .fallover s = .next t ∧ t.ctl.path = true ∧ t.ctl.fallDue = false ∧ t.ctl.fellOver = true ∧ t.ctl.cross = [] ∧
      t.ctl.cur = loopOfX (2 ^ 30) 1000 s.ctl.curX ∧ t.ctl.vol = loopOfX 1000 1000 s.ctl.volX ∧ t.ctl.pwr = loopOfX 1000 1 s.ctl.pwrX ∧
      FrameSent s t s.ctl.stopping false (cmdFix s.ctl.curX.u) ∧ t.reg Reg.CTL_FALL_CNT = s.reg Reg.CTL_FALL_CNT + 1 ∧ evt t 0x10 5 = true ∧
      -- a cause for resignation: carried out, or noted
      (s.pair.role = .active → s.partnerFit = true → t.pair.role = .shadow ∧ t.fld Reg.RED_LAST_CAUSE 0 8 = 3) ∧
      (s.inControl = true → (s.pair.role = .solo ∨ s.partnerFit = false) → t.pair.role = s.pair.role ∧ 3 ∈ t.pair.blocked ∧
        OnlyPages [.ctl, .pair, .recd, .free] [0x10, 0x11, 0x1C] s t) ∧
      (s.inControl = false → OnlyPages [.ctl, .recd, .free] [0x10, 0x11] s t)) ∧
  (∀ s : State, s.ctl.fallDue = false → exec .fallover s = .next s) ∧
  (∀ (s : State) (n : Nat), s.ctl.oscDue = some n →
    let g := s.ctl.set
    let again := s.ctl.oscAt.any fun at_ => decide (s.since at_ ≤ secT 60)
    ∃ t, exec .oscDetect s = .next t ∧ t.ctl.oscDue = none ∧ t.ctl.oscAt = some s.tim.odo ∧ t.ctl.cross = [] ∧ t.ctl.side = 0 ∧
      t.reg Reg.CTL_OSC_COUNT = s.reg Reg.CTL_OSC_COUNT + 1 ∧ t.reg Reg.CTL_OSC_FREQ = w32 (n * 50000 / max 1 g.oscWin) ∧ evt t 0x10 8 = true ∧
      (if g.oscAct = 0 then t.ctl.set = g ∧ t.ctl.derate = s.ctl.derate ∧ t.ctl.oscStop = s.ctl.oscStop ∧ t.ctl.now = s.ctl.now
      else if g.oscAct = 1 ∧ again = false then
        t.ctl.derate = true ∧ t.ctl.presetPrev = true ∧ t.ctl.set = { g with cur := derateGains g.base g.oscScale g.n } ∧
          t.ctl.oscStop = s.ctl.oscStop ∧ t.ctl.now = s.ctl.now
      else t.ctl.oscStop = true ∧ t.ctl.now = { kind := 1, value := 0, limit := 0 } ∧ t.ctl.set = g ∧ t.ctl.derate = s.ctl.derate ∧ evt t 0x10 9 = true) ∧
      OnlyEvents [.ctl, .dsp] [Reg.CTL_OSC_COUNT, Reg.CTL_OSC_FREQ] [0x10] s t) ∧
  (∀ s : State, s.ctl.oscDue = none → exec .oscDetect s = .next s) ∧
  -- the last frame is repeated 102.4 µs after it
  (∀ (s : State) (t0 : BitVec 64), s.ctl.frameAt = some t0 → 25600 ≤ s.since t0 →
    ∃ t, exec .cvlRepeat s = .next t ∧ FrameSent s t s.ctl.frame.stop true s.ctl.frame.ref ∧
      t.ctl = { s.ctl with frame := t.ctl.frame, frameAt := t.ctl.frameAt, gap := t.ctl.gap } ∧ OnlyPages [.ctl, .recd, .free] [0x10, 0x11] s t) ∧
  (∀ s : State, (s.ctl.frameAt.all fun t0 => decide (s.since t0 < 25600)) = true → exec .cvlRepeat s = .next s) ∧
  (∀ s : State,
    if s.ctl.noMeas = true ∧ s.ctl.state ≠ 0 ∧ msT s.ctl.set.nocur ≤ s.since s.ctl.noMeasAt then StopsNow (exec .nomeasTimeout s) s
    else exec .nomeasTimeout s = .next s) ∧
  (∀ s : State,
    if s.ctl.state = 3 ∧ msT s.ctl.set.nocur ≤ s.since s.ctl.holdAt then StopsNow (exec .holdTimeout s) s else exec .holdTimeout s = .next s) ∧
  (∀ s : State,
    if s.ctl.dwelling = true ∧ s.ctl.dwell ≤ 1 then
      ∃ t, exec .zeroDwellEnd s = .next t ∧ t.ctl = { s.ctl with dwelling := false, dwell := 0 } ∧ Only [.ctl] [] s t
    else exec .zeroDwellEnd s = .next s) ∧
  (∀ (s : State) (b : Bool) (st : BitVec 64) (i v : Int), s.ctlMeas = some (b, st, i, v) → s.ctl.state = 0 → s.mayRun = true →
    let ia := F32.ofFrac i 1000
    let va := F32.ofFrac v 1000
    let p := F32.mul ia va
    let px := (i * v + 500000) / 1000000
    ∃ t, exec .runStart s = .next t ∧ t.ctl.state = 1 ∧ t.ctl.stopping = false ∧ t.ctl.presetU0 = true ∧ t.ctl.presetPrev = false ∧
      t.ctl.cur = { s.ctl.cur with d := 0, y := ia } ∧ t.ctl.vol = { s.ctl.vol with d := 0, y := va } ∧ t.ctl.pwr = { s.ctl.pwr with d := 0, y := p } ∧
      t.ctl.curX = { s.ctl.curX with d := 0, y := i } ∧ t.ctl.volX = { s.ctl.volX with d := 0, y := v } ∧
      t.ctl.pwrX = { s.ctl.pwrX with d := 0, y := px } ∧ t.ctl.b10Dis = 23437500 ∧ t.ctl.b2Dis = 4687500 ∧ t.ctl.b10Chg = 23437500 ∧
      t.ctl.b2Chg = 4687500 ∧ t.ctl.ramp = (if s.ctl.now.kind = 2 then p else F32.ofInt i) ∧ t.ctl.dwelling = false ∧ t.ctl.cross = [] ∧
      t.ctl.now = s.ctl.now ∧ t.ctl.set = s.ctl.set ∧ evt t 0x10 0 = true ∧ OnlyEvents [.ctl] [] [0x10] s t) ∧
  (∀ s : State, (s.mayRun = false ∨ s.ctl.state ≠ 0 ∨ s.ctlMeas = none) → exec .runStart s = .next s) ∧
  -- the conditions of RUN
  (∀ s : State, s.mayRun = true ↔ (s.pair.mode = .operate ∨ s.pair.mode = .formation) ∧ s.inControl = true ∧ s.bit Reg.CTL_CTL_CFG 8 = true ∧
    s.ctl.applied = true ∧ s.saf.latched = false ∧ s.pathProved = true ∧ (s.pair.stop.all fun q => decide (q.step < 2)) = true) ∧
  (∀ s : State, s.bit Reg.CVL_CVL_CFG 0 = true →
    ∃ t, exec .cvlLineFault s = .next t ∧ t.ctl.lineOn = false ∧
      (s.pair.role = .active → s.partnerFit = true → t.pair.role = .shadow ∧ t.fld Reg.RED_LAST_CAUSE 0 8 = 9) ∧
      (s.inControl = true → (s.pair.role = .solo ∨ s.partnerFit = false) → t.pair = { s.pair with blocked := t.pair.blocked } ∧ 9 ∈ t.pair.blocked ∧
        t.ctl = { s.ctl with lineOn := false } ∧ OnlyEvents [.ctl, .pair] [] [0x1C] s t) ∧
      (s.inControl = false → t.ctl = { s.ctl with lineOn := false } ∧ Only [.ctl] [] s t)) ∧
  (∀ s : State, s.bit Reg.CVL_CVL_CFG 0 = false → exec .cvlLineFault s = .next s) ∧
  (∀ (mid : Mid) (s : State), Passes s mid Reg.CVL_CVL_GAP false →
    ∃ t, exec (.cvlGapRead mid) s = .next t ∧ t.busData = w32 (4 * s.ctl.gap) ∧ t.ctl = { s.ctl with gap := 0 } ∧
      Only [.busData, .ctl] [] s t)

/-- A command of CTL or FRM is refused. -/
abbrev CmdRefused (o : Out) (s : State) (page : Nat) (e : ErrCode) : Prop :=
  ∃ t, o = .next t ∧ t.rd (errAddr page) % 2 ^ 8 = e.code ∧ Only [] [errAddr page] s t

/-- APPLY, RESTORE_MAIN, CLEAR_OSC, CLEAR_SAT, CLEAR_LAT (R164, R169, R176, R178, R180, R181). The model's choices it rests on: log entries 73. -/
def Obligations.ControlCommands : Prop :=
  (∀ (mid : Mid) (s : State) (g : CtlSet), Passes s mid Reg.CTL_CTL_CMD true → s.applySet = some g →
    ∃ t, exec (.apply mid) s = .next t ∧ t.ctl.set = g ∧ t.ctl.applied = true ∧ t.ctl.presetPrev = true ∧ t.ctl.cross = [] ∧ t.ctl.side = 0 ∧
      t.ctl = { s.ctl with
        set := t.ctl.set, applied := true, presetPrev := true, cross := [], side := 0, oscFrom := t.ctl.oscFrom } ∧ Only [.ctl] [] s t) ∧
  (∀ (mid : Mid) (s : State), Passes s mid Reg.CTL_CTL_CMD true → s.applySet = none → CmdRefused (exec (.apply mid) s) s 0x10 .range) ∧
  -- what APPLY accepts, and what it takes
  (∀ s : State,
    let bad := [Reg.CTL_CUR_TF, Reg.CTL_VOL_TF, Reg.CTL_PWR_TF].any fun a => F32.lt (s.reg a) F32.zero
    let nums := [Reg.CTL_CUR_KP, Reg.CTL_CUR_KI, Reg.CTL_CUR_KD, Reg.CTL_CUR_TF, Reg.CTL_CUR_UMAX, Reg.CTL_CUR_UMIN, Reg.CTL_VOL_KP, Reg.CTL_VOL_KI, Reg.CTL_VOL_KD, Reg.CTL_VOL_TF, Reg.CTL_PWR_KP, Reg.CTL_PWR_KI, Reg.CTL_PWR_KD, Reg.CTL_PWR_TF]
    (s.rdI Reg.CTL_V_STR_MAX ≤ s.rdI Reg.CTL_V_STR_MIN ∨ bad = true ∨ (nums.all fun a => F32.finite (s.reg a)) = false) → s.applySet = none) ∧
  (∀ (s : State) (g : CtlSet), s.applySet = some g →
    g.n = s.fld Reg.CTL_CTL_CFG 0 7 ∧ g.vMax = s.rdI Reg.CTL_V_STR_MAX ∧ g.vMin = s.rdI Reg.CTL_V_STR_MIN ∧ g.iChg = s.rdI Reg.CTL_I_LIM_CHG ∧
      g.iDis = s.rdI Reg.CTL_I_LIM_DIS ∧ g.base.kp = s.reg Reg.CTL_CUR_KP ∧ g.vol.kp = s.reg Reg.CTL_VOL_KP ∧ g.pwr.kp = s.reg Reg.CTL_PWR_KP ∧
      g.dwell = s.fld Reg.CTL_CTL_HOLD 0 16 ∧ g.nocur = s.fld Reg.CTL_CTL_HOLD 16 16 ∧ g.oscAct = s.fld Reg.CTL_OSC_CFG 16 2 ∧
      (if s.ctl.derate then g.cur = derateGains g.base g.oscScale g.n else g.cur = g.base)) ∧
  -- RESTORE_MAIN waits for the next step
  (∀ (mid : Mid) (s : State), Passes s mid Reg.CTL_CTL_CMD true →
    if s.ctl.sinceDis < 64 then CmdRefused (exec (.restoreMain mid) s) s 0x10 .state
    else ∃ t, exec (.restoreMain mid) s = .next t ∧ t.ctl = { s.ctl with restore := true } ∧ Only [.ctl] [] s t) ∧
  (∀ (lat : Nat) (s : State), s.ctl.restore = true → s.ctl.set.n ≤ s.ctl.outs → s.ctl.oscDue = none → s.ctl.fallDue = false →
    exec (.controlStep lat) s = exec (.controlStep lat) { s with ctl := { s.ctl with path := false, fellOver := false, restore := false } }) ∧
  (∀ (mid : Mid) (s : State), Passes s mid Reg.CTL_CTL_CMD true →
    (∃ t, exec (.clearOsc mid) s = .next t ∧
      t.ctl = { s.ctl with
        oscStop := false, derate := false, presetPrev := s.ctl.presetPrev || s.ctl.derate,
        set := { s.ctl.set with cur := if s.ctl.derate then s.ctl.set.base else s.ctl.set.cur } } ∧ Only [.ctl] [] s t) ∧
    (∃ t, exec (.clearSat mid) s = .next t ∧ t.ctl = { s.ctl with sat := false } ∧ Only [.ctl] [] s t) ∧
    (∃ t, exec (.clearLat mid) s = .next t ∧ t.fld Reg.CTL_CTL_LAT 16 16 = 0 ∧ t.fld Reg.CTL_CTL_LAT 0 16 = s.fld Reg.CTL_CTL_LAT 0 16 ∧
      t.rd Reg.CTL_LAT_MIN = 0xFFFF ∧ Only [] [Reg.CTL_CTL_LAT, Reg.CTL_LAT_MIN] s t))

/-- The set-point written to SP_KIND, SP_VALUE and SP_LIMIT is one that R173 accepts, against the limits in force. -/
abbrev spGood (s : State) : Bool :=
  let k := s.fld Reg.CTL_SP_KIND 0 2
  let v := s.rdI Reg.CTL_SP_VALUE
  decide (1 ≤ k) && !(k == 3 && (decide (s.rdI Reg.CTL_SP_LIMIT = 0) || decide (v < s.ctl.set.vMin) || decide (s.ctl.set.vMax < v)))

/-- STAGE, WITHDRAW, WITHDRAW_ALL, IMMEDIATE, SP_ACTIVATE (R134, R169, R172 to R175, R306, R310). The model's choices it rests on: log entries 72, 93,
110. -/
def Obligations.SetPoints : Prop :=
  (∀ (mid : Mid) (s : State) (i : Nat), Passes s mid Reg.CTL_SP_CMD true → s.wmHandle (s.reg Reg.CTL_SP_HANDLE) = .ok i →
    let h := s.reg Reg.CTL_SP_HANDLE
    let e : Staged := { handle := h, kind := s.fld Reg.CTL_SP_KIND 0 2, value := s.rdI Reg.CTL_SP_VALUE, limit := s.rdI Reg.CTL_SP_LIMIT, keep := s.bit Reg.CTL_SP_KIND 8 }
    if spGood s = false then CmdRefused (exec (.stage mid) s) s 0x10 .range
    else if 16 ≤ s.ctl.staged.length ∧ (s.ctl.staged.any fun x => x.handle == h) = false then CmdRefused (exec (.stage mid) s) s 0x10 .spFull
    else
      ∃ t, exec (.stage mid) s = .next t ∧ t.ctl = { s.ctl with staged := s.ctl.staged.filter (fun x => x.handle != h) ++ [e] } ∧
        t.dsp = { s.dsp with staged := t.dsp.staged } ∧ (∀ x ∈ t.dsp.staged, x.2.handle ≠ h) ∧ Only [.ctl, .dsp] [] s t) ∧
  (∀ (mid : Mid) (s : State) (e : ErrCode), Passes s mid Reg.CTL_SP_CMD true → s.wmHandle (s.reg Reg.CTL_SP_HANDLE) = .error e →
    CmdRefused (exec (.stage mid) s) s 0x10 e ∧ CmdRefused (exec (.withdraw mid) s) s 0x10 e) ∧
  (∀ (mid : Mid) (s : State) (i : Nat), Passes s mid Reg.CTL_SP_CMD true → s.wmHandle (s.reg Reg.CTL_SP_HANDLE) = .ok i →
    ∃ t, exec (.withdraw mid) s = .next t ∧ t.ctl = { s.ctl with staged := s.ctl.staged.filter (fun x => x.handle != s.reg Reg.CTL_SP_HANDLE) } ∧
      (∀ x ∈ t.dsp.staged, x.2.handle ≠ s.reg Reg.CTL_SP_HANDLE) ∧ Only [.ctl, .dsp] [] s t) ∧
  (∀ (mid : Mid) (s : State), Passes s mid Reg.CTL_SP_CMD true →
    ∃ t, exec (.withdrawAll mid) s = .next t ∧ t.ctl = { s.ctl with staged := [] } ∧ t.dsp = { s.dsp with staged := [] } ∧
      Only [.ctl, .dsp] [] s t) ∧
  -- IMMEDIATE is for COMMISSION and SERVICE, and takes effect at the next control step
  (∀ (mid : Mid) (s : State), Passes s mid Reg.CTL_SP_CMD true →
    if s.pair.mode ≠ .commission ∧ s.pair.mode ≠ .service then CmdRefused (exec (.immediate mid) s) s 0x10 .mode
    else if spGood s = false then CmdRefused (exec (.immediate mid) s) s 0x10 .range
    else
      ∃ t, exec (.immediate mid) s = .next t ∧
        t.ctl = { s.ctl with
          next := some ({ kind := s.fld Reg.CTL_SP_KIND 0 2, value := s.rdI Reg.CTL_SP_VALUE, limit := s.rdI Reg.CTL_SP_LIMIT }, false) } ∧
        Only [.ctl] [] s t) ∧
  -- a firing in OPERATE puts its set-point in force, and ends a running dither
  (∀ (s : State) (h : Word) (e : Staged), s.gau.ctlFired = [h] → (s.ctl.staged.find? fun x => x.handle == h) = some e →
    s.pair.mode = .operate → s.ctl.oscStop = false → s.ctl.stopHold = false →
    let mine := List.find? (fun (x : Nat × DspSp) => x.2.handle == h) s.dsp.staged
    let pm := s.ctlMeas.elim F32.zero fun m => F32.ofInt (powerX m.2.2.1 m.2.2.2)
    ∃ t, exec .spActivate s = .next t ∧ t.gau = { s.gau with ctlFired := [] } ∧
      t.ctl.now = { kind := e.kind, value := e.value, limit := e.limit } ∧ t.ctl.cross = [] ∧
      t.ctl.ramp = (if s.ctl.now.kind = e.kind then s.ctl.ramp else if e.kind = 2 then pm else s.ctl.idNow) ∧
      t.ctl.staged = (if e.keep then s.ctl.staged else s.ctl.staged.filter (fun x => x.handle != h)) ∧
      t.est = (if s.est.dither.isSome then { s.est with dither := none, ditherEarly := some s.tim.odo } else s.est) ∧
      (s.est.dither.isSome = true → evt t 0x0D 5 = true) ∧
      t.dsp = { s.dsp with spNow := mine.elim 0 (·.1), staged := List.filter (fun (x : Nat × DspSp) => x.2.handle != h) s.dsp.staged } ∧
      t.bit Reg.DSP_DSP_STAT 2 = (mine.any (·.2.ditherOk)) ∧
      t.rd Reg.CTL_SP_NOW_CYCLE = s.gau.cyc % 2 ^ 32 ∧ evt t 0x10 2 = true ∧
      OnlyEvents [.gau, .ctl, .dsp, .est] [Reg.CTL_SP_NOW_CYCLE, Reg.DSP_DSP_STAT] [0x0D, 0x10] s t) ∧
  -- outside OPERATE, or while a stop holds 0 mA, it is dropped, and without a set-point it is missing
  (∀ (s : State) (h : Word) (e : Staged), s.gau.ctlFired = [h] → (s.ctl.staged.find? fun x => x.handle == h) = some e →
    (s.pair.mode ≠ .operate ∨ s.ctl.oscStop = true ∨ s.ctl.stopHold = true) →
    ∃ t, exec .spActivate s = .next t ∧ t.gau = { s.gau with ctlFired := [] } ∧ t.reg Reg.CTL_SP_DROPPED = s.reg Reg.CTL_SP_DROPPED + 1 ∧
      t.ctl = { s.ctl with staged := if e.keep then s.ctl.staged else s.ctl.staged.filter (fun x => x.handle != h) } ∧
      t.dsp = { s.dsp with staged := List.filter (fun (x : Nat × DspSp) => x.2.handle != h) s.dsp.staged } ∧
      evt t 0x10 4 = true ∧ OnlyEvents [.gau, .ctl, .dsp] [Reg.CTL_SP_DROPPED] [0x10] s t) ∧
  (∀ (s : State) (h : Word), s.gau.ctlFired = [h] → (s.ctl.staged.find? fun x => x.handle == h) = none →
    ∃ t, exec .spActivate s = .next t ∧ t.gau = { s.gau with ctlFired := [] } ∧ t.reg Reg.CTL_SP_MISSING = s.reg Reg.CTL_SP_MISSING + 1 ∧
      evt t 0x10 3 = true ∧ OnlyEvents [.gau] [Reg.CTL_SP_MISSING] [0x10] s t) ∧
  -- several firings are taken in their order; none, and nothing happens
  (∀ (s : State) (h : Word) (l : List Word), s.gau.ctlFired = h :: l →
    exec .spActivate s = exec .spActivate (let u := { s with gau := { s.gau with ctlFired := [] } }.spFire h; { u with gau := { u.gau with ctlFired := l } })) ∧
  (∀ s : State, s.gau.ctlFired = [] → exec .spActivate s = .next s)

/-- The set-point of a step (R189), and whether it passes over the ramp: `prev` is the current of the step before. -/
abbrev stepSp (p : FrmStep) (prev : Int) : SpNow × Bool :=
  if p.kind = 1 then (⟨1, p.iSet, 0, true⟩, false) else if p.kind = 2 then (⟨3, p.vSet, p.iSet, true⟩, false)
  else if p.kind = 4 then (⟨1, prev + p.iSet, 0, true⟩, true) else (⟨1, 0, 0, true⟩, false)

/-- A step has begun (R189, R191): its time, charge and energy are 0 and nothing is graded; a PULSE adds to the current of the step before. -/
abbrev StepBegun (s t : State) (i : Nat) (p : FrmStep) : Prop :=
  let prev := s.rdI Reg.CTL_I_REF
  t.frm.step = i ∧ t.frm.time = 0 ∧ t.frm.charge = 0 ∧ t.frm.energy = 0 ∧ t.frm.startCycle = s.gau.cyc ∧ t.frm.startOdo = s.tim.odo ∧
    t.frm.vcMet = false ∧ t.frm.iMet = false ∧ t.frm.graded = [] ∧ t.frm.state = 1 ∧ t.ctl.next = some (stepSp p prev) ∧
    (p.kind = 4 → t.frm.prevI = prev) ∧ t.ctl.cross = []

/-- A result block (R192): written where it fits and the firewall allows it, else dropped; none without GRADE or RECORD. -/
abbrev Recorded (s t : State) (p : FrmStep) (cause : Nat) : Prop :=
  let b := s.resBlock p cause
  let ofs := s.rd Reg.FRM_FRM_RES_WOFS
  let at_ := s.rd Reg.FRM_FRM_RES_BASE + ofs
  if (p.flags.testBit 0 || p.flags.testBit 1) = false then
    t.reg Reg.FRM_FRM_RES_WOFS = s.reg Reg.FRM_FRM_RES_WOFS ∧ t.reg Reg.FRM_FRM_RES_DROP = s.reg Reg.FRM_FRM_RES_DROP ∧ t.mem = s.mem
  else if s.rd Reg.FRM_FRM_RES_SIZE < ofs + b.length ∨ s.rangeRight (midColumn (.own .ctl)) at_ b.length true = false then
    t.reg Reg.FRM_FRM_RES_WOFS = s.reg Reg.FRM_FRM_RES_WOFS ∧ t.reg Reg.FRM_FRM_RES_DROP = s.reg Reg.FRM_FRM_RES_DROP + 1 ∧ evt t 0x12 4 = true
  else t.reg Reg.FRM_FRM_RES_WOFS = w32 (ofs + b.length) ∧ t.mem = (s.writeBytes at_ b).mem ∧ evt t 0x12 3 = true

/-- What the end of a step may change. -/
abbrev OnlyFrm (s t : State) : Prop := OnlyPages [.frm, .ctl, .mem, .busData, .busHi, .busErr, .recd, .free] [0x03, 0x12] s t

/-- A step ends with a cause (R189): the program goes on at step `to_`, or past the last one is DONE. -/
abbrev GoesOn (o : Out) (s : State) (p : FrmStep) (cause to_ : Nat) : Prop :=
  ∃ t, o = .next t ∧ t.fld Reg.FRM_FRM_STAT 16 4 = cause ∧ evt t 0x12 0 = true ∧ Recorded s t p cause ∧
    (s.frmProg[to_]? = none →
      t.frm.state = 3 ∧ t.ctl.next = some (⟨1, 0, 0, true⟩, false) ∧ evt t 0x12 1 = true ∧ t.bit Reg.FRM_FRM_STAT 2 = false) ∧
    (∀ q ∈ s.frmProg[to_]?, (q.kind ≠ 5 → q.kind ≠ 6 → StepBegun s t to_ q) ∧ (q.kind = 6 → t.frm.state = 3 ∧ evt t 0x12 1 = true)) ∧
    (p.kind = 4 → t.ctl.ramp = F32.ofInt s.frm.prevI) ∧ (p.kind ≠ 4 → t.ctl.ramp = s.ctl.ramp)

/-- FRM_LOAD, FRM_DESTROY, FRM_START, FRM_PAUSE, FRM_RESUME, FRM_STOP, FRM_STEP_END (R188 to R192). That the lowest free slot is taken is the model's
choice (log entry 110), and so is what a PULSE adds to (log entry 119). The model's choices it rests on: log entries 12, 13, 110, 119. -/
def Obligations.FormationPrograms : Prop :=
  (∀ (mid : Mid) (s : State) (i : Nat), Passes s mid Reg.FRM_FRM_CMD true → s.fwlOn = false → s.held (.own .ctl) = false →
    s.frm.progs.firstFree 8 = some i →
    let a := s.rd Reg.FRM_FRM_ADDR
    let b := s.readBytes a (min progMax (leAt (s.readBytes a 16) 8 4))
    if (frmCheck b).isSome then
      ∃ t, exec (.frmLoad mid) s = .next t ∧ t.frm = { s.frm with progs := t.frm.progs } ∧ t.frm.progs.find? i = frmCheck b ∧
        (∀ j, j ≠ i → t.frm.progs.find? j = s.frm.progs.find? j) ∧ t.reg Reg.FRM_FRM_HANDLE = t.handleOf .program i ∧
        Only [.frm, .gens] [Reg.FRM_FRM_HANDLE] s t
    else CmdRefused (exec (.frmLoad mid) s) s 0x12 .frmBad) ∧
  (∀ (mid : Mid) (s : State), Passes s mid Reg.FRM_FRM_CMD true → s.frm.progs.firstFree 8 = none →
    CmdRefused (exec (.frmLoad mid) s) s 0x12 .frmFull) ∧
  -- what R188 asks of a program
  (∀ (b : List Nat) (p : List FrmStep),
    let n := leAt b 6 1
    let len := leAt b 8 4
    frmCheck b = some p ↔
      (leAt b 0 4 = 0x46524D50 ∧ leAt b 4 2 = 1 ∧ 1 ≤ n ∧ n ≤ 64 ∧ len = 20 + 32 * n ∧ (crc32 (b.take (len - 4))).toNat = leAt b (len - 4) 4 ∧
        p = (List.range n).map (fun i => frmParse ((b.drop (16 + 32 * i)).take 32)) ∧
        (p.all fun x => decide (1 ≤ x.kind) && decide (x.kind ≤ 6) && (decide (x.nextOk ≤ n) || x.nextOk == 0xFF) &&
          (decide (x.nextFail ≤ n) || x.nextFail == 0xFF) && !((x.kind == 1 || x.kind == 2) && decide (x.iSet = 0))) = true)) ∧
  (∀ (mid : Mid) (s : State) (e : ErrCode), Passes s mid Reg.FRM_FRM_CMD true → s.frmHandle = .error e →
    CmdRefused (exec (.frmDestroy mid) s) s 0x12 e ∧ CmdRefused (exec (.frmStart mid) s) s 0x12 e) ∧
  (∀ (mid : Mid) (s : State) (i : Nat), Passes s mid Reg.FRM_FRM_CMD true → s.frmHandle = .ok i →
    if s.frm.slot = some i ∧ (s.frm.state = 1 ∨ s.frm.state = 2) then CmdRefused (exec (.frmDestroy mid) s) s 0x12 .inUse
    else
      ∃ t, exec (.frmDestroy mid) s = .next t ∧ t.frm.progs.find? i = none ∧ (∀ j, j ≠ i → t.frm.progs.find? j = s.frm.progs.find? j) ∧
        t.frm = { s.frm with progs := t.frm.progs, slot := if s.frm.slot = some i then none else s.frm.slot } ∧ Only [.frm] [] s t) ∧
  -- START begins the first step, in FORMATION with CTL in RUN, where every CV voltage is within the limits in force
  (∀ (mid : Mid) (s : State) (i : Nat) (p : FrmStep) (l : List FrmStep), Passes s mid Reg.FRM_FRM_CMD true → s.frmHandle = .ok i →
    s.frm.progs.find? i = some (p :: l) →
    let inside := (p :: l).all fun x => x.kind != 2 || (decide (s.ctl.set.vMin ≤ x.vSet) && decide (x.vSet ≤ s.ctl.set.vMax))
    if s.pair.mode ≠ .formation ∨ s.ctl.state ≠ 1 then CmdRefused (exec (.frmStart mid) s) s 0x12 .mode
    else if inside = false then CmdRefused (exec (.frmStart mid) s) s 0x12 .range
    else if p.kind = 5 ∨ p.kind = 6 then
      ∃ t, exec (.frmStart mid) s = .next t ∧ t.frm.slot = some i ∧ t.reg Reg.FRM_FRM_RUN = s.handleOf .program i ∧
        (p.kind = 6 → t.frm.state = 3 ∧ evt t 0x12 1 = true)
    else
      ∃ t, exec (.frmStart mid) s = .next t ∧ StepBegun s t 0 p ∧ t.frm.slot = some i ∧ t.frm.loops = [] ∧
        t.frm.progs = s.frm.progs ∧ t.reg Reg.FRM_FRM_RUN = s.handleOf .program i ∧ t.rd Reg.FRM_FRM_RES_WOFS = 0 ∧
        t.bit Reg.FRM_FRM_STAT 2 = false ∧ Only [.frm, .ctl] [Reg.FRM_FRM_RUN, Reg.FRM_FRM_RES_WOFS, Reg.FRM_FRM_STAT] s t) ∧
  (∀ (mid : Mid) (s : State), Passes s mid Reg.FRM_FRM_CMD true →
    if s.frm.state = 1 then
      ∃ t, exec (.frmPause mid) s = .next t ∧ t.frm = { s.frm with state := 2 } ∧ t.ctl = { s.ctl with next := some (⟨1, 0, 0, true⟩, false) } ∧
        Only [.frm, .ctl] [] s t
    else CmdRefused (exec (.frmPause mid) s) s 0x12 .state) ∧
  (∀ (mid : Mid) (s : State), Passes s mid Reg.FRM_FRM_CMD true →
    if s.frm.state = 2 then
      ∃ t, exec (.frmResume mid) s = .next t ∧ t.frm = { s.frm with state := 1 } ∧
        t.ctl = { s.ctl with next := s.frmStep.elim s.ctl.next (fun p => some (stepSp p s.frm.prevI)) } ∧ Only [.frm, .ctl] [] s t
    else CmdRefused (exec (.frmResume mid) s) s 0x12 .state) ∧
  -- STOP ends the program with cause 5
  (∀ (mid : Mid) (s : State), Passes s mid Reg.FRM_FRM_CMD true → s.held (.own .ctl) = false →
    if s.frm.state = 1 ∨ s.frm.state = 2 then
      ∃ t, exec (.frmStop mid) s = .next t ∧ t.frm = { s.frm with state := 0 } ∧ t.ctl = { s.ctl with next := some (⟨1, 0, 0, true⟩, false) } ∧
        t.bit Reg.FRM_FRM_STAT 2 = false ∧ evt t 0x12 5 = true ∧
        (∀ p ∈ s.frmStep, t.fld Reg.FRM_FRM_STAT 16 4 = 5 ∧ evt t 0x12 0 = true ∧ Recorded s t p 5) ∧ OnlyFrm s t
    else CmdRefused (exec (.frmStop mid) s) s 0x12 .state) ∧
  -- a step that meets an end: failing without a next step the program ends FAILED, else it goes on
  (∀ (cause : StepCause) (s : State) (p : FrmStep), s.frmStep = some p → s.frm.state = 1 → s.causeMet p cause = true → s.held (.own .ctl) = false →
    let code := if cause = .vcLim then 1 else if cause = .iEnd then 2 else if cause = .tMax then 3 else 4
    let fails := if cause = .vcLim then p.kind == 3 else if cause = .iEnd then false else if cause = .tMax then p.kind == 1 || p.kind == 2 else true
    if fails = true ∧ p.nextFail = 0xFF then
      ∃ t, exec (.frmStepEnd cause) s = .next t ∧ t.frm = { s.frm with state := 0 } ∧ t.bit Reg.FRM_FRM_STAT 2 = true ∧
        t.fld Reg.FRM_FRM_STAT 16 4 = code ∧ t.ctl.next = some (⟨1, 0, 0, true⟩, false) ∧ evt t 0x12 0 = true ∧ evt t 0x12 2 = true ∧
        Recorded s t p code ∧ OnlyFrm s t
    else
      GoesOn (exec (.frmStepEnd cause) s) s p code
        (if fails then p.nextFail else if p.nextOk = 0xFF then s.frm.step + 1 else p.nextOk)) ∧
  -- a LOOP step runs in no time: to its NEXT_OK until its count is reached, then on
  (∀ (s : State) (i fuel : Nat) (jump : Bool) (p : FrmStep), s.frmProg[i]? = some p → p.kind = 5 → p.flags = 0 →
    let n := s.frm.loops.get 0 i
    let more := decide (n < p.loops)
    let f := { s.frm with step := i, time := 0, charge := 0, energy := 0, startCycle := s.gau.cyc, startOdo := s.tim.odo, vcMet := false, iMet := false, graded := [] }
    s.frmBegin i jump (fuel + 1) = State.frmBegin { s with frm := { f with loops := s.frm.loops.put 0 i (if more then n + 1 else 0) } }.oscEmpty
      (if more && p.nextOk != 0xFF then p.nextOk else i + 1) jump fuel) ∧
  -- when the end causes are met
  (∀ (cause : StepCause) (s : State) (p : FrmStep), s.causeMet p cause =
    if cause = .vcLim then (p.kind == 1 || p.kind == 2 || p.kind == 3) && s.frm.vcMet
    else if cause = .iEnd then p.kind == 2 && s.frm.iMet
    else if cause = .tMax then decide (p.tMax ≠ 0) && decide (p.tMax * 10000 ≤ s.frm.time * 128)
    else (p.kind == 1 || p.kind == 2) && decide (p.qMax ≠ 0) && decide ((p.qMax : Int) * 281250000 ≤ s.frm.charge.natAbs)) ∧
  (∀ (cause : StepCause) (s : State), (s.frm.state ≠ 1 ∨ (s.frmStep.all fun p => !s.causeMet p cause) = true) →
    exec (.frmStepEnd cause) s = .next s) ∧
  -- Publish judges VC_LIM and I_END on the records of its run, and grades a cell that first passes VC_GRADE
  (∀ (s : State) (p : FrmStep) (ring : List SweepRec), s.frmStep = some p → s.frm.state = 1 →
    (s.frmPublish ring).frm = { s.frm with
      vcMet := s.vcLimMet ring p, iMet := (ring.head?.bind State.meanI).any fun i => decide (i.natAbs ≤ p.iEnd) } ∧
      Only [.frm] [] s (s.frmPublish ring)) ∧
  (∀ (s : State) (p : FrmStep) (x : SweepRec) (c : Nat), s.frmStep = some p → s.frm.state = 1 → c ∈ s.countedCells →
    let mine := p.flags.testBit 0 && decide (0 ≤ (x.smpOdo - s.frm.startOdo).toInt)
    let past := (cleanV x c).any fun v => if 0 ≤ p.iSet then decide (p.vcGrade ≤ v) else decide (v ≤ p.vcGrade)
    let q : Int := (toMah (if s.frm.smpCycle = x.cycle then s.frm.smpQ else s.frm.charge)).natAbs
    (s.gradeCross x).frm.graded.find? c =
      if (s.frm.graded.find? c).isSome then s.frm.graded.find? c else if mine && past then some q else none)

/-- The registers that keep a demand until its reset (R205). -/
abbrev latchRegs : List Nat :=
  [Reg.SAF_DEMAND_LATCH, Reg.SAF_FIRST_CAUSE, Reg.SAF_LATCH_ODO_LO, Reg.SAF_LATCH_ODO_HI, Reg.SAF_DEMANDS, Reg.GRD_GRD_CAUSE]

/-- Every path of this module is open. -/
abbrev PathsOpen (t : State) : Prop := ∀ k, k < 6 → (t.ch k).kh = false ∧ (t.ch k).kl = false

/-- A program running or paused has ended with a cause, and its step with it (R189, R190, R192). -/
abbrev ProgramEnded (s t : State) (cause : Nat) : Prop :=
  if s.frm.state = 1 ∨ s.frm.state = 2 then
    t.frm = { s.frm with state := 0 } ∧ evt t 0x12 5 = true ∧ t.bit Reg.FRM_FRM_STAT 2 = false ∧
      (∀ p ∈ s.frmStep, t.fld Reg.FRM_FRM_STAT 16 4 = cause ∧ evt t 0x12 0 = true ∧ (s.held (.own .ctl) = false → Recorded s t p cause))
  else t.frm = s.frm ∧ t.mem = s.mem

/-- What a demand may change: with a program in progress its result block besides. -/
abbrev OnlyDemand (parts : List Part) (s t : State) : Prop :=
  if s.frm.state = 1 ∨ s.frm.state = 2 then
    OnlyPages (parts ++ [.saf, .ctl, .pair, .frm, .mem, .busData, .busHi, .busErr, .recd, .free]) [0x03, 0x10, 0x11, 0x12, 0x13, 0x14, 0x1B, 0x1C] s t
  else OnlyPages (parts ++ [.saf, .ctl, .pair, .recd, .free]) [0x10, 0x11, 0x13, 0x14, 0x1B, 0x1C] s t

/-- A demand was latched between two states (R205): `src` is the bit of DEMAND, `detail` the input, channel or output of FIRST_CAUSE, `via` says
that it came over the Causeway, `g` is GRD_CAUSE. Every path of the module is open, a program has ended (R190), a module past BOOT is in SAFE-HOLD
(R224), STOP frames go out (R185), and the partner is told (R202, R230). -/
def Demanded (src detail g : Nat) (via : Bool) (s t : State) : Prop :=
  let cause := src + 1 + detail * 2 ^ 8 + b2n via * 2 ^ 16
  t.saf.latched = true ∧ t.saf.gLatch = true ∧ t.fld Reg.SAF_DEMAND_LATCH 0 11 = (s.saf.sources ||| 2 ^ src) % 2 ^ 11 ∧
    t.rd Reg.SAF_FIRST_CAUSE = cause ∧ t.reg Reg.SAF_LATCH_ODO_LO = s.odoLo ∧
    t.reg Reg.SAF_LATCH_ODO_HI = s.odoHi ∧ t.reg Reg.SAF_DEMANDS = s.reg Reg.SAF_DEMANDS + 1 ∧ t.rd Reg.GRD_GRD_CAUSE = g ∧
    evt t 0x13 0 = true ∧ evt t 0x14 0 = true ∧
    (⟨0, 0x010, 3, 0, [w32 cause, t.reg Reg.SAF_DEMAND_LATCH, w32 g], s.tim.odo⟩ : Arrival) ∈ t.recd.arriving ∧ PathsOpen t ∧
    t.pair.mode = (if s.pair.mode = .off ∨ s.pair.mode = .boot then s.pair.mode else .safeHold) ∧ t.pair.stop = none ∧
    t.pair.role = s.pair.role ∧ t.ctl.stopping = true ∧ t.ctl.state = (if s.pair.role = .shadow then 2 else 0) ∧
    (s.ctl.state = 1 → evt t 0x10 1 = true) ∧ (s.ctl.stopping = false → FrameSent s t true false 0) ∧
    (s.ctl.stopping = true → t.ctl.frame = s.ctl.frame) ∧ ProgramEnded s t 7 ∧
    (s.cswUp = true →
      t.pair.demandSent = some (w32 cause, t.reg Reg.SAF_DEMAND_LATCH) ∧ t.pair.hbSent.xtripOut = false ∧
      t.pair.cswOut.find? (cswKey 0 1) =
        some [cswBytes 0 1 (s.pair.cswSeq.get 0 (cswKey 0 1) % 2 ^ 16) 0 (demandPayload (w32 cause) (t.reg Reg.SAF_DEMAND_LATCH))])

/-- A source demands (R205): it is latched, or a demand latched before stands. `regs` are the other registers of the command. -/
abbrev Trips (src detail g : Nat) (via : Bool) (parts : List Part) (regs : List Nat) (s t : State) : Prop :=
  (s.saf.latched = false → Demanded src detail g via s t ∧ OnlyDemand parts s t) ∧
    (s.saf.latched = true → t.saf.latched = true ∧ t.saf.gLatch = true ∧ (∀ a ∈ latchRegs, t.reg a = s.reg a) ∧
      Only (.saf :: .recd :: .free :: parts) regs s t)

/-- A source of DEMAND is no longer active, and the others are as they were; the quiet time of R208 begins with the last. -/
abbrev SourceEnds (src : Nat) (s t : State) : Prop :=
  (∀ b, b < 11 → t.saf.sources.testBit b = (s.saf.sources.testBit b && b != src)) ∧
    (t.saf.sources = 0 → s.saf.sources ≠ 0 → t.saf.quietAt = s.tim.odo) ∧ (t.saf.sources ≠ 0 → t.saf.quietAt = s.saf.quietAt)

/-- A frame of the Causeway that is not taken (R229): a CRC error is counted in its lane, and any other has no effect. -/
abbrev FrameDropped (o : Out) (s : State) (rx : CswRx) : Prop :=
  if (s.cswUp && s.laneUp rx.lane.val && !rx.crcOk) = true then
    let a := if rx.lane.val = 0 then Reg.CSW_CRC_ERR0 else Reg.CSW_CRC_ERR1
    ∃ t, o = .next t ∧ t.reg a = s.reg a + 1 ∧ (if rx.lane.val = 0 then t.pair.crcAt0 else t.pair.crcAt1) = some s.tim.odo ∧ Only [.pair] [a] s t
  else o = .next s

/-- A cause of R233 has been met (R233): an ACTIVE resigns to a partner that can take control, or keeps it with RESIGN_BLOCKED; a SOLO keeps the
cause for when it is ACTIVE. -/
abbrev Resigns (cause : Nat) (s t : State) : Prop :=
  (s.pair.role = .active → s.partnerFit = true →
    t.pair.role = .shadow ∧ t.rd Reg.RED_LAST_CAUSE = cause ∧ t.reg Reg.RED_RESIGNS = s.reg Reg.RED_RESIGNS + 1 ∧ t.pair.claim = false ∧
      t.ctl.state = 2 ∧ evt t 0x1C 0 = true ∧ evt t 0x1C 3 = true ∧ (⟨0, 0x015, 2, 0, [w32 cause, 3], s.tim.odo⟩ : Arrival) ∈ t.recd.arriving) ∧
    (s.pair.role = .active → s.partnerFit = false →
      t.pair.role = .active ∧ cause ∈ t.pair.blocked ∧ evt t 0x1C 7 = true ∧ t.reg Reg.RED_RESIGNS = s.reg Reg.RED_RESIGNS) ∧
    (s.pair.role = .solo → t.pair.role = .solo ∧ cause ∈ t.pair.blocked) ∧
    (s.pair.role = .none ∨ s.pair.role = .shadow → t.pair.role = s.pair.role ∧ t.pair.blocked = s.pair.blocked)

/-- IHALL_TRIP, IHALL_CLEAR, XTRIP_DECODE, XTRIP_PULSE_RETURN, XTRIP_FAULT, DEMAND_RX, WD_TIMEOUT, LOCKSTEP_ERROR, GRD_MISMATCH (R199, R202, R203, R205).
The model's choices it rests on: log entries 74, 77, 78, 120. -/
def Obligations.DemandsAreLatched : Prop :=
  -- SF1: the guardrail's window is fixed, the safety core's is that of the parameter set
  (∀ (mv : Nat) (s : State),
    let core := s.saf.pset.any fun p => decide (mv + p.ihTrip < 2500) || decide (2500 + p.ihTrip < mv)
    (if mv < 500 ∨ 4500 < mv then
      ∃ t, exec (.ihallTrip mv) s = .next t ∧ Trips 0 0 1 false [] [] s t ∧ t.saf.sources.testBit 0 = true ∧ t.saf.gSources.testBit 0 = true
    else if core = true then
      ∃ t, exec (.ihallTrip mv) s = .next t ∧ Trips 0 0 7 false [] [] s t ∧ t.saf.sources.testBit 0 = true ∧ t.saf.gSources = s.saf.gSources
    else exec (.ihallTrip mv) s = .next s) ∧
    (if mv < 500 ∨ 4500 < mv then exec (.ihallClear mv) s = .next s
    else
      ∃ t, exec (.ihallClear mv) s = .next t ∧ t.saf.gSources.testBit 0 = false ∧
        (if core = true then t.saf.sources = s.saf.sources else SourceEnds 0 s t) ∧ t.saf.latched = s.saf.latched ∧ Only [.saf] [] s t)) ∧
  -- SF6: static high is a demand; low or pulsing ends it
  (∀ s : State,
    (∃ t, exec (.xtripDecode .high) s = .next t ∧ Trips 5 0 4 false [] [] s t ∧ t.saf.xtripIn = 2 ∧ t.saf.sources.testBit 5 = true ∧
      t.saf.gSources.testBit 3 = true) ∧
    (∃ t, exec (.xtripDecode .low) s = .next t ∧ t.saf.xtripIn = 0 ∧ t.saf.xtripFault = s.saf.xtripFault ∧
      t.saf.xtripLow = (if s.saf.xtripIn = 0 then s.saf.xtripLow else some s.tim.odo) ∧ t.saf.latched = s.saf.latched ∧
      (if s.saf.xtripIn = 2 then SourceEnds 5 s t ∧ t.saf.gSources.testBit 3 = false
      else t.saf.sources = s.saf.sources ∧ t.saf.gSources = s.saf.gSources) ∧ Only [.saf] [] s t) ∧
    (∃ t, exec .xtripPulseReturn s = .next t ∧ t.saf.xtripIn = 1 ∧ t.saf.xtripFault = false ∧ t.saf.xtripLow = none ∧
      t.saf.latched = s.saf.latched ∧
      (if s.saf.xtripIn = 2 then SourceEnds 5 s t ∧ t.saf.gSources.testBit 3 = false
      else t.saf.sources = s.saf.sources ∧ t.saf.gSources = s.saf.gSources) ∧ Only [.saf] [] s t)) ∧
  -- XTRIP_FAULT after 10 ms of static low with a partner alive whose XTRIP_OUT pulses: the paths open, but for slot A where both declare
  (∀ s : State,
    if (s.saf.xtripLow.any fun t0 => decide (msT 10 ≤ s.since t0)) = true ∧ s.partnerAlive = true ∧ s.pair.hb.xtripOut = true ∧
      s.saf.xtripFault = false then
      ∃ t, exec .xtripFault s = .next t ∧ t.saf.xtripFault = true ∧ evt t 0x13 8 = true ∧ Resigns 6 s t ∧
        (if s.pair.hb.xtripIn = false ∧ s.pair.slotB = false then ∀ k, k < 6 → t.ch k = s.ch k else PathsOpen t) ∧
        OnlyPages [.saf, .ctl, .pair, .link, .recd, .free] [0x10, 0x11, 0x13, 0x1B, 0x1C] s t
    else exec .xtripFault s = .next s) ∧
  -- a DEMAND message that is taken is a demand without a lasting state
  (∀ (a b : Word) (rx : CswRx) (s : State),
    if s.cswAccepts 0 1 rx = true then
      ∃ t, exec (.demandRx a ⟨b, rx⟩) s = .next t ∧ Trips 5 0 7 true [.pair] [Reg.CSW_RX_FRAMES] s t ∧
        t.reg Reg.CSW_RX_FRAMES = s.reg Reg.CSW_RX_FRAMES + 1 ∧ t.pair.cswRx.find? (cswKey 0 1) = some rx.seq ∧
        (s.saf.xtripIn ≠ 2 → SourceEnds 5 s t) ∧ (s.saf.xtripIn = 2 → t.saf.sources.testBit 5 = true)
    else FrameDropped (exec (.demandRx a ⟨b, rx⟩) s) s rx) ∧
  -- SF7: the source of a watchdog error lasts while the safety core is frozen, that of a lockstep error until the reset
  (∀ (early : Bool) (n : Nat) (s : State),
    (∃ t, exec (.wdTimeout early) s = .next t ∧ Trips 6 0 5 false [] [Reg.GRD_GRD_WDMISS, State.evtAddr 0x14] s t ∧ evt t 0x14 1 = true ∧
      t.reg Reg.GRD_GRD_WDMISS = s.reg Reg.GRD_GRD_WDMISS + 1 ∧
      (if s.bit Reg.FWL_FROZEN 4 = true ∨ s.saf.gSources.testBit 5 = true then t.saf.sources.testBit 6 = true ∧ t.saf.gSources.testBit 4 = true
      else SourceEnds 6 s t ∧ t.saf.gSources.testBit 4 = false)) ∧
    (∃ t, exec .lockstepError s = .next t ∧ Trips 6 0 6 false [] [State.evtAddr 0x14] s t ∧ evt t 0x14 2 = true ∧
      t.saf.sources.testBit 6 = true ∧ t.saf.gSources.testBit 5 = true) ∧
    (∃ t, exec (.grdMismatch n) s = .next t ∧ Trips 6 0 7 false [] [] s t ∧ t.saf.gSources = s.saf.gSources ∧
      (if s.saf.gSources.testBit 4 = true ∨ s.saf.gSources.testBit 5 = true then t.saf.sources.testBit 6 = true else SourceEnds 6 s t)))

/-- The TP pulse an input's channel takes part in: missed pulses in a row after it (R217). -/
abbrev missesOf (even : Bool) (tp old : Nat) (missed : Bool) : Nat := if tpIn even tp then (if missed then old + 1 else 0) else old

/-- An input's TP fault after a pulse: two missed in a row on one of its channels (R217). -/
abbrev tpFaultOf (even : Bool) (p : SiParam) (x : SiSt) (missA missB : Bool) : Bool :=
  decide (2 ≤ missesOf even p.tpA x.missA missA) || decide (2 ≤ missesOf even p.tpB x.missB missB)

/-- SI_FILTER, GRD_SI_FILTER, SI_DISC, TP_PULSE, TP_PULSE_CHECK (R205, R213, R214, R216 to R218). The model's choices it rests on: log entries 18, 74, 75,
76, 125. -/
def Obligations.SafetyInputs : Prop :=
  -- a filtered channel changes: the discrepancy count, DISC, the demand and the start-up test
  (∀ (i : Fin 12) (chB level : Bool) (s : State), s.discDue i.val = false →
    let x := s.si i.val
    let l : SiLevel := if level then .high else .low
    let a := if chB then x.a else l
    let b := if chB then l else x.b
    let lows := a == .low && b == .low
    let highs := a == .high && b == .high
    let u := s.saf.startup
    let shown := decide (i.val < 2) && u.testBit i.val && lows
    let done := decide (i.val < 2) && u.testBit i.val && highs && u.testBit (i.val + 2)
    ∃ t, exec (.siFilter i chB level) s = .next t ∧ (t.si i.val).a = a ∧ (t.si i.val).b = b ∧
      (t.si i.val).parted = (if a = b then none else if x.parted.isSome || x.disc then x.parted else some s.tim.odo) ∧
      (t.si i.val).disc = (x.disc && !(highs && x.bothLow)) ∧
      (t.si i.val).bothLow = (if x.disc then (x.bothLow || lows) && !(highs && x.bothLow) else x.bothLow) ∧
      (∀ j, j < 12 → j ≠ i.val → t.si j = s.si j) ∧
      t.saf.startup = (if shown then u ||| 2 ^ (i.val + 2) else if done then u &&& (15 - 2 ^ i.val - 2 ^ (i.val + 2)) else u) ∧
      ((done && t.saf.startup % 4 == 0) = true → evt t 0x13 13 = true) ∧
      (if ((s.siParam i.val).isSome && (a == .low || b == .low || (t.si i.val).disc || x.tpFault)) = true then
        Trips 4 (i.val + 1) 7 false [] [State.evtAddr 0x13] s t ∧ t.saf.sources.testBit 4 = true
      else
        (if ((List.range 12).any fun j => j != i.val && s.siDemands j) = true ∨ s.saf.gLow ≠ 0 then t.saf.sources = s.saf.sources else SourceEnds 4 s t) ∧
          t.saf.latched = s.saf.latched ∧ OnlyEvents [.saf] [] [0x13] s t)) ∧
  -- where DISC is due it is latched first
  (∀ (i : Fin 12) (chB level : Bool) (s : State), s.discDue i.val = true →
    ∃ t, exec (.siDisc i) s = .next t ∧ exec (.siFilter i chB level) s = exec (.siFilter i chB level) t) ∧
  -- an input demands while a filtered channel is low, DISC or a TP fault stands; one not in use does not
  (∀ (i : Nat) (s : State), s.siDemands i = true ↔
    ((s.siParam i).isSome = true ∧ ((s.si i).a = .low ∨ (s.si i).b = .low ∨ (s.si i).disc = true ∨ (s.si i).tpFault = true))) ∧
  -- the guardrail judges its own filter, whatever the parameter set
  (∀ (i : Fin 12) (s : State),
    (∃ t, exec (.grdSiFilter i false) s = .next t ∧ Trips 4 (i.val + 1) 2 false [] [] s t ∧ t.saf.gLow.testBit i.val = true ∧
      t.saf.gSi.testBit i.val = false ∧ t.saf.gSources.testBit 1 = true ∧ t.saf.sources.testBit 4 = true) ∧
    (∃ t, exec (.grdSiFilter i true) s = .next t ∧ t.saf.gSi.testBit i.val = true ∧ t.saf.gLow.testBit i.val = false ∧
      (∀ j, j < 12 → j ≠ i.val → t.saf.gSi.testBit j = s.saf.gSi.testBit j ∧ t.saf.gLow.testBit j = s.saf.gLow.testBit j) ∧
      t.saf.latched = s.saf.latched ∧
      (if t.saf.gLow ≠ 0 then t.saf.sources = s.saf.sources ∧ t.saf.gSources = s.saf.gSources
      else t.saf.gSources.testBit 1 = false ∧ (if s.anySi = true then t.saf.sources = s.saf.sources else SourceEnds 4 s t)) ∧
      Only [.saf] [] s t)) ∧
  -- DISC is latched where the other channel has not followed within D
  (∀ (i : Fin 12) (s : State), s.discDue i.val =
    (s.siParam i.val).any fun p => (s.si i.val).parted.any fun t0 => decide (msT p.disc < s.since t0)) ∧
  (∀ (i : Fin 12) (s : State),
    if s.discDue i.val = true then
      ∃ t, exec (.siDisc i) s = .next t ∧ (t.si i.val).disc = true ∧ ((s.si i.val).disc = false → evt t 0x13 2 = true ∧ (t.si i.val).parted = none) ∧
        (t.si i.val).a = (s.si i.val).a ∧ (t.si i.val).b = (s.si i.val).b ∧
        Trips 4 (i.val + 1) 7 false [] [State.evtAddr 0x13] s t ∧ t.saf.sources.testBit 4 = true
    else exec (.siDisc i) s = .next s) ∧
  -- test pulses: at their instant of the schedule, and not while outputs are off
  (∀ (even : Bool) (s : State), exec (.tpPulse even) s =
    .next (if s.saf.tpOff = none ∧ s.tpDue even = true then { s with saf := { s.saf with tpOff := some even, tpAt := s.tim.odo } } else s)) ∧
  (∀ (even : Bool) (s : State), s.saf.tpShift = 0 →
    let phase := (s.plant + b2n even * 10000000 * fracPerNs) % (20000000 * fracPerNs)
    (s.tpDue even = true ↔
      if s.pair.role = .shadow ∧ s.pair.slotB = true then phase ≤ 10004 * fracPerNs ∨ 19990000 * fracPerNs ≤ phase else phase ≤ 4 * fracPerNs)) ∧
  -- their check, 700 µs after the off edge
  (∀ (a b o : Nat) (s : State), (s.saf.tpOff = none ∨ s.since s.saf.tpAt < usT 700) → exec (.tpPulseCheck a b o) s = .next s) ∧
  (∀ (a b o : Nat) (even : Bool) (s : State), s.saf.tpOff = some even → usT 700 ≤ s.since s.saf.tpAt →
    ∃ t, exec (.tpPulseCheck a b o) s = .next t ∧ t.saf.tpOff = none ∧
      (∀ k, k < 8 → t.saf.tpFault.testBit k = (if tpIn even (k + 1) then o.testBit k else s.saf.tpFault.testBit k)) ∧
      (∀ k, k < 8 → (tpIn even (k + 1) && o.testBit k) = true → t.saf.latched = true ∧ t.saf.sources.testBit 10 = true ∧
        (s.saf.tpFault.testBit k = false → evt t 0x13 3 = true)) ∧
      (∀ i, i < 12 → s.siParam i = none → t.si i = s.si i) ∧
      (∀ i, i < 12 → ∀ p ∈ s.siParam i,
        let f := tpFaultOf even p (s.si i) (a.testBit i) (b.testBit i)
        t.si i = { s.si i with missA := missesOf even p.tpA (s.si i).missA (a.testBit i), missB := missesOf even p.tpB (s.si i).missB (b.testBit i),
                               tpFault := f } ∧
        (f = true → (s.si i).tpFault = false → t.saf.latched = true ∧ t.saf.sources.testBit 4 = true ∧ evt t 0x13 3 = true)) ∧
      -- a feedback channel is checked as an input is, and its fault is no demand
      (∀ k, k < 6 → s.fbParam k = none → (t.ch k).missA = (s.ch k).missA ∧ (t.ch k).missB = (s.ch k).missB ∧ (t.ch k).tpFault = (s.ch k).tpFault) ∧
      (∀ k, k < 6 → ∀ p ∈ s.fbParam k,
        let ma := missesOf even p.tpA (s.ch k).missA (a.testBit (12 + k))
        let mb := missesOf even p.tpB (s.ch k).missB (b.testBit (12 + k))
        (t.ch k).missA = ma ∧ (t.ch k).missB = mb ∧ (t.ch k).tpFault = (decide (2 ≤ ma) || decide (2 ≤ mb)) ∧
        ((t.ch k).tpFault = true → (s.ch k).tpFault = false → evt t 0x13 3 = true)) ∧
      -- the first input with a new fault, or else the first output, is the cause
      (s.saf.latched = false → ∀ i, i < 12 → ∀ p ∈ s.siParam i, tpFaultOf even p (s.si i) (a.testBit i) (b.testBit i) = true → (s.si i).tpFault = false →
        (∀ j, j < i → (s.siParam j).all (fun q => tpFaultOf even q (s.si j) (a.testBit j) (b.testBit j) == (s.si j).tpFault) = true) →
        Demanded 4 (i + 1) 7 false s t) ∧
      (s.saf.latched = false → (∀ j, j < 12 → (s.siParam j).all (fun q => tpFaultOf even q (s.si j) (a.testBit j) (b.testBit j) == (s.si j).tpFault) = true) →
        (∀ k, k < 8 → (tpIn even (k + 1) && o.testBit k) = true → (∀ j, j < k → (tpIn even (j + 1) && o.testBit j) = false) →
          Demanded 10 (k + 1) 7 false s t) ∧
        ((∀ k, k < 8 → (tpIn even (k + 1) && o.testBit k) = false) → t.saf.latched = false ∧
          (if t.saf.tpFault = 0 then SourceEnds 10 s t else t.saf.sources = s.saf.sources) ∧ OnlyEvents [.saf] [] [0x13] s t)) ∧
      OnlyDemand [] s t)

/-- A channel's path of this module is open. -/
abbrev PathOpen (t : State) (k : Nat) : Prop := (t.ch k).kh = false ∧ (t.ch k).kl = false

/-- CTL has left RUN where one of its conditions no longer holds (R184, R185). -/
abbrev RunHolds (t : State) : Prop := t.ctl.state = 1 → t.mayRun = true

/-- FB_TIME begins anew for every coil whose state has changed (R211). -/
abbrev CoilsNoted (s t : State) : Prop := ∀ k, k < 6 → s.coilOn k ≠ t.coilOn k → (t.ch k).changed = some s.tim.odo

/-- A channel's switch is found FAILED_CLOSED (R210): the other switch opens the path; in SOLO it is a demand with cause SWITCH, and an ACTIVE
resigns. -/
abbrev FailsClosed (k : Nat) (low : Bool) (s t : State) : Prop :=
  t.bit Reg.SAF_SW_FAULT (k + 8 * b2n low) = true ∧ (∀ b, b < 32 → b ≠ k + 8 * b2n low → t.bit Reg.SAF_SW_FAULT b = s.bit Reg.SAF_SW_FAULT b) ∧
    evt t 0x13 4 = true ∧ PathOpen t k ∧ CoilsNoted s t ∧
    (if s.pair.role = .solo then
      (s.saf.latched = false → Demanded 8 k 7 false s t ∧ OnlyDemand [] s t) ∧
        (s.saf.latched = true → t.saf.latched = true ∧ t.saf.sources.testBit 8 = true ∧ ∀ a ∈ latchRegs, t.reg a = s.reg a)
    else
      Resigns 5 s t ∧ t.saf.sources = s.saf.sources ∧ t.saf.latched = s.saf.latched ∧
        OnlyPages [.saf, .ctl, .pair, .link, .recd, .free] [0x10, 0x11, 0x13, 0x14, 0x1B, 0x1C] s t)

/-- A channel's switch is found FAILED_OPEN, or drawing too much (R210, R368): the path of the channel opens. -/
abbrev FailsOpen (k : Nat) (s t : State) : Prop :=
  t.bit Reg.SAF_SW_FAULT (16 + k) = true ∧ (∀ b, b < 32 → b ≠ 16 + k → t.bit Reg.SAF_SW_FAULT b = s.bit Reg.SAF_SW_FAULT b) ∧
    evt t 0x13 4 = true ∧ PathOpen t k ∧ (s.pathOn k = true → RunHolds t) ∧ CoilsNoted s t ∧ t.saf.sources = s.saf.sources ∧
    t.saf.latched = s.saf.latched ∧ OnlyPages [.saf, .ctl, .pair, .recd, .free] [0x10, 0x11, 0x13, 0x14, 0x1B] s t

/-- A refusal with a code in a page's ERR_CODE, and no other effect. -/
abbrev RefusedBy (o : Out) (s : State) (page code : Nat) : Prop :=
  ∃ t, o = .next t ∧ t.rd (errAddr page) % 2 ^ 8 = code ∧ Only [] [errAddr page] s t

/-- K_REQ_WRITE, SWITCH_TEST, SWITCH_READBACK_FAULT, COIL_OPEN, FB_CHECK, PROOF_DUE, PROOF_OVERDUE, SAF_RESET (R206, R208 to R212). The model's choices it
rests on: log entries 80, 81. -/
def Obligations.ContactorsAndReset : Prop :=
  -- a write of K_REQ opens what it does not name, and keeps what is closed
  (∀ (mid : Mid) (v : Word) (s : State), Passes s mid Reg.SAF_K_REQ true →
    if s.pair.role = .shadow then RefusedBy (exec (.kReqWrite mid v) s) s 0x13 ErrCode.role.code
    else
      ∃ t, exec (.kReqWrite mid v) s = .next t ∧ t.rd Reg.SAF_K_REQ = v.toNat % 64 ∧
        (∀ k, k < 6 → v.toNat.testBit k = false → PathOpen t k) ∧ (∀ k, k < 6 → v.toNat.testBit k = true → s.pathOn k = true → t.pathOn k = true) ∧
        (s.heldOpen = true → ∀ k, k < 6 → s.pathOn k = false → t.pathOn k = false) ∧ CoilsNoted s t ∧ RunHolds t ∧
        (s.cswUp = true → s.fld Reg.SAF_K_REQ 0 6 ≠ v.toNat % 64 → t.pair.hbSent.kReq = v.toNat % 64) ∧
        OnlyPages [.saf, .nv, .ctl, .pair, .recd, .free] [0x10, 0x11, 0x13, 0x1B] s t) ∧
  -- a requested channel closes where the conditions of R206 hold, and is refused by the first that fails; condition 5 is asked at the first path
  (∀ (mid : Mid) (v : Word) (s : State), Passes s mid Reg.SAF_K_REQ true → s.pair.role ≠ .shadow → s.heldOpen = false →
    (s.partnerAlive = false ∨ s.pair.hb.psetDigest = s.psetDigest ∨ (s.anyPath = false ∧ v.toNat % 64 ∈ [1, 2, 4, 8, 16, 32])) →
    ∃ t, exec (.kReqWrite mid v) s = .next t ∧ ∀ k, k < 6 → v.toNat.testBit k = true → s.pathOn k = false →
      if s.closeCode k = 0 then
        t.pathOn k = true ∧ (t.ch k).onAt = some s.tim.odo ∧ t.nv.closedOnce.testBit k = ((s.nv.proofs.find? k).isNone || s.nv.closedOnce.testBit k)
      else
        t.pathOn k = false ∧ evt t 0x13 14 = true ∧
          ((∀ j, j < 6 → k < j → v.toNat.testBit j = true → s.pathOn j = true ∨ s.closeCode j = 0) → t.rd Reg.SAF_REFUSE = s.closeCode k + k * 2 ^ 8)) ∧
  (∀ (k : Nat) (s : State), s.closeCode k = 0 ↔
    ((s.pair.mode = .operate ∨ s.pair.mode = .formation) ∧ (s.saf.latched = false ∧ s.saf.gLatch = false) ∧ s.saf.startup % 4 = 0 ∧
      s.saf.pset.any (fun p => p.kUsed.testBit k) = true ∧
      (s.partnerAlive = true → s.anyPath = false → s.pair.hb.psetDigest = s.psetDigest) ∧
      ((s.fbUsed k = true → (s.ch k).fbA = false ∧ (s.ch k).fbB = false) ∧ s.bit Reg.SAF_FB_STATE (16 + k) = false) ∧ s.nv.weld = 0 ∧
      (∀ b ∈ [k, 8 + k, 16 + k, 24 + k], s.bit Reg.SAF_SW_FAULT b = false) ∧
      ((∀ d ∈ s.proofAge k, s.saf.pset.any (fun p => decide (d < p.proofInt)) = true) ∧
        (s.proofAge k = none → s.nv.closedOnce.testBit k = false)) ∧
      ∀ n ∈ s.joinedNodes, s.miss n = 0 ∧ s.bit (Reg.NOD_NODE_STAT n) 14 = false)) ∧
  -- the switch tests run in the module's own slots, one switch in each, in their order
  (∀ (f : SwFinding) (cut : Bool) (s : State), s.saf.nextTest < 12 →
    if (s.testSlot % 2 == 1) = s.pair.slotB ∧ s.saf.lastSlot ≠ some s.testSlot then
      let n := s.saf.nextTest
      let k := n / 2
      let low := n % 2 == 1
      let on := if low then (s.ch k).kl else (s.ch k).kh
      let missed := (s.saf.slotMissed && n != 0) || s.saf.lastSlot.any fun l => l + 2 != s.testSlot
      ∃ t, exec (.switchTest ⟨f, cut⟩) s = .next t ∧ t.saf.nextTest = (n + 1) % 12 ∧ t.saf.lastSlot = some s.testSlot ∧ t.saf.slotMissed = missed ∧
        t.saf.cycleOk = (if n = 11 then !missed else s.saf.cycleOk) ∧ t.reg Reg.SAF_SW_TESTS = s.reg Reg.SAF_SW_TESTS + 1 ∧
        t.reg Reg.GRD_GRD_TESTS = s.reg Reg.GRD_GRD_TESTS + (if low && on then 1 else 0) ∧ ((low && on && cut) = true → evt t 0x14 3 = true) ∧
        ((low && on && cut) = false → f = .pass → evt t 0x14 3 = evt s 0x14 3) ∧
        (if f = .failedClosed then FailsClosed k low s t
        else if f = .failedOpen ∧ on = true then FailsOpen k s t
        else Only [.saf, .recd, .free] [Reg.SAF_SW_TESTS, Reg.GRD_GRD_TESTS, State.evtAddr 0x14] s t)
    else exec (.switchTest ⟨f, cut⟩) s = .next s) ∧
  -- a switch that does not follow its command, and a coil without voltage
  (∀ (c : Fin 6) (low : Bool) (s : State),
    if (if low then (s.ch c.val).kl else (s.ch c.val).kh) = true then
      exec (.switchReadbackFault c low .stuckOn) s = .next s ∧ (∃ t, exec (.switchReadbackFault c low .stuckOff) s = .next t ∧ FailsOpen c.val s t) ∧
        (∃ t, exec (.switchReadbackFault c low .overcurrent) s = .next t ∧ FailsOpen c.val s t)
    else
      (∃ t, exec (.switchReadbackFault c low .stuckOn) s = .next t ∧ FailsClosed c.val low s t) ∧
        exec (.switchReadbackFault c low .stuckOff) s = .next s ∧ exec (.switchReadbackFault c low .overcurrent) s = .next s) ∧
  (∀ (c : Fin 6) (s : State),
    if s.pathOn c.val = true ∧ (s.ch c.val).onAt.all (fun t0 => decide (msT 5 ≤ s.since t0)) = true then
      ∃ t, exec (.coilOpen c) s = .next t ∧ t.bit Reg.SAF_SW_FAULT (24 + c.val) = true ∧ t.bit Reg.SAF_K_REQ c.val = false ∧
        (∀ b, b < 6 → b ≠ c.val → t.bit Reg.SAF_K_REQ b = s.bit Reg.SAF_K_REQ b) ∧ PathOpen t c.val ∧ RunHolds t ∧ CoilsNoted s t ∧
        evt t 0x13 4 = true ∧ OnlyPages [.saf, .ctl, .pair, .recd, .free] [0x10, 0x11, 0x13, 0x1B] s t
    else exec (.coilOpen c) s = .next s) ∧
  -- feedback: as it reads, and judged FB_TIME after a change of the coil's state
  (∀ (c : Fin 6) (a b : Bool) (s : State),
    let k := c.val
    let due := (s.ch k).changed.any fun t0 => (s.fbTime k).any fun d => decide (msT d ≤ s.since t0)
    ∃ t, exec (.fbCheck c a b) s = .next t ∧ (t.ch k).fbA = a ∧ (t.ch k).fbB = b ∧ (s.ctl.state = 1 → RunHolds t) ∧
      (due = false →
        (t.ch k).changed = (s.ch k).changed ∧ t.nv = s.nv ∧ t.saf.latched = s.saf.latched ∧
          OnlyPages [.saf, .ctl, .pair, .recd, .free] [0x10, 0x11, 0x1B] s t) ∧
      (due = true → (a ≠ b → t.bit Reg.SAF_FB_STATE (16 + k) = true ∧ (s.bit Reg.SAF_FB_STATE (16 + k) = false → evt t 0x13 7 = true)) ∧
        (a = b → t.bit Reg.SAF_FB_STATE (16 + k) = s.bit Reg.SAF_FB_STATE (16 + k)) ∧
        (if s.coilOn k = true then
          t.nv = s.nv ∧ t.saf.latched = s.saf.latched ∧
            (if a = false ∧ b = false then evt t 0x13 6 = true ∧ t.bit Reg.SAF_K_REQ k = false ∧ PathOpen t k else t.pathOn k = s.pathOn k)
        else if a = false ∧ b = false then
          t.nv.proofs.find? k = some (timeSec s.plant) ∧ t.nv.closedOnce.testBit k = false ∧ t.saf.proofDue.testBit k = false ∧
            t.saf.proofOver.testBit k = false ∧ t.nv.weld = s.nv.weld ∧ t.saf.latched = s.saf.latched
        else
          t.nv.weld.testBit k = true ∧ (s.nv.weld.testBit k = false → evt t 0x13 5 = true) ∧ t.saf.latched = true ∧
            (s.saf.latched = false → Demanded 9 k 7 false s t ∧ OnlyDemand [.nv] s t)) ∧
        ((s.coilOn k = true ∨ (a = false ∧ b = false)) → OnlyPages [.saf, .nv, .ctl, .pair, .recd, .free] [0x10, 0x11, 0x13, 0x1B] s t))) ∧
  (∀ (c : Fin 6) (s : State),
    let k := c.val
    let old (f : Pset → Nat) : Bool := (s.proofAge k).any fun d => s.saf.pset.any fun p => decide (f p ≤ d) && p.kUsed.testBit k
    (if (old (·.proofWarn) && !s.saf.proofDue.testBit k) = true then
      ∃ t, exec (.proofDue c) s = .next t ∧ t.saf = { s.saf with proofDue := s.saf.proofDue ||| 2 ^ k } ∧ evt t 0x13 9 = true ∧
        OnlyEvents [.saf] [] [0x13] s t
    else exec (.proofDue c) s = .next s) ∧
    (if (old (·.proofInt) && !s.saf.proofOver.testBit k) = true then
      ∃ t, exec (.proofOverdue c) s = .next t ∧ t.saf = { s.saf with proofOver := s.saf.proofOver ||| 2 ^ k } ∧ evt t 0x13 10 = true ∧
        OnlyEvents [.saf] [] [0x13] s t
    else exec (.proofOverdue c) s = .next s)) ∧
  -- SAF_CMD RESET
  (∀ (mid : Mid) (s : State), Passes s mid Reg.SAF_SAF_CMD true →
    let quiet := (s.saf.latched || s.saf.gLatch) && s.saf.sources == 0 && decide (msT 100 ≤ s.since s.saf.quietAt) && s.saf.xtripIn != 2
    if quiet = false then RefusedBy (exec (.safReset mid) s) s 0x13 ErrCode.state.code
    else if s.saf.gSources ≠ 0 then
      ∃ t, exec (.safReset mid) s = .next t ∧ t.saf = s.saf ∧ evt t 0x14 4 = true ∧ t.rd (errAddr 0x13) % 2 ^ 8 = ErrCode.state.code ∧
        OnlyEvents [] [errAddr 0x13] [0x14] s t
    else
      ∃ t, exec (.safReset mid) s = .next t ∧ t.saf.latched = false ∧ t.saf.gLatch = false ∧ evt t 0x13 1 = true ∧
        t.pair.mode = (if s.pair.mode = .safeHold then .ready else s.pair.mode) ∧ (∀ k, k < 6 → t.ch k = s.ch k) ∧
        (∀ i, i < 2 → t.saf.startup.testBit i = (s.siParam i).any (·.startup)) ∧ (s.pair.mode ≠ .safeHold → t.ctl = s.ctl) ∧
        (s.pair.mode = .safeHold → RunHolds t) ∧ OnlyPages [.saf, .ctl, .pair, .recd, .free] [0x10, 0x11, 0x13, 0x1B, 0x1C] s t)

/-- PSET_LOAD, PSET_CONFIRM, WELD_CLEAR (R211, R213, R219, R221). The digest and the signatures are opaque: a set that passes them and one that does not
are both stated. The model's choices it rests on: log entries 7, 49, 79, 123. -/
def Obligations.ParameterSets : Prop :=
  (∀ (mid : Mid) (s : State), Passes s mid Reg.SAF_SAF_CMD true →
    let a := s.rd Reg.SAF_PSET_ADDR
    if s.pair.mode ≠ .commission ∧ s.pair.mode ≠ .service then RefusedBy (exec (.psetLoad mid) s) s 0x13 ErrCode.mode.code
    else if s.anyPath = true then RefusedBy (exec (.psetLoad mid) s) s 0x13 ErrCode.state.code
    else if (!s.held (.own .safety) && s.rangeRight (midColumn (.own .safety)) a 352 false && s.psetValid (s.readBytes a 352)) = true then
      ∃ t, exec (.psetLoad mid) s = .next t ∧ t.saf = { s.saf with pending := some (s.readBytes a 352) } ∧ Only [.saf] [] s t
    else
      ∃ t, exec (.psetLoad mid) s = .next t ∧ t.saf = s.saf ∧ evt t 0x13 12 = true ∧ t.rd (errAddr 0x13) % 2 ^ 8 = ErrCode.psetBad.code ∧
        (if (!s.held (.own .safety) && !s.rangeRight (midColumn (.own .safety)) a 352 false) = true then
          evt t 0x03 0 = true ∧ t.reg Reg.FWL_VIOL_COUNT = s.reg Reg.FWL_VIOL_COUNT + 1 ∧
            OnlyEvents [.busData, .busHi, .busErr] (errAddr 0x13 :: violRegs) [0x03, 0x13] s t
        else OnlyEvents [] [errAddr 0x13] [0x13] s t)) ∧
  -- a set is valid only with its frame, its ranges and the Workbench safety key's signature
  (∀ (b : List Nat) (s : State), s.psetValid b = true ↔
    (leAt b 0 4 = 0x54455350 ∧ leAt b 4 2 = 1 ∧ leAt b 8 4 = 352 ∧
      (s.nv.keys.find? 4).any (fun k => Config.ecdsaOk k (b.take 0x100) (b.drop 0x100)) = true ∧
      (∀ i, i < 12 →
        let e := siEntry b i
        5 ≤ e.filter ∧ e.filter ≤ 80 ∧ 10 ≤ e.disc ∧ e.disc ≤ 1000 ∧ (e.tpA + e.tpB) % 2 = 1 ∧ 1 ≤ e.tpA ∧ e.tpA ≤ 8 ∧ 1 ≤ e.tpB ∧ e.tpB ≤ 8 ∧
          (e.startup = true → i < 2)) ∧
      (∀ i, i < 6 →
        let e := fbEntry b i
        20 ≤ e.fbTime ∧ e.fbTime ≤ 1000 ∧ (e.tpA + e.tpB) % 2 = 1 ∧ 1 ≤ e.tpA ∧ e.tpA ≤ 8 ∧ 1 ≤ e.tpB ∧ e.tpB ≤ 8) ∧
      (psetOf b).kUsed < 64 ∧ 2 ≤ (psetOf b).silLimit ∧ (psetOf b).silLimit ≤ 10 ∧ 1 ≤ (psetOf b).proofWarn ∧
      (psetOf b).proofWarn ≤ (psetOf b).proofInt ∧ (psetOf b).proofInt ≤ 365 ∧ 100 ≤ (psetOf b).ihTrip ∧ (psetOf b).ihTrip ≤ 2000 ∧
      1 ≤ (psetOf b).sf8Time ∧ (psetOf b).sf8Time ≤ 100 ∧ ∀ x ∈ (b.drop 0xBA).take 70, x = 0)) ∧
  -- the set confirmed by its digest is stored and in force; channels it brings into use have no proof on record
  (∀ (mid : Mid) (s : State), Passes s mid Reg.SAF_SAF_CMD true →
    s.saf.pending = none → RefusedBy (exec (.psetConfirm mid) s) s 0x13 ErrCode.state.code) ∧
  (∀ (mid : Mid) (s : State) (b : List Nat), Passes s mid Reg.SAF_SAF_CMD true → s.saf.pending = some b →
      if s.reg Reg.SAF_PSET_CONFIRM ≠ (psetOf b).digest then RefusedBy (exec (.psetConfirm mid) s) s 0x13 ErrCode.psetConfirm.code
      else
        ∃ t, exec (.psetConfirm mid) s = .next t ∧ t.saf.pset = some (psetOf b) ∧ t.saf.pending = none ∧ t.nv.pset = some b ∧
          t.bit 0x1300c 0 = true ∧ evt t 0x13 11 = true ∧
          (∀ k, k < 6 → t.nv.closedOnce.testBit k = (s.nv.closedOnce.testBit k &&
            !((psetOf b).kUsed.testBit k && !s.saf.pset.any fun p => p.kUsed.testBit k))) ∧
          (∀ k, k < 6 → t.nv.proofs.find? k =
            (if ((psetOf b).kUsed.testBit k && !s.saf.pset.any fun p => p.kUsed.testBit k) = true then none else s.nv.proofs.find? k)) ∧
          (∀ i, i < 2 → t.saf.startup.testBit i = ((psetOf b).si[i]?).any fun e => e.used && e.startup) ∧
          (((List.range 12).any fun i => ((psetOf b).si[i]?).any (·.used) &&
              ((s.si i).a == .low || (s.si i).b == .low || (s.si i).disc || (s.si i).tpFault)) = true → t.saf.latched = true) ∧
          OnlyDemand [.nv] s t) ∧
  -- WELD_CLEAR: in SERVICE, with a token for it over SAF_NONCE under the Workbench key, and the nonce is renewed
  (∀ (mid : Mid) (s : State), Passes s mid Reg.SAF_SAF_CMD true →
    let a := s.rd Reg.SAF_TOKEN_ADDR
    let read := !s.held (.own .loader) && s.rangeRight (midColumn (.own .loader)) a 128 false
    if s.pair.mode ≠ .service then RefusedBy (exec (.weldClear mid) s) s 0x13 ErrCode.mode.code
    else
      ∃ t, exec (.weldClear mid) s = .next t ∧ t.draws = s.draws + 1 ∧ t.saf = { s.saf with nonce := s.draws } ∧
        (if (read && s.tokenOk (s.readBytes a 128) 2 s.safNonce 4) = true then
          t.nv = { s.nv with weld := 0 } ∧ Only [.saf, .nv, .draws] [] s t
        else
          t.nv = s.nv ∧ evt t 0x1E 2 = true ∧ t.rd (errAddr 0x13) % 2 ^ 8 = ErrCode.tokenBad.code ∧
            (if read = true ∨ s.held (.own .loader) = true then OnlyEvents [.saf, .draws] [errAddr 0x13] [0x1E] s t
            else evt t 0x03 0 = true ∧ OnlyEvents [.saf, .draws, .busData, .busHi, .busErr] (errAddr 0x13 :: violRegs) [0x03, 0x1E] s t)))

/-- A heartbeat was sent with what the module is (R230): its fields, and its frame on the Causeway. -/
abbrev BeatSent (s t : State) : Prop :=
  s.cswUp = true →
    t.pair.hbTxAt = some s.tim.odo ∧ t.pair.hbSent.role = t.pair.role.code ∧ t.pair.hbSent.mode = t.pair.mode.code ∧
      t.pair.hbSent.tko = t.pair.tko ∧ (t.pair.cswOut.find? (cswKey 0 0)).isSome = true

/-- A module has taken control (R184, R226, R227, R235): the role, the claim, TKO `tko`, the key epoch due at the next beacon, and CTL in RUN with
the path closed and proved, HOLD if only that is missing, STOPPED otherwise. -/
abbrev Claims (r : Role) (tko : Nat) (s t : State) : Prop :=
  t.pair.role = r ∧ t.pair.claim = true ∧ t.pair.claimAt = s.tim.odo ∧ t.pair.tko = tko ∧ evt t 0x11 3 = true ∧ evt t 0x1C 0 = true ∧
    t.link.epochDue = true ∧ BeatSent s t ∧
    (if t.mayRun = true then t.ctl.state = 1 ∧ t.ctl.stopping = false ∧ evt t 0x10 0 = true
    else if t.mayRunOrHold = true then t.ctl.state = 3 ∧ t.ctl.stopping = false ∧ t.ctl.holdAt = s.tim.odo
    else t.ctl.state = 0 ∧ t.ctl.stopping = true)

/-- A SHADOW has taken over (R235): TKO_ODO, TAKEOVERS and SWITCH_TIME, and a first frame with the REF of the last tracked step. -/
abbrev TakesOver (r : Role) (s t : State) : Prop :=
  Claims r s.nextTko s t ∧ t.reg Reg.RED_TKO_ODO_LO = s.odoLo ∧ t.reg Reg.RED_TKO_ODO_HI = s.odoHi ∧
    t.reg Reg.RED_TAKEOVERS = s.reg Reg.RED_TAKEOVERS + 1 ∧ t.rd Reg.RED_SWITCH_TIME ≤ 250000 ∧ evt t 0x1C 2 = true ∧ t.swp.takeover = true ∧
    FrameSent { s with pair := { s.pair with role := r, tko := s.nextTko } } t (t.ctl.state == 0) false s.ctl.cmd ∧
    (⟨0, 0x014, 2, 0, [w32 r.code, w32 s.nextTko, t.reg Reg.RED_SWITCH_TIME], s.tim.odo⟩ : Arrival) ∈ t.recd.arriving

/-- A module has become SHADOW (R226 to R228, R204): RESIGN_OUT high, CTL in TRACK, and what it must prove afresh (R239). -/
abbrev Shadows (s t : State) : Prop :=
  t.pair.role = .shadow ∧ t.pair.claim = false ∧ t.ctl.state = 2 ∧ t.ctl.stopping = s.saf.latched ∧ t.ctl.fallDue = false ∧ t.ctl.oscDue = none ∧
    t.ctl.mirror = none ∧ t.pair.estOk = 0 ∧ t.pair.ctlOk = false ∧ t.saf.sources.testBit 7 = false ∧ evt t 0x1C 0 = true ∧ BeatSent s t ∧
    (s.inControl = true → t.pair.offer = none ∧ t.pair.blocked = [] ∧ t.pair.revertAt = none ∧ t.link.sf.all (fun f => !f.served) = true)

/-- MODE_REQ, STOP_SEQ_RUN_EXIT, STOP_SEQ_PATHS_OPEN, STOP_SEQ_DONE, POWER_ON, BOOT_DONE, START_WAIT_EXPIRY (R175, R223 to R226). The model's choices it
rests on: log entries 43, 82, 89. -/
def Obligations.ModesAndTheStopSequence : Prop :=
  (∀ (mid : Mid) (v : Word) (s : State) (m : Mode), Passes s mid Reg.RED_MODE_REQ true → s.modeStep (Mode.ofCode (v.toNat % 8)) = .enter m →
    ∃ t, exec (.modeReq mid v) s = .next t ∧ t.pair.mode = m ∧ t.pair.stop = none ∧ t.ctl.stopHold = false ∧ evt t 0x1C 1 = true ∧
      (m = .operate → t.ctl.now = {} ∧ t.ctl.next = none ∧ t.dsp.spNow = 0) ∧
      (m = .formation → t.ctl.now.fromFrm = true ∧ t.ctl.next = none ∧ t.dsp.spNow = 0) ∧
      t.pair.role = s.pair.role ∧ BeatSent s t ∧ OnlyPages [.ctl, .pair, .dsp, .recd, .free] [0x10, 0x11, 0x1B, 0x1C] s t) ∧
  (∀ (mid : Mid) (v : Word) (s : State) (m : Mode), Passes s mid Reg.RED_MODE_REQ true → s.modeStep (Mode.ofCode (v.toNat % 8)) = .stop m →
    (s.pair.stop = none →
      ∃ t, exec (.modeReq mid v) s = .next t ∧ t.pair = { s.pair with stop := some { target := m, step := 1, since := s.tim.odo } } ∧
        t.ctl = { s.ctl with next := some ({ kind := 1, value := 0, limit := 0 }, false), stopHold := true } ∧ ProgramEnded s t 6 ∧
        (if s.frm.state = 1 ∨ s.frm.state = 2 then OnlyPages [.pair, .ctl, .frm, .mem, .busData, .busHi, .busErr, .recd, .free] [0x03, 0x12] s t
        else Only [.pair, .ctl] [] s t)) ∧
    (∀ q, s.pair.stop = some q →
      ∃ t, exec (.modeReq mid v) s = .next t ∧ t.pair = { s.pair with stop := some { q with target := m } } ∧ Only [.pair] [] s t)) ∧
  (∀ (mid : Mid) (v : Word) (s : State) (c : Nat), Passes s mid Reg.RED_MODE_REQ true →
    s.modeStep (Mode.ofCode (v.toNat % 8)) = .refuse c →
    ∃ t, exec (.modeReq mid v) s = .next t ∧ t.reg Reg.RED_MODE_REFUSE = w32 c ∧ t.pair = s.pair ∧ evt t 0x1C 8 = true ∧
      t.rd (errAddr 0x1C) % 2 ^ 8 = (if c = 1 then ErrCode.role.code else ErrCode.mode.code) ∧
      OnlyEvents [] [Reg.RED_MODE_REFUSE, errAddr 0x1C] [0x1C] s t) ∧
  -- the table of R224
  (∀ (s : State) (m : Mode), s.pair.role = .shadow → s.modeStep m = .refuse 1) ∧
  (∀ (s : State) (m : Mode), s.pair.role ≠ .shadow → s.pair.stop ≠ none →
    s.modeStep m = (if m = .ready ∨ m = .service then .stop m else .refuse 9)) ∧
  (∀ (s : State) (m : Mode), s.pair.role ≠ .shadow → s.pair.stop = none →
    (s.pair.mode = .ready →
      s.modeStep m = (if m = .commission then (if s.anyPath then .refuse 8 else .enter m)
        else if m = .operate ∨ m = .formation then (if s.runCode = 0 then .enter m else .refuse s.runCode)
        else if m = .service then .enter m else .refuse 2)) ∧
    (s.pair.mode = .commission → s.modeStep m = (if m = .ready ∨ m = .service then .enter m else .refuse 2)) ∧
    (s.pair.mode = .service → s.modeStep m = (if m = .ready ∨ m = .commission then .enter m else .refuse 2)) ∧
    (s.pair.mode = .operate ∨ s.pair.mode = .formation → s.modeStep m = (if m = .ready ∨ m = .service then .stop m else .refuse 2)) ∧
    (s.pair.mode = .safeHold → s.modeStep m = .refuse 10) ∧ (s.pair.mode = .off ∨ s.pair.mode = .boot → s.modeStep m = .refuse 2)) ∧
  (∀ s : State, s.runCode =
    if s.saf.pset = none then 3 else if s.link.plan = none then 4
    else if s.bit Reg.EST_EST_CFG 0 = false ∨ s.countedCells.any (fun c => !s.hasTable c) = true then 5
    else if s.ctl.applied = false then 6 else if s.pair.present = true ∧ (s.psetMatch && s.cfgMatch) = false then 7 else 0) ∧
  -- the stop sequence, step by step
  (∀ s : State,
    if (s.pair.stop.any fun q => s.inControl && q.step == 1 && (s.stopCurrent || decide (msT (s.rd Reg.RED_STOP_TMO) ≤ s.since q.since))) = true then
      ∃ t, exec .stopSeqRunExit s = .next t ∧ t.pair.stop = s.pair.stop.map (fun q => { q with step := 2, since := s.tim.odo }) ∧ t.ctl.state = 0 ∧
        t.ctl.stopping = true ∧ (s.ctl.state = 1 → evt t 0x10 1 = true) ∧ (s.ctl.stopping = false → FrameSent s t true false 0) ∧
        OnlyPages [.ctl, .pair, .recd, .free] [0x10, 0x11] s t
    else exec .stopSeqRunExit s = .next s) ∧
  (∀ s : State,
    if (s.pair.stop.any fun q => s.inControl && q.step == 2 && decide (msT 20 ≤ s.since q.since)) = true then
      ∃ t, exec .stopSeqPathsOpen s = .next t ∧ t.pair.stop = s.pair.stop.map (fun q => { q with step := 3, since := s.tim.odo }) ∧
        t.rd Reg.SAF_K_REQ = 0 ∧ PathsOpen t ∧ CoilsNoted s t ∧ OnlyPages [.saf, .ctl, .pair, .recd, .free] [0x10, 0x11, 0x13, 0x1B] s t
    else exec .stopSeqPathsOpen s = .next s) ∧
  (∀ (k : Nat) (s : State),
    let used := (s.saf.pset.map (·.kUsed)).getD 0
    let ends := s.pair.mode == .formation && s.pair.stop.any (fun q => q.target != .formation) && (s.frm.state == 1 || s.frm.state == 2)
    if (s.pair.stop.any fun q => s.inControl && q.step == 3 && (List.range 6).all fun c => !used.testBit c || k.testBit c) = true then
      ∃ t, exec (.stopSeqDone k) s = .next t ∧ (∀ q ∈ s.pair.stop, t.pair.mode = q.target ∧
          (s.pair.mode ≠ q.target → t.pair.stop = none ∧ t.ctl.stopHold = false ∧ evt t 0x1C 1 = true ∧ BeatSent s t)) ∧
        (∀ c, c < 6 → k.testBit c = true → (t.ch c).fbA = false ∧ (t.ch c).fbB = false) ∧
        (if ends = true then
          ProgramEnded s t 6 ∧
            OnlyPages [.saf, .ctl, .pair, .dsp, .frm, .mem, .busData, .busHi, .busErr, .recd, .free] [0x03, 0x10, 0x11, 0x12, 0x1B, 0x1C] s t
        else OnlyPages [.saf, .ctl, .pair, .dsp, .recd, .free] [0x10, 0x11, 0x1B, 0x1C] s t)
    else exec (.stopSeqDone k) s = .next s) ∧
  -- power-on and the end of BOOT
  (∀ (a b : Bool) (s : State),
    if s.pair.mode = .off ∧ s.hpm 0 = true ∧ (a || b) = true then
      ∃ t, exec (.powerOn a b) s = .next t ∧ t.pair = { s.pair with mode := .boot, unpowered := false, lossAt := none } ∧
        t.upd = { s.upd with boot := .rom, romAt := none } ∧ t.hpm 2 = a ∧ t.hpm 3 = b ∧ t.fld Reg.HPM_HPM_STAT 9 3 = 2 ∧
        Only [.pair, .upd] [Reg.HPM_HPM_STAT] s t
    else ∃ t, exec (.powerOn a b) s = .next t ∧ t.hpm 2 = a ∧ t.hpm 3 = b ∧ Only [] [Reg.HPM_HPM_STAT] s t) ∧
  (∀ (pass : Bool) (s : State), (s.pair.mode ≠ .boot ∨ s.upd.boot ≠ .loading ∨ s.hpm 8 = true) → exec (.bootDone pass) s = .next s) ∧
  (∀ (pass : Bool) (s : State), s.pair.mode = .boot → s.upd.boot = .loading → s.hpm 8 = false → (pass = false ∨ s.pair.homeBad = true) →
    s.nv.journal.state ≠ 2 →
    ∃ t, exec (.bootDone pass) s = .next t ∧ t.hpm 8 = true ∧ t.pair.mode = .boot ∧ Only [] [Reg.HPM_HPM_STAT] s t) ∧
  -- a failed trial boot counts, and the loader boots again or recovers at the third (R357)
  (∀ (pass : Bool) (s : State), s.pair.mode = .boot → s.upd.boot = .loading → s.hpm 8 = false → (pass = false ∨ s.pair.homeBad = true) →
    s.nv.journal.state = 2 →
    let n := s.nv.journal.count
    if n < 2 ∧ (s.nv.running.any fun b => s.imgStep2 b && s.imgStep3 b) = true then
      ∃ t, exec (.bootDone pass) s = .next t ∧ t.nv = { s.nv with journal := { s.nv.journal with count := n + 1 } } ∧
        t.upd = { s.upd with boot := .loading, bootAt := s.tim.odo } ∧ Only [.nv, .upd] [] s t
    else
      ∃ t, exec (.bootDone pass) s = .next t ∧ t.nv = { s.nv with journal := { s.nv.journal with count := max 3 (n + 1) } } ∧
        t.upd.boot = .recovering ∧ t.upd.reqAt = none ∧ Only [.nv, .upd] [] s t) ∧
  (∀ s : State, s.pair.mode = .boot → s.upd.boot = .loading → s.hpm 8 = false → s.pair.homeBad = false → s.pair.role = .none →
    ∃ t, exec (.bootDone true) s = .next t ∧ t.pair.mode = .ready ∧ t.upd.boot = .done ∧
      (s.nv.journal.state = 2 → t.nv.journal = {} ∧ t.upd.goodAt = s.tim.odo) ∧ (s.nv.journal.state ≠ 2 → t.nv = s.nv) ∧
      (s.nv.pset = none → t.saf.pset = s.saf.pset) ∧
      (∀ b ∈ s.nv.pset, if s.psetValid b = true then t.saf.pset = some (psetOf b) else t.saf.pset = s.saf.pset ∧ evt t 0x13 12 = true) ∧
      (∀ i, i < 2 → t.saf.startup.testBit i = (t.siParam i).any (·.startup)) ∧
      -- the role (R226)
      (if s.pairEn = false then Claims .solo s.nextTko s t
      else if s.pair.claimIn = true then Shadows { s with saf := t.saf } t
      else if s.pair.present = false then Claims .solo s.nextTko s t
      else if s.pair.slotB = false then Claims (if s.partnerAlive && s.pair.hb.role == 3 then .active else .solo) s.nextTko s t
      else t.pair.role = .none ∧ t.pair.startWait = some s.tim.odo) ∧
      t.fld Reg.HPM_HPM_STAT 9 3 = (if t.pair.role = .active ∨ t.pair.role = .solo then 4 else 3) ∧
      (if s.frm.state = 1 ∨ s.frm.state = 2 then
        OnlyPages [.saf, .upd, .nv, .ctl, .pair, .link, .frm, .mem, .busData, .busHi, .busErr, .recd, .free]
          [0x03, 0x10, 0x11, 0x12, 0x13, 0x14, 0x1B, 0x1C, 0x1F] s t
      else OnlyPages [.saf, .upd, .nv, .ctl, .pair, .link, .recd, .free] [0x10, 0x11, 0x13, 0x14, 0x1B, 0x1C, 0x1F] s t)) ∧
  (∀ (s : State) (t0 : BitVec 64), s.pair.startWait = some t0 →
    (s.since t0 < msT (s.rd Reg.RED_START_WAIT) → exec .startWaitExpiry s = .next s) ∧
    (msT (s.rd Reg.RED_START_WAIT) ≤ s.since t0 →
      ∃ t, exec .startWaitExpiry s = .next t ∧ t.pair.startWait = none ∧
        (if s.pair.role ≠ .none then t.pair = { s.pair with startWait := none } ∧ Only [.pair] [] s t
        else if s.pair.claimIn = true then Shadows s t
        else Claims (if s.pairEn && s.partnerAlive && s.pair.hb.role == 3 then .active else .solo) s.nextTko s t) ∧
        OnlyPages [.saf, .ctl, .pair, .link, .recd, .free] [0x10, 0x11, 0x1B, 0x1C] s t)) ∧
  (∀ s : State, s.pair.startWait = none → exec .startWaitExpiry s = .next s)

/-- HEARTBEAT_TX, HEARTBEAT_RX, HEARTBEAT_LOSS, RESIGN_IN_CHANGE, RESIGN, CSW_LANE_CHANGE (R54, R201, R211, R214, R223, R226 to R230, R233 to R236, R238,
R239, R243). The model's choices it rests on: log entries 38, 39, 83, 120, 125. -/
def Obligations.HeartbeatsAndRoles : Prop :=
  (∀ s : State, (s.pair.mode = .off ∨ s.pair.unpowered = true) →
    exec .heartbeatTx s = .next s ∧ (∀ h, exec (.heartbeatRx h) s = .next s) ∧ exec .heartbeatLoss s = .next s ∧
      ∀ high, exec (.resignInChange high) s = .next s) ∧
  -- every 100 µs: HEALTH and SCORE, a standing cause of R233 tried again, and the heartbeat
  (∀ s : State, inPair s = true →
    let bits := s.healthBits
    let h := healthWord bits
    let b := s.pair.blocked.filter s.causeStands
    let c := b.find? (· != 10)
    let goes := s.pair.role == .active && s.partnerFit && c.isSome
    ∃ t, exec .heartbeatTx s = .next t ∧ t.reg Reg.RED_HEALTH = w32 h ∧ t.fld Reg.RED_SCORE 0 8 = scoreOf bits ∧
      t.fld Reg.RED_SCORE 8 8 = (if s.partnerAlive then s.pair.hb.score % 256 else 0) ∧
      t.reg Reg.RED_PARTNER_HEALTH = (if s.partnerAlive then s.pair.hb.health else 0) ∧
      (scoreOf bits < s.fld Reg.RED_SCORE 0 8 → evt t 0x1C 9 = true) ∧
      ((s.bit Reg.RED_HEALTH 8 && !h.testBit 8) = true → evt t 0x1B 4 = true) ∧ ((s.bit Reg.RED_HEALTH 12 && !h.testBit 12) = true → evt t 0x1B 5 = true) ∧
      BeatSent s t ∧
      (s.cswUp = true → t.pair.hbSent.score = scoreOf bits ∧ t.pair.hbSent.health = w32 h ∧
        t.pair.cswOut.find? (cswKey 0 0) = some [cswBytes 0 0 (t.pair.hbSent.rx.seq % 2 ^ 16) 0 (hbPayload t.pair.hbSent)] ∧
        (goes = false → t.pair.hbSent.rx.seq = s.pair.cswSeq.get 0 0 ∧ t.reg Reg.CSW_TX_FRAMES = s.reg Reg.CSW_TX_FRAMES + 1)) ∧
      (if goes = true then
        Shadows s t ∧ t.rd Reg.RED_LAST_CAUSE = c.getD 0 ∧ t.reg Reg.RED_RESIGNS = s.reg Reg.RED_RESIGNS + 1 ∧ evt t 0x1C 3 = true
      else if b.contains 10 = true then
        t.pair.role = s.pair.role ∧
          (if s.mayLeave = true then t.pair.handWant = true ∧ t.pair.blocked = b.erase 10 ∧ t.hpm 7 = false
          else t.pair.blocked = b ∧ t.hpm 7 = true ∧ (s.hpm 7 = false → evt t 0x1F 5 = true))
      else t.pair.role = s.pair.role ∧ t.pair.blocked = b ∧ t.pair.handWant = s.pair.handWant) ∧
      OnlyPages [.pair, .link, .ctl, .saf, .recd, .free] [0x1B, 0x1C, 0x1F] s t) ∧
  -- HEALTH, bit by bit (R239)
  (∀ s : State,
    let h := healthWord s.healthBits
    (∀ l, l < 2 → h.testBit l = s.laneOk l) ∧ (∀ c, c < 3 → h.testBit (5 + c) = (!s.snsBad c && (c != 1 || !s.sns.sf8Low))) ∧
      h.testBit 8 = (s.inControl || decide (10 ≤ s.pair.estOk)) ∧ h.testBit 9 = (s.inControl || s.pair.ctlOk) ∧ h.testBit 10 = s.psetMatch ∧
      h.testBit 12 = s.cfgMatch ∧ h.testBit 19 = !s.pair.hot ∧ h.testBit 20 = (s.hpm 2 && s.hpm 3) ∧ h.testBit 21 = s.hpm 4 ∧
      h.testBit 23 = !s.ctl.fellOver ∧ h < 2 ^ 24 ∧
      scoreOf s.healthBits = 100 - ((List.range 24).map fun b => if h.testBit b then 0 else healthWeights.getD b 0).sum) ∧
  -- a heartbeat that is taken
  (∀ (h : Heartbeat) (s : State), inPair s = true → s.cswAccepts 0 0 h.rx = false → FrameDropped (exec (.heartbeatRx h) s) s h.rx) ∧
  (∀ (h : Heartbeat) (s : State), inPair s = true → s.cswAccepts 0 0 h.rx = true →
    let follows := s.pair.role == .shadow && (h.role == 1 || h.role == 2)
    let m := Mode.ofCode (h.mode % 8)
    let takes := follows && m != .safeHold && s.pair.mode != .safeHold && m != .off && m != .boot
    let good := s.pair.slotB && s.inControl && h.role == 3 && !h.slotB && h.score == 100
    let mask := s.link.maskWait.any fun w => h.cycle == w.1 % 2 ^ 32
    ∃ t, exec (.heartbeatRx h) s = .next t ∧ t.pair.hb = h ∧ t.pair.hbAt = s.tim.odo ∧ t.pair.alive = true ∧ t.upd.partnerAct = h.act ∧
      t.reg Reg.CSW_HB_RX_SEQ = w32 h.rx.seq ∧ t.reg Reg.CSW_PARTNER_TAG = h.cfgTag ∧ t.reg Reg.CSW_PARTNER_IMG = h.image ∧
      t.reg Reg.CSW_RX_FRAMES = s.reg Reg.CSW_RX_FRAMES + 1 ∧ t.pair.cswRx.find? (cswKey 0 0) = some h.rx.seq ∧
      t.pair.gauOk = s.gauAgrees h ∧ t.pair.timeOk = s.timeAgrees h ∧ CoilsNoted s t ∧
      t.saf.tpShift = (if s.pair.role = .shadow ∧ s.pair.slotB = true ∧ h.slotB = false then
        sdiff 32 h.ptSec (timeSec s.plant) * 1000000000 + ((h.ptNs : Int) - timeNs s.plant) else 0) ∧
      -- ACTIVE beside a SHADOW, SOLO otherwise
      t.pair.role = (if s.pair.role = .solo ∧ h.role = 3 ∧ s.pair.present = true ∧ s.pairEn = true then .active
        else if s.pair.role = .active ∧ h.role ≠ 3 then .solo else s.pair.role) ∧
      -- a SHADOW follows the mode, K_NET and the key epoch of the module in control
      (if follows = true then t.nv.epoch = h.epoch ∧ t.nv.knet = h.knet.or s.nv.knet ∧
        (s.nv.epoch ≠ h.epoch → t.link.epochOld = 3 ∧ t.link.epochAt = s.gau.cyc) else t.nv = s.nv) ∧
      (mask = false → t.pair.mode = (if takes then m else s.pair.mode)) ∧
      (takes = true → s.pair.mode ≠ m → evt t 0x1C 1 = true) ∧
      -- the wait of R238
      (if good = true then t.pair.revertAt = some (s.pair.revertAt.getD s.tim.odo) ∧ t.pair.revertNow = s.pair.revertNow
      else t.pair.revertAt = none ∧ t.pair.revertNow = false) ∧
      -- the PRESENT mask a SHADOW waits for
      (if mask = true then
        t.link.maskWait = none ∧ ∀ w ∈ s.link.maskWait, ∀ n, n < 32 → s.joined n = true → ((s.presentOf w.1 ||| h.present).testBit n = true ↔ t.miss n = 0)
      else t.link.maskWait = s.link.maskWait ∧ ∀ n, n < 32 → t.miss n = s.miss n) ∧
      -- leaving: the partner in control holds every requested channel
      (s.pair.role = .shadow → s.pair.leaving = true → s.pair.leftAt = none →
        if (s.pair.present && (h.role == 1 || h.role == 2) && (List.range 6).all fun k => !s.requested k || h.path.testBit k) = true then
          t.pair.leftAt = some s.tim.odo ∧ PathsOpen t ∧ t.pair.claim = false ∧ t.ctl.lineOn = false ∧ t.hpm 7 = false
        else t.pair.leftAt = none ∧ t.hpm 7 = true ∧ (s.hpm 7 = false → evt t 0x1F 5 = true)) ∧
      (mask = false → (s.frm.state ≠ 1 ∧ s.frm.state ≠ 2) →
        OnlyPages [.pair, .saf, .upd, .nv, .link, .ctl, .dsp, .recd, .free] [0x10, 0x11, 0x1B, 0x1C, 0x1F] s t)) ∧
  -- the partner is lost (R234, R236): an ACTIVE becomes SOLO, and a SHADOW takes over, also one that never heard a heartbeat
  (∀ s : State, inPair s = true →
    let out := s.pair.leftAt.isSome || s.pair.unseated
    let partners := (List.range 64).any fun ch => s.bound ch && (isPartner (s.endMid ch false) || isPartner (s.endMid ch true))
    if usT 450 ≤ s.since s.pair.hbAt ∧ (s.pair.alive = true ∨ (s.pair.role = .shadow ∧ out = false)) then
      ∃ t, exec .heartbeatLoss s = .next t ∧ t.pair.alive = false ∧ t.pair.revertAt = none ∧ t.pair.revertNow = false ∧ evt t 0x1B 2 = true ∧
        t.reg Reg.CSW_HB_LOST = s.reg Reg.CSW_HB_LOST + 1 ∧ (∀ k, k < 6 → s.coilOn k ≠ t.coilOn k → (t.ch k).changed = some s.tim.odo) ∧
        (partners = true → evt t 0x04 5 = true) ∧ (partners = false → t.mbx = s.mbx) ∧
        (if s.pair.role = .shadow ∧ out = false then TakesOver .solo s t
        else t.pair.role = (if s.pair.role = .active then .solo else s.pair.role) ∧ t.link = s.link ∧ t.ctl = { s.ctl with mirror := t.ctl.mirror }) ∧
        OnlyPages [.pair, .saf, .mbx, .link, .swp, .ctl, .recd, .free] [0x04, 0x05, 0x10, 0x11, 0x1B, 0x1C] s t
    else exec .heartbeatLoss s = .next s) ∧
  -- the partner's claim (R227, R228): who is in control yields, but for slot A where both claims began together
  (∀ s : State, inPair s = true →
    let first := decide (s.since s.pair.claimAt ≤ usT 100) && !s.pair.slotB && s.pair.offer.isNone
    let fresh := s.pair.role == .none && s.pair.mode != .boot && s.pair.mode != .off
    let u := { s.pair with claimIn := true, claimInAt := s.tim.odo }
    if (s.inControl && !first) = true then
      ∃ t, exec (.resignInChange false) s = .next t ∧ Shadows s t ∧ t.pair.claimIn = true ∧ t.pair.claimInAt = s.tim.odo ∧
        t.reg Reg.RED_RESIGNS = s.reg Reg.RED_RESIGNS + 1 ∧ evt t 0x1C 4 = true ∧ (s.pair.offer ≠ none → evt t 0x1C 5 = true) ∧
        t.reg Reg.RED_LAST_CAUSE = (if s.pair.offer.isSome && s.pair.leaving then w32 10 else s.reg Reg.RED_LAST_CAUSE) ∧
        OnlyPages [.pair, .link, .ctl, .saf, .recd, .free] [0x1B, 0x1C] s t
    else if fresh = true then
      ∃ t, exec (.resignInChange false) s = .next t ∧ Shadows s t ∧ t.pair.claimIn = true ∧ t.pair.startWait = none ∧
        OnlyPages [.pair, .ctl, .saf, .recd, .free] [0x1B, 0x1C] s t
    else exec (.resignInChange false) s = .next { s with pair := u }) ∧
  -- the partner drops its claim (R234): the SHADOW takes over
  (∀ s : State, inPair s = true →
    if (s.pair.claimIn && s.pair.role == .shadow && s.pair.leftAt.isNone && !s.pair.unseated) = true then
      ∃ t, exec (.resignInChange true) s = .next t ∧ TakesOver (if s.partnerAlive then .active else .solo) s t ∧ t.pair.claimIn = false ∧
        OnlyPages [.pair, .link, .swp, .ctl, .recd, .free] [0x10, 0x11, 0x1B, 0x1C] s t
    else exec (.resignInChange true) s = .next { s with pair := { s.pair with claimIn := false, claimInAt := s.tim.odo } }) ∧
  -- RESIGN is a cause of R233
  (∀ (mid : Mid) (s : State), Passes s mid Reg.RED_RED_CMD true →
    ∃ t, exec (.resign mid) s = .next t ∧ Resigns 8 s t ∧ OnlyPages [.pair, .link, .ctl, .saf, .recd, .free] [0x1B, 0x1C] s t) ∧
  -- RESIGN_OUT (R227)
  (∀ s : State, s.resignOut = if s.pair.unpowered = true ∨ s.pair.mode = .off then .floating else if s.pair.claim = true then .low else .high) ∧
  (∀ (l : Fin 2) (up : Bool) (s : State),
    let other := if l.val = 0 then s.pair.lane1 else s.pair.lane0
    let partners := (List.range 64).any fun ch => s.bound ch && (isPartner (s.endMid ch false) || isPartner (s.endMid ch true))
    ∃ t, exec (.cswLaneChange l up) s = .next t ∧ t.laneUp l.val = up ∧ t.laneUp (1 - l.val) = s.laneUp (1 - l.val) ∧ evt t 0x1B (if up then 1 else 0) = true ∧
      (if up = false ∧ other ≠ 2 ∧ partners = true then
        evt t 0x04 5 = true ∧ OnlyPages [.pair, .mbx, .recd, .free] [0x04, 0x05, 0x1B] s t
      else OnlyEvents [.pair] [] [0x1B] s t))

/-- A control-state frame has been loaded (R184, R231): CTL's and FRM's states, the dither and the stop sequence are the frame's. -/
abbrev Loaded (f : CtlFrame) (s t : State) : Prop :=
  t.ctl.path = f.path ∧ t.ctl.now = { kind := f.kind, value := f.spValue, limit := f.spLimit, fromFrm := f.fromFrm } ∧ t.ctl.charge = f.charge ∧
    t.ctl.cur.i = f.curI ∧ t.ctl.cur.d = f.curD ∧ t.ctl.cur.y = f.curY ∧ t.ctl.vol.i = f.volI ∧ t.ctl.vol.d = f.volD ∧ t.ctl.vol.y = f.volY ∧
    t.ctl.pwr.i = f.pwrI ∧ t.ctl.pwr.d = f.pwrD ∧ t.ctl.pwr.y = f.pwrY ∧ t.ctl.ramp = f.ramp ∧ t.ctl.derate = f.oscDerate ∧
    t.ctl.dwelling = f.zeroDwell ∧ t.ctl.dwell = f.dwellLeft ∧ t.ctl.srcB = f.srcB ∧
    t.ctl.curX.i = f.fixCur ∧ t.ctl.volX.i = f.fixVol ∧ t.ctl.pwrX.i = f.fixPwr ∧ t.ctl.mirror = none ∧
    t.ctl.set.cur = (if f.oscDerate then derateGains s.ctl.set.base s.ctl.set.oscScale s.ctl.set.n else s.ctl.set.base) ∧
    t.ctl.diffMax = (if s.rd Reg.CTL_STEPS = f.steps then max s.ctl.diffMax (s.ctl.cmd - f.ref).natAbs else s.ctl.diffMax) ∧
    t.reg Reg.CTL_STEPS = w32 f.steps ∧ t.reg Reg.FRM_FRM_RUN = f.frmHandle ∧ t.pair.hb.tko = f.tko ∧
    (if s.clockRuns 0x12 then t.frm.state = f.frmState ∧ t.frm.step = f.frmStep ∧ t.frm.time = f.frmTime * 10000 / 128 else t.frm = s.frm) ∧
    (f.dither = false → t.est.dither = none) ∧ (f.dither = true → t.est.dither.isSome = true) ∧ t.rd Reg.SAF_K_REQ % 2 ^ 6 = f.kReq % 2 ^ 6 ∧
    (f.stopping = false → t.pair.stop = none) ∧
    (f.stopping = true → t.pair.stop = some ⟨if f.stopTarget % 8 = 6 then .service else .ready,
      if f.state = 1 ∨ f.state = 3 then 1 else if f.kReq ≠ 0 then 2 else 3, s.tim.odo - BitVec.ofNat 64 (msT f.stopTimer)⟩)

/-- The conditions on which a SHADOW joins its path to a coil that its partner holds (R242). -/
abbrev joins (s : State) (k : Nat) : Bool :=
  !s.pathOn k && !s.heldOpen && !s.swFault k && s.saf.powerTest && s.psetMatch && s.saf.xtripIn == 1 && !s.saf.latched && !s.saf.gLatch &&
    s.partnerHolds k

/-- CONTROL_FRAME_RX, NODE_STATE_TX, NODE_STATE_RX, SNAPSHOT_RX, PRESENT_MASK_TIMEOUT, SHADOW_PATH_JOIN, HANDOVER_OFFER, HANDOVER_FAIL, REVERT, REVERT_NOW
(R80, R201, R206, R229 to R233, R237, R238, R242, R243). The model's choices it rests on: log entries 11, 43, 84, 85, 86, 121. -/
def Obligations.MirroringAndHandover : Prop :=
  (∀ (f : CtlFrame) (s : State), (inPair s = false → exec (.controlFrameRx f) s = .next s) ∧
    (inPair s = true → s.cswAccepts 1 0 f.rx = false → FrameDropped (exec (.controlFrameRx f) s) s f.rx) ∧
    (inPair s = true → s.cswAccepts 1 0 f.rx = true →
      -- a SHADOW's own step of the same STEPS comes first
      if s.pair.role ≠ .shadow ∨ f.crcOk = false then
        ∃ t, exec (.controlFrameRx f) s = .next t ∧ t.reg Reg.CSW_RX_FRAMES = s.reg Reg.CSW_RX_FRAMES + 1 ∧ Only [.pair] [Reg.CSW_RX_FRAMES] s t
      else if f.handover = false ∧ f.steps = (s.rd Reg.CTL_STEPS + 1) % 2 ^ 32 then
        ∃ t, exec (.controlFrameRx f) s = .next t ∧ t.ctl = { s.ctl with mirror := some f } ∧ t.reg Reg.CSW_RX_FRAMES = s.reg Reg.CSW_RX_FRAMES + 1 ∧
          Only [.pair, .ctl] [Reg.CSW_RX_FRAMES] s t
      else if f.handover = true ∧ s.pair.leftAt = none then
        ∃ t, exec (.controlFrameRx f) s = .next t ∧ Claims .active { s with pair := { s.pair with hb := { s.pair.hb with tko := f.tko } } }.nextTko s t ∧
          t.ctl.path = f.path ∧ t.ctl.cur.i = f.curI ∧ t.ctl.ramp = f.ramp ∧ t.reg Reg.CTL_STEPS = w32 f.steps ∧
          t.reg Reg.RED_TAKEOVERS = s.reg Reg.RED_TAKEOVERS + 1 ∧ t.reg Reg.RED_TKO_ODO_LO = s.odoLo ∧ t.reg Reg.RED_TKO_ODO_HI = s.odoHi ∧
          evt t 0x1C 5 = true ∧ OnlyPages [.ctl, .frm, .est, .saf, .nv, .pair, .link, .recd, .free] [0x10, 0x11, 0x12, 0x13, 0x1B, 0x1C] s t
      else
        ∃ t, exec (.controlFrameRx f) s = .next t ∧ Loaded f s t ∧ t.reg Reg.CSW_RX_FRAMES = s.reg Reg.CSW_RX_FRAMES + 1 ∧ t.pair.role = .shadow ∧
          (∀ k, k < 6 → f.kReq.testBit k = false → s.bit Reg.SAF_K_REQ k = true → PathOpen t k) ∧
          (∀ k, k < 6 → f.kReq.testBit k = true → s.bit Reg.SAF_K_REQ k = false → s.partnerHolds k = true → s.pathOn k = false → t.pathOn k = joins s k) ∧
          (if f.kReq % 2 ^ 6 = s.fld Reg.SAF_K_REQ 0 6 then Only [.ctl, .frm, .est, .pair] [Reg.CTL_STEPS, Reg.FRM_FRM_RUN, Reg.CSW_RX_FRAMES] s t
          else OnlyPages [.ctl, .frm, .est, .saf, .nv, .pair, .recd, .free] [0x10, 0x11, 0x12, 0x13, 0x1B] s t))) ∧
  -- every 100 ms in control
  (∀ s : State,
    if s.cswUp = true ∧ s.inControl = true ∧ msT 100 ≤ s.since s.pair.nodeSentAt then
      ∃ t, exec .nodeStateTx s = .next t ∧ t.pair.nodeSent = s.nodeState ∧ t.pair.nodeSentAt = s.tim.odo ∧
        t.pair.cswOut.find? (cswKey 0 2) = some [cswBytes 0 2 (s.pair.cswSeq.get 0 (cswKey 0 2) % 2 ^ 16) 0 (nodePayload s.nodeState)] ∧
        t.reg Reg.CSW_TX_FRAMES = s.reg Reg.CSW_TX_FRAMES + 1 ∧ Only [.pair] [Reg.CSW_TX_FRAMES] s t
    else exec .nodeStateTx s = .next s) ∧
  (∀ (f : NodeState) (s : State), (inPair s = false → exec (.nodeStateRx f) s = .next s) ∧
    (inPair s = true → s.cswAccepts 0 2 f.rx = false → FrameDropped (exec (.nodeStateRx f) s) s f.rx) ∧
    (inPair s = true → s.cswAccepts 0 2 f.rx = true →
      ∃ t, exec (.nodeStateRx f) s = .next t ∧ t.reg Reg.CSW_RX_FRAMES = s.reg Reg.CSW_RX_FRAMES + 1 ∧
        (if s.pair.role ≠ .shadow then Only [.pair] [Reg.CSW_RX_FRAMES] s t
        else
          (∀ n, n < 32 → t.joined n = f.joined.testBit n) ∧ (∀ n, n < 32 → f.joined.testBit n = true → s.joined n = false → evt t 0x0A 0 = true) ∧
            (s.est.caps = [] → OnlyPages [.pair, .link, .gens, .recd, .free] [0x08, 0x09, 0x0A, 0x1B] s t)))) ∧
  -- a snapshot
  (∀ (f : Snapshot) (s : State),
    let n := if f.complete then (snapSegments f).length else f.segs
    let d := s.estDiff f
    let regs := [Reg.CSW_RX_FRAMES, Reg.CSW_CRC_ERR0, Reg.CSW_CRC_ERR1]
    if (s.cswUp && inPair s) = false then exec (.snapshotRx f) s = .next s
    else
      ∃ t, exec (.snapshotRx f) s = .next t ∧ t.reg Reg.CSW_RX_FRAMES = s.reg Reg.CSW_RX_FRAMES + BitVec.ofNat 32 n ∧
        t.reg Reg.CSW_CRC_ERR0 = s.reg Reg.CSW_CRC_ERR0 + BitVec.ofNat 32 f.bad0 ∧ t.reg Reg.CSW_CRC_ERR1 = s.reg Reg.CSW_CRC_ERR1 + BitVec.ofNat 32 f.bad1 ∧
        (if s.pair.role ≠ .shadow then Only [.pair] regs s t
        else if (f.complete && f.cycle == s.rd Reg.EST_PIPE_CYCLE) = true then
          t.pair.snapNext = some f ∧ t.pair.snapOk = true ∧ t.reg Reg.CSW_SNAP_SEQ = w32 f.pubSeq ∧
            t.rd Reg.CSW_EST_DIFF = (min 65535 d.1 + d.2 % 512 * 2 ^ 16) % 2 ^ 32 ∧
            t.pair.estOk = (if d.1 ≤ s.rd Reg.CSW_MIRROR_TOL then min 10 (s.pair.estOk + 1) else 0) ∧
            Only [.pair] (regs ++ [Reg.CSW_EST_DIFF, Reg.CSW_SNAP_SEQ]) s t
        else
          t.pair.snapOk = false ∧ t.pair.estOk = 0 ∧ evt t 0x1B 3 = true ∧ t.reg Reg.CSW_SNAP_MISS = s.reg Reg.CSW_SNAP_MISS + 1 ∧
            t.reg Reg.CSW_SNAP_SEQ = (if f.complete then w32 f.pubSeq else s.reg Reg.CSW_SNAP_SEQ) ∧
            OnlyEvents [.pair] (regs ++ [Reg.CSW_SNAP_MISS, Reg.CSW_SNAP_SEQ]) [0x1B] s t)) ∧
  -- the largest difference in SOC, over the cells of the snapshot
  (∀ (f : Snapshot) (s : State) (c : SnapCell), c ∈ f.cells →
    (F32.toIntScaled (F32.sub (cellOfSnap c).socF (s.pubCell c.cell).socF) 10000).natAbs ≤ (s.estDiff f).1) ∧
  -- the PRESENT mask of the partner has not come
  (∀ s : State,
    if (s.link.maskWait.any fun w => decide (usT 200 ≤ s.since w.2)) = true then
      ∃ t, exec .presentMaskTimeout s = .next t ∧ t.link.maskWait = none ∧
        (∀ w ∈ s.link.maskWait, ∀ n, n < 32 → s.joined n = true → ((s.presentOf w.1).testBit n = true ↔ t.miss n = 0)) ∧
        ((∀ n, n < 32 → s.joined n = false) → Only [.link, .saf] [] s t)
    else exec .presentMaskTimeout s = .next s) ∧
  -- a SHADOW joins its path to the coils that the partner energises
  (∀ s : State,
    (s.pair.role ≠ .shadow → exec .shadowPathJoin s = .next s) ∧
    (s.pair.role = .shadow →
      ∃ t, exec .shadowPathJoin s = .next t ∧ (∀ k, k < 6 → t.pathOn k = (s.pathOn k || (s.bit Reg.SAF_K_REQ k && joins s k))) ∧
        (t.fld Reg.HPM_HPM_STAT 9 3 = if s.fld Reg.HPM_HPM_STAT 9 3 = 3 ∧ ((List.range 6).all fun k => t.pathOn k == s.bit Reg.SAF_K_REQ k) = true then 4
          else s.fld Reg.HPM_HPM_STAT 9 3) ∧
        OnlyPages [.saf, .pair] [0x1B, 0x1F] s t)) ∧
  -- the planned handover
  (∀ s : State,
    if (!s.inControl || !s.pair.handWant || s.pair.offer.isSome) = true then exec .handoverOffer s = .next s
    else if s.partnerFit = true then
      ∃ t, exec .handoverOffer s = .next t ∧ t.pair.offer = some s.tim.odo ∧ t.pair.handWant = false ∧
        (s.cswUp = true → t.pair.ctlSent.handover = true ∧ t.pair.hbSent.handover = true ∧
          t.reg Reg.CSW_TX_FRAMES = s.reg Reg.CSW_TX_FRAMES + 2) ∧ Only [.pair] [Reg.CSW_TX_FRAMES] s t
    else
      ∃ t, exec .handoverOffer s = .next t ∧ t.pair.handWant = false ∧ t.pair.offer = none ∧
        (if s.pair.leaving = true then t.hpm 7 = true ∧ 10 ∈ t.pair.blocked ∧ (s.hpm 7 = false → evt t 0x1F 5 = true) ∧
          OnlyEvents [.pair] [Reg.HPM_HPM_STAT] [0x1F] s t else Only [.pair] [] s t)) ∧
  (∀ s : State,
    if (s.inControl && s.pair.offer.any fun t0 => decide (msT 1 ≤ s.since t0)) = true then
      ∃ t, exec .handoverFail s = .next t ∧ t.pair.offer = none ∧ t.pair.handWant = s.upd.waiting ∧ t.pair.role = s.pair.role ∧ evt t 0x1C 6 = true ∧
        (if s.pair.leaving = true then t.hpm 7 = true ∧ 10 ∈ t.pair.blocked ∧ OnlyEvents [.pair] [Reg.HPM_HPM_STAT] [0x1C, 0x1F] s t
        else OnlyEvents [.pair] [] [0x1C] s t)
    else exec .handoverFail s = .next s) ∧
  -- the return of control to slot A, after REVERT_HOLD or at REVERT_NOW, at a quiet sweep
  (∀ s : State, exec .revert s = .next (if (s.pair.slotB && s.inControl && s.revertReady && s.quietSweep && s.partnerAlive && s.pair.hb.score == 100
      && s.pair.hb.role == 3) = true then { s with pair := { s.pair with handWant := true, revertNow := false } } else s)) ∧
  (∀ s : State, (s.revertReady = true ↔ (s.pair.revertNow = true ∨
      s.pair.revertAt.any (fun t0 => s.rd Reg.RED_REVERT_HOLD != 0 && decide (secT (s.rd Reg.RED_REVERT_HOLD) ≤ s.since t0)) = true)) ∧
    (s.quietSweep = true → s.est.dither = none ∧ s.ctl.dwelling = false ∧ s.pair.stop = none ∧ s.frm.state ≠ 1 ∧ s.saf.sources = 0 ∧
      s.saf.latched = false ∧ s.link.chMaskPend = none ∧
      s.ctl.staged.all (fun e => decide ((2 * s.gau.swpDiv * 2 ^ 32 : Int) < sdiff 64 (s.stagedTarget e.handle) s.gridPos.toNat)) = true)) ∧
  (∀ (mid : Mid) (s : State), Passes s mid Reg.RED_RED_CMD true →
    if (s.pair.slotB && s.inControl && s.partnerAlive && s.pair.hb.score == 100) = true then
      exec (.revertNow mid) s = .next { s with pair := { s.pair with revertNow := true } }
    else RefusedBy (exec (.revertNow mid) s) s 0x1C ErrCode.state.code)

/-- A module in control meets the release of its latch, and one out of control the partner's hold of the channels (R243). -/
abbrev Leaves (s t : State) : Prop :=
  if s.inControl = true then
    t.pair.role = s.pair.role ∧ t.pair.leftAt = s.pair.leftAt ∧
      (if s.mayLeave = true then t.pair.handWant = true ∧ t.hpm 7 = false ∧ t.pair.blocked = s.pair.blocked.erase 10
      else 10 ∈ t.pair.blocked ∧ t.hpm 7 = true ∧ evt t 0x1F 5 = true ∧ (s.pair.blocked.contains 10 = false → evt t 0x1C 7 = true))
  else if s.pair.leftAt.isSome then t.pair.leftAt = s.pair.leftAt
  else if (s.partnerAlive && (s.pair.hb.role == 1 || s.pair.hb.role == 2) && s.partnerHoldsAll) = true then
    t.pair.leftAt = some s.tim.odo ∧ t.pair.claim = false ∧ t.ctl.lineOn = false ∧ PathsOpen t ∧ CoilsNoted s t ∧ t.hpm 7 = false
  else t.pair.leftAt = none ∧ t.hpm 7 = true ∧ evt t 0x1F 5 = true

/-- PARTNER_PRESENT_CHANGE, SEATED_CLOSE, SEATED_OPEN, LATCH_OPEN, LATCH_CLOSE, REMOVE_OK, SUPPLY_LOSS, SUPPLY_RETURN, HOLDUP_END, HOLDUP_READY,
PWR_GOOD_CHANGE, and the front LEDs (R211, R236, R238, R241, R243 to R245, R325, R346, R366, R367, R371, R373, R374). The model's choices it rests on:
log entries 4, 86, 87, 122. -/
def Obligations.HotPlugAndSupplies : Prop :=
  (∀ (p : Bool) (s : State),
    if s.pair.present = p then exec (.partnerPresentChange p) s = .next s
    else
      ∃ t, exec (.partnerPresentChange p) s = .next t ∧ t.pair.present = p ∧ t.hpm 5 = p ∧ evt t 0x1F (if p then 6 else 7) = true ∧
        t.pair.revertAt = none ∧ t.pair.revertNow = false ∧ CoilsNoted s t ∧
        t.pair.role = (if p = false ∧ s.pair.role = .active then .solo else s.pair.role) ∧
        OnlyPages [.pair, .saf, .ctl, .recd, .free] [0x1B, 0x1C, 0x1F] s t) ∧
  -- SEATED closes: insertion is counted, and a module in OFF with a good supply enters BOOT
  (∀ s : State,
    if s.hpm 0 = true then exec .seatedClose s = .next s
    else
      ∃ t, exec .seatedClose s = .next t ∧ t.hpm 0 = true ∧ t.pair.unseated = false ∧ t.nv = { s.nv with insertions := s.nv.insertions + 1 } ∧
        evt t 0x1F 0 = true ∧
        (if s.pair.mode ≠ .off then t.pair = { s.pair with unseated := false } ∧ t.upd = s.upd ∧ t.fld Reg.HPM_HPM_STAT 9 3 = s.fld Reg.HPM_HPM_STAT 9 3
        else if (s.hpm 2 || s.hpm 3) = true then
          t.pair.mode = .boot ∧ t.pair.unpowered = false ∧ t.upd = { s.upd with boot := .rom, romAt := none } ∧ t.fld Reg.HPM_HPM_STAT 9 3 = 2
        else t.pair.mode = .off ∧ t.upd = s.upd ∧ t.fld Reg.HPM_HPM_STAT 9 3 = 1) ∧
        OnlyEvents [.pair, .nv, .upd] [Reg.HPM_HPM_STAT] [0x1F] s t) ∧
  -- SEATED opens: with the removal granted nothing else happens, otherwise control is given up at once
  (∀ s : State,
    if s.hpm 0 = false then exec .seatedOpen s = .next s
    else if s.hpm 6 = true then
      ∃ t, exec .seatedOpen s = .next t ∧ t.hpm 0 = false ∧ t.fld Reg.HPM_HPM_STAT 9 3 = 6 ∧ evt t 0x1F 1 = true ∧
        OnlyEvents [] [Reg.HPM_HPM_STAT] [0x1F] s t
    else
      ∃ t, exec .seatedOpen s = .next t ∧ t.hpm 0 = false ∧ evt t 0x1F 1 = true ∧ t.pair.unseated = true ∧
        (s.inControl = true → Shadows s t ∧ t.reg Reg.RED_RESIGNS = s.reg Reg.RED_RESIGNS + 1) ∧
        (s.inControl = false → t.pair.role = s.pair.role ∧ t.reg Reg.RED_RESIGNS = s.reg Reg.RED_RESIGNS) ∧
        (∀ k, k < 6 → s.partnerHolds k = true → PathOpen t k) ∧ (∀ k, k < 6 → s.partnerHolds k = false → t.pathOn k = s.pathOn k) ∧
        OnlyPages [.pair, .link, .ctl, .saf, .recd, .free] [0x10, 0x11, 0x1B, 0x1C, 0x1F] s t) ∧
  -- the latch: leaving begins, and ends with its closing before REMOVE_OK
  (∀ s : State,
    if s.hpm 1 = false then exec .latchOpen s = .next s
    else
      ∃ t, exec .latchOpen s = .next t ∧ t.hpm 1 = false ∧ t.hpm 6 = false ∧ t.pair.leaving = true ∧ t.pair.leaveAt = s.tim.odo ∧
        t.fld Reg.HPM_HPM_STAT 9 3 = 5 ∧ evt t 0x1F 2 = true ∧ BeatSent s t ∧ (s.cswUp = true → t.pair.hbSent.leaving = true) ∧ Leaves s t ∧
        OnlyPages [.pair, .saf, .ctl, .recd, .free] [0x10, 0x11, 0x1B, 0x1C, 0x1F] s t) ∧
  (∀ s : State,
    if s.hpm 1 = true then exec .latchClose s = .next s
    else if s.pair.leaving = true ∧ s.hpm 6 = false then
      ∃ t, exec .latchClose s = .next t ∧ t.hpm 1 = true ∧ t.pair.leaving = false ∧ t.pair.leftAt = none ∧ t.pair.handWant = false ∧
        t.pair.blocked = s.pair.blocked.erase 10 ∧ t.ctl = { s.ctl with lineOn := s.bit Reg.CVL_CVL_CFG 0 } ∧ t.hpm 7 = false ∧
        t.fld Reg.HPM_HPM_STAT 9 3 = 4 ∧ evt t 0x1F 3 = true ∧ BeatSent s t ∧ OnlyPages [.pair, .ctl, .recd, .free] [0x1B, 0x1F] s t
    else ∃ t, exec .latchClose s = .next t ∧ t.hpm 1 = true ∧ evt t 0x1F 3 = true ∧ OnlyEvents [] [Reg.HPM_HPM_STAT] [0x1F] s t) ∧
  (∀ (closed : Nat) (s : State),
    if (!s.pair.leaving || s.pair.leftAt.isNone || s.hpm 6) = true then exec (.removeOk closed) s = .next s
    else if ((List.range 6).all fun k => !s.bit Reg.SAF_K_REQ k || closed.testBit k) = true then
      ∃ t, exec (.removeOk closed) s = .next t ∧ t.hpm 6 = true ∧ evt t 0x1F 4 = true ∧
        t.reg Reg.HPM_LEAVE_TIME = w32 (s.since s.pair.leaveAt / msT 1) ∧ OnlyEvents [] [Reg.HPM_HPM_STAT, Reg.HPM_LEAVE_TIME] [0x1F] s t
    else
      ∃ t, exec (.removeOk closed) s = .next t ∧ t.hpm 6 = false ∧ t.hpm 7 = true ∧ (s.hpm 7 = false → evt t 0x1F 5 = true) ∧
        OnlyEvents [] [Reg.HPM_HPM_STAT] [0x1F] s t) ∧
  -- both supplies are lost, and one returns or hold-up ends
  (∀ s : State,
    if (s.pair.unpowered || s.pair.lossAt.isSome) = true then exec .supplyLoss s = .next s
    else
      ∃ t, exec .supplyLoss s = .next t ∧ t.pair = { s.pair with lossAt := some s.tim.odo } ∧ t.hpm 2 = false ∧ t.hpm 3 = false ∧
        evt t 0x1F 8 = true ∧ evt t 0x00 2 = true ∧ t.fld Reg.CLK_DVFS_STAT 0 2 = 3 ∧ t.bit Reg.CLK_DVFS_STAT 4 = false ∧
        t.clock = { s.clock with goal := none, confirmed := false, held := none } ∧
        OnlyPages [.pair, .clock, .recd, .free, .nv] [0x00, 0x01, 0x1A, 0x1F] s t) ∧
  (∀ s : State,
    if s.pair.lossAt = none then exec .supplyReturn s = .next s ∧ exec .holdupEnd s = .next s
    else
      (∃ t, exec .supplyReturn s = .next t ∧ t.pair = { s.pair with lossAt := none } ∧ (t.hpm 2 || t.hpm 3) = true ∧ evt t 0x1F 8 = false ∧
        evt t 0x00 2 = false ∧ Only [.pair, .free] [Reg.HPM_HPM_STAT, State.evtAddr 0x1F, State.evtAddr 0x00] s t) ∧
      (if (s.pair.lossAt.any fun t0 => decide (s.since t0 < msT 20)) = true then exec .holdupEnd s = .next s
      else
        ∃ t, exec .holdupEnd s = .next t ∧ t.pair.mode = .off ∧ t.pair.role = .none ∧ t.pair.unpowered = true ∧ t.pair.claim = false ∧
          t.pair.stop = none ∧ t.pair.startWait = none ∧ t.ctl.lineOn = false ∧ t.ctl.state = 0 ∧ PathsOpen t ∧
          OnlyPages [.pair, .ctl, .saf, .recd, .free] [0x10, 0x11, 0x1B] s t)) ∧
  (∀ (mv : Nat) (s : State),
    ∃ t, exec (.holdupReady mv) s = .next t ∧ t.reg Reg.HPM_HOLDUP_V = w32 mv ∧ (43000 ≤ mv → t.hpm 4 = true) ∧ (mv < 42000 → t.hpm 4 = false) ∧
      (42000 ≤ mv → mv < 43000 → t.hpm 4 = s.hpm 4) ∧ (∀ i, i ≠ 4 → i < 32 → t.hpm i = s.hpm i) ∧ Only [] [Reg.HPM_HOLDUP_V, Reg.HPM_HPM_STAT] s t) ∧
  (∀ (b good : Bool) (s : State),
    ∃ t, exec (.pwrGoodChange b good) s = .next t ∧ t.hpm (if b then 3 else 2) = good ∧
      (∀ i, i ≠ (if b then 3 else 2) → i < 32 → t.hpm i = s.hpm i) ∧ Only [] [Reg.HPM_HPM_STAT] s t) ∧
  -- the front LEDs (R243, R245)
  (∀ s : State,
    (s.pair.unpowered = true → s.ledRun = .off ∧ s.ledRole = .off ∧ s.ledFault = .off ∧ s.ledRemove = .off) ∧
    (s.pair.unpowered = false → s.bit Reg.HPM_HPM_CFG 0 = true → s.ledRun = .on ∧ s.ledRole = .on ∧ s.ledFault = .on ∧ s.ledRemove = .on) ∧
    (s.pair.unpowered = false → s.bit Reg.HPM_HPM_CFG 0 = false →
      (s.ledRole = if s.inControl then .on else if s.pair.role = .shadow then .blink else .off) ∧
      (s.ledRemove = if s.hpm 6 then .on else if s.pair.leaving = true ∧ s.hpm 7 = false then .blink else .off) ∧
      (s.hpm 8 = true → s.ledRun = .blink) ∧ (s.pair.mode = .boot ∧ s.hpm 8 = false ∧ s.upd.romAt = none → s.ledRun = .off) ∧
      (s.hpm 8 = false → s.pair.mode ∈ [Mode.ready, .commission, .operate, .formation, .service] → s.ledRun = .on) ∧
      (s.pair.mode = .safeHold → s.ledFault = .on) ∧
      (s.pair.mode ≠ .safeHold → s.pair.mode ≠ .boot → s.fld Reg.RED_SCORE 0 8 < 100 → s.ledFault = .blink) ∧
      (s.pair.mode ≠ .safeHold → s.pair.mode ≠ .boot → s.fld Reg.RED_SCORE 0 8 = 100 → s.saf.latched = false → s.ledFault = .off)))

/-- What holds of a module in the pair in every state a run reaches: OFF and BOOT take no role and wait for none (R226), RESIGN_OUT is low only in
control (R227), and a stop sequence ends in READY or SERVICE (R225). -/
def RolesSound (s : State) : Prop :=
  (s.pair.mode = .off ∨ s.pair.mode = .boot → s.pair.role = .none ∧ s.pair.startWait = none) ∧
    (s.pair.claim = true → s.pair.role = .active ∨ s.pair.role = .solo) ∧
    (∀ q, s.pair.stop = some q → q.target = .ready ∨ q.target = .service)

/-- Every step keeps what holds of the roles, the claim and the stop sequence (R225 to R227). The model's choices it rests on: log entries 43. -/
def Obligations.RolesStaySound : Prop :=
  (∀ s t : State, RolesSound s → step s = .next t → RolesSound t) ∧ RolesSound State.reset

/-- The masters that RST_CMD takes MODULE, CORE_n and most BLOCK resets from (R342): MID 0x01 to 0x04 and 0x08. -/
def ResetMaster (mid : Mid) : Prop := (∃ i, mid = .own (.core i)) ∨ mid = .own .safety

/-- RST_KEY has been written within the preceding 1 µs by the same MID (R342). -/
def KeyFresh (s : State) (mid : Mid) : Prop := ∃ t0, s.rst.key.find? mid.code = some t0 ∧ s.since t0 ≤ usT 1

/-- The pages that only the safety core resets (R342). -/
def safetyPages : List Nat := [0x03, 0x05, 0x13, 0x14]

/-- A reset command is ignored, with a code in the error register of page 2 (R342). -/
def ResetDenied (mid : Mid) (s : State) (o : Out) (e : ErrCode) : Prop :=
  ∃ t, o = .next t ∧ t.reg (errAddr 0x02) = w32 (e.code + Reg.RST_RST_CMD % 0x1000 * 2 ^ 8 + mid.code * 2 ^ 24) ∧ Only [] [errAddr 0x02] s t

/-- MODULE_RESET, APP_RESET, CORE_RESET, LINK_RESET, BLOCK_RESET, RST_KEY: who may reset what (R342). -/
def Obligations.ResetsAreGuarded : Prop :=
  ∀ (mid : Mid) (s : State), Passes s mid Reg.RST_RST_CMD true →
    -- from another master the command is ignored, with MID_DENY
    (¬ ResetMaster mid → ∀ rom sw, ResetDenied mid s (exec (.moduleReset (.cmd mid) rom sw) s) .midDeny) ∧
    (mid ≠ .own .safety → ResetDenied mid s (exec (.appReset mid) s) .midDeny) ∧
    (¬ ResetMaster mid → ∀ n, ResetDenied mid s (exec (.coreReset mid n) s) .midDeny) ∧
    (mid ≠ .own .safety → ResetDenied mid s (exec (.linkReset mid) s) .midDeny) ∧
    (∀ p : Fin 64, (¬ ResetMaster mid ∨ (p.val ∈ safetyPages ∧ mid ≠ .own .safety)) → ResetDenied mid s (exec (.blockReset mid p) s) .midDeny) ∧
    -- MODULE and APP without the key give KEY
    (ResetMaster mid → ¬ KeyFresh s mid → ∀ rom sw, ResetDenied mid s (exec (.moduleReset (.cmd mid) rom sw) s) .key) ∧
    (mid = .own .safety → ¬ KeyFresh s mid → ResetDenied mid s (exec (.appReset mid) s) .key) ∧
    -- RST_KEY takes 0x0000_A5C3, and no other value, from the MID that writes it
    (∃ t, exec (.rstKey mid 0x0000A5C3#32) s = .next t ∧ t.rst.key.find? mid.code = some s.tim.odo ∧
      (∀ m, m ≠ mid.code → t.rst.key.find? m = s.rst.key.find? m) ∧ Only [.rst] [] s t) ∧
    (∀ v, v ≠ 0x0000A5C3#32 → exec (.rstKey mid v) s = .next s) ∧
    -- a value that names no reset gives CMD_BAD
    (∀ v, v < 2 ^ 32 → v % 16 = 0 ∨ 5 < v % 16 → ResetDenied mid s (exec (.registerWrite mid (registerBase + Reg.RST_RST_CMD) ⟨4, .write⟩ v) s) .cmdBad) ∧
    -- otherwise the reset is made, and counted
    (ResetMaster mid → KeyFresh s mid → ∀ rom sw, ∃ t, exec (.moduleReset (.cmd mid) rom sw) s = .next t ∧
      t.reg Reg.RST_RST_COUNT = s.reg Reg.RST_RST_COUNT + 1 ∧ t.bit Reg.RST_RST_CAUSE 2 = true ∧ t.pair.mode = .boot ∧ (∀ k, (t.ch k).kh = false)) ∧
    (mid = .own .safety → KeyFresh s mid → ∃ t, exec (.appReset mid) s = .next t ∧
      t.reg Reg.RST_RST_COUNT = s.reg Reg.RST_RST_COUNT + 1 ∧ t.bit Reg.RST_RST_CAUSE 5 = true ∧ evt t 0x02 0 = true) ∧
    (ResetMaster mid → ∀ n, ∃ t, exec (.coreReset mid n) s = .next t ∧
      t.reg Reg.RST_RST_COUNT = s.reg Reg.RST_RST_COUNT + 1 ∧ t.bit Reg.RST_RST_CAUSE (6 + n.val) = true ∧ evt t 0x02 0 = true ∧
      t.bit Reg.RST_RST_HOLD n.val = !(s.pageLocked 0x03 && s.pageLocked 0x05)) ∧
    (mid = .own .safety → ∃ t, exec (.linkReset mid) s = .next t ∧
      t.reg Reg.RST_RST_COUNT = s.reg Reg.RST_RST_COUNT + 1 ∧ t.bit Reg.RST_RST_CAUSE 14 = true ∧ evt t 0x02 1 = true) ∧
    (ResetMaster mid → ∀ p : Fin 64, p.val ≤ 0x20 → (p.val ∈ safetyPages → mid = .own .safety) → ∃ t, exec (.blockReset mid p) s = .next t ∧
      t.reg Reg.RST_RST_COUNT = s.reg Reg.RST_RST_COUNT + 1 ∧ t.bit Reg.RST_RST_CAUSE 16 = true ∧ evt t 0x02 2 = true)

/-- The trial of an image in journal state 2 goes on with a boot; else the third failure has come (R357). -/
abbrev trialGoesOn (s : State) : Bool := decide (s.nv.journal.count < 2) && s.nv.running.any fun b => s.imgStep2 b && s.imgStep3 b

/-- What the resident loader does (R351, R356, R357, R359): an overwrite under way goes on; a trial boot counts and boots, or recovers at the third
failure; else the running image, the staged one, the partner's, or none. -/
abbrev loaderPhase (s : State) : BootPhase :=
  if s.nv.journal.state = 1 then .overwriting
  else if s.nv.journal.state = 2 then (if trialGoesOn s then .loading else .recovering)
  else if s.nv.running.any s.imgStep2 then .loading
  else if s.nv.staged.any s.imgStep2 then .overwriting
  else if s.hpm 5 then .recovering else .install

/-- The resident loader has run: its phase, BOOT_FAIL, the journal, and the time of the boot. -/
abbrev LoaderRan (s t : State) : Prop :=
  t.upd.boot = loaderPhase s ∧ (loaderPhase s = .loading → t.upd.bootAt = t.tim.odo) ∧ (loaderPhase s = .recovering → t.upd.reqAt = none) ∧
    (s.nv.journal.state ≠ 1 → s.nv.journal.state ≠ 2 →
      (loaderPhase s = .loading → t.hpm 8 = !s.nv.running.any s.imgStep3) ∧ (loaderPhase s = .install → t.hpm 8 = true) ∧
        (loaderPhase s = .overwriting → t.nv.journal = { state := 1, sector := 0, version := (s.nv.staged.map fun b => leAt b 12 4).getD 0, count := 0 })) ∧
    (s.nv.journal.state = 2 → t.nv.journal = { s.nv.journal with count := if trialGoesOn s then s.nv.journal.count + 1 else max 3 (s.nv.journal.count + 1) }) ∧
    (s.nv.journal.state = 1 → t.nv.journal = s.nv.journal)

/-- POWER_RESET, MODULE_RESET, APP_RESET, CORE_RESET, LINK_RESET, BLOCK_RESET, WDT_EXPIRE, ECC_UE, BOOT_ROM_RETRY, TRIAL_BOOT_TIMEOUT: what each covers
(R6, R19, R23, R210, R233, R249, R258, R265, R267, R311, R341, R343, R344, R347, R351, R356, R357, R359). The model's choices it rests on: log entries
89, 90, 91, 96, 127. -/
def Obligations.WhatResetsCover : Prop :=
  -- POWER: the whole module, the odometer included; nonvolatile content is kept
  (∀ (brown rom : Bool) (sw : Nat) (s : State),
    ∃ t, exec (.powerReset brown rom sw) s = .next t ∧ t.tim.odo = 0 ∧ (∀ n, t.clk n = 0) ∧ (∀ a, t.readByte a = memDefault) ∧
      t.rd Reg.RST_RST_CAUSE = 1 + 2 * b2n brown ∧ t.rd Reg.RST_RST_COUNT = 0 ∧ t.pair.mode = .boot ∧ t.pair.role = .none ∧
      t.pair.unpowered = false ∧ t.saf.latched = false ∧ PathsOpen t ∧ t.nv.keys = s.nv.keys ∧
      t.nv.pset = s.nv.pset ∧ t.nv.weld = s.nv.weld ∧ t.nv.proofs = s.nv.proofs ∧ t.nv.minSvn = s.nv.minSvn ∧
      t.nv.txCtrHi = (s.nv.txCtrHi + 1) % 2 ^ 32 ∧ t.pending = s.pending ∧
      (if sw = 0 then t.rd Reg.SAF_SW_FAULT = 0 else t.rd Reg.SAF_SW_FAULT = (s.rd Reg.SAF_SW_FAULT ||| (sw &&& 0x3F3F)) ∧ evt t 0x13 4 = true) ∧
      (if rom then LoaderRan s t else t.upd.boot = .rom ∧ t.upd.romAt = some 0)) ∧
  -- MODULE: everything but the odometer, the instances' times and the guardrail
  (∀ (src : ModuleSrc) (rom : Bool) (sw : Nat) (s : State), (src = .debug ∧ s.pair.unpowered = false) ∨
      (src = .loader ∧ s.upd.boot = .overwriting ∧ s.pair.mode ≠ .boot ∧ s.pair.unpowered = false) →
    ∃ t, exec (.moduleReset src rom sw) s = .next t ∧ t.tim = { odo := s.tim.odo, clk := s.tim.clk } ∧ (∀ a, t.readByte a = s.readByte a) ∧
      t.saf.latched = false ∧ t.saf.gLatch = s.saf.gLatch ∧ t.pair.role = .none ∧ t.pair.mode = .boot ∧
      t.bit Reg.RST_RST_CAUSE (if src = .debug then 4 else 3) = true ∧ t.reg Reg.RST_RST_COUNT = s.reg Reg.RST_RST_COUNT + 1 ∧ PathsOpen t ∧
      t.ctl = {} ∧ t.frm = {} ∧ t.link = {} ∧ t.swp = {} ∧ t.sns = {} ∧ t.mbx = {} ∧ t.can0 = {} ∧ t.can1 = {} ∧ t.filters = [] ∧ t.eth = {} ∧
      t.dsp = {} ∧ t.gens = [] ∧ t.dmaErr = 0 ∧ t.nv.keys = s.nv.keys ∧ t.nv.weld = s.nv.weld ∧ (∀ a, a / 0x1000 = 0x14 → t.reg a = s.reg a) ∧
      (∀ a, a / 0x1000 ∉ [0x02, 0x13, 0x14, 0x1F] → t.reg a = regReset a) ∧
      (∀ a, a / 0x1000 = 0x1F → a ≠ Reg.HPM_HPM_STAT → t.reg a = regReset a) ∧
      (if rom then LoaderRan s t else t.upd.boot = .rom ∧ t.upd.romAt = some s.tim.odo)) ∧
  (∀ (rom : Bool) (sw : Nat) (s : State),
    (s.upd.boot ≠ .overwriting ∨ s.pair.mode = .boot ∨ s.pair.unpowered = true → exec (.moduleReset .loader rom sw) s = .next s) ∧
    (s.pair.unpowered = true → exec (.moduleReset .debug rom sw) s = .next s)) ∧
  -- APP and CORE_n: the cores and DMA channels are held until both tables are locked, and are no longer frozen or stopped
  (∀ (s : State), Passes s (.own .safety) Reg.RST_RST_CMD true → KeyFresh s (.own .safety) →
    ∃ t, exec (.appReset (.own .safety)) s = .next t ∧
      t.rd Reg.RST_RST_HOLD = (if s.pageLocked 0x03 && s.pageLocked 0x05 then 0 else 0x1F) ∧ t.dmaErr % 2 ^ 16 = 0 ∧
      (∀ k, k < 4 → t.bit Reg.FWL_FROZEN k = false ∧ t.bit (Reg.RST_WDT_CFG k) 31 = false) ∧
      (∀ k, 8 ≤ k → k < 24 → t.bit Reg.FWL_FROZEN k = false) ∧ OnlyPages [.mbx, .rst, .dmaErr, .recd, .free] [0x02, 0x03, 0x04, 0x05] s t) ∧
  (∀ (mid : Mid) (n : Fin 4) (s : State), Passes s mid Reg.RST_RST_CMD true → ResetMaster mid →
    ∃ t, exec (.coreReset mid n) s = .next t ∧ t.bit Reg.FWL_FROZEN n.val = false ∧ t.bit (Reg.RST_WDT_CFG n.val) 31 = false ∧
      t.bit Reg.RST_RST_HOLD n.val = !(s.pageLocked 0x03 && s.pageLocked 0x05) ∧
      OnlyPages [.mbx, .rst, .recd, .free] [0x02, 0x03, 0x04, 0x05] s t) ∧
  -- LINK: the link core and NOD
  (∀ s : State, Passes s (.own .safety) Reg.RST_RST_CMD true →
    ∃ t, exec (.linkReset (.own .safety)) s = .next t ∧ (∀ a, a / 0x1000 = 0x0A → t.reg a = regReset a) ∧ t.link.plan = none ∧
      t.link.nodes = [] ∧ t.link.sf = none ∧ t.bit Reg.FWL_FROZEN 5 = false ∧ t.bit (Reg.RST_WDT_CFG 4) 31 = false ∧
      OnlyPages [.mbx, .rst, .link, .snaps, .recd, .free] [0x02, 0x03, 0x04, 0x05, 0x0A] s t) ∧
  -- BLOCK: the registers of the page are at their Reset column, but for those a rule names another reset for, and so are the objects of the block
  (∀ (p : Fin 64) (s : State), Passes s (.own .safety) Reg.RST_RST_CMD true → p.val ≤ 0x20 →
    ∃ t, exec (.blockReset (.own .safety) p) s = .next t ∧
      (∀ a, a / 0x1000 = p.val → a ∉ keptByBlock p.val → p.val ≠ 0x02 → t.reg a = regReset a) ∧
      (∀ a ∈ keptByBlock p.val, p.val ≠ 0x02 → t.reg a = s.reg a) ∧
      (p.val = 0x02 → t.reg Reg.RST_RST_HOLD = s.reg Reg.RST_RST_HOLD ∧ ∀ n, n < 5 →
        t.bit (Reg.RST_WDT_CFG n) 31 = s.bit (Reg.RST_WDT_CFG n) 31 ∧ t.fld (Reg.RST_WDT_CFG n) 0 16 = (regReset (Reg.RST_WDT_CFG n)).toNat % 2 ^ 16) ∧
      (p.val = 0x0A → t.link.plan = none ∧ t.link.nodes = []) ∧ (p.val = 0x0B → t.swp = {}) ∧ (p.val = 0x0C → t.sns = {}) ∧
      (p.val = 0x10 → t.ctl.state = 0 ∧ t.ctl.staged = [] ∧ t.ctl.applied = false) ∧ (p.val = 0x11 → t.ctl.lineOn = false ∧ t.ctl.frame = {}) ∧
      (p.val = 0x12 → t.frm = {}) ∧ (p.val = 0x13 → PathsOpen t) ∧ (p.val = 0x15 → t.can0 = {}) ∧ (p.val = 0x16 → t.can1 = {}) ∧
      (p.val = 0x17 → t.eth = {}) ∧ (p.val = 0x19 → t.dsp.staged = []) ∧ (p.val = 0x1B → t.pair.lane0 = 0 ∧ t.pair.lane1 = 0) ∧
      Part.mem.same s t ∧ (p.val ≠ 0x1A → p.val ≠ 0x19 → t.nv = s.nv) ∧ t.nv.keys = s.nv.keys ∧ t.pending = s.pending ∧
      t.tim.odo = s.tim.odo ∧ t.tim.clk = s.tim.clk ∧ t.pair.role = s.pair.role ∧ t.pair.mode = s.pair.mode ∧ t.saf.latched = s.saf.latched ∧
      (p.val ∉ [0x02, 0x13, 0x14, 0x19, 0x1A, 0x1B, 0x1F] → ∀ a, a / 0x1000 ∉ [p.val, 0x02] → t.reg a = s.reg a)) ∧
  -- a page that is not implemented is refused, with RANGE (the model's choice, log entry 127)
  (∀ (mid : Mid) (p : Fin 64) (s : State), Passes s mid Reg.RST_RST_CMD true → ResetMaster mid → 0x20 < p.val →
    ResetDenied mid s (exec (.blockReset mid p) s) .range) ∧
  -- a watchdog
  (∀ (n : Fin 5) (s : State),
    if (s.bit (Reg.RST_WDT_CFG n.val) 31 && (s.rst.wdt.find? n.val).any fun t0 => decide (msT (s.fld (Reg.RST_WDT_CFG n.val) 0 16) ≤ s.since t0)) = true then
      ∃ t, exec (.wdtExpire n) s = .next t ∧ t.bit Reg.RST_RST_CAUSE (if n.val < 4 then 10 + n.val else 15) = true ∧
        t.bit (Reg.RST_WDT_CFG n.val) 31 = false ∧ evt t 0x02 3 = true ∧ evt t 0x02 (if n.val < 4 then 0 else 1) = true ∧
        t.reg Reg.RST_RST_COUNT = s.reg Reg.RST_RST_COUNT + 1 ∧ t.bit Reg.FWL_FROZEN (if n.val < 4 then n.val else 5) = false ∧
        (n.val = 4 → t.link.plan = none) ∧ (n.val < 4 → t.link = s.link ∧ t.bit Reg.RST_RST_HOLD n.val = !(s.pageLocked 0x03 && s.pageLocked 0x05)) ∧
        OnlyPages [.mbx, .rst, .link, .snaps, .recd, .free] [0x02, 0x03, 0x04, 0x05, 0x0A] s t
    else exec (.wdtExpire n) s = .next s) ∧
  -- a correctable ECC error is counted
  (∀ (addr : Nat) (sram : Bool) (reader : Mid) (s : State),
    ∃ t, exec (.eccUe addr ⟨sram, reader, true⟩) s = .next t ∧ t.reg Reg.SYS_ECC_CE = s.reg Reg.SYS_ECC_CE + 1 ∧ evt t 0x00 0 = true ∧
      OnlyEvents [] [Reg.SYS_ECC_CE] [0x00] s t) ∧
  -- an uncorrectable one: a bus error for the reader, and in an ACTIVE module resignation cause 7
  (∀ (addr : Nat) (sram : Bool) (reader : Mid) (s : State),
    ∃ t, exec (.eccUe addr ⟨sram, reader, false⟩) s = .next t ∧ t.busErr = some reader.code ∧ t.reg Reg.SYS_ECC_UE = s.reg Reg.SYS_ECC_UE + 1 ∧
      t.reg Reg.SYS_ECC_UE_ADDR_LO = w32 addr ∧ t.rd Reg.SYS_ECC_UE_ADDR_HI = addr / 2 ^ 32 % 2 ^ 8 + 2 ^ 8 * b2n sram ∧
      t.pair.eccAt = some s.tim.odo ∧ evt t 0x00 1 = true ∧ Resigns 7 s t ∧
      (s.pair.role ≠ .active → OnlyEvents [.pair, .busErr] [Reg.SYS_ECC_UE, Reg.SYS_ECC_UE_ADDR_LO, Reg.SYS_ECC_UE_ADDR_HI] [0x00] s t) ∧
      OnlyPages [.pair, .busErr, .link, .ctl, .saf, .recd, .free] [0x00, 0x1B, 0x1C] s t) ∧
  -- the boot ROM checks the loader, again after 10 s, and the loader begins with the journal
  (∀ (pass : Bool) (s : State),
    if s.pair.mode = .boot ∧ s.upd.boot = .rom ∧ s.upd.romAt.all (fun t0 => decide (secT 10 ≤ s.since t0)) = true then
      ∃ t, exec (.bootRomRetry pass) s = .next t ∧
        (if pass then LoaderRan s t ∧ t.upd.romAt = none ∧ Only [.upd, .nv] [Reg.HPM_HPM_STAT] s t
        else t.upd = { s.upd with boot := .rom, romAt := some s.tim.odo } ∧ Only [.upd] [] s t)
    else exec (.bootRomRetry pass) s = .next s) ∧
  -- a trial boot that does not come to READY within 60 s has failed
  (∀ s : State,
    if s.pair.mode = .boot ∧ s.upd.boot = .loading ∧ s.nv.journal.state = 2 ∧ secT 60 ≤ s.since s.upd.bootAt then
      ∃ t, exec .trialBootTimeout s = .next t ∧ LoaderRan s t ∧ Only [.upd, .nv] [Reg.HPM_HPM_STAT] s t
    else exec .trialBootTimeout s = .next s)

/-- The input of a command of the security unit and the place of its `out` bytes of output can be reached (R262, R263, R348). -/
abbrev secReached (s : State) (input : Bool) (out : Nat) : Bool :=
  (!input || s.secReach (s.rd Reg.SEC_SEC_ADDR) (s.rd Reg.SEC_SEC_LEN) false) && s.secReach (s.rd Reg.SEC_SEC_OUT) out true

/-- A command of the security unit: refused with STATE while one is under way and with FWL_DENY where memory is not reached; else `j` is its job
where `ok` holds, and `e` its error where not. -/
abbrev SecCommand (o : Out) (s : State) (reached ok : Bool) (j : SecJob) (e : ErrCode) : Prop :=
  if s.upd.job.isSome then RefusedBy o s 0x1E ErrCode.state.code
  else if reached = false then RefusedBy o s 0x1E ErrCode.fwlDeny.code
  else if ok then ∃ t, o = .next t ∧ t.upd = { s.upd with job := some j } ∧ Only [.upd] [] s t
  else
    ∃ t, o = .next t ∧ t.rd (errAddr 0x1E) % 2 ^ 8 = e.code ∧ (e = .keyBad → evt t 0x1E 1 = true) ∧
      (if e = .keyBad then OnlyEvents [] [errAddr 0x1E] [0x1E] s t else Only [] [errAddr 0x1E] s t)

/-- A command of the security unit has put `b` at `out` (R348): SEC_OUT_LEN is its length. -/
abbrev SecOutput (out : Nat) (b : List Nat) (parts : List Part) (s t : State) : Prop :=
  t.upd = { s.upd with job := none } ∧ evt t 0x1E 0 = true ∧ t.reg Reg.SEC_SEC_OUT_LEN = w32 b.length ∧
    (s.secReach out b.length true = true →
      (∀ i x, b[i]? = some x → t.readByte (out + i) = BitVec.ofNat 8 x) ∧
      (∀ a, a < out ∨ out + b.length ≤ a → t.readByte a = s.readByte a) ∧
      OnlyEvents (.mem :: .upd :: parts) [Reg.SEC_SEC_OUT_LEN] [0x1E] s t) ∧
    (s.held (.own .loader) = true → OnlyEvents (.upd :: parts) [Reg.SEC_SEC_OUT_LEN] [0x1E] s t) ∧
    OnlyPages (.mem :: .busData :: .busHi :: .busErr :: .upd :: .recd :: .free :: parts) [0x03, 0x1E] s t

/-- SIGN, CERT_READ, KEY_INSTALL, FLEET_INSTALL, PUB_READ, SEC_DONE, SEC_RAND_READ (R6, R348, R349, R351). Signatures, certificates and keys are opaque.
The model's choices it rests on: log entries 5, 7, 56, 98. -/
def Obligations.SecurityCommands : Prop :=
  (∀ (mid : Mid) (s : State), Passes s mid Reg.SEC_SEC_CMD true →
    let slot := s.fld Reg.SEC_SEC_SLOT 0 3
    let out := s.rd Reg.SEC_SEC_OUT
    let key := if slot = 0 then some 0 else if slot = 1 ∨ 6 < slot then none else s.nv.keys.find? slot
    SecCommand (exec (.sign mid) s) s (secReached s true 96) true (.sign s.secInput out) .state ∧
    SecCommand (exec (.certRead mid) s) s (secReached s false (Config.idevidCert (s.bit Reg.SEC_SEC_SLOT 8)).length) true
      (.certRead (s.bit Reg.SEC_SEC_SLOT 8) out) .state ∧
    SecCommand (exec (.pubRead mid) s) s (secReached s false (key.elim 0 fun k => (Config.keyBytes k).length)) key.isSome (.pubRead slot out)
      (if slot = 1 ∨ 6 < slot then .range else .keyBad) ∧
    SecCommand (exec (.keyInstall mid) s) s (secReached s true 0) (decide (2 ≤ slot ∧ slot ≤ 6) && s.keyAccepted slot s.secInput)
      (.keyInstall slot s.secInput) .keyBad ∧
    SecCommand (exec (.fleetInstall mid) s) s (secReached s true 0) (s.fleetKey s.secInput).isSome (.fleetInstall s.secInput) .keyBad) ∧
  -- the input of a command
  (∀ (s : State) (i : Nat), i < s.rd Reg.SEC_SEC_LEN → s.secInput[i]? = some (s.readByte (s.rd Reg.SEC_SEC_ADDR + i)).toNat) ∧
  -- a key is installed under a chain to the owner root; the first owner root in COMMISSION
  (∀ (s : State) (slot : Nat) (cert : List Nat),
    (∀ root, s.nv.keys.find? 2 = some root → s.keyAccepted slot cert = Config.certChains root cert) ∧
    (s.nv.keys.find? 2 = none → s.keyAccepted slot cert =
      (slot == 2 && s.pair.mode == .commission && Config.certChains (Config.certKey cert) cert))) ∧
  -- the command under way completes
  (∀ s : State, s.upd.job = none → exec .secDone s = .next s) ∧
  (∀ (s : State) (digest : List Nat) (out : Nat), s.upd.job = some (.sign digest out) →
    ∃ t, exec .secDone s = .next t ∧ t.draws = s.draws + 1 ∧ SecOutput out (Config.ecdsaSign digest s.draws) [.draws] s t) ∧
  (∀ (s : State) (chain : Bool) (out : Nat), s.upd.job = some (.certRead chain out) →
    ∃ t, exec .secDone s = .next t ∧ SecOutput out (Config.idevidCert chain) [] s t) ∧
  (∀ (s : State) (slot out k : Nat), s.upd.job = some (.pubRead slot out) → (slot = 0 ∧ k = 0) ∨ (2 ≤ slot ∧ slot ≤ 6 ∧ s.nv.keys.find? slot = some k) →
    ∃ t, exec .secDone s = .next t ∧ SecOutput out (Config.keyBytes k) [] s t) ∧
  (∀ (s : State) (slot : Nat) (cert : List Nat), s.upd.job = some (.keyInstall slot cert) →
    ∃ t, exec .secDone s = .next t ∧ t.nv.keys.find? slot = some (Config.certKey cert) ∧
      (∀ k, k ≠ slot → t.nv.keys.find? k = s.nv.keys.find? k) ∧ t.nv = { s.nv with keys := t.nv.keys } ∧ t.upd = { s.upd with job := none } ∧
      t.rd Reg.SEC_SEC_OUT_LEN = 0 ∧ evt t 0x1E 0 = true ∧ (evt t 0x1E 3 = (decide (slot = 2) || evt s 0x1E 3)) ∧
      OnlyEvents [.upd, .nv] [Reg.SEC_SEC_OUT_LEN] [0x1E] s t) ∧
  (∀ (s : State) (b : List Nat), s.upd.job = some (.fleetInstall b) →
    ∃ t, exec .secDone s = .next t ∧ t.nv.keys.find? 1 = ((s.fleetKey b).orElse fun _ => s.nv.keys.find? 1) ∧
      (∀ k, k ≠ 1 → t.nv.keys.find? k = s.nv.keys.find? k) ∧ t.nv = { s.nv with keys := t.nv.keys } ∧ t.upd = { s.upd with job := none } ∧
      evt t 0x1E 0 = true ∧ OnlyEvents [.upd, .nv] [Reg.SEC_SEC_OUT_LEN] [0x1E] s t) ∧
  -- a read of SEC_RAND takes its word and draws the next
  (∀ (mid : Mid) (s : State), Passes s mid Reg.SEC_SEC_RAND false →
    ∃ t, exec (.secRandRead mid) s = .next t ∧ t.busData = Config.random s.upd.rand ∧ t.draws = s.draws + 1 ∧
      t.upd = { s.upd with rand := s.draws } ∧ Only [.busData, .draws, .upd] [] s t)

/-- The journal of an overwrite from the start (R356). -/
abbrev overwriteJournal (s : State) : Journal :=
  { state := 1, sector := 0, version := (s.nv.staged.map fun b => leAt b 12 4).getD 0, count := 0 }

/-- IMAGE_ACTIVATED is recorded with the old and the new version, and written while the module still runs its image (R316, R356). -/
abbrev ActivationRecorded (s t : State) : Prop :=
  (s.recd.scanning = false → s.recd.frozen = none → s.recd.queue = [] → s.recd.arriving = [] →
    t.nv.log.any (fun r => r.code == 0x022 && decide (r.data = [s.runVer, (s.nv.staged.map fun b => w32 (leAt b 12 4)).getD 0])) = true) ∧
  (s.recd.scanning = true →
    (⟨0, 0x022, 1, 0, [s.runVer, (s.nv.staged.map fun b => w32 (leAt b 12 4)).getD 0], s.tim.odo⟩ : Arrival) ∈ t.recd.arriving)

/-- The module overwrites its image (R354, R356 step 1): the own coil paths open, RESIGN_OUT is high, the activation is recorded and disarmed, and
the journal is in state 1 at sector 0. -/
abbrev Overwrites (s t : State) : Prop :=
  PathsOpen t ∧ CoilsNoted s t ∧ t.pair.claim = false ∧ t.upd.boot = .overwriting ∧ t.upd.armed = none ∧ t.upd.waiting = false ∧
    t.bit Reg.UPD_UPD_STAT 5 = false ∧ t.nv.journal = overwriteJournal s ∧ t.nv.staged = s.nv.staged ∧ t.nv.running = s.nv.running ∧
    t.pair.role = (if s.inControl then .shadow else s.pair.role) ∧ (s.inControl = true → t.reg Reg.RED_RESIGNS = s.reg Reg.RED_RESIGNS + 1) ∧
    ActivationRecorded s t ∧ OnlyPages [.upd, .nv, .saf, .ctl, .pair, .link, .recd, .free] [0x10, 0x11, 0x1A, 0x1B, 0x1C, 0x1D] s t

/-- The module waits for its partner (R354); a module in control wants the handover once `fit` holds and none is under way. -/
abbrev Waits (fit : Bool) (s t : State) : Prop :=
  t.upd = { s.upd with waiting := true, checkAt := s.tim.odo } ∧
    t.pair = { s.pair with handWant := s.pair.handWant || (fit && s.partnerUpdated && s.pair.offer.isNone) } ∧ Only [.upd, .pair] [] s t

/-- UPD_STAGE, STAGE_DONE, ACTIVATE, CANCEL, COMMIT, ACTIVATION_TIME, ACTIVATION_RECHECK, PAIR_TMO, OVERWRITE_SECTOR (R351 to R357, R359, R360). The
model's choices it rests on: log entries 7, 57, 96, 97, 99, 102, 127. -/
def Obligations.StagingAndActivation : Prop :=
  (∀ (mid : Mid) (s : State), Passes s mid Reg.UPD_UPD_CMD true →
    if s.mayInstall = true ∧ mid ≠ .own .debug then RefusedBy (exec (.updStage mid) s) s 0x1D ErrCode.midDeny.code
    else if s.upd.boot = .overwriting ∨ s.upd.boot = .rom ∨ s.upd.wrapIn.isSome = true ∨ s.upd.armed.isSome = true ∨ s.upd.staging.isSome = true then
      RefusedBy (exec (.updStage mid) s) s 0x1D ErrCode.state.code
    else if 125829120 < s.rd Reg.UPD_UPD_LEN then RefusedBy (exec (.updStage mid) s) s 0x1D ErrCode.imgBad.code
    else if s.secReach (s.rd Reg.UPD_UPD_ADDR) (s.rd Reg.UPD_UPD_LEN) false = false then
      RefusedBy (exec (.updStage mid) s) s 0x1D ErrCode.fwlDeny.code
    else if s.imgStageOk (s.readBytes (s.rd Reg.UPD_UPD_ADDR) (s.rd Reg.UPD_UPD_LEN)) = false then
      RefusedBy (exec (.updStage mid) s) s 0x1D ErrCode.imgBad.code
    else
      ∃ t, exec (.updStage mid) s = .next t ∧
        t.upd = { s.upd with staging := some (s.readBytes (s.rd Reg.UPD_UPD_ADDR) (s.rd Reg.UPD_UPD_LEN)) } ∧
        t.nv = { s.nv with staged := none } ∧ Only [.upd, .nv] [] s t) ∧
  -- what is checked of an image
  (∀ (s : State) (b : List Nat), s.imgStep2 b = true ↔
    (imgWrapOk b = true ∧ 448 ≤ b.length ∧ b.length ≤ 125829120 ∧ leAt b 0 4 = 0x474D4958 ∧ leAt b 4 2 = 1 ∧ leAt b 6 2 = 1 ∧ leAt b 8 4 = b.length ∧
      leAt b 18 1 ≤ 1 ∧ leAt b 19 1 = 0 ∧ leAt b 48 16 = 0 ∧ s.nv.minSvn ≤ leAt b 16 2 ∧
      Config.ecdsaOk 0 (imgMessage b) (b.drop (b.length - 96)) = true ∧
      (leAt b 18 1 = 1 → (s.nv.keys.find? 6).any (fun k => Config.ecdsaOk k (imgMessage b) ((b.drop (b.length - 192)).take 96)) = true) ∧
      (leAt b 18 1 = 0 → ∀ x ∈ (b.drop (b.length - 192)).take 96, x = 0))) ∧
  (∀ (s : State) (b : List Nat), s.imgStageOk b = true ↔
    (s.imgStep2 b = true ∧ (leAt b 64 1 = 1 → leAt b 72 8 = s.serial ∧ (s.imgKey b).isSome = true))) ∧
  -- the staging write ends: staged if it reads back the same, and the loader overwrites at once with what it has staged
  (∀ (same : Bool) (s : State), s.upd.staging = none → exec (.stageDone same) s = .next s) ∧
  (∀ (s : State) (b : List Nat), s.upd.staging = some b →
    (s.mayInstall = false → ∃ t, exec (.stageDone true) s = .next t ∧ t.nv = { s.nv with staged := some b } ∧ t.upd = { s.upd with staging := none } ∧
      evt t 0x1D 0 = true ∧ OnlyEvents [.upd, .nv] [] [0x1D] s t) ∧
    (s.mayInstall = true → ∃ t, exec (.stageDone true) s = .next t ∧ t.nv.staged = some b ∧ t.nv.running = s.nv.running ∧
      t.nv.journal = overwriteJournal t ∧ t.upd = { s.upd with staging := none, boot := .overwriting } ∧ evt t 0x1D 0 = true ∧
      OnlyPages [.upd, .nv, .recd, .free] [0x1A, 0x1D] s t) ∧
    (∃ t, exec (.stageDone false) s = .next t ∧ t.upd = { s.upd with staging := none } ∧ evt t 0x1D 1 = true ∧
      OnlyEvents [.upd] [] [0x1D] s t)) ∧
  -- arming, at a plant time 10 s to 30 days ahead
  (∀ (mid : Mid) (s : State), Passes s mid Reg.UPD_UPD_CMD true →
    let at_ := s.rd Reg.UPD_UPD_ACT_SECL + 2 ^ 32 * s.fld Reg.UPD_UPD_ACT_SECH 0 16
    let ahead := clkDiff (at_ * fracPerSec) s.plant
    (if s.nv.staged = none ∨ s.upd.boot = .overwriting then RefusedBy (exec (.activate mid) s) s 0x1D ErrCode.state.code
    else if ahead < ((10 * fracPerSec : Nat) : Int) ∨ ((30 * 86400 * fracPerSec : Nat) : Int) < ahead then
      RefusedBy (exec (.activate mid) s) s 0x1D ErrCode.range.code
    else
      ∃ t, exec (.activate mid) s = .next t ∧ t.upd = { s.upd with armed := some at_, waiting := false } ∧ t.bit Reg.UPD_UPD_STAT 5 = false ∧
        evt t 0x1D 2 = true ∧ OnlyEvents [.upd] [Reg.UPD_UPD_STAT] [0x1D] s t) ∧
    (if s.upd.boot = .overwriting then RefusedBy (exec (.cancel mid) s) s 0x1D ErrCode.state.code
    else
      ∃ t, exec (.cancel mid) s = .next t ∧ t.upd = { s.upd with armed := none, waiting := false } ∧ t.bit Reg.UPD_UPD_STAT 5 = false ∧
        Only [.upd] [Reg.UPD_UPD_STAT] s t) ∧
    -- COMMIT: in state 0 for an hour, and with a partner present only while it runs the same image
    (if (decide (s.upd.boot = .done ∧ s.nv.journal.state = 0 ∧ secT 3600 ≤ s.since s.upd.goodAt) && s.nv.running.isSome &&
        (!s.pair.present || (s.partnerAlive && s.pair.hb.image == s.runVer))) = true then
      ∃ t, exec (.commit mid) s = .next t ∧ t.nv = { s.nv with minSvn := max s.nv.minSvn ((s.nv.running.map imageSvn).getD 0) } ∧
        evt t 0x1D 5 = true ∧ OnlyEvents [.nv] [] [0x1D] s t
    else RefusedBy (exec (.commit mid) s) s 0x1D ErrCode.state.code)) ∧
  -- the armed time comes
  (∀ s : State,
    if (!s.upd.waiting && s.upd.boot == .done && s.upd.armed.any fun a => decide (0 ≤ clkDiff s.plant (a * fracPerSec))) = false then
      exec .activationTime s = .next s
    else if s.pair.mode = .safeHold ∨ (s.pair.role = .shadow ∧ s.partnerHoldsAll = true) ∨
        (s.pair.role = .solo ∧ s.bit Reg.UPD_UPD_CFG 0 = true ∧ (s.pair.mode = .ready ∨ s.pair.mode = .commission ∨ s.pair.mode = .service)) then
      ∃ t, exec .activationTime s = .next t ∧ Overwrites s t
    else if s.pair.role = .solo then ∃ t, exec .activationTime s = .next t ∧ t.bit Reg.UPD_UPD_STAT 5 = true ∧ Only [] [Reg.UPD_UPD_STAT] s t
    else ∃ t, exec .activationTime s = .next t ∧ Waits (s.pair.role == .active) s t) ∧
  -- a waiting module looks at its partner each second
  (∀ s : State,
    if (s.upd.waiting && s.upd.boot == .done && decide (secT 1 ≤ s.since s.upd.checkAt)) = false then exec .activationRecheck s = .next s
    else if s.pair.role = .shadow ∧ (s.partnerHoldsAll = true ∨ s.pair.mode = .safeHold) then
      ∃ t, exec .activationRecheck s = .next t ∧ Overwrites s t
    else ∃ t, exec .activationRecheck s = .next t ∧ Waits s.inControl s t) ∧
  (∀ s : State, s.partnerHoldsAll = true ↔ ∀ k, k < 6 → s.bit Reg.SAF_K_REQ k = true → s.partnerHolds k = true) ∧
  (∀ s : State, s.partnerUpdated = true ↔ (s.partnerAlive = true ∧ s.pair.hb.role = 3 ∧ s.rd Reg.RED_RESIGN_MIN ≤ s.pair.hb.score ∧
    s.nv.staged.any (fun b => s.pair.hb.image == w32 (leAt b 12 4)) = true)) ∧
  (∀ s : State,
    if (s.upd.waiting && s.upd.armed.any fun a =>
        decide (((s.rd Reg.UPD_UPD_PAIR_TMO * fracPerSec : Nat) : Int) ≤ clkDiff s.plant (a * fracPerSec))) = true then
      ∃ t, exec .pairTmo s = .next t ∧ t.upd = { s.upd with armed := none, waiting := false } ∧ t.bit Reg.UPD_UPD_STAT 5 = false ∧
        evt t 0x1D 3 = true ∧ OnlyEvents [.upd] [Reg.UPD_UPD_STAT] [0x1D] s t
    else exec .pairTmo s = .next s) ∧
  -- one sector of the overwrite: the journal advances once it reads back the same, and at the end the loader boots what it has written
  (∀ (same : Bool) (s : State), (s.pair.mode == .boot && s.upd.boot == .overwriting) = false → exec (.overwriteSector same) s = .next s) ∧
  (∀ (same : Bool) (s : State), s.pair.mode = .boot → s.upd.boot = .overwriting → s.nv.staged = none →
    ∃ t, exec (.overwriteSector same) s = .next t ∧ t.upd = { s.upd with boot := .recovering, reqAt := none, wrapIn := none, imageIn := [] } ∧
      Only [.upd] [] s t) ∧
  (∀ (same : Bool) (s : State) (b : List Nat), s.pair.mode = .boot → s.upd.boot = .overwriting → s.nv.staged = some b →
    let off := 65536 * s.nv.journal.sector
    let run := putBytes (s.nv.running.getD []) off ((b.drop off).take 65536)
    if same = false then ∃ t, exec (.overwriteSector same) s = .next t ∧ t.nv = { s.nv with running := some run } ∧ Only [.nv] [] s t
    else if off + 65536 < b.length then
      ∃ t, exec (.overwriteSector same) s = .next t ∧
        t.nv = { s.nv with running := some run, journal := { s.nv.journal with sector := s.nv.journal.sector + 1 } } ∧ Only [.nv] [] s t
    else
      ∃ t, exec (.overwriteSector same) s = .next t ∧ t.nv.running = some b ∧ t.nv.journal.state = 2 ∧ t.nv.journal.count = 1 + 2 * b2n (t.upd.boot == .recovering) ∧
        LoaderRan { s with nv := { s.nv with running := some b, journal := { s.nv.journal with state := 2, count := 0 } } } t ∧
        Only [.nv, .upd] [Reg.HPM_HPM_STAT] s t)

/-- Frames were sent on the Causeway (R229): each takes the next SEQ of its class and type, and SEG numbers them where `numbered` says so. -/
abbrev CswFrames (cls type : Nat) (ps : List (List Nat)) (numbered : Bool) (s t : State) : Prop :=
  s.cswUp = true →
    t.pair.cswOut.find? (cswKey cls type) = some (ps.zipIdx.map fun (p, i) =>
      cswBytes cls type ((s.pair.cswSeq.get 0 (cswKey cls type) + i) % 2 ^ 16) (if numbered then i else 0) p) ∧
    t.pair.cswSeq.get 0 (cswKey cls type) = (s.pair.cswSeq.get 0 (cswKey cls type) + ps.length) % 2 ^ 16

/-- A frame of the recovery has arrived and does nothing but count: the block is gated, or waits for no such frame. -/
abbrev OnlyCountedRx (type : Nat) (rx : CswRx) (o : Out) (s : State) : Prop :=
  ∃ t, o = .next t ∧ t.reg Reg.CSW_RX_FRAMES = s.reg Reg.CSW_RX_FRAMES + 1 ∧ t.pair = { s.pair with cswRx := s.pair.cswRx.set (cswKey 4 type) rx.seq } ∧
    Only [.pair] [Reg.CSW_RX_FRAMES] s t

/-- A request is answered with REFUSE (R358). -/
abbrev ImageRefused (reason : Nat) (o : Out) (s : State) : Prop :=
  ∃ t, o = .next t ∧ t.upd = { s.upd with refused := reason :: s.upd.refused } ∧ CswFrames 4 4 [[reason]] false s t ∧
    t.reg Reg.CSW_RX_FRAMES = s.reg Reg.CSW_RX_FRAMES + 1 ∧ t.reg Reg.CSW_TX_FRAMES = s.reg Reg.CSW_TX_FRAMES + 1 ∧
    Only [.upd, .pair] [Reg.CSW_RX_FRAMES, Reg.CSW_TX_FRAMES] s t

/-- IMAGE_REQUEST, IMAGE_REQUEST_RX, IMAGE_WRAP_RX, IMAGE_DATA_RX, IMAGE_END_RX, IMAGE_REFUSE_RX (R229, R351, R352, R358, R359). The model's choices it
rests on: log entries 7, 97, 120. -/
def Obligations.RecoveryFromThePartner : Prop :=
  -- the request, every 1 s while no transfer moves
  (∀ s : State,
    if (!s.mayInstall || s.upd.staging.isSome || !s.upd.reqAt.all fun t0 => decide (secT 1 ≤ s.since t0)) = true then exec .imageRequest s = .next s
    else if s.hpm 5 = true then
      ∃ t, exec .imageRequest s = .next t ∧ t.upd = { s.upd with reqAt := some s.tim.odo, wrapIn := none, imageIn := [] } ∧
        t.hpm 8 = (s.hpm 8 || s.upd.reqAt.isSome) ∧ CswFrames 4 0 (requestPayloads s.serial (Config.idevidCert false)) true s t ∧
        Only [.upd, .pair] [Reg.HPM_HPM_STAT, Reg.CSW_TX_FRAMES] s t
    else ∃ t, exec .imageRequest s = .next t ∧ t.hpm 8 = true ∧ Only [] [Reg.HPM_HPM_STAT] s t) ∧
  -- the partner checks the certificate and answers with a new wrap block and its image, or refuses
  (∀ (serial : Nat) (cert : List Nat) (rx : CswRx) (s : State),
    (inPair s = false → exec (.imageRequestRx serial ⟨cert, rx⟩) s = .next s) ∧
    (inPair s = true → s.cswAccepts 4 0 rx = false → FrameDropped (exec (.imageRequestRx serial ⟨cert, rx⟩) s) s rx) ∧
    (inPair s = true → s.cswAccepts 4 0 rx = true →
      let ok := Config.certChains 0 cert && Config.certSerial cert == serial
      let image := s.nv.running.getD []
      let key := (s.imgKey image).getD 0
      let w := s.rewrap image key serial cert
      if s.clockRuns 0x1D = false then OnlyCountedRx 0 rx (exec (.imageRequestRx serial ⟨cert, rx⟩) s) s
      else if s.upd.boot ≠ .done ∨ s.upd.staging.isSome = true ∨ s.upd.waiting = true then ImageRefused 1 (exec (.imageRequestRx serial ⟨cert, rx⟩) s) s
      else if ok = false then ImageRefused 3 (exec (.imageRequestRx serial ⟨cert, rx⟩) s) s
      else if (s.nv.running.any fun b => s.imgStep2 b && (s.imgKey b).isSome) = false then ImageRefused 2 (exec (.imageRequestRx serial ⟨cert, rx⟩) s) s
      else
        ∃ t, exec (.imageRequestRx serial ⟨cert, rx⟩) s = .next t ∧ t.upd = { s.upd with wrapOut := some w } ∧ t.draws = s.draws + 4 ∧
          evt t 0x1D 6 = true ∧ CswFrames 4 1 [w] false s t ∧ CswFrames 4 2 (dataPayloads image) true s t ∧
          CswFrames 4 3 [wordBytes (crc32 (putBytes image 64 w))] false s t ∧
          OnlyEvents [.upd, .draws, .pair] [Reg.CSW_RX_FRAMES, Reg.CSW_TX_FRAMES] [0x1D] s t)) ∧
  -- the new wrap block: WRAP 1 and the requester's serial
  (∀ (s : State) (b cert : List Nat) (key serial : Nat), (s.rewrap b key serial cert).take 28 = [1, 0, 0, 0, 0, 0, 0, 0] ++ leBytes 8 serial ++
    wordBytes (Config.random s.draws) ++ wordBytes (Config.random (s.draws + 1)) ++ wordBytes (Config.random (s.draws + 2))) ∧
  -- the requester takes the wrap block, then the image in its order, and stages what it has checked
  (∀ (w : List Nat) (rx : CswRx) (s : State),
    (s.cswAccepts 4 1 rx = false → FrameDropped (exec (.imageWrapRx ⟨w, rx⟩) s) s rx) ∧
    (s.cswAccepts 4 1 rx = true →
      if (s.clockRuns 0x1D && s.recovering && w.length == 192) = false then OnlyCountedRx 1 rx (exec (.imageWrapRx ⟨w, rx⟩) s) s
      else
        ∃ t, exec (.imageWrapRx ⟨w, rx⟩) s = .next t ∧ t.upd = { s.upd with wrapIn := some w, imageIn := [], reqAt := some s.tim.odo } ∧
          Only [.upd, .pair] [Reg.CSW_RX_FRAMES] s t)) ∧
  (∀ (off : Nat) (b : List Nat) (rx : CswRx) (s : State),
    (s.cswAccepts 4 2 rx = false → FrameDropped (exec (.imageDataRx off ⟨b, rx⟩) s) s rx) ∧
    (s.cswAccepts 4 2 rx = true →
      if (s.clockRuns 0x1D && s.recovering && s.upd.wrapIn.isSome && decide (off ≤ s.upd.imageIn.length)) = false then
        OnlyCountedRx 2 rx (exec (.imageDataRx off ⟨b, rx⟩) s) s
      else
        ∃ t, exec (.imageDataRx off ⟨b, rx⟩) s = .next t ∧
          t.upd = { s.upd with imageIn := putBytes s.upd.imageIn off b, reqAt := some s.tim.odo } ∧ Only [.upd, .pair] [Reg.CSW_RX_FRAMES] s t)) ∧
  (∀ (crc : Word) (rx : CswRx) (s : State),
    (s.cswAccepts 4 3 rx = false → FrameDropped (exec (.imageEndRx ⟨crc, rx⟩) s) s rx) ∧
    (s.cswAccepts 4 3 rx = true →
      let b := putBytes s.upd.imageIn 64 (s.upd.wrapIn.getD [])
      if (s.clockRuns 0x1D && s.recovering && s.upd.wrapIn.isSome) = false then OnlyCountedRx 3 rx (exec (.imageEndRx ⟨crc, rx⟩) s) s
      else if crc32 b = crc ∧ (s.imgKey b).isSome = true ∧ s.imgStageOk b = true then
        ∃ t, exec (.imageEndRx ⟨crc, rx⟩) s = .next t ∧ t.upd = { s.upd with wrapIn := none, imageIn := [], staging := some b } ∧
          t.nv = { s.nv with staged := none, recoveries := s.nv.recoveries + 1 } ∧ evt t 0x1D 4 = true ∧
          OnlyEvents [.upd, .nv, .pair] [Reg.CSW_RX_FRAMES] [0x1D] s t
      else
        ∃ t, exec (.imageEndRx ⟨crc, rx⟩) s = .next t ∧ t.upd = { s.upd with wrapIn := none, imageIn := [] } ∧ t.hpm 8 = true ∧ evt t 0x1D 1 = true ∧
          OnlyEvents [.upd, .pair] [Reg.HPM_HPM_STAT, Reg.CSW_RX_FRAMES] [0x1D] s t)) ∧
  (∀ (reason : Nat) (rx : CswRx) (s : State),
    (s.cswAccepts 4 4 rx = false → FrameDropped (exec (.imageRefuseRx ⟨reason, rx⟩) s) s rx) ∧
    (s.cswAccepts 4 4 rx = true →
      if (s.clockRuns 0x1D && s.recovering && decide (1 ≤ reason ∧ reason ≤ 3)) = false then OnlyCountedRx 4 rx (exec (.imageRefuseRx ⟨reason, rx⟩) s) s
      else
        ∃ t, exec (.imageRefuseRx ⟨reason, rx⟩) s = .next t ∧
          t.upd = { s.upd with wrapIn := none, imageIn := [], boot := if s.nv.journal.state = 0 then .install else s.upd.boot } ∧ t.hpm 8 = true ∧
          Only [.upd, .pair] [Reg.HPM_HPM_STAT, Reg.CSW_RX_FRAMES] s t)) ∧
  (∀ s : State, s.recovering = true ↔ ((s.upd.boot = .install ∨ s.upd.boot = .recovering) ∧ s.upd.reqAt.isSome = true ∧ s.upd.staging.isSome = false))

/-- Handles (R10, R11): the checks in their order, and the generation that a new object takes, with which a handle of the object before it no longer
matches. -/
def Obligations.HandlesNameOneObject : Prop :=
  -- the handle of a live object is taken
  (∀ (c : HClass) (i : Nat) (occ : Nat → Bool) (s : State), i < c.limit → occ i = true → s.gen c i < 256 →
    s.checkHandle c occ (s.handleOf c i) = .ok i) ∧
  -- of an empty slot, and of another generation, it is stale
  (∀ (c : HClass) (i : Nat) (occ : Nat → Bool) (s : State), i < c.limit → occ i = false → s.gen c i < 256 →
    s.checkHandle c occ (s.handleOf c i) = .error .handleStale) ∧
  (∀ (c : HClass) (i : Nat) (occ : Nat → Bool) (s : State), i < c.limit → s.gen c i < 256 →
    (s.newGen c i).checkHandle c occ (s.handleOf c i) = .error .handleStale) ∧
  -- CHK, CLASS and INDEX are checked before that, and each gives HANDLE_BAD
  (∀ (c : HClass) (occ : Nat → Bool) (h : Word) (s : State), handleChk (h.toNat / 256) ≠ h.toNat % 256 →
    s.checkHandle c occ h = .error .handleBad) ∧
  (∀ (c : HClass) (occ : Nat → Bool) (h : Word) (s : State), h.toNat / 2 ^ 28 ≠ c.code → s.checkHandle c occ h = .error .handleBad) ∧
  (∀ (c : HClass) (occ : Nat → Bool) (h : Word) (s : State), c.limit ≤ h.toNat / 2 ^ 8 % 2 ^ 12 → s.checkHandle c occ h = .error .handleBad) ∧
  -- a new object's generation is the next one, never 0x00, and the other slots keep theirs
  (∀ (c : HClass) (i : Nat) (s : State), s.gen c i < 256 →
    (s.newGen c i).gen c i = s.gen c i % 255 + 1 ∧ (∀ j, j < 4096 → j ≠ i → i < 4096 → (s.newGen c i).gen c j = s.gen c j)) ∧
  -- destroying an object does not change it
  (∀ (mid : Mid) (l : Fin 2) (s t : State),
    exec (.wmDestroy mid) s = .next t ∨ exec (.tapDestroy mid) s = .next t ∨ exec (.chemDestroy mid) s = .next t ∨
    exec (.frmDestroy mid) s = .next t ∨ exec (.fsDestroy l mid) s = .next t ∨ exec (.launchDestroy mid) s = .next t ∨
    exec (.planRemove mid) s = .next t → t.gens = s.gens) ∧
  -- it is kept through the resets of scope BLOCK, CORE_n, APP and LINK; POWER and MODULE restart it
  (∀ (mid : Mid) (n : Fin 4) (p : Fin 64) (s t : State),
    exec (.blockReset mid p) s = .next t ∨ exec (.coreReset mid n) s = .next t ∨ exec (.appReset mid) s = .next t ∨
    exec (.linkReset mid) s = .next t → t.gens = s.gens) ∧
  -- such a reset destroys the block's objects: NOD, GAU, EST, FUS, FRM, CAN0, CAN1 and ETH
  (∀ (p : Fin 64) (s : State), Passes s (.own .safety) Reg.RST_RST_CMD true → p.val ≤ 0x20 →
    ∃ t, exec (.blockReset (.own .safety) p) s = .next t ∧ (p.val = 0x07 → t.gau.wms = []) ∧ (p.val = 0x0A → t.link.nodes = []) ∧
      (p.val = 0x0D → t.est.chems = []) ∧ (p.val = 0x0E → t.est.taps = []) ∧ (p.val = 0x12 → t.frm.progs = []) ∧
      (p.val = 0x15 → ∀ f ∈ t.filters, f.2.ctl ≠ 0) ∧ (p.val = 0x16 → ∀ f ∈ t.filters, f.2.ctl ≠ 1) ∧ (p.val = 0x17 → t.eth.launches = [])) ∧
  (∀ (brown rom : Bool) (sw : Nat) (s : State), ∃ t, exec (.powerReset brown rom sw) s = .next t ∧ t.gens = []) ∧
  (∀ (rom : Bool) (sw : Nat) (s : State), s.pair.unpowered = false → ∃ t, exec (.moduleReset .debug rom sw) s = .next t ∧ t.gens = []) ∧
  (∀ (c : HClass) (i : Nat) (s : State), s.gens = [] → (s.newGen c i).gen c i = 1)

/-- The channels of a superframe (R55, R56): with fifteen channels or more enabled, the four that a cycle number gives are enabled and always distinct,
and the join slot takes one of the three join channels whatever the mask. The model's choices it rests on: log entries 7. -/
def Obligations.ChannelsOfASuperframe : Prop :=
  (∀ (cycle : Nat) (s : State), 15 ≤ s.channels.length →
    ∃ a0 a1 b0 b1, s.chCur 0 cycle % 2 ^ 8 = a0 ∧ s.chCur 1 cycle % 2 ^ 8 = a1 ∧ s.chCur 0 cycle / 2 ^ 8 % 2 ^ 8 = b0 ∧
      s.chCur 1 cycle / 2 ^ 8 % 2 ^ 8 = b1 ∧ a0 ∈ s.channels ∧ a1 ∈ s.channels ∧ b0 ∈ s.channels ∧ b1 ∈ s.channels ∧
      a0 ≠ a1 ∧ a0 ≠ b0 ∧ a0 ≠ b1 ∧ a1 ≠ b0 ∧ a1 ≠ b1 ∧ b0 ≠ b1) ∧
  -- the pseudocode, entry by entry
  (∀ (cycle : Nat) (s : State), 15 ≤ s.channels.length →
    let n := s.channels.length
    let blk := Config.aes128 (Config.aes128 s.kNet 0x48) (cycle % 2 ^ 32)
    let u := blk % 2 ^ 32
    let d := 1 + blk / 2 ^ 32 % 2 ^ 32 % (n / 2 - 1)
    s.channels[u % n]? = some (s.chCur 0 cycle % 2 ^ 8) ∧ s.channels[(u % n + n / 2) % n]? = some (s.chCur 1 cycle % 2 ^ 8) ∧
    s.channels[(u % n + d) % n]? = some (s.chCur 0 cycle / 2 ^ 8 % 2 ^ 8) ∧
    s.channels[((u % n + n / 2) % n + d) % n]? = some (s.chCur 1 cycle / 2 ^ 8 % 2 ^ 8)) ∧
  -- an enabled channel is one of the forty whose bit of CH_MASK is set
  (∀ (k : Nat) (s : State), k ∈ s.channels ↔ k < 40 ∧ s.link.chMask.testBit k = true) ∧
  -- the join channel: 1, 19 and 38 in turn with CYCLE, LNK1 one place on
  (∀ (cycle : Nat) (s : State),
    s.chCur 0 cycle / 2 ^ 16 = (if cycle % 2 ^ 32 % 3 = 0 then 1 else if cycle % 2 ^ 32 % 3 = 1 then 19 else 38) ∧
    s.chCur 1 cycle / 2 ^ 16 = (if cycle % 2 ^ 32 % 3 = 0 then 19 else if cycle % 2 ^ 32 % 3 = 1 then 38 else 1))
end

