-- ==== Sys2Proof/Laws/State.lean ====
section
/-! SUPPORT. What each update of the state leaves alone: one lemma per field and update, so that no proof unfolds a record update. -/

namespace Sys2Proof.Machine

namespace State

/-! ### The field `regs` -/

theorem upd_regs_pending (s : State) (x : Tab Word) : ({ s with regs := x } : State).pending = s.pending := rfl
theorem upd_regs_snaps (s : State) (x : Tab Word) : ({ s with regs := x } : State).snaps = s.snaps := rfl
theorem upd_regs_busData (s : State) (x : Tab Word) : ({ s with regs := x } : State).busData = s.busData := rfl
theorem upd_regs_busHi (s : State) (x : Tab Word) : ({ s with regs := x } : State).busHi = s.busHi := rfl
theorem upd_regs_busErr (s : State) (x : Tab Word) : ({ s with regs := x } : State).busErr = s.busErr := rfl
theorem upd_regs_dmaErr (s : State) (x : Tab Word) : ({ s with regs := x } : State).dmaErr = s.dmaErr := rfl
theorem upd_regs_mem (s : State) (x : Tab Word) : ({ s with regs := x } : State).mem = s.mem := rfl
theorem upd_regs_gens (s : State) (x : Tab Word) : ({ s with regs := x } : State).gens = s.gens := rfl
theorem upd_regs_free (s : State) (x : Tab Word) : ({ s with regs := x } : State).free = s.free := rfl
theorem upd_regs_draws (s : State) (x : Tab Word) : ({ s with regs := x } : State).draws = s.draws := rfl
theorem upd_regs_tim (s : State) (x : Tab Word) : ({ s with regs := x } : State).tim = s.tim := rfl
theorem upd_regs_gau (s : State) (x : Tab Word) : ({ s with regs := x } : State).gau = s.gau := rfl
theorem upd_regs_link (s : State) (x : Tab Word) : ({ s with regs := x } : State).link = s.link := rfl
theorem upd_regs_swp (s : State) (x : Tab Word) : ({ s with regs := x } : State).swp = s.swp := rfl
theorem upd_regs_sns (s : State) (x : Tab Word) : ({ s with regs := x } : State).sns = s.sns := rfl
theorem upd_regs_est (s : State) (x : Tab Word) : ({ s with regs := x } : State).est = s.est := rfl
theorem upd_regs_ctl (s : State) (x : Tab Word) : ({ s with regs := x } : State).ctl = s.ctl := rfl
theorem upd_regs_frm (s : State) (x : Tab Word) : ({ s with regs := x } : State).frm = s.frm := rfl
theorem upd_regs_saf (s : State) (x : Tab Word) : ({ s with regs := x } : State).saf = s.saf := rfl
theorem upd_regs_pair (s : State) (x : Tab Word) : ({ s with regs := x } : State).pair = s.pair := rfl
theorem upd_regs_mbx (s : State) (x : Tab Word) : ({ s with regs := x } : State).mbx = s.mbx := rfl
theorem upd_regs_can0 (s : State) (x : Tab Word) : ({ s with regs := x } : State).can0 = s.can0 := rfl
theorem upd_regs_can1 (s : State) (x : Tab Word) : ({ s with regs := x } : State).can1 = s.can1 := rfl
theorem upd_regs_filters (s : State) (x : Tab Word) : ({ s with regs := x } : State).filters = s.filters := rfl
theorem upd_regs_eth (s : State) (x : Tab Word) : ({ s with regs := x } : State).eth = s.eth := rfl
theorem upd_regs_dsp (s : State) (x : Tab Word) : ({ s with regs := x } : State).dsp = s.dsp := rfl
theorem upd_regs_recd (s : State) (x : Tab Word) : ({ s with regs := x } : State).recd = s.recd := rfl
theorem upd_regs_clock (s : State) (x : Tab Word) : ({ s with regs := x } : State).clock = s.clock := rfl
theorem upd_regs_rst (s : State) (x : Tab Word) : ({ s with regs := x } : State).rst = s.rst := rfl
theorem upd_regs_gpio (s : State) (x : Tab Word) : ({ s with regs := x } : State).gpio = s.gpio := rfl
theorem upd_regs_upd (s : State) (x : Tab Word) : ({ s with regs := x } : State).upd = s.upd := rfl
theorem upd_regs_nv (s : State) (x : Tab Word) : ({ s with regs := x } : State).nv = s.nv := rfl

/-! ### The field `recd` -/

theorem upd_recd_pending (s : State) (x : Recorder) : ({ s with recd := x } : State).pending = s.pending := rfl
theorem upd_recd_regs (s : State) (x : Recorder) : ({ s with recd := x } : State).regs = s.regs := rfl
theorem upd_recd_snaps (s : State) (x : Recorder) : ({ s with recd := x } : State).snaps = s.snaps := rfl
theorem upd_recd_busData (s : State) (x : Recorder) : ({ s with recd := x } : State).busData = s.busData := rfl
theorem upd_recd_busHi (s : State) (x : Recorder) : ({ s with recd := x } : State).busHi = s.busHi := rfl
theorem upd_recd_busErr (s : State) (x : Recorder) : ({ s with recd := x } : State).busErr = s.busErr := rfl
theorem upd_recd_dmaErr (s : State) (x : Recorder) : ({ s with recd := x } : State).dmaErr = s.dmaErr := rfl
theorem upd_recd_mem (s : State) (x : Recorder) : ({ s with recd := x } : State).mem = s.mem := rfl
theorem upd_recd_gens (s : State) (x : Recorder) : ({ s with recd := x } : State).gens = s.gens := rfl
theorem upd_recd_free (s : State) (x : Recorder) : ({ s with recd := x } : State).free = s.free := rfl
theorem upd_recd_draws (s : State) (x : Recorder) : ({ s with recd := x } : State).draws = s.draws := rfl
theorem upd_recd_tim (s : State) (x : Recorder) : ({ s with recd := x } : State).tim = s.tim := rfl
theorem upd_recd_gau (s : State) (x : Recorder) : ({ s with recd := x } : State).gau = s.gau := rfl
theorem upd_recd_link (s : State) (x : Recorder) : ({ s with recd := x } : State).link = s.link := rfl
theorem upd_recd_swp (s : State) (x : Recorder) : ({ s with recd := x } : State).swp = s.swp := rfl
theorem upd_recd_sns (s : State) (x : Recorder) : ({ s with recd := x } : State).sns = s.sns := rfl
theorem upd_recd_est (s : State) (x : Recorder) : ({ s with recd := x } : State).est = s.est := rfl
theorem upd_recd_ctl (s : State) (x : Recorder) : ({ s with recd := x } : State).ctl = s.ctl := rfl
theorem upd_recd_frm (s : State) (x : Recorder) : ({ s with recd := x } : State).frm = s.frm := rfl
theorem upd_recd_saf (s : State) (x : Recorder) : ({ s with recd := x } : State).saf = s.saf := rfl
theorem upd_recd_pair (s : State) (x : Recorder) : ({ s with recd := x } : State).pair = s.pair := rfl
theorem upd_recd_mbx (s : State) (x : Recorder) : ({ s with recd := x } : State).mbx = s.mbx := rfl
theorem upd_recd_can0 (s : State) (x : Recorder) : ({ s with recd := x } : State).can0 = s.can0 := rfl
theorem upd_recd_can1 (s : State) (x : Recorder) : ({ s with recd := x } : State).can1 = s.can1 := rfl
theorem upd_recd_filters (s : State) (x : Recorder) : ({ s with recd := x } : State).filters = s.filters := rfl
theorem upd_recd_eth (s : State) (x : Recorder) : ({ s with recd := x } : State).eth = s.eth := rfl
theorem upd_recd_dsp (s : State) (x : Recorder) : ({ s with recd := x } : State).dsp = s.dsp := rfl
theorem upd_recd_clock (s : State) (x : Recorder) : ({ s with recd := x } : State).clock = s.clock := rfl
theorem upd_recd_rst (s : State) (x : Recorder) : ({ s with recd := x } : State).rst = s.rst := rfl
theorem upd_recd_gpio (s : State) (x : Recorder) : ({ s with recd := x } : State).gpio = s.gpio := rfl
theorem upd_recd_upd (s : State) (x : Recorder) : ({ s with recd := x } : State).upd = s.upd := rfl
theorem upd_recd_nv (s : State) (x : Recorder) : ({ s with recd := x } : State).nv = s.nv := rfl

/-! ### The field `gens` -/

theorem upd_gens_pending (s : State) (x : Tab Nat) : ({ s with gens := x } : State).pending = s.pending := rfl
theorem upd_gens_regs (s : State) (x : Tab Nat) : ({ s with gens := x } : State).regs = s.regs := rfl
theorem upd_gens_snaps (s : State) (x : Tab Nat) : ({ s with gens := x } : State).snaps = s.snaps := rfl
theorem upd_gens_busData (s : State) (x : Tab Nat) : ({ s with gens := x } : State).busData = s.busData := rfl
theorem upd_gens_busHi (s : State) (x : Tab Nat) : ({ s with gens := x } : State).busHi = s.busHi := rfl
theorem upd_gens_busErr (s : State) (x : Tab Nat) : ({ s with gens := x } : State).busErr = s.busErr := rfl
theorem upd_gens_dmaErr (s : State) (x : Tab Nat) : ({ s with gens := x } : State).dmaErr = s.dmaErr := rfl
theorem upd_gens_mem (s : State) (x : Tab Nat) : ({ s with gens := x } : State).mem = s.mem := rfl
theorem upd_gens_free (s : State) (x : Tab Nat) : ({ s with gens := x } : State).free = s.free := rfl
theorem upd_gens_draws (s : State) (x : Tab Nat) : ({ s with gens := x } : State).draws = s.draws := rfl
theorem upd_gens_tim (s : State) (x : Tab Nat) : ({ s with gens := x } : State).tim = s.tim := rfl
theorem upd_gens_gau (s : State) (x : Tab Nat) : ({ s with gens := x } : State).gau = s.gau := rfl
theorem upd_gens_link (s : State) (x : Tab Nat) : ({ s with gens := x } : State).link = s.link := rfl
theorem upd_gens_swp (s : State) (x : Tab Nat) : ({ s with gens := x } : State).swp = s.swp := rfl
theorem upd_gens_sns (s : State) (x : Tab Nat) : ({ s with gens := x } : State).sns = s.sns := rfl
theorem upd_gens_est (s : State) (x : Tab Nat) : ({ s with gens := x } : State).est = s.est := rfl
theorem upd_gens_ctl (s : State) (x : Tab Nat) : ({ s with gens := x } : State).ctl = s.ctl := rfl
theorem upd_gens_frm (s : State) (x : Tab Nat) : ({ s with gens := x } : State).frm = s.frm := rfl
theorem upd_gens_saf (s : State) (x : Tab Nat) : ({ s with gens := x } : State).saf = s.saf := rfl
theorem upd_gens_pair (s : State) (x : Tab Nat) : ({ s with gens := x } : State).pair = s.pair := rfl
theorem upd_gens_mbx (s : State) (x : Tab Nat) : ({ s with gens := x } : State).mbx = s.mbx := rfl
theorem upd_gens_can0 (s : State) (x : Tab Nat) : ({ s with gens := x } : State).can0 = s.can0 := rfl
theorem upd_gens_can1 (s : State) (x : Tab Nat) : ({ s with gens := x } : State).can1 = s.can1 := rfl
theorem upd_gens_filters (s : State) (x : Tab Nat) : ({ s with gens := x } : State).filters = s.filters := rfl
theorem upd_gens_eth (s : State) (x : Tab Nat) : ({ s with gens := x } : State).eth = s.eth := rfl
theorem upd_gens_dsp (s : State) (x : Tab Nat) : ({ s with gens := x } : State).dsp = s.dsp := rfl
theorem upd_gens_recd (s : State) (x : Tab Nat) : ({ s with gens := x } : State).recd = s.recd := rfl
theorem upd_gens_clock (s : State) (x : Tab Nat) : ({ s with gens := x } : State).clock = s.clock := rfl
theorem upd_gens_rst (s : State) (x : Tab Nat) : ({ s with gens := x } : State).rst = s.rst := rfl
theorem upd_gens_gpio (s : State) (x : Tab Nat) : ({ s with gens := x } : State).gpio = s.gpio := rfl
theorem upd_gens_upd (s : State) (x : Tab Nat) : ({ s with gens := x } : State).upd = s.upd := rfl
theorem upd_gens_nv (s : State) (x : Tab Nat) : ({ s with gens := x } : State).nv = s.nv := rfl

/-! ### The field `mem` -/

theorem upd_mem_pending (s : State) (x : List Host.Cell) : ({ s with mem := x } : State).pending = s.pending := rfl
theorem upd_mem_regs (s : State) (x : List Host.Cell) : ({ s with mem := x } : State).regs = s.regs := rfl
theorem upd_mem_snaps (s : State) (x : List Host.Cell) : ({ s with mem := x } : State).snaps = s.snaps := rfl
theorem upd_mem_busData (s : State) (x : List Host.Cell) : ({ s with mem := x } : State).busData = s.busData := rfl
theorem upd_mem_busHi (s : State) (x : List Host.Cell) : ({ s with mem := x } : State).busHi = s.busHi := rfl
theorem upd_mem_busErr (s : State) (x : List Host.Cell) : ({ s with mem := x } : State).busErr = s.busErr := rfl
theorem upd_mem_dmaErr (s : State) (x : List Host.Cell) : ({ s with mem := x } : State).dmaErr = s.dmaErr := rfl
theorem upd_mem_gens (s : State) (x : List Host.Cell) : ({ s with mem := x } : State).gens = s.gens := rfl
theorem upd_mem_free (s : State) (x : List Host.Cell) : ({ s with mem := x } : State).free = s.free := rfl
theorem upd_mem_draws (s : State) (x : List Host.Cell) : ({ s with mem := x } : State).draws = s.draws := rfl
theorem upd_mem_tim (s : State) (x : List Host.Cell) : ({ s with mem := x } : State).tim = s.tim := rfl
theorem upd_mem_gau (s : State) (x : List Host.Cell) : ({ s with mem := x } : State).gau = s.gau := rfl
theorem upd_mem_link (s : State) (x : List Host.Cell) : ({ s with mem := x } : State).link = s.link := rfl
theorem upd_mem_swp (s : State) (x : List Host.Cell) : ({ s with mem := x } : State).swp = s.swp := rfl
theorem upd_mem_sns (s : State) (x : List Host.Cell) : ({ s with mem := x } : State).sns = s.sns := rfl
theorem upd_mem_est (s : State) (x : List Host.Cell) : ({ s with mem := x } : State).est = s.est := rfl
theorem upd_mem_ctl (s : State) (x : List Host.Cell) : ({ s with mem := x } : State).ctl = s.ctl := rfl
theorem upd_mem_frm (s : State) (x : List Host.Cell) : ({ s with mem := x } : State).frm = s.frm := rfl
theorem upd_mem_saf (s : State) (x : List Host.Cell) : ({ s with mem := x } : State).saf = s.saf := rfl
theorem upd_mem_pair (s : State) (x : List Host.Cell) : ({ s with mem := x } : State).pair = s.pair := rfl
theorem upd_mem_mbx (s : State) (x : List Host.Cell) : ({ s with mem := x } : State).mbx = s.mbx := rfl
theorem upd_mem_can0 (s : State) (x : List Host.Cell) : ({ s with mem := x } : State).can0 = s.can0 := rfl
theorem upd_mem_can1 (s : State) (x : List Host.Cell) : ({ s with mem := x } : State).can1 = s.can1 := rfl
theorem upd_mem_filters (s : State) (x : List Host.Cell) : ({ s with mem := x } : State).filters = s.filters := rfl
theorem upd_mem_eth (s : State) (x : List Host.Cell) : ({ s with mem := x } : State).eth = s.eth := rfl
theorem upd_mem_dsp (s : State) (x : List Host.Cell) : ({ s with mem := x } : State).dsp = s.dsp := rfl
theorem upd_mem_recd (s : State) (x : List Host.Cell) : ({ s with mem := x } : State).recd = s.recd := rfl
theorem upd_mem_clock (s : State) (x : List Host.Cell) : ({ s with mem := x } : State).clock = s.clock := rfl
theorem upd_mem_rst (s : State) (x : List Host.Cell) : ({ s with mem := x } : State).rst = s.rst := rfl
theorem upd_mem_gpio (s : State) (x : List Host.Cell) : ({ s with mem := x } : State).gpio = s.gpio := rfl
theorem upd_mem_upd (s : State) (x : List Host.Cell) : ({ s with mem := x } : State).upd = s.upd := rfl
theorem upd_mem_nv (s : State) (x : List Host.Cell) : ({ s with mem := x } : State).nv = s.nv := rfl

/-! ### The field `free` -/

theorem upd_free_pending (s : State) (x : Nat) : ({ s with free := x } : State).pending = s.pending := rfl
theorem upd_free_regs (s : State) (x : Nat) : ({ s with free := x } : State).regs = s.regs := rfl
theorem upd_free_snaps (s : State) (x : Nat) : ({ s with free := x } : State).snaps = s.snaps := rfl
theorem upd_free_busData (s : State) (x : Nat) : ({ s with free := x } : State).busData = s.busData := rfl
theorem upd_free_busHi (s : State) (x : Nat) : ({ s with free := x } : State).busHi = s.busHi := rfl
theorem upd_free_busErr (s : State) (x : Nat) : ({ s with free := x } : State).busErr = s.busErr := rfl
theorem upd_free_dmaErr (s : State) (x : Nat) : ({ s with free := x } : State).dmaErr = s.dmaErr := rfl
theorem upd_free_mem (s : State) (x : Nat) : ({ s with free := x } : State).mem = s.mem := rfl
theorem upd_free_gens (s : State) (x : Nat) : ({ s with free := x } : State).gens = s.gens := rfl
theorem upd_free_draws (s : State) (x : Nat) : ({ s with free := x } : State).draws = s.draws := rfl
theorem upd_free_tim (s : State) (x : Nat) : ({ s with free := x } : State).tim = s.tim := rfl
theorem upd_free_gau (s : State) (x : Nat) : ({ s with free := x } : State).gau = s.gau := rfl
theorem upd_free_link (s : State) (x : Nat) : ({ s with free := x } : State).link = s.link := rfl
theorem upd_free_swp (s : State) (x : Nat) : ({ s with free := x } : State).swp = s.swp := rfl
theorem upd_free_sns (s : State) (x : Nat) : ({ s with free := x } : State).sns = s.sns := rfl
theorem upd_free_est (s : State) (x : Nat) : ({ s with free := x } : State).est = s.est := rfl
theorem upd_free_ctl (s : State) (x : Nat) : ({ s with free := x } : State).ctl = s.ctl := rfl
theorem upd_free_frm (s : State) (x : Nat) : ({ s with free := x } : State).frm = s.frm := rfl
theorem upd_free_saf (s : State) (x : Nat) : ({ s with free := x } : State).saf = s.saf := rfl
theorem upd_free_pair (s : State) (x : Nat) : ({ s with free := x } : State).pair = s.pair := rfl
theorem upd_free_mbx (s : State) (x : Nat) : ({ s with free := x } : State).mbx = s.mbx := rfl
theorem upd_free_can0 (s : State) (x : Nat) : ({ s with free := x } : State).can0 = s.can0 := rfl
theorem upd_free_can1 (s : State) (x : Nat) : ({ s with free := x } : State).can1 = s.can1 := rfl
theorem upd_free_filters (s : State) (x : Nat) : ({ s with free := x } : State).filters = s.filters := rfl
theorem upd_free_eth (s : State) (x : Nat) : ({ s with free := x } : State).eth = s.eth := rfl
theorem upd_free_dsp (s : State) (x : Nat) : ({ s with free := x } : State).dsp = s.dsp := rfl
theorem upd_free_recd (s : State) (x : Nat) : ({ s with free := x } : State).recd = s.recd := rfl
theorem upd_free_clock (s : State) (x : Nat) : ({ s with free := x } : State).clock = s.clock := rfl
theorem upd_free_rst (s : State) (x : Nat) : ({ s with free := x } : State).rst = s.rst := rfl
theorem upd_free_gpio (s : State) (x : Nat) : ({ s with free := x } : State).gpio = s.gpio := rfl
theorem upd_free_upd (s : State) (x : Nat) : ({ s with free := x } : State).upd = s.upd := rfl
theorem upd_free_nv (s : State) (x : Nat) : ({ s with free := x } : State).nv = s.nv := rfl

/-! ### The field `tim` -/

theorem upd_tim_pending (s : State) (x : Tim) : ({ s with tim := x } : State).pending = s.pending := rfl
theorem upd_tim_regs (s : State) (x : Tim) : ({ s with tim := x } : State).regs = s.regs := rfl
theorem upd_tim_snaps (s : State) (x : Tim) : ({ s with tim := x } : State).snaps = s.snaps := rfl
theorem upd_tim_busData (s : State) (x : Tim) : ({ s with tim := x } : State).busData = s.busData := rfl
theorem upd_tim_busHi (s : State) (x : Tim) : ({ s with tim := x } : State).busHi = s.busHi := rfl
theorem upd_tim_busErr (s : State) (x : Tim) : ({ s with tim := x } : State).busErr = s.busErr := rfl
theorem upd_tim_dmaErr (s : State) (x : Tim) : ({ s with tim := x } : State).dmaErr = s.dmaErr := rfl
theorem upd_tim_mem (s : State) (x : Tim) : ({ s with tim := x } : State).mem = s.mem := rfl
theorem upd_tim_gens (s : State) (x : Tim) : ({ s with tim := x } : State).gens = s.gens := rfl
theorem upd_tim_free (s : State) (x : Tim) : ({ s with tim := x } : State).free = s.free := rfl
theorem upd_tim_draws (s : State) (x : Tim) : ({ s with tim := x } : State).draws = s.draws := rfl
theorem upd_tim_gau (s : State) (x : Tim) : ({ s with tim := x } : State).gau = s.gau := rfl
theorem upd_tim_link (s : State) (x : Tim) : ({ s with tim := x } : State).link = s.link := rfl
theorem upd_tim_swp (s : State) (x : Tim) : ({ s with tim := x } : State).swp = s.swp := rfl
theorem upd_tim_sns (s : State) (x : Tim) : ({ s with tim := x } : State).sns = s.sns := rfl
theorem upd_tim_est (s : State) (x : Tim) : ({ s with tim := x } : State).est = s.est := rfl
theorem upd_tim_ctl (s : State) (x : Tim) : ({ s with tim := x } : State).ctl = s.ctl := rfl
theorem upd_tim_frm (s : State) (x : Tim) : ({ s with tim := x } : State).frm = s.frm := rfl
theorem upd_tim_saf (s : State) (x : Tim) : ({ s with tim := x } : State).saf = s.saf := rfl
theorem upd_tim_pair (s : State) (x : Tim) : ({ s with tim := x } : State).pair = s.pair := rfl
theorem upd_tim_mbx (s : State) (x : Tim) : ({ s with tim := x } : State).mbx = s.mbx := rfl
theorem upd_tim_can0 (s : State) (x : Tim) : ({ s with tim := x } : State).can0 = s.can0 := rfl
theorem upd_tim_can1 (s : State) (x : Tim) : ({ s with tim := x } : State).can1 = s.can1 := rfl
theorem upd_tim_filters (s : State) (x : Tim) : ({ s with tim := x } : State).filters = s.filters := rfl
theorem upd_tim_eth (s : State) (x : Tim) : ({ s with tim := x } : State).eth = s.eth := rfl
theorem upd_tim_dsp (s : State) (x : Tim) : ({ s with tim := x } : State).dsp = s.dsp := rfl
theorem upd_tim_recd (s : State) (x : Tim) : ({ s with tim := x } : State).recd = s.recd := rfl
theorem upd_tim_clock (s : State) (x : Tim) : ({ s with tim := x } : State).clock = s.clock := rfl
theorem upd_tim_rst (s : State) (x : Tim) : ({ s with tim := x } : State).rst = s.rst := rfl
theorem upd_tim_gpio (s : State) (x : Tim) : ({ s with tim := x } : State).gpio = s.gpio := rfl
theorem upd_tim_upd (s : State) (x : Tim) : ({ s with tim := x } : State).upd = s.upd := rfl
theorem upd_tim_nv (s : State) (x : Tim) : ({ s with tim := x } : State).nv = s.nv := rfl

/-! ### The field `saf` -/

theorem upd_saf_pending (s : State) (x : Saf) : ({ s with saf := x } : State).pending = s.pending := rfl
theorem upd_saf_regs (s : State) (x : Saf) : ({ s with saf := x } : State).regs = s.regs := rfl
theorem upd_saf_snaps (s : State) (x : Saf) : ({ s with saf := x } : State).snaps = s.snaps := rfl
theorem upd_saf_busData (s : State) (x : Saf) : ({ s with saf := x } : State).busData = s.busData := rfl
theorem upd_saf_busHi (s : State) (x : Saf) : ({ s with saf := x } : State).busHi = s.busHi := rfl
theorem upd_saf_busErr (s : State) (x : Saf) : ({ s with saf := x } : State).busErr = s.busErr := rfl
theorem upd_saf_dmaErr (s : State) (x : Saf) : ({ s with saf := x } : State).dmaErr = s.dmaErr := rfl
theorem upd_saf_mem (s : State) (x : Saf) : ({ s with saf := x } : State).mem = s.mem := rfl
theorem upd_saf_gens (s : State) (x : Saf) : ({ s with saf := x } : State).gens = s.gens := rfl
theorem upd_saf_free (s : State) (x : Saf) : ({ s with saf := x } : State).free = s.free := rfl
theorem upd_saf_draws (s : State) (x : Saf) : ({ s with saf := x } : State).draws = s.draws := rfl
theorem upd_saf_tim (s : State) (x : Saf) : ({ s with saf := x } : State).tim = s.tim := rfl
theorem upd_saf_gau (s : State) (x : Saf) : ({ s with saf := x } : State).gau = s.gau := rfl
theorem upd_saf_link (s : State) (x : Saf) : ({ s with saf := x } : State).link = s.link := rfl
theorem upd_saf_swp (s : State) (x : Saf) : ({ s with saf := x } : State).swp = s.swp := rfl
theorem upd_saf_sns (s : State) (x : Saf) : ({ s with saf := x } : State).sns = s.sns := rfl
theorem upd_saf_est (s : State) (x : Saf) : ({ s with saf := x } : State).est = s.est := rfl
theorem upd_saf_ctl (s : State) (x : Saf) : ({ s with saf := x } : State).ctl = s.ctl := rfl
theorem upd_saf_frm (s : State) (x : Saf) : ({ s with saf := x } : State).frm = s.frm := rfl
theorem upd_saf_pair (s : State) (x : Saf) : ({ s with saf := x } : State).pair = s.pair := rfl
theorem upd_saf_mbx (s : State) (x : Saf) : ({ s with saf := x } : State).mbx = s.mbx := rfl
theorem upd_saf_can0 (s : State) (x : Saf) : ({ s with saf := x } : State).can0 = s.can0 := rfl
theorem upd_saf_can1 (s : State) (x : Saf) : ({ s with saf := x } : State).can1 = s.can1 := rfl
theorem upd_saf_filters (s : State) (x : Saf) : ({ s with saf := x } : State).filters = s.filters := rfl
theorem upd_saf_eth (s : State) (x : Saf) : ({ s with saf := x } : State).eth = s.eth := rfl
theorem upd_saf_dsp (s : State) (x : Saf) : ({ s with saf := x } : State).dsp = s.dsp := rfl
theorem upd_saf_recd (s : State) (x : Saf) : ({ s with saf := x } : State).recd = s.recd := rfl
theorem upd_saf_clock (s : State) (x : Saf) : ({ s with saf := x } : State).clock = s.clock := rfl
theorem upd_saf_rst (s : State) (x : Saf) : ({ s with saf := x } : State).rst = s.rst := rfl
theorem upd_saf_gpio (s : State) (x : Saf) : ({ s with saf := x } : State).gpio = s.gpio := rfl
theorem upd_saf_upd (s : State) (x : Saf) : ({ s with saf := x } : State).upd = s.upd := rfl
theorem upd_saf_nv (s : State) (x : Saf) : ({ s with saf := x } : State).nv = s.nv := rfl

/-! ### The registers under an update of another field (updates and registers) -/

@[simp] theorem upd_pending_reg (s : State) (x : List Instr) (a : Nat) : ({ s with pending := x } : State).reg a = s.reg a := rfl
@[simp] theorem upd_snaps_reg (s : State) (x : Tab Word) (a : Nat) : ({ s with snaps := x } : State).reg a = s.reg a := rfl
@[simp] theorem upd_busData_reg (s : State) (x : Word) (a : Nat) : ({ s with busData := x } : State).reg a = s.reg a := rfl
@[simp] theorem upd_busHi_reg (s : State) (x : Word) (a : Nat) : ({ s with busHi := x } : State).reg a = s.reg a := rfl
@[simp] theorem upd_busErr_reg (s : State) (x : Option Nat) (a : Nat) : ({ s with busErr := x } : State).reg a = s.reg a := rfl
@[simp] theorem upd_dmaErr_reg (s : State) (x : Nat) (a : Nat) : ({ s with dmaErr := x } : State).reg a = s.reg a := rfl
@[simp] theorem upd_mem_reg (s : State) (x : List Host.Cell) (a : Nat) : ({ s with mem := x } : State).reg a = s.reg a := rfl
@[simp] theorem upd_gens_reg (s : State) (x : Tab Nat) (a : Nat) : ({ s with gens := x } : State).reg a = s.reg a := rfl
@[simp] theorem upd_free_reg (s : State) (x : Nat) (a : Nat) : ({ s with free := x } : State).reg a = s.reg a := rfl
@[simp] theorem upd_draws_reg (s : State) (x : Nat) (a : Nat) : ({ s with draws := x } : State).reg a = s.reg a := rfl
@[simp] theorem upd_tim_reg (s : State) (x : Tim) (a : Nat) : ({ s with tim := x } : State).reg a = s.reg a := rfl
@[simp] theorem upd_gau_reg (s : State) (x : Gau) (a : Nat) : ({ s with gau := x } : State).reg a = s.reg a := rfl
@[simp] theorem upd_link_reg (s : State) (x : Link) (a : Nat) : ({ s with link := x } : State).reg a = s.reg a := rfl
@[simp] theorem upd_swp_reg (s : State) (x : Swp) (a : Nat) : ({ s with swp := x } : State).reg a = s.reg a := rfl
@[simp] theorem upd_sns_reg (s : State) (x : Sns) (a : Nat) : ({ s with sns := x } : State).reg a = s.reg a := rfl
@[simp] theorem upd_est_reg (s : State) (x : Est) (a : Nat) : ({ s with est := x } : State).reg a = s.reg a := rfl
@[simp] theorem upd_ctl_reg (s : State) (x : Ctl) (a : Nat) : ({ s with ctl := x } : State).reg a = s.reg a := rfl
@[simp] theorem upd_frm_reg (s : State) (x : Frm) (a : Nat) : ({ s with frm := x } : State).reg a = s.reg a := rfl
@[simp] theorem upd_saf_reg (s : State) (x : Saf) (a : Nat) : ({ s with saf := x } : State).reg a = s.reg a := rfl
@[simp] theorem upd_pair_reg (s : State) (x : Pair) (a : Nat) : ({ s with pair := x } : State).reg a = s.reg a := rfl
@[simp] theorem upd_mbx_reg (s : State) (x : Mbx) (a : Nat) : ({ s with mbx := x } : State).reg a = s.reg a := rfl
@[simp] theorem upd_can0_reg (s : State) (x : Can) (a : Nat) : ({ s with can0 := x } : State).reg a = s.reg a := rfl
@[simp] theorem upd_can1_reg (s : State) (x : Can) (a : Nat) : ({ s with can1 := x } : State).reg a = s.reg a := rfl
@[simp] theorem upd_filters_reg (s : State) (x : Tab FilterSet) (a : Nat) : ({ s with filters := x } : State).reg a = s.reg a := rfl
@[simp] theorem upd_eth_reg (s : State) (x : Eth) (a : Nat) : ({ s with eth := x } : State).reg a = s.reg a := rfl
@[simp] theorem upd_dsp_reg (s : State) (x : Dsp) (a : Nat) : ({ s with dsp := x } : State).reg a = s.reg a := rfl
@[simp] theorem upd_recd_reg (s : State) (x : Recorder) (a : Nat) : ({ s with recd := x } : State).reg a = s.reg a := rfl
@[simp] theorem upd_clock_reg (s : State) (x : Clk) (a : Nat) : ({ s with clock := x } : State).reg a = s.reg a := rfl
@[simp] theorem upd_rst_reg (s : State) (x : Rst) (a : Nat) : ({ s with rst := x } : State).reg a = s.reg a := rfl
@[simp] theorem upd_gpio_reg (s : State) (x : Gpio) (a : Nat) : ({ s with gpio := x } : State).reg a = s.reg a := rfl
@[simp] theorem upd_upd_reg (s : State) (x : Upd) (a : Nat) : ({ s with upd := x } : State).reg a = s.reg a := rfl
@[simp] theorem upd_nv_reg (s : State) (x : Nv) (a : Nat) : ({ s with nv := x } : State).reg a = s.reg a := rfl

@[simp] theorem arrive_reg (s : State) (k c v m : Nat) (d : List Word) (a : Nat) : (s.arrive k c v m d).reg a = s.reg a := rfl
@[simp] theorem fixedEvent_reg (s : State) (c : Nat) (d : List Word) (a : Nat) : (s.fixedEvent c d).reg a = s.reg a := rfl
@[simp] theorem setClk_reg (s : State) (n t : Nat) (x : Nat) : (s.setClk n t).reg x = s.reg x := rfl
@[simp] theorem newGen_reg (s : State) (c : HClass) (i : Nat) (x : Nat) : (s.newGen c i).reg x = s.reg x := rfl
@[simp] theorem writeByte_reg (s : State) (n : Nat) (b : Byte) (x : Nat) : (s.writeByte n b).reg x = s.reg x := rfl
@[simp] theorem drawFree_reg (s : State) (x : Nat) : (s.drawFree).reg x = s.reg x := rfl
@[simp] theorem activate_reg (s : State) (i g : Nat) (x : Nat) : (s.activate i g).reg x = s.reg x := rfl
@[simp] theorem quiet_reg (s : State) (i g : Nat) (x : Nat) : (s.quiet i g).reg x = s.reg x := rfl

/-! ### `setReg` -/

@[simp] theorem setReg_pending (s : State) (a : Nat) (v : Word) : (s.setReg a v).pending = s.pending := upd_regs_pending s _
@[simp] theorem setReg_snaps (s : State) (a : Nat) (v : Word) : (s.setReg a v).snaps = s.snaps := upd_regs_snaps s _
@[simp] theorem setReg_busData (s : State) (a : Nat) (v : Word) : (s.setReg a v).busData = s.busData := upd_regs_busData s _
@[simp] theorem setReg_busHi (s : State) (a : Nat) (v : Word) : (s.setReg a v).busHi = s.busHi := upd_regs_busHi s _
@[simp] theorem setReg_busErr (s : State) (a : Nat) (v : Word) : (s.setReg a v).busErr = s.busErr := upd_regs_busErr s _
@[simp] theorem setReg_dmaErr (s : State) (a : Nat) (v : Word) : (s.setReg a v).dmaErr = s.dmaErr := upd_regs_dmaErr s _
@[simp] theorem setReg_mem (s : State) (a : Nat) (v : Word) : (s.setReg a v).mem = s.mem := upd_regs_mem s _
@[simp] theorem setReg_gens (s : State) (a : Nat) (v : Word) : (s.setReg a v).gens = s.gens := upd_regs_gens s _
@[simp] theorem setReg_free (s : State) (a : Nat) (v : Word) : (s.setReg a v).free = s.free := upd_regs_free s _
@[simp] theorem setReg_draws (s : State) (a : Nat) (v : Word) : (s.setReg a v).draws = s.draws := upd_regs_draws s _
@[simp] theorem setReg_tim (s : State) (a : Nat) (v : Word) : (s.setReg a v).tim = s.tim := upd_regs_tim s _
@[simp] theorem setReg_gau (s : State) (a : Nat) (v : Word) : (s.setReg a v).gau = s.gau := upd_regs_gau s _
@[simp] theorem setReg_link (s : State) (a : Nat) (v : Word) : (s.setReg a v).link = s.link := upd_regs_link s _
@[simp] theorem setReg_swp (s : State) (a : Nat) (v : Word) : (s.setReg a v).swp = s.swp := upd_regs_swp s _
@[simp] theorem setReg_sns (s : State) (a : Nat) (v : Word) : (s.setReg a v).sns = s.sns := upd_regs_sns s _
@[simp] theorem setReg_est (s : State) (a : Nat) (v : Word) : (s.setReg a v).est = s.est := upd_regs_est s _
@[simp] theorem setReg_ctl (s : State) (a : Nat) (v : Word) : (s.setReg a v).ctl = s.ctl := upd_regs_ctl s _
@[simp] theorem setReg_frm (s : State) (a : Nat) (v : Word) : (s.setReg a v).frm = s.frm := upd_regs_frm s _
@[simp] theorem setReg_saf (s : State) (a : Nat) (v : Word) : (s.setReg a v).saf = s.saf := upd_regs_saf s _
@[simp] theorem setReg_pair (s : State) (a : Nat) (v : Word) : (s.setReg a v).pair = s.pair := upd_regs_pair s _
@[simp] theorem setReg_mbx (s : State) (a : Nat) (v : Word) : (s.setReg a v).mbx = s.mbx := upd_regs_mbx s _
@[simp] theorem setReg_can0 (s : State) (a : Nat) (v : Word) : (s.setReg a v).can0 = s.can0 := upd_regs_can0 s _
@[simp] theorem setReg_can1 (s : State) (a : Nat) (v : Word) : (s.setReg a v).can1 = s.can1 := upd_regs_can1 s _
@[simp] theorem setReg_filters (s : State) (a : Nat) (v : Word) : (s.setReg a v).filters = s.filters := upd_regs_filters s _
@[simp] theorem setReg_eth (s : State) (a : Nat) (v : Word) : (s.setReg a v).eth = s.eth := upd_regs_eth s _
@[simp] theorem setReg_dsp (s : State) (a : Nat) (v : Word) : (s.setReg a v).dsp = s.dsp := upd_regs_dsp s _
@[simp] theorem setReg_recd (s : State) (a : Nat) (v : Word) : (s.setReg a v).recd = s.recd := upd_regs_recd s _
@[simp] theorem setReg_clock (s : State) (a : Nat) (v : Word) : (s.setReg a v).clock = s.clock := upd_regs_clock s _
@[simp] theorem setReg_rst (s : State) (a : Nat) (v : Word) : (s.setReg a v).rst = s.rst := upd_regs_rst s _
@[simp] theorem setReg_gpio (s : State) (a : Nat) (v : Word) : (s.setReg a v).gpio = s.gpio := upd_regs_gpio s _
@[simp] theorem setReg_upd (s : State) (a : Nat) (v : Word) : (s.setReg a v).upd = s.upd := upd_regs_upd s _
@[simp] theorem setReg_nv (s : State) (a : Nat) (v : Word) : (s.setReg a v).nv = s.nv := upd_regs_nv s _

/-! ### `wr` -/

@[simp] theorem wr_pending (s : State) (a n : Nat) : (s.wr a n).pending = s.pending := setReg_pending s a _
@[simp] theorem wr_snaps (s : State) (a n : Nat) : (s.wr a n).snaps = s.snaps := setReg_snaps s a _
@[simp] theorem wr_busData (s : State) (a n : Nat) : (s.wr a n).busData = s.busData := setReg_busData s a _
@[simp] theorem wr_busHi (s : State) (a n : Nat) : (s.wr a n).busHi = s.busHi := setReg_busHi s a _
@[simp] theorem wr_busErr (s : State) (a n : Nat) : (s.wr a n).busErr = s.busErr := setReg_busErr s a _
@[simp] theorem wr_dmaErr (s : State) (a n : Nat) : (s.wr a n).dmaErr = s.dmaErr := setReg_dmaErr s a _
@[simp] theorem wr_mem (s : State) (a n : Nat) : (s.wr a n).mem = s.mem := setReg_mem s a _
@[simp] theorem wr_gens (s : State) (a n : Nat) : (s.wr a n).gens = s.gens := setReg_gens s a _
@[simp] theorem wr_free (s : State) (a n : Nat) : (s.wr a n).free = s.free := setReg_free s a _
@[simp] theorem wr_draws (s : State) (a n : Nat) : (s.wr a n).draws = s.draws := setReg_draws s a _
@[simp] theorem wr_tim (s : State) (a n : Nat) : (s.wr a n).tim = s.tim := setReg_tim s a _
@[simp] theorem wr_gau (s : State) (a n : Nat) : (s.wr a n).gau = s.gau := setReg_gau s a _
@[simp] theorem wr_link (s : State) (a n : Nat) : (s.wr a n).link = s.link := setReg_link s a _
@[simp] theorem wr_swp (s : State) (a n : Nat) : (s.wr a n).swp = s.swp := setReg_swp s a _
@[simp] theorem wr_sns (s : State) (a n : Nat) : (s.wr a n).sns = s.sns := setReg_sns s a _
@[simp] theorem wr_est (s : State) (a n : Nat) : (s.wr a n).est = s.est := setReg_est s a _
@[simp] theorem wr_ctl (s : State) (a n : Nat) : (s.wr a n).ctl = s.ctl := setReg_ctl s a _
@[simp] theorem wr_frm (s : State) (a n : Nat) : (s.wr a n).frm = s.frm := setReg_frm s a _
@[simp] theorem wr_saf (s : State) (a n : Nat) : (s.wr a n).saf = s.saf := setReg_saf s a _
@[simp] theorem wr_pair (s : State) (a n : Nat) : (s.wr a n).pair = s.pair := setReg_pair s a _
@[simp] theorem wr_mbx (s : State) (a n : Nat) : (s.wr a n).mbx = s.mbx := setReg_mbx s a _
@[simp] theorem wr_can0 (s : State) (a n : Nat) : (s.wr a n).can0 = s.can0 := setReg_can0 s a _
@[simp] theorem wr_can1 (s : State) (a n : Nat) : (s.wr a n).can1 = s.can1 := setReg_can1 s a _
@[simp] theorem wr_filters (s : State) (a n : Nat) : (s.wr a n).filters = s.filters := setReg_filters s a _
@[simp] theorem wr_eth (s : State) (a n : Nat) : (s.wr a n).eth = s.eth := setReg_eth s a _
@[simp] theorem wr_dsp (s : State) (a n : Nat) : (s.wr a n).dsp = s.dsp := setReg_dsp s a _
@[simp] theorem wr_recd (s : State) (a n : Nat) : (s.wr a n).recd = s.recd := setReg_recd s a _
@[simp] theorem wr_clock (s : State) (a n : Nat) : (s.wr a n).clock = s.clock := setReg_clock s a _
@[simp] theorem wr_rst (s : State) (a n : Nat) : (s.wr a n).rst = s.rst := setReg_rst s a _
@[simp] theorem wr_gpio (s : State) (a n : Nat) : (s.wr a n).gpio = s.gpio := setReg_gpio s a _
@[simp] theorem wr_upd (s : State) (a n : Nat) : (s.wr a n).upd = s.upd := setReg_upd s a _
@[simp] theorem wr_nv (s : State) (a n : Nat) : (s.wr a n).nv = s.nv := setReg_nv s a _

/-! ### `wrI` -/

@[simp] theorem wrI_pending (s : State) (a : Nat) (i : Int) : (s.wrI a i).pending = s.pending := setReg_pending s a _
@[simp] theorem wrI_snaps (s : State) (a : Nat) (i : Int) : (s.wrI a i).snaps = s.snaps := setReg_snaps s a _
@[simp] theorem wrI_busData (s : State) (a : Nat) (i : Int) : (s.wrI a i).busData = s.busData := setReg_busData s a _
@[simp] theorem wrI_busHi (s : State) (a : Nat) (i : Int) : (s.wrI a i).busHi = s.busHi := setReg_busHi s a _
@[simp] theorem wrI_busErr (s : State) (a : Nat) (i : Int) : (s.wrI a i).busErr = s.busErr := setReg_busErr s a _
@[simp] theorem wrI_dmaErr (s : State) (a : Nat) (i : Int) : (s.wrI a i).dmaErr = s.dmaErr := setReg_dmaErr s a _
@[simp] theorem wrI_mem (s : State) (a : Nat) (i : Int) : (s.wrI a i).mem = s.mem := setReg_mem s a _
@[simp] theorem wrI_gens (s : State) (a : Nat) (i : Int) : (s.wrI a i).gens = s.gens := setReg_gens s a _
@[simp] theorem wrI_free (s : State) (a : Nat) (i : Int) : (s.wrI a i).free = s.free := setReg_free s a _
@[simp] theorem wrI_draws (s : State) (a : Nat) (i : Int) : (s.wrI a i).draws = s.draws := setReg_draws s a _
@[simp] theorem wrI_tim (s : State) (a : Nat) (i : Int) : (s.wrI a i).tim = s.tim := setReg_tim s a _
@[simp] theorem wrI_gau (s : State) (a : Nat) (i : Int) : (s.wrI a i).gau = s.gau := setReg_gau s a _
@[simp] theorem wrI_link (s : State) (a : Nat) (i : Int) : (s.wrI a i).link = s.link := setReg_link s a _
@[simp] theorem wrI_swp (s : State) (a : Nat) (i : Int) : (s.wrI a i).swp = s.swp := setReg_swp s a _
@[simp] theorem wrI_sns (s : State) (a : Nat) (i : Int) : (s.wrI a i).sns = s.sns := setReg_sns s a _
@[simp] theorem wrI_est (s : State) (a : Nat) (i : Int) : (s.wrI a i).est = s.est := setReg_est s a _
@[simp] theorem wrI_ctl (s : State) (a : Nat) (i : Int) : (s.wrI a i).ctl = s.ctl := setReg_ctl s a _
@[simp] theorem wrI_frm (s : State) (a : Nat) (i : Int) : (s.wrI a i).frm = s.frm := setReg_frm s a _
@[simp] theorem wrI_saf (s : State) (a : Nat) (i : Int) : (s.wrI a i).saf = s.saf := setReg_saf s a _
@[simp] theorem wrI_pair (s : State) (a : Nat) (i : Int) : (s.wrI a i).pair = s.pair := setReg_pair s a _
@[simp] theorem wrI_mbx (s : State) (a : Nat) (i : Int) : (s.wrI a i).mbx = s.mbx := setReg_mbx s a _
@[simp] theorem wrI_can0 (s : State) (a : Nat) (i : Int) : (s.wrI a i).can0 = s.can0 := setReg_can0 s a _
@[simp] theorem wrI_can1 (s : State) (a : Nat) (i : Int) : (s.wrI a i).can1 = s.can1 := setReg_can1 s a _
@[simp] theorem wrI_filters (s : State) (a : Nat) (i : Int) : (s.wrI a i).filters = s.filters := setReg_filters s a _
@[simp] theorem wrI_eth (s : State) (a : Nat) (i : Int) : (s.wrI a i).eth = s.eth := setReg_eth s a _
@[simp] theorem wrI_dsp (s : State) (a : Nat) (i : Int) : (s.wrI a i).dsp = s.dsp := setReg_dsp s a _
@[simp] theorem wrI_recd (s : State) (a : Nat) (i : Int) : (s.wrI a i).recd = s.recd := setReg_recd s a _
@[simp] theorem wrI_clock (s : State) (a : Nat) (i : Int) : (s.wrI a i).clock = s.clock := setReg_clock s a _
@[simp] theorem wrI_rst (s : State) (a : Nat) (i : Int) : (s.wrI a i).rst = s.rst := setReg_rst s a _
@[simp] theorem wrI_gpio (s : State) (a : Nat) (i : Int) : (s.wrI a i).gpio = s.gpio := setReg_gpio s a _
@[simp] theorem wrI_upd (s : State) (a : Nat) (i : Int) : (s.wrI a i).upd = s.upd := setReg_upd s a _
@[simp] theorem wrI_nv (s : State) (a : Nat) (i : Int) : (s.wrI a i).nv = s.nv := setReg_nv s a _

/-! ### `setFld` -/

@[simp] theorem setFld_pending (s : State) (a lo n v : Nat) : (s.setFld a lo n v).pending = s.pending := setReg_pending s a _
@[simp] theorem setFld_snaps (s : State) (a lo n v : Nat) : (s.setFld a lo n v).snaps = s.snaps := setReg_snaps s a _
@[simp] theorem setFld_busData (s : State) (a lo n v : Nat) : (s.setFld a lo n v).busData = s.busData := setReg_busData s a _
@[simp] theorem setFld_busHi (s : State) (a lo n v : Nat) : (s.setFld a lo n v).busHi = s.busHi := setReg_busHi s a _
@[simp] theorem setFld_busErr (s : State) (a lo n v : Nat) : (s.setFld a lo n v).busErr = s.busErr := setReg_busErr s a _
@[simp] theorem setFld_dmaErr (s : State) (a lo n v : Nat) : (s.setFld a lo n v).dmaErr = s.dmaErr := setReg_dmaErr s a _
@[simp] theorem setFld_mem (s : State) (a lo n v : Nat) : (s.setFld a lo n v).mem = s.mem := setReg_mem s a _
@[simp] theorem setFld_gens (s : State) (a lo n v : Nat) : (s.setFld a lo n v).gens = s.gens := setReg_gens s a _
@[simp] theorem setFld_free (s : State) (a lo n v : Nat) : (s.setFld a lo n v).free = s.free := setReg_free s a _
@[simp] theorem setFld_draws (s : State) (a lo n v : Nat) : (s.setFld a lo n v).draws = s.draws := setReg_draws s a _
@[simp] theorem setFld_tim (s : State) (a lo n v : Nat) : (s.setFld a lo n v).tim = s.tim := setReg_tim s a _
@[simp] theorem setFld_gau (s : State) (a lo n v : Nat) : (s.setFld a lo n v).gau = s.gau := setReg_gau s a _
@[simp] theorem setFld_link (s : State) (a lo n v : Nat) : (s.setFld a lo n v).link = s.link := setReg_link s a _
@[simp] theorem setFld_swp (s : State) (a lo n v : Nat) : (s.setFld a lo n v).swp = s.swp := setReg_swp s a _
@[simp] theorem setFld_sns (s : State) (a lo n v : Nat) : (s.setFld a lo n v).sns = s.sns := setReg_sns s a _
@[simp] theorem setFld_est (s : State) (a lo n v : Nat) : (s.setFld a lo n v).est = s.est := setReg_est s a _
@[simp] theorem setFld_ctl (s : State) (a lo n v : Nat) : (s.setFld a lo n v).ctl = s.ctl := setReg_ctl s a _
@[simp] theorem setFld_frm (s : State) (a lo n v : Nat) : (s.setFld a lo n v).frm = s.frm := setReg_frm s a _
@[simp] theorem setFld_saf (s : State) (a lo n v : Nat) : (s.setFld a lo n v).saf = s.saf := setReg_saf s a _
@[simp] theorem setFld_pair (s : State) (a lo n v : Nat) : (s.setFld a lo n v).pair = s.pair := setReg_pair s a _
@[simp] theorem setFld_mbx (s : State) (a lo n v : Nat) : (s.setFld a lo n v).mbx = s.mbx := setReg_mbx s a _
@[simp] theorem setFld_can0 (s : State) (a lo n v : Nat) : (s.setFld a lo n v).can0 = s.can0 := setReg_can0 s a _
@[simp] theorem setFld_can1 (s : State) (a lo n v : Nat) : (s.setFld a lo n v).can1 = s.can1 := setReg_can1 s a _
@[simp] theorem setFld_filters (s : State) (a lo n v : Nat) : (s.setFld a lo n v).filters = s.filters := setReg_filters s a _
@[simp] theorem setFld_eth (s : State) (a lo n v : Nat) : (s.setFld a lo n v).eth = s.eth := setReg_eth s a _
@[simp] theorem setFld_dsp (s : State) (a lo n v : Nat) : (s.setFld a lo n v).dsp = s.dsp := setReg_dsp s a _
@[simp] theorem setFld_recd (s : State) (a lo n v : Nat) : (s.setFld a lo n v).recd = s.recd := setReg_recd s a _
@[simp] theorem setFld_clock (s : State) (a lo n v : Nat) : (s.setFld a lo n v).clock = s.clock := setReg_clock s a _
@[simp] theorem setFld_rst (s : State) (a lo n v : Nat) : (s.setFld a lo n v).rst = s.rst := setReg_rst s a _
@[simp] theorem setFld_gpio (s : State) (a lo n v : Nat) : (s.setFld a lo n v).gpio = s.gpio := setReg_gpio s a _
@[simp] theorem setFld_upd (s : State) (a lo n v : Nat) : (s.setFld a lo n v).upd = s.upd := setReg_upd s a _
@[simp] theorem setFld_nv (s : State) (a lo n v : Nat) : (s.setFld a lo n v).nv = s.nv := setReg_nv s a _

/-! ### `setBit` -/

@[simp] theorem setBit_pending (s : State) (a i : Nat) (b : Bool) : (s.setBit a i b).pending = s.pending := setFld_pending s a i 1 _
@[simp] theorem setBit_snaps (s : State) (a i : Nat) (b : Bool) : (s.setBit a i b).snaps = s.snaps := setFld_snaps s a i 1 _
@[simp] theorem setBit_busData (s : State) (a i : Nat) (b : Bool) : (s.setBit a i b).busData = s.busData := setFld_busData s a i 1 _
@[simp] theorem setBit_busHi (s : State) (a i : Nat) (b : Bool) : (s.setBit a i b).busHi = s.busHi := setFld_busHi s a i 1 _
@[simp] theorem setBit_busErr (s : State) (a i : Nat) (b : Bool) : (s.setBit a i b).busErr = s.busErr := setFld_busErr s a i 1 _
@[simp] theorem setBit_dmaErr (s : State) (a i : Nat) (b : Bool) : (s.setBit a i b).dmaErr = s.dmaErr := setFld_dmaErr s a i 1 _
@[simp] theorem setBit_mem (s : State) (a i : Nat) (b : Bool) : (s.setBit a i b).mem = s.mem := setFld_mem s a i 1 _
@[simp] theorem setBit_gens (s : State) (a i : Nat) (b : Bool) : (s.setBit a i b).gens = s.gens := setFld_gens s a i 1 _
@[simp] theorem setBit_free (s : State) (a i : Nat) (b : Bool) : (s.setBit a i b).free = s.free := setFld_free s a i 1 _
@[simp] theorem setBit_draws (s : State) (a i : Nat) (b : Bool) : (s.setBit a i b).draws = s.draws := setFld_draws s a i 1 _
@[simp] theorem setBit_tim (s : State) (a i : Nat) (b : Bool) : (s.setBit a i b).tim = s.tim := setFld_tim s a i 1 _
@[simp] theorem setBit_gau (s : State) (a i : Nat) (b : Bool) : (s.setBit a i b).gau = s.gau := setFld_gau s a i 1 _
@[simp] theorem setBit_link (s : State) (a i : Nat) (b : Bool) : (s.setBit a i b).link = s.link := setFld_link s a i 1 _
@[simp] theorem setBit_swp (s : State) (a i : Nat) (b : Bool) : (s.setBit a i b).swp = s.swp := setFld_swp s a i 1 _
@[simp] theorem setBit_sns (s : State) (a i : Nat) (b : Bool) : (s.setBit a i b).sns = s.sns := setFld_sns s a i 1 _
@[simp] theorem setBit_est (s : State) (a i : Nat) (b : Bool) : (s.setBit a i b).est = s.est := setFld_est s a i 1 _
@[simp] theorem setBit_ctl (s : State) (a i : Nat) (b : Bool) : (s.setBit a i b).ctl = s.ctl := setFld_ctl s a i 1 _
@[simp] theorem setBit_frm (s : State) (a i : Nat) (b : Bool) : (s.setBit a i b).frm = s.frm := setFld_frm s a i 1 _
@[simp] theorem setBit_saf (s : State) (a i : Nat) (b : Bool) : (s.setBit a i b).saf = s.saf := setFld_saf s a i 1 _
@[simp] theorem setBit_pair (s : State) (a i : Nat) (b : Bool) : (s.setBit a i b).pair = s.pair := setFld_pair s a i 1 _
@[simp] theorem setBit_mbx (s : State) (a i : Nat) (b : Bool) : (s.setBit a i b).mbx = s.mbx := setFld_mbx s a i 1 _
@[simp] theorem setBit_can0 (s : State) (a i : Nat) (b : Bool) : (s.setBit a i b).can0 = s.can0 := setFld_can0 s a i 1 _
@[simp] theorem setBit_can1 (s : State) (a i : Nat) (b : Bool) : (s.setBit a i b).can1 = s.can1 := setFld_can1 s a i 1 _
@[simp] theorem setBit_filters (s : State) (a i : Nat) (b : Bool) : (s.setBit a i b).filters = s.filters := setFld_filters s a i 1 _
@[simp] theorem setBit_eth (s : State) (a i : Nat) (b : Bool) : (s.setBit a i b).eth = s.eth := setFld_eth s a i 1 _
@[simp] theorem setBit_dsp (s : State) (a i : Nat) (b : Bool) : (s.setBit a i b).dsp = s.dsp := setFld_dsp s a i 1 _
@[simp] theorem setBit_recd (s : State) (a i : Nat) (b : Bool) : (s.setBit a i b).recd = s.recd := setFld_recd s a i 1 _
@[simp] theorem setBit_clock (s : State) (a i : Nat) (b : Bool) : (s.setBit a i b).clock = s.clock := setFld_clock s a i 1 _
@[simp] theorem setBit_rst (s : State) (a i : Nat) (b : Bool) : (s.setBit a i b).rst = s.rst := setFld_rst s a i 1 _
@[simp] theorem setBit_gpio (s : State) (a i : Nat) (b : Bool) : (s.setBit a i b).gpio = s.gpio := setFld_gpio s a i 1 _
@[simp] theorem setBit_upd (s : State) (a i : Nat) (b : Bool) : (s.setBit a i b).upd = s.upd := setFld_upd s a i 1 _
@[simp] theorem setBit_nv (s : State) (a i : Nat) (b : Bool) : (s.setBit a i b).nv = s.nv := setFld_nv s a i 1 _

/-! ### `bump` -/

@[simp] theorem bump_pending (s : State) (a k : Nat) : (s.bump a k).pending = s.pending := setReg_pending s a _
@[simp] theorem bump_snaps (s : State) (a k : Nat) : (s.bump a k).snaps = s.snaps := setReg_snaps s a _
@[simp] theorem bump_busData (s : State) (a k : Nat) : (s.bump a k).busData = s.busData := setReg_busData s a _
@[simp] theorem bump_busHi (s : State) (a k : Nat) : (s.bump a k).busHi = s.busHi := setReg_busHi s a _
@[simp] theorem bump_busErr (s : State) (a k : Nat) : (s.bump a k).busErr = s.busErr := setReg_busErr s a _
@[simp] theorem bump_dmaErr (s : State) (a k : Nat) : (s.bump a k).dmaErr = s.dmaErr := setReg_dmaErr s a _
@[simp] theorem bump_mem (s : State) (a k : Nat) : (s.bump a k).mem = s.mem := setReg_mem s a _
@[simp] theorem bump_gens (s : State) (a k : Nat) : (s.bump a k).gens = s.gens := setReg_gens s a _
@[simp] theorem bump_free (s : State) (a k : Nat) : (s.bump a k).free = s.free := setReg_free s a _
@[simp] theorem bump_draws (s : State) (a k : Nat) : (s.bump a k).draws = s.draws := setReg_draws s a _
@[simp] theorem bump_tim (s : State) (a k : Nat) : (s.bump a k).tim = s.tim := setReg_tim s a _
@[simp] theorem bump_gau (s : State) (a k : Nat) : (s.bump a k).gau = s.gau := setReg_gau s a _
@[simp] theorem bump_link (s : State) (a k : Nat) : (s.bump a k).link = s.link := setReg_link s a _
@[simp] theorem bump_swp (s : State) (a k : Nat) : (s.bump a k).swp = s.swp := setReg_swp s a _
@[simp] theorem bump_sns (s : State) (a k : Nat) : (s.bump a k).sns = s.sns := setReg_sns s a _
@[simp] theorem bump_est (s : State) (a k : Nat) : (s.bump a k).est = s.est := setReg_est s a _
@[simp] theorem bump_ctl (s : State) (a k : Nat) : (s.bump a k).ctl = s.ctl := setReg_ctl s a _
@[simp] theorem bump_frm (s : State) (a k : Nat) : (s.bump a k).frm = s.frm := setReg_frm s a _
@[simp] theorem bump_saf (s : State) (a k : Nat) : (s.bump a k).saf = s.saf := setReg_saf s a _
@[simp] theorem bump_pair (s : State) (a k : Nat) : (s.bump a k).pair = s.pair := setReg_pair s a _
@[simp] theorem bump_mbx (s : State) (a k : Nat) : (s.bump a k).mbx = s.mbx := setReg_mbx s a _
@[simp] theorem bump_can0 (s : State) (a k : Nat) : (s.bump a k).can0 = s.can0 := setReg_can0 s a _
@[simp] theorem bump_can1 (s : State) (a k : Nat) : (s.bump a k).can1 = s.can1 := setReg_can1 s a _
@[simp] theorem bump_filters (s : State) (a k : Nat) : (s.bump a k).filters = s.filters := setReg_filters s a _
@[simp] theorem bump_eth (s : State) (a k : Nat) : (s.bump a k).eth = s.eth := setReg_eth s a _
@[simp] theorem bump_dsp (s : State) (a k : Nat) : (s.bump a k).dsp = s.dsp := setReg_dsp s a _
@[simp] theorem bump_recd (s : State) (a k : Nat) : (s.bump a k).recd = s.recd := setReg_recd s a _
@[simp] theorem bump_clock (s : State) (a k : Nat) : (s.bump a k).clock = s.clock := setReg_clock s a _
@[simp] theorem bump_rst (s : State) (a k : Nat) : (s.bump a k).rst = s.rst := setReg_rst s a _
@[simp] theorem bump_gpio (s : State) (a k : Nat) : (s.bump a k).gpio = s.gpio := setReg_gpio s a _
@[simp] theorem bump_upd (s : State) (a k : Nat) : (s.bump a k).upd = s.upd := setReg_upd s a _
@[simp] theorem bump_nv (s : State) (a k : Nat) : (s.bump a k).nv = s.nv := setReg_nv s a _

/-! ### `bumpSat` -/

@[simp] theorem bumpSat_pending (s : State) (a lo n : Nat) : (s.bumpSat a lo n).pending = s.pending := setFld_pending s a lo n _
@[simp] theorem bumpSat_snaps (s : State) (a lo n : Nat) : (s.bumpSat a lo n).snaps = s.snaps := setFld_snaps s a lo n _
@[simp] theorem bumpSat_busData (s : State) (a lo n : Nat) : (s.bumpSat a lo n).busData = s.busData := setFld_busData s a lo n _
@[simp] theorem bumpSat_busHi (s : State) (a lo n : Nat) : (s.bumpSat a lo n).busHi = s.busHi := setFld_busHi s a lo n _
@[simp] theorem bumpSat_busErr (s : State) (a lo n : Nat) : (s.bumpSat a lo n).busErr = s.busErr := setFld_busErr s a lo n _
@[simp] theorem bumpSat_dmaErr (s : State) (a lo n : Nat) : (s.bumpSat a lo n).dmaErr = s.dmaErr := setFld_dmaErr s a lo n _
@[simp] theorem bumpSat_mem (s : State) (a lo n : Nat) : (s.bumpSat a lo n).mem = s.mem := setFld_mem s a lo n _
@[simp] theorem bumpSat_gens (s : State) (a lo n : Nat) : (s.bumpSat a lo n).gens = s.gens := setFld_gens s a lo n _
@[simp] theorem bumpSat_free (s : State) (a lo n : Nat) : (s.bumpSat a lo n).free = s.free := setFld_free s a lo n _
@[simp] theorem bumpSat_draws (s : State) (a lo n : Nat) : (s.bumpSat a lo n).draws = s.draws := setFld_draws s a lo n _
@[simp] theorem bumpSat_tim (s : State) (a lo n : Nat) : (s.bumpSat a lo n).tim = s.tim := setFld_tim s a lo n _
@[simp] theorem bumpSat_gau (s : State) (a lo n : Nat) : (s.bumpSat a lo n).gau = s.gau := setFld_gau s a lo n _
@[simp] theorem bumpSat_link (s : State) (a lo n : Nat) : (s.bumpSat a lo n).link = s.link := setFld_link s a lo n _
@[simp] theorem bumpSat_swp (s : State) (a lo n : Nat) : (s.bumpSat a lo n).swp = s.swp := setFld_swp s a lo n _
@[simp] theorem bumpSat_sns (s : State) (a lo n : Nat) : (s.bumpSat a lo n).sns = s.sns := setFld_sns s a lo n _
@[simp] theorem bumpSat_est (s : State) (a lo n : Nat) : (s.bumpSat a lo n).est = s.est := setFld_est s a lo n _
@[simp] theorem bumpSat_ctl (s : State) (a lo n : Nat) : (s.bumpSat a lo n).ctl = s.ctl := setFld_ctl s a lo n _
@[simp] theorem bumpSat_frm (s : State) (a lo n : Nat) : (s.bumpSat a lo n).frm = s.frm := setFld_frm s a lo n _
@[simp] theorem bumpSat_saf (s : State) (a lo n : Nat) : (s.bumpSat a lo n).saf = s.saf := setFld_saf s a lo n _
@[simp] theorem bumpSat_pair (s : State) (a lo n : Nat) : (s.bumpSat a lo n).pair = s.pair := setFld_pair s a lo n _
@[simp] theorem bumpSat_mbx (s : State) (a lo n : Nat) : (s.bumpSat a lo n).mbx = s.mbx := setFld_mbx s a lo n _
@[simp] theorem bumpSat_can0 (s : State) (a lo n : Nat) : (s.bumpSat a lo n).can0 = s.can0 := setFld_can0 s a lo n _
@[simp] theorem bumpSat_can1 (s : State) (a lo n : Nat) : (s.bumpSat a lo n).can1 = s.can1 := setFld_can1 s a lo n _
@[simp] theorem bumpSat_filters (s : State) (a lo n : Nat) : (s.bumpSat a lo n).filters = s.filters := setFld_filters s a lo n _
@[simp] theorem bumpSat_eth (s : State) (a lo n : Nat) : (s.bumpSat a lo n).eth = s.eth := setFld_eth s a lo n _
@[simp] theorem bumpSat_dsp (s : State) (a lo n : Nat) : (s.bumpSat a lo n).dsp = s.dsp := setFld_dsp s a lo n _
@[simp] theorem bumpSat_recd (s : State) (a lo n : Nat) : (s.bumpSat a lo n).recd = s.recd := setFld_recd s a lo n _
@[simp] theorem bumpSat_clock (s : State) (a lo n : Nat) : (s.bumpSat a lo n).clock = s.clock := setFld_clock s a lo n _
@[simp] theorem bumpSat_rst (s : State) (a lo n : Nat) : (s.bumpSat a lo n).rst = s.rst := setFld_rst s a lo n _
@[simp] theorem bumpSat_gpio (s : State) (a lo n : Nat) : (s.bumpSat a lo n).gpio = s.gpio := setFld_gpio s a lo n _
@[simp] theorem bumpSat_upd (s : State) (a lo n : Nat) : (s.bumpSat a lo n).upd = s.upd := setFld_upd s a lo n _
@[simp] theorem bumpSat_nv (s : State) (a lo n : Nat) : (s.bumpSat a lo n).nv = s.nv := setFld_nv s a lo n _

/-! ### `setClk` -/

@[simp] theorem setClk_pending (s : State) (n t : Nat) : (s.setClk n t).pending = s.pending := upd_tim_pending s _
@[simp] theorem setClk_regs (s : State) (n t : Nat) : (s.setClk n t).regs = s.regs := upd_tim_regs s _
@[simp] theorem setClk_snaps (s : State) (n t : Nat) : (s.setClk n t).snaps = s.snaps := upd_tim_snaps s _
@[simp] theorem setClk_busData (s : State) (n t : Nat) : (s.setClk n t).busData = s.busData := upd_tim_busData s _
@[simp] theorem setClk_busHi (s : State) (n t : Nat) : (s.setClk n t).busHi = s.busHi := upd_tim_busHi s _
@[simp] theorem setClk_busErr (s : State) (n t : Nat) : (s.setClk n t).busErr = s.busErr := upd_tim_busErr s _
@[simp] theorem setClk_dmaErr (s : State) (n t : Nat) : (s.setClk n t).dmaErr = s.dmaErr := upd_tim_dmaErr s _
@[simp] theorem setClk_mem (s : State) (n t : Nat) : (s.setClk n t).mem = s.mem := upd_tim_mem s _
@[simp] theorem setClk_gens (s : State) (n t : Nat) : (s.setClk n t).gens = s.gens := upd_tim_gens s _
@[simp] theorem setClk_free (s : State) (n t : Nat) : (s.setClk n t).free = s.free := upd_tim_free s _
@[simp] theorem setClk_draws (s : State) (n t : Nat) : (s.setClk n t).draws = s.draws := upd_tim_draws s _
@[simp] theorem setClk_gau (s : State) (n t : Nat) : (s.setClk n t).gau = s.gau := upd_tim_gau s _
@[simp] theorem setClk_link (s : State) (n t : Nat) : (s.setClk n t).link = s.link := upd_tim_link s _
@[simp] theorem setClk_swp (s : State) (n t : Nat) : (s.setClk n t).swp = s.swp := upd_tim_swp s _
@[simp] theorem setClk_sns (s : State) (n t : Nat) : (s.setClk n t).sns = s.sns := upd_tim_sns s _
@[simp] theorem setClk_est (s : State) (n t : Nat) : (s.setClk n t).est = s.est := upd_tim_est s _
@[simp] theorem setClk_ctl (s : State) (n t : Nat) : (s.setClk n t).ctl = s.ctl := upd_tim_ctl s _
@[simp] theorem setClk_frm (s : State) (n t : Nat) : (s.setClk n t).frm = s.frm := upd_tim_frm s _
@[simp] theorem setClk_saf (s : State) (n t : Nat) : (s.setClk n t).saf = s.saf := upd_tim_saf s _
@[simp] theorem setClk_pair (s : State) (n t : Nat) : (s.setClk n t).pair = s.pair := upd_tim_pair s _
@[simp] theorem setClk_mbx (s : State) (n t : Nat) : (s.setClk n t).mbx = s.mbx := upd_tim_mbx s _
@[simp] theorem setClk_can0 (s : State) (n t : Nat) : (s.setClk n t).can0 = s.can0 := upd_tim_can0 s _
@[simp] theorem setClk_can1 (s : State) (n t : Nat) : (s.setClk n t).can1 = s.can1 := upd_tim_can1 s _
@[simp] theorem setClk_filters (s : State) (n t : Nat) : (s.setClk n t).filters = s.filters := upd_tim_filters s _
@[simp] theorem setClk_eth (s : State) (n t : Nat) : (s.setClk n t).eth = s.eth := upd_tim_eth s _
@[simp] theorem setClk_dsp (s : State) (n t : Nat) : (s.setClk n t).dsp = s.dsp := upd_tim_dsp s _
@[simp] theorem setClk_recd (s : State) (n t : Nat) : (s.setClk n t).recd = s.recd := upd_tim_recd s _
@[simp] theorem setClk_clock (s : State) (n t : Nat) : (s.setClk n t).clock = s.clock := upd_tim_clock s _
@[simp] theorem setClk_rst (s : State) (n t : Nat) : (s.setClk n t).rst = s.rst := upd_tim_rst s _
@[simp] theorem setClk_gpio (s : State) (n t : Nat) : (s.setClk n t).gpio = s.gpio := upd_tim_gpio s _
@[simp] theorem setClk_upd (s : State) (n t : Nat) : (s.setClk n t).upd = s.upd := upd_tim_upd s _
@[simp] theorem setClk_nv (s : State) (n t : Nat) : (s.setClk n t).nv = s.nv := upd_tim_nv s _

/-! ### `arrive` -/

@[simp] theorem arrive_pending (s : State) (k c v m : Nat) (d : List Word) : (s.arrive k c v m d).pending = s.pending := upd_recd_pending s _
@[simp] theorem arrive_regs (s : State) (k c v m : Nat) (d : List Word) : (s.arrive k c v m d).regs = s.regs := upd_recd_regs s _
@[simp] theorem arrive_snaps (s : State) (k c v m : Nat) (d : List Word) : (s.arrive k c v m d).snaps = s.snaps := upd_recd_snaps s _
@[simp] theorem arrive_busData (s : State) (k c v m : Nat) (d : List Word) : (s.arrive k c v m d).busData = s.busData := upd_recd_busData s _
@[simp] theorem arrive_busHi (s : State) (k c v m : Nat) (d : List Word) : (s.arrive k c v m d).busHi = s.busHi := upd_recd_busHi s _
@[simp] theorem arrive_busErr (s : State) (k c v m : Nat) (d : List Word) : (s.arrive k c v m d).busErr = s.busErr := upd_recd_busErr s _
@[simp] theorem arrive_dmaErr (s : State) (k c v m : Nat) (d : List Word) : (s.arrive k c v m d).dmaErr = s.dmaErr := upd_recd_dmaErr s _
@[simp] theorem arrive_mem (s : State) (k c v m : Nat) (d : List Word) : (s.arrive k c v m d).mem = s.mem := upd_recd_mem s _
@[simp] theorem arrive_gens (s : State) (k c v m : Nat) (d : List Word) : (s.arrive k c v m d).gens = s.gens := upd_recd_gens s _
@[simp] theorem arrive_free (s : State) (k c v m : Nat) (d : List Word) : (s.arrive k c v m d).free = s.free := upd_recd_free s _
@[simp] theorem arrive_draws (s : State) (k c v m : Nat) (d : List Word) : (s.arrive k c v m d).draws = s.draws := upd_recd_draws s _
@[simp] theorem arrive_tim (s : State) (k c v m : Nat) (d : List Word) : (s.arrive k c v m d).tim = s.tim := upd_recd_tim s _
@[simp] theorem arrive_gau (s : State) (k c v m : Nat) (d : List Word) : (s.arrive k c v m d).gau = s.gau := upd_recd_gau s _
@[simp] theorem arrive_link (s : State) (k c v m : Nat) (d : List Word) : (s.arrive k c v m d).link = s.link := upd_recd_link s _
@[simp] theorem arrive_swp (s : State) (k c v m : Nat) (d : List Word) : (s.arrive k c v m d).swp = s.swp := upd_recd_swp s _
@[simp] theorem arrive_sns (s : State) (k c v m : Nat) (d : List Word) : (s.arrive k c v m d).sns = s.sns := upd_recd_sns s _
@[simp] theorem arrive_est (s : State) (k c v m : Nat) (d : List Word) : (s.arrive k c v m d).est = s.est := upd_recd_est s _
@[simp] theorem arrive_ctl (s : State) (k c v m : Nat) (d : List Word) : (s.arrive k c v m d).ctl = s.ctl := upd_recd_ctl s _
@[simp] theorem arrive_frm (s : State) (k c v m : Nat) (d : List Word) : (s.arrive k c v m d).frm = s.frm := upd_recd_frm s _
@[simp] theorem arrive_saf (s : State) (k c v m : Nat) (d : List Word) : (s.arrive k c v m d).saf = s.saf := upd_recd_saf s _
@[simp] theorem arrive_pair (s : State) (k c v m : Nat) (d : List Word) : (s.arrive k c v m d).pair = s.pair := upd_recd_pair s _
@[simp] theorem arrive_mbx (s : State) (k c v m : Nat) (d : List Word) : (s.arrive k c v m d).mbx = s.mbx := upd_recd_mbx s _
@[simp] theorem arrive_can0 (s : State) (k c v m : Nat) (d : List Word) : (s.arrive k c v m d).can0 = s.can0 := upd_recd_can0 s _
@[simp] theorem arrive_can1 (s : State) (k c v m : Nat) (d : List Word) : (s.arrive k c v m d).can1 = s.can1 := upd_recd_can1 s _
@[simp] theorem arrive_filters (s : State) (k c v m : Nat) (d : List Word) : (s.arrive k c v m d).filters = s.filters := upd_recd_filters s _
@[simp] theorem arrive_eth (s : State) (k c v m : Nat) (d : List Word) : (s.arrive k c v m d).eth = s.eth := upd_recd_eth s _
@[simp] theorem arrive_dsp (s : State) (k c v m : Nat) (d : List Word) : (s.arrive k c v m d).dsp = s.dsp := upd_recd_dsp s _
@[simp] theorem arrive_clock (s : State) (k c v m : Nat) (d : List Word) : (s.arrive k c v m d).clock = s.clock := upd_recd_clock s _
@[simp] theorem arrive_rst (s : State) (k c v m : Nat) (d : List Word) : (s.arrive k c v m d).rst = s.rst := upd_recd_rst s _
@[simp] theorem arrive_gpio (s : State) (k c v m : Nat) (d : List Word) : (s.arrive k c v m d).gpio = s.gpio := upd_recd_gpio s _
@[simp] theorem arrive_upd (s : State) (k c v m : Nat) (d : List Word) : (s.arrive k c v m d).upd = s.upd := upd_recd_upd s _
@[simp] theorem arrive_nv (s : State) (k c v m : Nat) (d : List Word) : (s.arrive k c v m d).nv = s.nv := upd_recd_nv s _

/-! ### `fixedEvent` -/

@[simp] theorem fixedEvent_pending (s : State) (c : Nat) (d : List Word) : (s.fixedEvent c d).pending = s.pending := arrive_pending s _ _ _ _ _
@[simp] theorem fixedEvent_regs (s : State) (c : Nat) (d : List Word) : (s.fixedEvent c d).regs = s.regs := arrive_regs s _ _ _ _ _
@[simp] theorem fixedEvent_snaps (s : State) (c : Nat) (d : List Word) : (s.fixedEvent c d).snaps = s.snaps := arrive_snaps s _ _ _ _ _
@[simp] theorem fixedEvent_busData (s : State) (c : Nat) (d : List Word) : (s.fixedEvent c d).busData = s.busData := arrive_busData s _ _ _ _ _
@[simp] theorem fixedEvent_busHi (s : State) (c : Nat) (d : List Word) : (s.fixedEvent c d).busHi = s.busHi := arrive_busHi s _ _ _ _ _
@[simp] theorem fixedEvent_busErr (s : State) (c : Nat) (d : List Word) : (s.fixedEvent c d).busErr = s.busErr := arrive_busErr s _ _ _ _ _
@[simp] theorem fixedEvent_dmaErr (s : State) (c : Nat) (d : List Word) : (s.fixedEvent c d).dmaErr = s.dmaErr := arrive_dmaErr s _ _ _ _ _
@[simp] theorem fixedEvent_mem (s : State) (c : Nat) (d : List Word) : (s.fixedEvent c d).mem = s.mem := arrive_mem s _ _ _ _ _
@[simp] theorem fixedEvent_gens (s : State) (c : Nat) (d : List Word) : (s.fixedEvent c d).gens = s.gens := arrive_gens s _ _ _ _ _
@[simp] theorem fixedEvent_free (s : State) (c : Nat) (d : List Word) : (s.fixedEvent c d).free = s.free := arrive_free s _ _ _ _ _
@[simp] theorem fixedEvent_draws (s : State) (c : Nat) (d : List Word) : (s.fixedEvent c d).draws = s.draws := arrive_draws s _ _ _ _ _
@[simp] theorem fixedEvent_tim (s : State) (c : Nat) (d : List Word) : (s.fixedEvent c d).tim = s.tim := arrive_tim s _ _ _ _ _
@[simp] theorem fixedEvent_gau (s : State) (c : Nat) (d : List Word) : (s.fixedEvent c d).gau = s.gau := arrive_gau s _ _ _ _ _
@[simp] theorem fixedEvent_link (s : State) (c : Nat) (d : List Word) : (s.fixedEvent c d).link = s.link := arrive_link s _ _ _ _ _
@[simp] theorem fixedEvent_swp (s : State) (c : Nat) (d : List Word) : (s.fixedEvent c d).swp = s.swp := arrive_swp s _ _ _ _ _
@[simp] theorem fixedEvent_sns (s : State) (c : Nat) (d : List Word) : (s.fixedEvent c d).sns = s.sns := arrive_sns s _ _ _ _ _
@[simp] theorem fixedEvent_est (s : State) (c : Nat) (d : List Word) : (s.fixedEvent c d).est = s.est := arrive_est s _ _ _ _ _
@[simp] theorem fixedEvent_ctl (s : State) (c : Nat) (d : List Word) : (s.fixedEvent c d).ctl = s.ctl := arrive_ctl s _ _ _ _ _
@[simp] theorem fixedEvent_frm (s : State) (c : Nat) (d : List Word) : (s.fixedEvent c d).frm = s.frm := arrive_frm s _ _ _ _ _
@[simp] theorem fixedEvent_saf (s : State) (c : Nat) (d : List Word) : (s.fixedEvent c d).saf = s.saf := arrive_saf s _ _ _ _ _
@[simp] theorem fixedEvent_pair (s : State) (c : Nat) (d : List Word) : (s.fixedEvent c d).pair = s.pair := arrive_pair s _ _ _ _ _
@[simp] theorem fixedEvent_mbx (s : State) (c : Nat) (d : List Word) : (s.fixedEvent c d).mbx = s.mbx := arrive_mbx s _ _ _ _ _
@[simp] theorem fixedEvent_can0 (s : State) (c : Nat) (d : List Word) : (s.fixedEvent c d).can0 = s.can0 := arrive_can0 s _ _ _ _ _
@[simp] theorem fixedEvent_can1 (s : State) (c : Nat) (d : List Word) : (s.fixedEvent c d).can1 = s.can1 := arrive_can1 s _ _ _ _ _
@[simp] theorem fixedEvent_filters (s : State) (c : Nat) (d : List Word) : (s.fixedEvent c d).filters = s.filters := arrive_filters s _ _ _ _ _
@[simp] theorem fixedEvent_eth (s : State) (c : Nat) (d : List Word) : (s.fixedEvent c d).eth = s.eth := arrive_eth s _ _ _ _ _
@[simp] theorem fixedEvent_dsp (s : State) (c : Nat) (d : List Word) : (s.fixedEvent c d).dsp = s.dsp := arrive_dsp s _ _ _ _ _
@[simp] theorem fixedEvent_clock (s : State) (c : Nat) (d : List Word) : (s.fixedEvent c d).clock = s.clock := arrive_clock s _ _ _ _ _
@[simp] theorem fixedEvent_rst (s : State) (c : Nat) (d : List Word) : (s.fixedEvent c d).rst = s.rst := arrive_rst s _ _ _ _ _
@[simp] theorem fixedEvent_gpio (s : State) (c : Nat) (d : List Word) : (s.fixedEvent c d).gpio = s.gpio := arrive_gpio s _ _ _ _ _
@[simp] theorem fixedEvent_upd (s : State) (c : Nat) (d : List Word) : (s.fixedEvent c d).upd = s.upd := arrive_upd s _ _ _ _ _
@[simp] theorem fixedEvent_nv (s : State) (c : Nat) (d : List Word) : (s.fixedEvent c d).nv = s.nv := arrive_nv s _ _ _ _ _

/-! ### `err` -/

@[simp] theorem err_pending (s : State) (m : Mid) (a : Nat) (e : ErrCode) : (s.err m a e).pending = s.pending := wr_pending s _ _
@[simp] theorem err_snaps (s : State) (m : Mid) (a : Nat) (e : ErrCode) : (s.err m a e).snaps = s.snaps := wr_snaps s _ _
@[simp] theorem err_busData (s : State) (m : Mid) (a : Nat) (e : ErrCode) : (s.err m a e).busData = s.busData := wr_busData s _ _
@[simp] theorem err_busHi (s : State) (m : Mid) (a : Nat) (e : ErrCode) : (s.err m a e).busHi = s.busHi := wr_busHi s _ _
@[simp] theorem err_busErr (s : State) (m : Mid) (a : Nat) (e : ErrCode) : (s.err m a e).busErr = s.busErr := wr_busErr s _ _
@[simp] theorem err_dmaErr (s : State) (m : Mid) (a : Nat) (e : ErrCode) : (s.err m a e).dmaErr = s.dmaErr := wr_dmaErr s _ _
@[simp] theorem err_mem (s : State) (m : Mid) (a : Nat) (e : ErrCode) : (s.err m a e).mem = s.mem := wr_mem s _ _
@[simp] theorem err_gens (s : State) (m : Mid) (a : Nat) (e : ErrCode) : (s.err m a e).gens = s.gens := wr_gens s _ _
@[simp] theorem err_free (s : State) (m : Mid) (a : Nat) (e : ErrCode) : (s.err m a e).free = s.free := wr_free s _ _
@[simp] theorem err_draws (s : State) (m : Mid) (a : Nat) (e : ErrCode) : (s.err m a e).draws = s.draws := wr_draws s _ _
@[simp] theorem err_tim (s : State) (m : Mid) (a : Nat) (e : ErrCode) : (s.err m a e).tim = s.tim := wr_tim s _ _
@[simp] theorem err_gau (s : State) (m : Mid) (a : Nat) (e : ErrCode) : (s.err m a e).gau = s.gau := wr_gau s _ _
@[simp] theorem err_link (s : State) (m : Mid) (a : Nat) (e : ErrCode) : (s.err m a e).link = s.link := wr_link s _ _
@[simp] theorem err_swp (s : State) (m : Mid) (a : Nat) (e : ErrCode) : (s.err m a e).swp = s.swp := wr_swp s _ _
@[simp] theorem err_sns (s : State) (m : Mid) (a : Nat) (e : ErrCode) : (s.err m a e).sns = s.sns := wr_sns s _ _
@[simp] theorem err_est (s : State) (m : Mid) (a : Nat) (e : ErrCode) : (s.err m a e).est = s.est := wr_est s _ _
@[simp] theorem err_ctl (s : State) (m : Mid) (a : Nat) (e : ErrCode) : (s.err m a e).ctl = s.ctl := wr_ctl s _ _
@[simp] theorem err_frm (s : State) (m : Mid) (a : Nat) (e : ErrCode) : (s.err m a e).frm = s.frm := wr_frm s _ _
@[simp] theorem err_saf (s : State) (m : Mid) (a : Nat) (e : ErrCode) : (s.err m a e).saf = s.saf := wr_saf s _ _
@[simp] theorem err_pair (s : State) (m : Mid) (a : Nat) (e : ErrCode) : (s.err m a e).pair = s.pair := wr_pair s _ _
@[simp] theorem err_mbx (s : State) (m : Mid) (a : Nat) (e : ErrCode) : (s.err m a e).mbx = s.mbx := wr_mbx s _ _
@[simp] theorem err_can0 (s : State) (m : Mid) (a : Nat) (e : ErrCode) : (s.err m a e).can0 = s.can0 := wr_can0 s _ _
@[simp] theorem err_can1 (s : State) (m : Mid) (a : Nat) (e : ErrCode) : (s.err m a e).can1 = s.can1 := wr_can1 s _ _
@[simp] theorem err_filters (s : State) (m : Mid) (a : Nat) (e : ErrCode) : (s.err m a e).filters = s.filters := wr_filters s _ _
@[simp] theorem err_eth (s : State) (m : Mid) (a : Nat) (e : ErrCode) : (s.err m a e).eth = s.eth := wr_eth s _ _
@[simp] theorem err_dsp (s : State) (m : Mid) (a : Nat) (e : ErrCode) : (s.err m a e).dsp = s.dsp := wr_dsp s _ _
@[simp] theorem err_recd (s : State) (m : Mid) (a : Nat) (e : ErrCode) : (s.err m a e).recd = s.recd := wr_recd s _ _
@[simp] theorem err_clock (s : State) (m : Mid) (a : Nat) (e : ErrCode) : (s.err m a e).clock = s.clock := wr_clock s _ _
@[simp] theorem err_rst (s : State) (m : Mid) (a : Nat) (e : ErrCode) : (s.err m a e).rst = s.rst := wr_rst s _ _
@[simp] theorem err_gpio (s : State) (m : Mid) (a : Nat) (e : ErrCode) : (s.err m a e).gpio = s.gpio := wr_gpio s _ _
@[simp] theorem err_upd (s : State) (m : Mid) (a : Nat) (e : ErrCode) : (s.err m a e).upd = s.upd := wr_upd s _ _
@[simp] theorem err_nv (s : State) (m : Mid) (a : Nat) (e : ErrCode) : (s.err m a e).nv = s.nv := wr_nv s _ _

/-! ### `newGen` -/

@[simp] theorem newGen_pending (s : State) (c : HClass) (i : Nat) : (s.newGen c i).pending = s.pending := upd_gens_pending s _
@[simp] theorem newGen_regs (s : State) (c : HClass) (i : Nat) : (s.newGen c i).regs = s.regs := upd_gens_regs s _
@[simp] theorem newGen_snaps (s : State) (c : HClass) (i : Nat) : (s.newGen c i).snaps = s.snaps := upd_gens_snaps s _
@[simp] theorem newGen_busData (s : State) (c : HClass) (i : Nat) : (s.newGen c i).busData = s.busData := upd_gens_busData s _
@[simp] theorem newGen_busHi (s : State) (c : HClass) (i : Nat) : (s.newGen c i).busHi = s.busHi := upd_gens_busHi s _
@[simp] theorem newGen_busErr (s : State) (c : HClass) (i : Nat) : (s.newGen c i).busErr = s.busErr := upd_gens_busErr s _
@[simp] theorem newGen_dmaErr (s : State) (c : HClass) (i : Nat) : (s.newGen c i).dmaErr = s.dmaErr := upd_gens_dmaErr s _
@[simp] theorem newGen_mem (s : State) (c : HClass) (i : Nat) : (s.newGen c i).mem = s.mem := upd_gens_mem s _
@[simp] theorem newGen_free (s : State) (c : HClass) (i : Nat) : (s.newGen c i).free = s.free := upd_gens_free s _
@[simp] theorem newGen_draws (s : State) (c : HClass) (i : Nat) : (s.newGen c i).draws = s.draws := upd_gens_draws s _
@[simp] theorem newGen_tim (s : State) (c : HClass) (i : Nat) : (s.newGen c i).tim = s.tim := upd_gens_tim s _
@[simp] theorem newGen_gau (s : State) (c : HClass) (i : Nat) : (s.newGen c i).gau = s.gau := upd_gens_gau s _
@[simp] theorem newGen_link (s : State) (c : HClass) (i : Nat) : (s.newGen c i).link = s.link := upd_gens_link s _
@[simp] theorem newGen_swp (s : State) (c : HClass) (i : Nat) : (s.newGen c i).swp = s.swp := upd_gens_swp s _
@[simp] theorem newGen_sns (s : State) (c : HClass) (i : Nat) : (s.newGen c i).sns = s.sns := upd_gens_sns s _
@[simp] theorem newGen_est (s : State) (c : HClass) (i : Nat) : (s.newGen c i).est = s.est := upd_gens_est s _
@[simp] theorem newGen_ctl (s : State) (c : HClass) (i : Nat) : (s.newGen c i).ctl = s.ctl := upd_gens_ctl s _
@[simp] theorem newGen_frm (s : State) (c : HClass) (i : Nat) : (s.newGen c i).frm = s.frm := upd_gens_frm s _
@[simp] theorem newGen_saf (s : State) (c : HClass) (i : Nat) : (s.newGen c i).saf = s.saf := upd_gens_saf s _
@[simp] theorem newGen_pair (s : State) (c : HClass) (i : Nat) : (s.newGen c i).pair = s.pair := upd_gens_pair s _
@[simp] theorem newGen_mbx (s : State) (c : HClass) (i : Nat) : (s.newGen c i).mbx = s.mbx := upd_gens_mbx s _
@[simp] theorem newGen_can0 (s : State) (c : HClass) (i : Nat) : (s.newGen c i).can0 = s.can0 := upd_gens_can0 s _
@[simp] theorem newGen_can1 (s : State) (c : HClass) (i : Nat) : (s.newGen c i).can1 = s.can1 := upd_gens_can1 s _
@[simp] theorem newGen_filters (s : State) (c : HClass) (i : Nat) : (s.newGen c i).filters = s.filters := upd_gens_filters s _
@[simp] theorem newGen_eth (s : State) (c : HClass) (i : Nat) : (s.newGen c i).eth = s.eth := upd_gens_eth s _
@[simp] theorem newGen_dsp (s : State) (c : HClass) (i : Nat) : (s.newGen c i).dsp = s.dsp := upd_gens_dsp s _
@[simp] theorem newGen_recd (s : State) (c : HClass) (i : Nat) : (s.newGen c i).recd = s.recd := upd_gens_recd s _
@[simp] theorem newGen_clock (s : State) (c : HClass) (i : Nat) : (s.newGen c i).clock = s.clock := upd_gens_clock s _
@[simp] theorem newGen_rst (s : State) (c : HClass) (i : Nat) : (s.newGen c i).rst = s.rst := upd_gens_rst s _
@[simp] theorem newGen_gpio (s : State) (c : HClass) (i : Nat) : (s.newGen c i).gpio = s.gpio := upd_gens_gpio s _
@[simp] theorem newGen_upd (s : State) (c : HClass) (i : Nat) : (s.newGen c i).upd = s.upd := upd_gens_upd s _
@[simp] theorem newGen_nv (s : State) (c : HClass) (i : Nat) : (s.newGen c i).nv = s.nv := upd_gens_nv s _

/-! ### `writeByte` -/

@[simp] theorem writeByte_pending (s : State) (a : Nat) (b : Byte) : (s.writeByte a b).pending = s.pending := upd_mem_pending s _
@[simp] theorem writeByte_regs (s : State) (a : Nat) (b : Byte) : (s.writeByte a b).regs = s.regs := upd_mem_regs s _
@[simp] theorem writeByte_snaps (s : State) (a : Nat) (b : Byte) : (s.writeByte a b).snaps = s.snaps := upd_mem_snaps s _
@[simp] theorem writeByte_busData (s : State) (a : Nat) (b : Byte) : (s.writeByte a b).busData = s.busData := upd_mem_busData s _
@[simp] theorem writeByte_busHi (s : State) (a : Nat) (b : Byte) : (s.writeByte a b).busHi = s.busHi := upd_mem_busHi s _
@[simp] theorem writeByte_busErr (s : State) (a : Nat) (b : Byte) : (s.writeByte a b).busErr = s.busErr := upd_mem_busErr s _
@[simp] theorem writeByte_dmaErr (s : State) (a : Nat) (b : Byte) : (s.writeByte a b).dmaErr = s.dmaErr := upd_mem_dmaErr s _
@[simp] theorem writeByte_gens (s : State) (a : Nat) (b : Byte) : (s.writeByte a b).gens = s.gens := upd_mem_gens s _
@[simp] theorem writeByte_free (s : State) (a : Nat) (b : Byte) : (s.writeByte a b).free = s.free := upd_mem_free s _
@[simp] theorem writeByte_draws (s : State) (a : Nat) (b : Byte) : (s.writeByte a b).draws = s.draws := upd_mem_draws s _
@[simp] theorem writeByte_tim (s : State) (a : Nat) (b : Byte) : (s.writeByte a b).tim = s.tim := upd_mem_tim s _
@[simp] theorem writeByte_gau (s : State) (a : Nat) (b : Byte) : (s.writeByte a b).gau = s.gau := upd_mem_gau s _
@[simp] theorem writeByte_link (s : State) (a : Nat) (b : Byte) : (s.writeByte a b).link = s.link := upd_mem_link s _
@[simp] theorem writeByte_swp (s : State) (a : Nat) (b : Byte) : (s.writeByte a b).swp = s.swp := upd_mem_swp s _
@[simp] theorem writeByte_sns (s : State) (a : Nat) (b : Byte) : (s.writeByte a b).sns = s.sns := upd_mem_sns s _
@[simp] theorem writeByte_est (s : State) (a : Nat) (b : Byte) : (s.writeByte a b).est = s.est := upd_mem_est s _
@[simp] theorem writeByte_ctl (s : State) (a : Nat) (b : Byte) : (s.writeByte a b).ctl = s.ctl := upd_mem_ctl s _
@[simp] theorem writeByte_frm (s : State) (a : Nat) (b : Byte) : (s.writeByte a b).frm = s.frm := upd_mem_frm s _
@[simp] theorem writeByte_saf (s : State) (a : Nat) (b : Byte) : (s.writeByte a b).saf = s.saf := upd_mem_saf s _
@[simp] theorem writeByte_pair (s : State) (a : Nat) (b : Byte) : (s.writeByte a b).pair = s.pair := upd_mem_pair s _
@[simp] theorem writeByte_mbx (s : State) (a : Nat) (b : Byte) : (s.writeByte a b).mbx = s.mbx := upd_mem_mbx s _
@[simp] theorem writeByte_can0 (s : State) (a : Nat) (b : Byte) : (s.writeByte a b).can0 = s.can0 := upd_mem_can0 s _
@[simp] theorem writeByte_can1 (s : State) (a : Nat) (b : Byte) : (s.writeByte a b).can1 = s.can1 := upd_mem_can1 s _
@[simp] theorem writeByte_filters (s : State) (a : Nat) (b : Byte) : (s.writeByte a b).filters = s.filters := upd_mem_filters s _
@[simp] theorem writeByte_eth (s : State) (a : Nat) (b : Byte) : (s.writeByte a b).eth = s.eth := upd_mem_eth s _
@[simp] theorem writeByte_dsp (s : State) (a : Nat) (b : Byte) : (s.writeByte a b).dsp = s.dsp := upd_mem_dsp s _
@[simp] theorem writeByte_recd (s : State) (a : Nat) (b : Byte) : (s.writeByte a b).recd = s.recd := upd_mem_recd s _
@[simp] theorem writeByte_clock (s : State) (a : Nat) (b : Byte) : (s.writeByte a b).clock = s.clock := upd_mem_clock s _
@[simp] theorem writeByte_rst (s : State) (a : Nat) (b : Byte) : (s.writeByte a b).rst = s.rst := upd_mem_rst s _
@[simp] theorem writeByte_gpio (s : State) (a : Nat) (b : Byte) : (s.writeByte a b).gpio = s.gpio := upd_mem_gpio s _
@[simp] theorem writeByte_upd (s : State) (a : Nat) (b : Byte) : (s.writeByte a b).upd = s.upd := upd_mem_upd s _
@[simp] theorem writeByte_nv (s : State) (a : Nat) (b : Byte) : (s.writeByte a b).nv = s.nv := upd_mem_nv s _

/-! ### `drawFree` -/

@[simp] theorem drawFree_pending (s : State) : (s.drawFree).pending = s.pending := upd_free_pending s _
@[simp] theorem drawFree_regs (s : State) : (s.drawFree).regs = s.regs := upd_free_regs s _
@[simp] theorem drawFree_snaps (s : State) : (s.drawFree).snaps = s.snaps := upd_free_snaps s _
@[simp] theorem drawFree_busData (s : State) : (s.drawFree).busData = s.busData := upd_free_busData s _
@[simp] theorem drawFree_busHi (s : State) : (s.drawFree).busHi = s.busHi := upd_free_busHi s _
@[simp] theorem drawFree_busErr (s : State) : (s.drawFree).busErr = s.busErr := upd_free_busErr s _
@[simp] theorem drawFree_dmaErr (s : State) : (s.drawFree).dmaErr = s.dmaErr := upd_free_dmaErr s _
@[simp] theorem drawFree_mem (s : State) : (s.drawFree).mem = s.mem := upd_free_mem s _
@[simp] theorem drawFree_gens (s : State) : (s.drawFree).gens = s.gens := upd_free_gens s _
@[simp] theorem drawFree_draws (s : State) : (s.drawFree).draws = s.draws := upd_free_draws s _
@[simp] theorem drawFree_tim (s : State) : (s.drawFree).tim = s.tim := upd_free_tim s _
@[simp] theorem drawFree_gau (s : State) : (s.drawFree).gau = s.gau := upd_free_gau s _
@[simp] theorem drawFree_link (s : State) : (s.drawFree).link = s.link := upd_free_link s _
@[simp] theorem drawFree_swp (s : State) : (s.drawFree).swp = s.swp := upd_free_swp s _
@[simp] theorem drawFree_sns (s : State) : (s.drawFree).sns = s.sns := upd_free_sns s _
@[simp] theorem drawFree_est (s : State) : (s.drawFree).est = s.est := upd_free_est s _
@[simp] theorem drawFree_ctl (s : State) : (s.drawFree).ctl = s.ctl := upd_free_ctl s _
@[simp] theorem drawFree_frm (s : State) : (s.drawFree).frm = s.frm := upd_free_frm s _
@[simp] theorem drawFree_saf (s : State) : (s.drawFree).saf = s.saf := upd_free_saf s _
@[simp] theorem drawFree_pair (s : State) : (s.drawFree).pair = s.pair := upd_free_pair s _
@[simp] theorem drawFree_mbx (s : State) : (s.drawFree).mbx = s.mbx := upd_free_mbx s _
@[simp] theorem drawFree_can0 (s : State) : (s.drawFree).can0 = s.can0 := upd_free_can0 s _
@[simp] theorem drawFree_can1 (s : State) : (s.drawFree).can1 = s.can1 := upd_free_can1 s _
@[simp] theorem drawFree_filters (s : State) : (s.drawFree).filters = s.filters := upd_free_filters s _
@[simp] theorem drawFree_eth (s : State) : (s.drawFree).eth = s.eth := upd_free_eth s _
@[simp] theorem drawFree_dsp (s : State) : (s.drawFree).dsp = s.dsp := upd_free_dsp s _
@[simp] theorem drawFree_recd (s : State) : (s.drawFree).recd = s.recd := upd_free_recd s _
@[simp] theorem drawFree_clock (s : State) : (s.drawFree).clock = s.clock := upd_free_clock s _
@[simp] theorem drawFree_rst (s : State) : (s.drawFree).rst = s.rst := upd_free_rst s _
@[simp] theorem drawFree_gpio (s : State) : (s.drawFree).gpio = s.gpio := upd_free_gpio s _
@[simp] theorem drawFree_upd (s : State) : (s.drawFree).upd = s.upd := upd_free_upd s _
@[simp] theorem drawFree_nv (s : State) : (s.drawFree).nv = s.nv := upd_free_nv s _

/-! ### `activate` -/

@[simp] theorem activate_pending (s : State) (i g : Nat) : (s.activate i g).pending = s.pending := upd_saf_pending s _
@[simp] theorem activate_regs (s : State) (i g : Nat) : (s.activate i g).regs = s.regs := upd_saf_regs s _
@[simp] theorem activate_snaps (s : State) (i g : Nat) : (s.activate i g).snaps = s.snaps := upd_saf_snaps s _
@[simp] theorem activate_busData (s : State) (i g : Nat) : (s.activate i g).busData = s.busData := upd_saf_busData s _
@[simp] theorem activate_busHi (s : State) (i g : Nat) : (s.activate i g).busHi = s.busHi := upd_saf_busHi s _
@[simp] theorem activate_busErr (s : State) (i g : Nat) : (s.activate i g).busErr = s.busErr := upd_saf_busErr s _
@[simp] theorem activate_dmaErr (s : State) (i g : Nat) : (s.activate i g).dmaErr = s.dmaErr := upd_saf_dmaErr s _
@[simp] theorem activate_mem (s : State) (i g : Nat) : (s.activate i g).mem = s.mem := upd_saf_mem s _
@[simp] theorem activate_gens (s : State) (i g : Nat) : (s.activate i g).gens = s.gens := upd_saf_gens s _
@[simp] theorem activate_free (s : State) (i g : Nat) : (s.activate i g).free = s.free := upd_saf_free s _
@[simp] theorem activate_draws (s : State) (i g : Nat) : (s.activate i g).draws = s.draws := upd_saf_draws s _
@[simp] theorem activate_tim (s : State) (i g : Nat) : (s.activate i g).tim = s.tim := upd_saf_tim s _
@[simp] theorem activate_gau (s : State) (i g : Nat) : (s.activate i g).gau = s.gau := upd_saf_gau s _
@[simp] theorem activate_link (s : State) (i g : Nat) : (s.activate i g).link = s.link := upd_saf_link s _
@[simp] theorem activate_swp (s : State) (i g : Nat) : (s.activate i g).swp = s.swp := upd_saf_swp s _
@[simp] theorem activate_sns (s : State) (i g : Nat) : (s.activate i g).sns = s.sns := upd_saf_sns s _
@[simp] theorem activate_est (s : State) (i g : Nat) : (s.activate i g).est = s.est := upd_saf_est s _
@[simp] theorem activate_ctl (s : State) (i g : Nat) : (s.activate i g).ctl = s.ctl := upd_saf_ctl s _
@[simp] theorem activate_frm (s : State) (i g : Nat) : (s.activate i g).frm = s.frm := upd_saf_frm s _
@[simp] theorem activate_pair (s : State) (i g : Nat) : (s.activate i g).pair = s.pair := upd_saf_pair s _
@[simp] theorem activate_mbx (s : State) (i g : Nat) : (s.activate i g).mbx = s.mbx := upd_saf_mbx s _
@[simp] theorem activate_can0 (s : State) (i g : Nat) : (s.activate i g).can0 = s.can0 := upd_saf_can0 s _
@[simp] theorem activate_can1 (s : State) (i g : Nat) : (s.activate i g).can1 = s.can1 := upd_saf_can1 s _
@[simp] theorem activate_filters (s : State) (i g : Nat) : (s.activate i g).filters = s.filters := upd_saf_filters s _
@[simp] theorem activate_eth (s : State) (i g : Nat) : (s.activate i g).eth = s.eth := upd_saf_eth s _
@[simp] theorem activate_dsp (s : State) (i g : Nat) : (s.activate i g).dsp = s.dsp := upd_saf_dsp s _
@[simp] theorem activate_recd (s : State) (i g : Nat) : (s.activate i g).recd = s.recd := upd_saf_recd s _
@[simp] theorem activate_clock (s : State) (i g : Nat) : (s.activate i g).clock = s.clock := upd_saf_clock s _
@[simp] theorem activate_rst (s : State) (i g : Nat) : (s.activate i g).rst = s.rst := upd_saf_rst s _
@[simp] theorem activate_gpio (s : State) (i g : Nat) : (s.activate i g).gpio = s.gpio := upd_saf_gpio s _
@[simp] theorem activate_upd (s : State) (i g : Nat) : (s.activate i g).upd = s.upd := upd_saf_upd s _
@[simp] theorem activate_nv (s : State) (i g : Nat) : (s.activate i g).nv = s.nv := upd_saf_nv s _

/-! ### `quiet` -/

@[simp] theorem quiet_pending (s : State) (i g : Nat) : (s.quiet i g).pending = s.pending := upd_saf_pending s _
@[simp] theorem quiet_regs (s : State) (i g : Nat) : (s.quiet i g).regs = s.regs := upd_saf_regs s _
@[simp] theorem quiet_snaps (s : State) (i g : Nat) : (s.quiet i g).snaps = s.snaps := upd_saf_snaps s _
@[simp] theorem quiet_busData (s : State) (i g : Nat) : (s.quiet i g).busData = s.busData := upd_saf_busData s _
@[simp] theorem quiet_busHi (s : State) (i g : Nat) : (s.quiet i g).busHi = s.busHi := upd_saf_busHi s _
@[simp] theorem quiet_busErr (s : State) (i g : Nat) : (s.quiet i g).busErr = s.busErr := upd_saf_busErr s _
@[simp] theorem quiet_dmaErr (s : State) (i g : Nat) : (s.quiet i g).dmaErr = s.dmaErr := upd_saf_dmaErr s _
@[simp] theorem quiet_mem (s : State) (i g : Nat) : (s.quiet i g).mem = s.mem := upd_saf_mem s _
@[simp] theorem quiet_gens (s : State) (i g : Nat) : (s.quiet i g).gens = s.gens := upd_saf_gens s _
@[simp] theorem quiet_free (s : State) (i g : Nat) : (s.quiet i g).free = s.free := upd_saf_free s _
@[simp] theorem quiet_draws (s : State) (i g : Nat) : (s.quiet i g).draws = s.draws := upd_saf_draws s _
@[simp] theorem quiet_tim (s : State) (i g : Nat) : (s.quiet i g).tim = s.tim := upd_saf_tim s _
@[simp] theorem quiet_gau (s : State) (i g : Nat) : (s.quiet i g).gau = s.gau := upd_saf_gau s _
@[simp] theorem quiet_link (s : State) (i g : Nat) : (s.quiet i g).link = s.link := upd_saf_link s _
@[simp] theorem quiet_swp (s : State) (i g : Nat) : (s.quiet i g).swp = s.swp := upd_saf_swp s _
@[simp] theorem quiet_sns (s : State) (i g : Nat) : (s.quiet i g).sns = s.sns := upd_saf_sns s _
@[simp] theorem quiet_est (s : State) (i g : Nat) : (s.quiet i g).est = s.est := upd_saf_est s _
@[simp] theorem quiet_ctl (s : State) (i g : Nat) : (s.quiet i g).ctl = s.ctl := upd_saf_ctl s _
@[simp] theorem quiet_frm (s : State) (i g : Nat) : (s.quiet i g).frm = s.frm := upd_saf_frm s _
@[simp] theorem quiet_pair (s : State) (i g : Nat) : (s.quiet i g).pair = s.pair := upd_saf_pair s _
@[simp] theorem quiet_mbx (s : State) (i g : Nat) : (s.quiet i g).mbx = s.mbx := upd_saf_mbx s _
@[simp] theorem quiet_can0 (s : State) (i g : Nat) : (s.quiet i g).can0 = s.can0 := upd_saf_can0 s _
@[simp] theorem quiet_can1 (s : State) (i g : Nat) : (s.quiet i g).can1 = s.can1 := upd_saf_can1 s _
@[simp] theorem quiet_filters (s : State) (i g : Nat) : (s.quiet i g).filters = s.filters := upd_saf_filters s _
@[simp] theorem quiet_eth (s : State) (i g : Nat) : (s.quiet i g).eth = s.eth := upd_saf_eth s _
@[simp] theorem quiet_dsp (s : State) (i g : Nat) : (s.quiet i g).dsp = s.dsp := upd_saf_dsp s _
@[simp] theorem quiet_recd (s : State) (i g : Nat) : (s.quiet i g).recd = s.recd := upd_saf_recd s _
@[simp] theorem quiet_clock (s : State) (i g : Nat) : (s.quiet i g).clock = s.clock := upd_saf_clock s _
@[simp] theorem quiet_rst (s : State) (i g : Nat) : (s.quiet i g).rst = s.rst := upd_saf_rst s _
@[simp] theorem quiet_gpio (s : State) (i g : Nat) : (s.quiet i g).gpio = s.gpio := upd_saf_gpio s _
@[simp] theorem quiet_upd (s : State) (i g : Nat) : (s.quiet i g).upd = s.upd := upd_saf_upd s _
@[simp] theorem quiet_nv (s : State) (i g : Nat) : (s.quiet i g).nv = s.nv := upd_saf_nv s _

/-! ### Events -/

/-- All that an event touches: registers, the recorder's arrivals and the count of free values. -/
theorem eventBy_form (s : State) (m p b : Nat) : ∃ r d f, s.eventBy m p b = { s with regs := r, recd := d, free := f } := by
  show ∃ r d f, (s.evtNote p b).evtRise m p b = _
  unfold evtRise
  split
  · exact ⟨s.regs, _, s.free, rfl⟩
  · dsimp only
    split
    · exact ⟨_, _, _, rfl⟩
    · exact ⟨_, _, s.free, rfl⟩

@[simp] theorem eventBy_pending (s : State) (m p b : Nat) : (s.eventBy m p b).pending = s.pending := by
  obtain ⟨r, d, f, h⟩ := eventBy_form s m p b
  rw [h]
@[simp] theorem event_pending (s : State) (p b : Nat) : (s.event p b).pending = s.pending := eventBy_pending s 0 p b
@[simp] theorem eventIf_pending (s : State) (c : Bool) (p b : Nat) : (s.eventIf c p b).pending = s.pending := by
  cases c
  · rfl
  · exact event_pending s p b

@[simp] theorem eventBy_snaps (s : State) (m p b : Nat) : (s.eventBy m p b).snaps = s.snaps := by
  obtain ⟨r, d, f, h⟩ := eventBy_form s m p b
  rw [h]
@[simp] theorem event_snaps (s : State) (p b : Nat) : (s.event p b).snaps = s.snaps := eventBy_snaps s 0 p b
@[simp] theorem eventIf_snaps (s : State) (c : Bool) (p b : Nat) : (s.eventIf c p b).snaps = s.snaps := by
  cases c
  · rfl
  · exact event_snaps s p b

@[simp] theorem eventBy_busData (s : State) (m p b : Nat) : (s.eventBy m p b).busData = s.busData := by
  obtain ⟨r, d, f, h⟩ := eventBy_form s m p b
  rw [h]
@[simp] theorem event_busData (s : State) (p b : Nat) : (s.event p b).busData = s.busData := eventBy_busData s 0 p b
@[simp] theorem eventIf_busData (s : State) (c : Bool) (p b : Nat) : (s.eventIf c p b).busData = s.busData := by
  cases c
  · rfl
  · exact event_busData s p b

@[simp] theorem eventBy_busHi (s : State) (m p b : Nat) : (s.eventBy m p b).busHi = s.busHi := by
  obtain ⟨r, d, f, h⟩ := eventBy_form s m p b
  rw [h]
@[simp] theorem event_busHi (s : State) (p b : Nat) : (s.event p b).busHi = s.busHi := eventBy_busHi s 0 p b
@[simp] theorem eventIf_busHi (s : State) (c : Bool) (p b : Nat) : (s.eventIf c p b).busHi = s.busHi := by
  cases c
  · rfl
  · exact event_busHi s p b

@[simp] theorem eventBy_busErr (s : State) (m p b : Nat) : (s.eventBy m p b).busErr = s.busErr := by
  obtain ⟨r, d, f, h⟩ := eventBy_form s m p b
  rw [h]
@[simp] theorem event_busErr (s : State) (p b : Nat) : (s.event p b).busErr = s.busErr := eventBy_busErr s 0 p b
@[simp] theorem eventIf_busErr (s : State) (c : Bool) (p b : Nat) : (s.eventIf c p b).busErr = s.busErr := by
  cases c
  · rfl
  · exact event_busErr s p b

@[simp] theorem eventBy_dmaErr (s : State) (m p b : Nat) : (s.eventBy m p b).dmaErr = s.dmaErr := by
  obtain ⟨r, d, f, h⟩ := eventBy_form s m p b
  rw [h]
@[simp] theorem event_dmaErr (s : State) (p b : Nat) : (s.event p b).dmaErr = s.dmaErr := eventBy_dmaErr s 0 p b
@[simp] theorem eventIf_dmaErr (s : State) (c : Bool) (p b : Nat) : (s.eventIf c p b).dmaErr = s.dmaErr := by
  cases c
  · rfl
  · exact event_dmaErr s p b

@[simp] theorem eventBy_mem (s : State) (m p b : Nat) : (s.eventBy m p b).mem = s.mem := by
  obtain ⟨r, d, f, h⟩ := eventBy_form s m p b
  rw [h]
@[simp] theorem event_mem (s : State) (p b : Nat) : (s.event p b).mem = s.mem := eventBy_mem s 0 p b
@[simp] theorem eventIf_mem (s : State) (c : Bool) (p b : Nat) : (s.eventIf c p b).mem = s.mem := by
  cases c
  · rfl
  · exact event_mem s p b

@[simp] theorem eventBy_gens (s : State) (m p b : Nat) : (s.eventBy m p b).gens = s.gens := by
  obtain ⟨r, d, f, h⟩ := eventBy_form s m p b
  rw [h]
@[simp] theorem event_gens (s : State) (p b : Nat) : (s.event p b).gens = s.gens := eventBy_gens s 0 p b
@[simp] theorem eventIf_gens (s : State) (c : Bool) (p b : Nat) : (s.eventIf c p b).gens = s.gens := by
  cases c
  · rfl
  · exact event_gens s p b

@[simp] theorem eventBy_draws (s : State) (m p b : Nat) : (s.eventBy m p b).draws = s.draws := by
  obtain ⟨r, d, f, h⟩ := eventBy_form s m p b
  rw [h]
@[simp] theorem event_draws (s : State) (p b : Nat) : (s.event p b).draws = s.draws := eventBy_draws s 0 p b
@[simp] theorem eventIf_draws (s : State) (c : Bool) (p b : Nat) : (s.eventIf c p b).draws = s.draws := by
  cases c
  · rfl
  · exact event_draws s p b

@[simp] theorem eventBy_tim (s : State) (m p b : Nat) : (s.eventBy m p b).tim = s.tim := by
  obtain ⟨r, d, f, h⟩ := eventBy_form s m p b
  rw [h]
@[simp] theorem event_tim (s : State) (p b : Nat) : (s.event p b).tim = s.tim := eventBy_tim s 0 p b
@[simp] theorem eventIf_tim (s : State) (c : Bool) (p b : Nat) : (s.eventIf c p b).tim = s.tim := by
  cases c
  · rfl
  · exact event_tim s p b

@[simp] theorem eventBy_gau (s : State) (m p b : Nat) : (s.eventBy m p b).gau = s.gau := by
  obtain ⟨r, d, f, h⟩ := eventBy_form s m p b
  rw [h]
@[simp] theorem event_gau (s : State) (p b : Nat) : (s.event p b).gau = s.gau := eventBy_gau s 0 p b
@[simp] theorem eventIf_gau (s : State) (c : Bool) (p b : Nat) : (s.eventIf c p b).gau = s.gau := by
  cases c
  · rfl
  · exact event_gau s p b

@[simp] theorem eventBy_link (s : State) (m p b : Nat) : (s.eventBy m p b).link = s.link := by
  obtain ⟨r, d, f, h⟩ := eventBy_form s m p b
  rw [h]
@[simp] theorem event_link (s : State) (p b : Nat) : (s.event p b).link = s.link := eventBy_link s 0 p b
@[simp] theorem eventIf_link (s : State) (c : Bool) (p b : Nat) : (s.eventIf c p b).link = s.link := by
  cases c
  · rfl
  · exact event_link s p b

@[simp] theorem eventBy_swp (s : State) (m p b : Nat) : (s.eventBy m p b).swp = s.swp := by
  obtain ⟨r, d, f, h⟩ := eventBy_form s m p b
  rw [h]
@[simp] theorem event_swp (s : State) (p b : Nat) : (s.event p b).swp = s.swp := eventBy_swp s 0 p b
@[simp] theorem eventIf_swp (s : State) (c : Bool) (p b : Nat) : (s.eventIf c p b).swp = s.swp := by
  cases c
  · rfl
  · exact event_swp s p b

@[simp] theorem eventBy_sns (s : State) (m p b : Nat) : (s.eventBy m p b).sns = s.sns := by
  obtain ⟨r, d, f, h⟩ := eventBy_form s m p b
  rw [h]
@[simp] theorem event_sns (s : State) (p b : Nat) : (s.event p b).sns = s.sns := eventBy_sns s 0 p b
@[simp] theorem eventIf_sns (s : State) (c : Bool) (p b : Nat) : (s.eventIf c p b).sns = s.sns := by
  cases c
  · rfl
  · exact event_sns s p b

@[simp] theorem eventBy_est (s : State) (m p b : Nat) : (s.eventBy m p b).est = s.est := by
  obtain ⟨r, d, f, h⟩ := eventBy_form s m p b
  rw [h]
@[simp] theorem event_est (s : State) (p b : Nat) : (s.event p b).est = s.est := eventBy_est s 0 p b
@[simp] theorem eventIf_est (s : State) (c : Bool) (p b : Nat) : (s.eventIf c p b).est = s.est := by
  cases c
  · rfl
  · exact event_est s p b

@[simp] theorem eventBy_ctl (s : State) (m p b : Nat) : (s.eventBy m p b).ctl = s.ctl := by
  obtain ⟨r, d, f, h⟩ := eventBy_form s m p b
  rw [h]
@[simp] theorem event_ctl (s : State) (p b : Nat) : (s.event p b).ctl = s.ctl := eventBy_ctl s 0 p b
@[simp] theorem eventIf_ctl (s : State) (c : Bool) (p b : Nat) : (s.eventIf c p b).ctl = s.ctl := by
  cases c
  · rfl
  · exact event_ctl s p b

@[simp] theorem eventBy_frm (s : State) (m p b : Nat) : (s.eventBy m p b).frm = s.frm := by
  obtain ⟨r, d, f, h⟩ := eventBy_form s m p b
  rw [h]
@[simp] theorem event_frm (s : State) (p b : Nat) : (s.event p b).frm = s.frm := eventBy_frm s 0 p b
@[simp] theorem eventIf_frm (s : State) (c : Bool) (p b : Nat) : (s.eventIf c p b).frm = s.frm := by
  cases c
  · rfl
  · exact event_frm s p b

@[simp] theorem eventBy_saf (s : State) (m p b : Nat) : (s.eventBy m p b).saf = s.saf := by
  obtain ⟨r, d, f, h⟩ := eventBy_form s m p b
  rw [h]
@[simp] theorem event_saf (s : State) (p b : Nat) : (s.event p b).saf = s.saf := eventBy_saf s 0 p b
@[simp] theorem eventIf_saf (s : State) (c : Bool) (p b : Nat) : (s.eventIf c p b).saf = s.saf := by
  cases c
  · rfl
  · exact event_saf s p b

@[simp] theorem eventBy_pair (s : State) (m p b : Nat) : (s.eventBy m p b).pair = s.pair := by
  obtain ⟨r, d, f, h⟩ := eventBy_form s m p b
  rw [h]
@[simp] theorem event_pair (s : State) (p b : Nat) : (s.event p b).pair = s.pair := eventBy_pair s 0 p b
@[simp] theorem eventIf_pair (s : State) (c : Bool) (p b : Nat) : (s.eventIf c p b).pair = s.pair := by
  cases c
  · rfl
  · exact event_pair s p b

@[simp] theorem eventBy_mbx (s : State) (m p b : Nat) : (s.eventBy m p b).mbx = s.mbx := by
  obtain ⟨r, d, f, h⟩ := eventBy_form s m p b
  rw [h]
@[simp] theorem event_mbx (s : State) (p b : Nat) : (s.event p b).mbx = s.mbx := eventBy_mbx s 0 p b
@[simp] theorem eventIf_mbx (s : State) (c : Bool) (p b : Nat) : (s.eventIf c p b).mbx = s.mbx := by
  cases c
  · rfl
  · exact event_mbx s p b

@[simp] theorem eventBy_can0 (s : State) (m p b : Nat) : (s.eventBy m p b).can0 = s.can0 := by
  obtain ⟨r, d, f, h⟩ := eventBy_form s m p b
  rw [h]
@[simp] theorem event_can0 (s : State) (p b : Nat) : (s.event p b).can0 = s.can0 := eventBy_can0 s 0 p b
@[simp] theorem eventIf_can0 (s : State) (c : Bool) (p b : Nat) : (s.eventIf c p b).can0 = s.can0 := by
  cases c
  · rfl
  · exact event_can0 s p b

@[simp] theorem eventBy_can1 (s : State) (m p b : Nat) : (s.eventBy m p b).can1 = s.can1 := by
  obtain ⟨r, d, f, h⟩ := eventBy_form s m p b
  rw [h]
@[simp] theorem event_can1 (s : State) (p b : Nat) : (s.event p b).can1 = s.can1 := eventBy_can1 s 0 p b
@[simp] theorem eventIf_can1 (s : State) (c : Bool) (p b : Nat) : (s.eventIf c p b).can1 = s.can1 := by
  cases c
  · rfl
  · exact event_can1 s p b

@[simp] theorem eventBy_filters (s : State) (m p b : Nat) : (s.eventBy m p b).filters = s.filters := by
  obtain ⟨r, d, f, h⟩ := eventBy_form s m p b
  rw [h]
@[simp] theorem event_filters (s : State) (p b : Nat) : (s.event p b).filters = s.filters := eventBy_filters s 0 p b
@[simp] theorem eventIf_filters (s : State) (c : Bool) (p b : Nat) : (s.eventIf c p b).filters = s.filters := by
  cases c
  · rfl
  · exact event_filters s p b

@[simp] theorem eventBy_eth (s : State) (m p b : Nat) : (s.eventBy m p b).eth = s.eth := by
  obtain ⟨r, d, f, h⟩ := eventBy_form s m p b
  rw [h]
@[simp] theorem event_eth (s : State) (p b : Nat) : (s.event p b).eth = s.eth := eventBy_eth s 0 p b
@[simp] theorem eventIf_eth (s : State) (c : Bool) (p b : Nat) : (s.eventIf c p b).eth = s.eth := by
  cases c
  · rfl
  · exact event_eth s p b

@[simp] theorem eventBy_dsp (s : State) (m p b : Nat) : (s.eventBy m p b).dsp = s.dsp := by
  obtain ⟨r, d, f, h⟩ := eventBy_form s m p b
  rw [h]
@[simp] theorem event_dsp (s : State) (p b : Nat) : (s.event p b).dsp = s.dsp := eventBy_dsp s 0 p b
@[simp] theorem eventIf_dsp (s : State) (c : Bool) (p b : Nat) : (s.eventIf c p b).dsp = s.dsp := by
  cases c
  · rfl
  · exact event_dsp s p b

@[simp] theorem eventBy_clock (s : State) (m p b : Nat) : (s.eventBy m p b).clock = s.clock := by
  obtain ⟨r, d, f, h⟩ := eventBy_form s m p b
  rw [h]
@[simp] theorem event_clock (s : State) (p b : Nat) : (s.event p b).clock = s.clock := eventBy_clock s 0 p b
@[simp] theorem eventIf_clock (s : State) (c : Bool) (p b : Nat) : (s.eventIf c p b).clock = s.clock := by
  cases c
  · rfl
  · exact event_clock s p b

@[simp] theorem eventBy_rst (s : State) (m p b : Nat) : (s.eventBy m p b).rst = s.rst := by
  obtain ⟨r, d, f, h⟩ := eventBy_form s m p b
  rw [h]
@[simp] theorem event_rst (s : State) (p b : Nat) : (s.event p b).rst = s.rst := eventBy_rst s 0 p b
@[simp] theorem eventIf_rst (s : State) (c : Bool) (p b : Nat) : (s.eventIf c p b).rst = s.rst := by
  cases c
  · rfl
  · exact event_rst s p b

@[simp] theorem eventBy_gpio (s : State) (m p b : Nat) : (s.eventBy m p b).gpio = s.gpio := by
  obtain ⟨r, d, f, h⟩ := eventBy_form s m p b
  rw [h]
@[simp] theorem event_gpio (s : State) (p b : Nat) : (s.event p b).gpio = s.gpio := eventBy_gpio s 0 p b
@[simp] theorem eventIf_gpio (s : State) (c : Bool) (p b : Nat) : (s.eventIf c p b).gpio = s.gpio := by
  cases c
  · rfl
  · exact event_gpio s p b

@[simp] theorem eventBy_upd (s : State) (m p b : Nat) : (s.eventBy m p b).upd = s.upd := by
  obtain ⟨r, d, f, h⟩ := eventBy_form s m p b
  rw [h]
@[simp] theorem event_upd (s : State) (p b : Nat) : (s.event p b).upd = s.upd := eventBy_upd s 0 p b
@[simp] theorem eventIf_upd (s : State) (c : Bool) (p b : Nat) : (s.eventIf c p b).upd = s.upd := by
  cases c
  · rfl
  · exact event_upd s p b

@[simp] theorem eventBy_nv (s : State) (m p b : Nat) : (s.eventBy m p b).nv = s.nv := by
  obtain ⟨r, d, f, h⟩ := eventBy_form s m p b
  rw [h]
@[simp] theorem event_nv (s : State) (p b : Nat) : (s.event p b).nv = s.nv := eventBy_nv s 0 p b
@[simp] theorem eventIf_nv (s : State) (c : Bool) (p b : Nat) : (s.eventIf c p b).nv = s.nv := by
  cases c
  · rfl
  · exact event_nv s p b

end State

end Sys2Proof.Machine
end

