-- ==== Sys2Proof/Laws/Table.lean ====
section
/-! SUPPORT. The laws of the sparse table: reading after writing and erasing, and that both keep the keys in rising order. -/

namespace Sys2Proof.Tab

variable {α : Type}

theorem find_set_same (t : Tab α) (i : Nat) (v : α) : (t.set i v).find? i = some v := by
  induction t with
  | nil => simp [set, find?]
  | cons e r ih =>
    obtain ⟨k, u⟩ := e
    simp only [set]
    split
    · simp [find?]
    · split
      · simp [find?]
      · rw [find?, if_neg (by omega), ih]

theorem find_set_ne (t : Tab α) {i j : Nat} (v : α) (h : j ≠ i) : (t.set i v).find? j = t.find? j := by
  induction t with
  | nil => simp [set, find?, Ne.symm h]
  | cons e r ih =>
    obtain ⟨k, u⟩ := e
    simp only [set]
    split
    · rw [find?, if_neg (Ne.symm h)]
    · split
      · subst i; simp [find?, Ne.symm h]
      · simp [find?, ih]

theorem find_erase_same (t : Tab α) (i : Nat) : (t.erase i).find? i = none := by
  induction t with
  | nil => rfl
  | cons e r ih =>
    obtain ⟨k, u⟩ := e
    simp only [erase]
    split
    · exact ih
    · rw [find?, if_neg ‹_›, ih]

theorem find_erase_ne (t : Tab α) {i j : Nat} (h : j ≠ i) : (t.erase i).find? j = t.find? j := by
  induction t with
  | nil => rfl
  | cons e r ih =>
    obtain ⟨k, u⟩ := e
    simp only [erase]
    split
    · rw [ih, find?, if_neg (by omega)]
    · simp [find?, ih]

@[simp] theorem get_put_same [DecidableEq α] (t : Tab α) (d : α) (i : Nat) (v : α) : (t.put d i v).get d i = v := by
  unfold get put
  split
  · rw [find_erase_same]; simp [*]
  · rw [find_set_same]; rfl

theorem get_put_ne [DecidableEq α] (t : Tab α) (d : α) {i j : Nat} (v : α) (h : j ≠ i) : (t.put d i v).get d j = t.get d j := by
  unfold get put
  split
  · rw [find_erase_ne t h]
  · rw [find_set_ne t v h]

/-- Reading with one default after writing with another: at other keys nothing changes. -/
theorem find_put_ne [DecidableEq α] (t : Tab α) (d : α) {i j : Nat} (v : α) (h : j ≠ i) : (t.put d i v).find? j = t.find? j := by
  unfold put
  split
  · exact find_erase_ne t h
  · exact find_set_ne t v h

/-- Every key of the table is above a bound. -/
def above (k : Nat) (t : Tab α) : Prop := ∀ e ∈ t, k < e.1

theorem wf_cons {k : Nat} {u : α} {r : Tab α} : wf ((k, u) :: r) = true ↔ wf r = true ∧ above k r := by
  induction r generalizing k u with
  | nil => simp [wf, above]
  | cons e r ih =>
    obtain ⟨k', u'⟩ := e
    have h := @ih k' u'
    simp only [wf, Bool.and_eq_true, decide_eq_true_eq, above, List.mem_cons, forall_eq_or_imp]
    constructor
    · rintro ⟨hk, hw⟩
      refine ⟨hw, hk, fun e he => ?_⟩
      have := (h.mp hw).2 e he
      omega
    · rintro ⟨hw, hk, -⟩
      exact ⟨hk, hw⟩

theorem above_set {k : Nat} {t : Tab α} {i : Nat} {v : α} (h : above k t) (hi : k < i) : above k (t.set i v) := by
  induction t with
  | nil => intro e he; simp [set] at he; simp [he, hi]
  | cons e r ih =>
    obtain ⟨k', u⟩ := e
    have h1 : k < k' := h (k', u) (by simp)
    have h2 : above k r := fun e he => h e (by simp [he])
    simp only [set]
    split
    · intro e he; simp at he; rcases he with rfl | rfl | he
      · exact hi
      · exact h1
      · exact h2 e he
    · split
      · intro e he; simp at he; rcases he with rfl | he
        · exact hi
        · exact h2 e he
      · intro e he; simp at he; rcases he with rfl | he
        · exact h1
        · exact ih h2 e he

theorem above_erase {k : Nat} {t : Tab α} {i : Nat} (h : above k t) : above k (t.erase i) := by
  induction t with
  | nil => exact h
  | cons e r ih =>
    obtain ⟨k', u⟩ := e
    have h1 : k < k' := h (k', u) (by simp)
    have h2 : above k r := fun e he => h e (by simp [he])
    simp only [erase]
    split
    · exact ih h2
    · intro e he; simp at he; rcases he with rfl | he
      · exact h1
      · exact ih h2 e he

theorem wf_set (t : Tab α) (i : Nat) (v : α) (h : t.wf) : (t.set i v).wf := by
  induction t with
  | nil => rfl
  | cons e r ih =>
    obtain ⟨k, u⟩ := e
    obtain ⟨hr, ha⟩ := wf_cons.mp h
    simp only [set]
    split
    · refine wf_cons.mpr ⟨h, fun e he => ?_⟩
      simp at he
      rcases he with rfl | he
      · assumption
      · have := ha e he; omega
    · split
      · subst i; exact wf_cons.mpr ⟨hr, ha⟩
      · exact wf_cons.mpr ⟨ih hr, above_set ha (by omega)⟩

theorem wf_erase (t : Tab α) (i : Nat) (h : t.wf) : (t.erase i).wf := by
  induction t with
  | nil => rfl
  | cons e r ih =>
    obtain ⟨k, u⟩ := e
    obtain ⟨hr, ha⟩ := wf_cons.mp h
    simp only [erase]
    split
    · exact ih hr
    · exact wf_cons.mpr ⟨ih hr, above_erase ha⟩

theorem wf_put [DecidableEq α] (t : Tab α) (d : α) (i : Nat) (v : α) (h : t.wf) : (t.put d i v).wf := by
  unfold put
  split
  · exact wf_erase t i h
  · exact wf_set t i v h

theorem mem_set {t : Tab α} {i : Nat} {v : α} {e : Nat × α} (h : e ∈ t.set i v) : e = (i, v) ∨ e ∈ t := by
  induction t with
  | nil => simpa [set] using h
  | cons f r ih =>
    obtain ⟨k, u⟩ := f
    simp only [set] at h
    split at h
    · simpa using h
    · split at h
      · rcases List.mem_cons.mp h with h | h
        · exact .inl h
        · exact .inr (List.mem_cons_of_mem _ h)
      · rcases List.mem_cons.mp h with h | h
        · exact .inr (h ▸ List.mem_cons_self ..)
        · exact (ih h).imp id (List.mem_cons_of_mem _)

theorem mem_erase {t : Tab α} {i : Nat} {e : Nat × α} (h : e ∈ t.erase i) : e ∈ t := by
  induction t with
  | nil => exact h
  | cons f r ih =>
    obtain ⟨k, u⟩ := f
    simp only [erase] at h
    split at h
    · exact List.mem_cons_of_mem _ (ih h)
    · rcases List.mem_cons.mp h with h | h
      · exact h ▸ List.mem_cons_self ..
      · exact List.mem_cons_of_mem _ (ih h)

/-- Canonical form with a default: rising keys, and no entry that equals the default. -/
theorem put_no_default [DecidableEq α] (t : Tab α) (d : α) (i : Nat) (v : α) (h : ∀ e ∈ t, e.2 ≠ d) :
    ∀ e ∈ t.put d i v, e.2 ≠ d := by
  intro e he
  unfold put at he
  split at he
  · exact h e (mem_erase he)
  · rcases mem_set he with rfl | he
    · assumption
    · exact h e he

end Sys2Proof.Tab
end

