-- ==== Sys2Proof/Laws/Ops.lean ====
section
/-! SUPPORT. What the shared operations do, each said once: registers, memory, the gate every bus access passes, refusals and events. -/

namespace Sys2Proof.Machine

namespace State

/-! ### Registers -/

@[simp] theorem reg_setReg_same (s : State) (a : Nat) (v : Word) : (s.setReg a v).reg a = v :=
  Tab.get_put_same s.regs (regReset a) a v

theorem reg_setReg_ne (s : State) {a b : Nat} (v : Word) (h : b ≠ a) : (s.setReg a v).reg b = s.reg b := by
  show (Tab.find? (Tab.put s.regs (regReset a) a v) b).getD (regReset b) = (Tab.find? s.regs b).getD (regReset b)
  rw [Tab.find_put_ne _ _ _ h]

@[simp] theorem rd_wr_same (s : State) (a n : Nat) : (s.wr a n).rd a = n % 2 ^ 32 := by
  show ((s.setReg a (w32 n)).reg a).toNat = _
  rw [reg_setReg_same]; simp [w32]

theorem reg_wr_ne (s : State) {a b : Nat} (n : Nat) (h : b ≠ a) : (s.wr a n).reg b = s.reg b := reg_setReg_ne s _ h

theorem reg_setFld_ne (s : State) {a b : Nat} (lo n v : Nat) (h : b ≠ a) : (s.setFld a lo n v).reg b = s.reg b := reg_setReg_ne s _ h

theorem reg_setBit_ne (s : State) {a b : Nat} (i : Nat) (v : Bool) (h : b ≠ a) : (s.setBit a i v).reg b = s.reg b := reg_setFld_ne s _ _ _ h

theorem reg_err_ne (s : State) (m : Mid) {a b : Nat} (e : ErrCode) (h : b ≠ a / 0x1000 * 0x1000 + 0x01c) : (s.err m a e).reg b = s.reg b :=
  reg_wr_ne s _ h

/-- A refusal writes its code, the offset of the access and the master to ERR_CODE. -/
theorem reg_err (s : State) (m : Mid) (a : Nat) (e : ErrCode) :
    (s.err m a e).reg (a / 0x1000 * 0x1000 + 0x01c) = w32 (e.code + a % 0x1000 * 2 ^ 8 + m.code * 2 ^ 24) :=
  reg_setReg_same s _ _

/-- A bit is what it was set to. -/
theorem bit_setBit_same (s : State) (a i : Nat) (v : Bool) (h : i < 32) : (s.setBit a i v).bit a i = v := by
  show ((s.setReg a _).reg a).toNat.testBit i = v
  rw [reg_setReg_same]
  have hm : w32 ((2 ^ 1 - 1) * 2 ^ i) = BitVec.twoPow 32 i := by
    apply BitVec.eq_of_toNat_eq
    simp [w32, BitVec.toNat_twoPow]
  have hv : w32 (b2n v % 2 ^ 1 * 2 ^ i) = if v then BitVec.twoPow 32 i else 0 := by
    cases v
    · simp [w32, b2n]
    · simpa [b2n] using hm
  rw [hm, hv, ← BitVec.getLsbD]
  cases v <;> simp [h]

/-- The other bits of a register keep their values. -/
theorem bit_setBit_ne (s : State) (a : Nat) {i j : Nat} (v : Bool) (h : j ≠ i) : (s.setBit a i v).bit a j = s.bit a j := by
  show ((s.setReg a _).reg a).toNat.testBit j = (s.reg a).toNat.testBit j
  rw [reg_setReg_same]
  have hm : w32 ((2 ^ 1 - 1) * 2 ^ i) = BitVec.twoPow 32 i := by
    apply BitVec.eq_of_toNat_eq
    simp [w32, BitVec.toNat_twoPow]
  have hv : w32 (b2n v % 2 ^ 1 * 2 ^ i) = if v then BitVec.twoPow 32 i else 0 := by
    cases v
    · simp [w32, b2n]
    · simpa [b2n] using hm
  rw [hm, hv, ← BitVec.getLsbD, ← BitVec.getLsbD]
  by_cases hj : j < 32
  · cases v <;> simp [h, hj]
  · rw [BitVec.getLsbD_of_ge _ _ (by omega), BitVec.getLsbD_of_ge _ _ (by omega)]

/-! ### Memory -/

@[simp] theorem readByte_writeByte_same (s : State) (a : Nat) (b : Byte) : (s.writeByte a b).readByte a = b :=
  Tab.get_put_same s.mem memDefault a b

theorem readByte_writeByte_ne (s : State) {a c : Nat} (b : Byte) (h : c ≠ a) : (s.writeByte a b).readByte c = s.readByte c :=
  Tab.get_put_ne s.mem memDefault b h

end State

/-- The canonical form of memory: rising addresses, and no byte listed that an unlisted one reads as. -/
theorem memWf_iff (m : List Host.Cell) : memWf m = true ↔ Tab.wf m = true ∧ ∀ e ∈ m, e.2 ≠ memDefault := by
  induction m with
  | nil => simp [memWf, Tab.wf]
  | cons e r ih =>
    obtain ⟨a, b⟩ := e
    cases r with
    | nil => simp [memWf, Tab.wf]
    | cons f r =>
      obtain ⟨a', b'⟩ := f
      simp only [memWf, Tab.wf, Bool.and_eq_true, decide_eq_true_eq, List.mem_cons, forall_eq_or_imp] at ih ⊢
      rw [ih]
      constructor
      · rintro ⟨⟨hb, hl⟩, hw, hb', hr⟩; exact ⟨⟨hl, hw⟩, hb, hb', hr⟩
      · rintro ⟨⟨hl, hw⟩, hb, hb', hr⟩; exact ⟨⟨hb, hl⟩, hw, hb', hr⟩

namespace State

/-- A write of one byte keeps the canonical form. -/
theorem memWf_writeByte (s : State) (a : Nat) (b : Byte) (h : memWf s.mem) : memWf (s.writeByte a b).mem := by
  obtain ⟨hw, hd⟩ := (memWf_iff _).mp h
  exact (memWf_iff _).mpr ⟨Tab.wf_put _ _ _ _ hw, Tab.put_no_default _ _ _ _ hd⟩

/-- Little-endian writes keep the canonical form. -/
theorem memWf_writeLE (n : Nat) : ∀ (s : State) (a v : Nat), memWf s.mem → memWf (s.writeLE a n v).mem := by
  induction n with
  | zero => intro s a v h; exact h
  | succ n ih => intro s a v h; exact ih _ _ _ (memWf_writeByte s a _ h)

/-- Writes of byte strings keep the canonical form. -/
theorem memWf_writeBytes (l : List Nat) : ∀ (s : State) (a : Nat), memWf s.mem → memWf (s.writeBytes a l).mem := by
  induction l with
  | nil => intro s a h; exact h
  | cons b r ih => intro s a h; exact ih _ _ (memWf_writeByte s a _ h)

/-- A byte outside a written string keeps its value. -/
theorem readByte_writeBytes_out (l : List Nat) :
    ∀ (s : State) (a c : Nat), (c < a ∨ a + l.length ≤ c) → (s.writeBytes a l).readByte c = s.readByte c := by
  induction l with
  | nil => intro s a c _; rfl
  | cons b r ih =>
    intro s a c h
    simp only [List.length_cons] at h
    show ((s.writeByte a _).writeBytes (a + 1) r).readByte c = _
    rw [ih _ _ _ (by omega), readByte_writeByte_ne _ _ (by omega)]

/-! ### The bus -/

/-- An access that the firewall, the gates and the state of its master let through has its effect, and nothing more. -/
theorem bus_passes (s : State) (m : Mid) (a : Nat) (w : Bool) (eff : State → State) (hh : s.held m = false)
    (hf : (s.fwlOn && !s.pageRight (midColumn m) (a / 0x1000) w) = false) (hp : pageImplemented (a / 0x1000) = true)
    (ho : s.pageOpen (a / 0x1000) = true) : s.bus m a w eff = eff s := by
  show s.busSized m a w 2 eff = eff s
  simp only [busSized, busAny, hh, hf, hp, ho]
  simp

/-- A held or frozen master changes nothing. -/
theorem bus_held (s : State) (m : Mid) (a : Nat) (w : Bool) (eff : State → State) (hh : s.held m = true) : s.bus m a w eff = s := by
  show s.busSized m a w 2 eff = s
  simp only [busSized, busAny, hh]
  simp

/-! ### Events -/

/-- An EVT bit that rises is set. -/
theorem evtRise_sets (s : State) (m p b : Nat) (h : b < 32) : (s.evtRise m p b).bit (evtAddr p) b = true := by
  unfold evtRise
  split
  · assumption
  · dsimp only
    split
    · exact bit_setBit_same s _ _ true h
    · exact bit_setBit_same s _ _ true h

/-- A rise moves no register but the EVT of its page. -/
theorem reg_evtRise_ne (s : State) (m p b : Nat) {a : Nat} (h : a ≠ evtAddr p) : (s.evtRise m p b).reg a = s.reg a := by
  unfold evtRise
  split
  · rfl
  · dsimp only
    split
    · exact reg_setBit_ne s _ _ h
    · exact reg_setBit_ne s _ _ h

/-- An event's EVT bit is set after it. -/
theorem event_sets (s : State) (p b : Nat) (h : b < 32) : (s.event p b).bit (evtAddr p) b = true := evtRise_sets (s.evtNote p b) 0 p b h

/-- An event moves no register but the EVT of its page. -/
theorem reg_event_ne (s : State) (p b : Nat) {a : Nat} (h : a ≠ evtAddr p) : (s.event p b).reg a = s.reg a :=
  reg_evtRise_ne (s.evtNote p b) 0 p b h

end State

end Sys2Proof.Machine
end

