-- ==== Sys2Proof/Laws/Frames.lean ====
section
/-! SUPPORT. The calculus of frames: what each shared operation may change, as `Only` and `OnlyEvents`, with composition, so that the frame
of a command follows from the operations it is made of; and `Keeps`, what every operation of every command keeps (the queue, the odometer,
the canonical form of memory), with the same composition. -/

namespace Sys2Proof.Machine

open Sys2Proof

/-! ### Composition -/

theorem Part.same_refl (p : Part) (s : State) : p.same s s := by cases p <;> first | rfl | exact fun _ => rfl

theorem Part.same_trans {p : Part} {s t u : State} (h : p.same s t) (k : p.same t u) : p.same s u := by
  cases p <;> first | exact Eq.trans k h | exact fun a => (k a).trans (h a)

theorem Only.refl (ps : List Part) (rs : List Nat) (s : State) : Only ps rs s s := ⟨fun p _ => p.same_refl s, fun _ _ => rfl⟩

theorem Only.trans {ps : List Part} {rs : List Nat} {s t u : State} (h : Only ps rs s t) (k : Only ps rs t u) : Only ps rs s u :=
  ⟨fun p hp => Part.same_trans (h.1 p hp) (k.1 p hp), fun a ha => (k.2 a ha).trans (h.2 a ha)⟩

theorem Only.mono {ps qs : List Part} {rs us : List Nat} {s t : State} (hp : ∀ p, p ∈ ps → p ∈ qs) (hr : ∀ a, a ∈ rs → a ∈ us)
    (h : Only ps rs s t) : Only qs us s t :=
  ⟨fun p hq => h.1 p fun hm => hq (hp p hm), fun a ha => h.2 a fun hm => ha (hr a hm)⟩

theorem Only.ite {ps : List Part} {rs : List Nat} {s t u : State} (c : Prop) [Decidable c] (h : c → Only ps rs s t) (k : ¬c → Only ps rs s u) :
    Only ps rs s (if c then t else u) := by
  split
  · exact h ‹_›
  · exact k ‹_›

theorem Only.foldl {α : Type} {ps : List Part} {rs : List Nat} {f : State → α → State} (h : ∀ s x, Only ps rs s (f s x)) (l : List α) :
    ∀ s, Only ps rs s (l.foldl f s) := by
  induction l with
  | nil => exact fun s => Only.refl ps rs s
  | cons x r ih => exact fun s => (h s x).trans (ih (f s x))

theorem OnlyEvents.refl (ps : List Part) (rs pg : List Nat) (s : State) : OnlyEvents ps rs pg s s := Only.refl _ _ s

theorem OnlyEvents.trans {ps : List Part} {rs pg : List Nat} {s t u : State} (h : OnlyEvents ps rs pg s t) (k : OnlyEvents ps rs pg t u) :
    OnlyEvents ps rs pg s u := Only.trans h k

theorem OnlyEvents.of_only {ps : List Part} {rs pg : List Nat} {s t : State} (h : Only ps rs s t) : OnlyEvents ps rs pg s t :=
  h.mono (fun _ hp => List.mem_cons_of_mem _ (List.mem_cons_of_mem _ hp)) fun _ ha => List.mem_append_left _ ha

theorem OnlyEvents.mono {ps qs : List Part} {rs us pg ph : List Nat} {s t : State} (hp : ∀ p, p ∈ ps → p ∈ qs) (hr : ∀ a, a ∈ rs → a ∈ us)
    (hg : ∀ p, p ∈ pg → p ∈ ph) (h : OnlyEvents ps rs pg s t) : OnlyEvents qs us ph s t := by
  refine Only.mono (fun p hm => ?_) (fun a hm => ?_) h
  · simp only [List.mem_cons] at hm ⊢
    rcases hm with rfl | rfl | hm
    · exact .inl rfl
    · exact .inr (.inl rfl)
    · exact .inr (.inr (hp p hm))
  · simp only [List.mem_append, List.mem_map] at hm ⊢
    rcases hm with hm | ⟨p, hm, rfl⟩
    · exact .inl (hr a hm)
    · exact .inr ⟨p, hg p hm, rfl⟩

/-- What stays within some registers stays within their pages. -/
theorem OnlyPages.of_only {ps : List Part} {rs pg : List Nat} {s t : State} (hr : ∀ a, a ∈ rs → a / 0x1000 ∈ pg) (h : Only ps rs s t) :
    OnlyPages ps pg s t := ⟨h.1, fun a ha => h.2 a fun hm => ha (hr a hm)⟩

theorem OnlyPages.trans {ps : List Part} {pg : List Nat} {s t u : State} (h : OnlyPages ps pg s t) (k : OnlyPages ps pg t u) :
    OnlyPages ps pg s u := ⟨fun p hp => Part.same_trans (h.1 p hp) (k.1 p hp), fun a ha => (k.2 a ha).trans (h.2 a ha)⟩

/-! ### One field -/

theorem only_pending (s : State) (x : List Instr) : Only [.pending] [] s { s with pending := x } :=
  ⟨fun p hp => by cases p <;> first | rfl | exact fun _ => rfl | exact absurd (List.mem_singleton.mpr rfl) hp, fun _ _ => rfl⟩

theorem only_snaps (s : State) (x : Tab Word) : Only [.snaps] [] s { s with snaps := x } :=
  ⟨fun p hp => by cases p <;> first | rfl | exact fun _ => rfl | exact absurd (List.mem_singleton.mpr rfl) hp, fun _ _ => rfl⟩

theorem only_busData (s : State) (x : Word) : Only [.busData] [] s { s with busData := x } :=
  ⟨fun p hp => by cases p <;> first | rfl | exact fun _ => rfl | exact absurd (List.mem_singleton.mpr rfl) hp, fun _ _ => rfl⟩

theorem only_busHi (s : State) (x : Word) : Only [.busHi] [] s { s with busHi := x } :=
  ⟨fun p hp => by cases p <;> first | rfl | exact fun _ => rfl | exact absurd (List.mem_singleton.mpr rfl) hp, fun _ _ => rfl⟩

theorem only_busErr (s : State) (x : Option Nat) : Only [.busErr] [] s { s with busErr := x } :=
  ⟨fun p hp => by cases p <;> first | rfl | exact fun _ => rfl | exact absurd (List.mem_singleton.mpr rfl) hp, fun _ _ => rfl⟩

theorem only_dmaErr (s : State) (x : Nat) : Only [.dmaErr] [] s { s with dmaErr := x } :=
  ⟨fun p hp => by cases p <;> first | rfl | exact fun _ => rfl | exact absurd (List.mem_singleton.mpr rfl) hp, fun _ _ => rfl⟩

theorem only_gens (s : State) (x : Tab Nat) : Only [.gens] [] s { s with gens := x } :=
  ⟨fun p hp => by cases p <;> first | rfl | exact fun _ => rfl | exact absurd (List.mem_singleton.mpr rfl) hp, fun _ _ => rfl⟩

theorem only_free (s : State) (x : Nat) : Only [.free] [] s { s with free := x } :=
  ⟨fun p hp => by cases p <;> first | rfl | exact fun _ => rfl | exact absurd (List.mem_singleton.mpr rfl) hp, fun _ _ => rfl⟩

theorem only_draws (s : State) (x : Nat) : Only [.draws] [] s { s with draws := x } :=
  ⟨fun p hp => by cases p <;> first | rfl | exact fun _ => rfl | exact absurd (List.mem_singleton.mpr rfl) hp, fun _ _ => rfl⟩

theorem only_tim (s : State) (x : Tim) : Only [.tim] [] s { s with tim := x } :=
  ⟨fun p hp => by cases p <;> first | rfl | exact fun _ => rfl | exact absurd (List.mem_singleton.mpr rfl) hp, fun _ _ => rfl⟩

theorem only_gau (s : State) (x : Gau) : Only [.gau] [] s { s with gau := x } :=
  ⟨fun p hp => by cases p <;> first | rfl | exact fun _ => rfl | exact absurd (List.mem_singleton.mpr rfl) hp, fun _ _ => rfl⟩

theorem only_link (s : State) (x : Link) : Only [.link] [] s { s with link := x } :=
  ⟨fun p hp => by cases p <;> first | rfl | exact fun _ => rfl | exact absurd (List.mem_singleton.mpr rfl) hp, fun _ _ => rfl⟩

theorem only_swp (s : State) (x : Swp) : Only [.swp] [] s { s with swp := x } :=
  ⟨fun p hp => by cases p <;> first | rfl | exact fun _ => rfl | exact absurd (List.mem_singleton.mpr rfl) hp, fun _ _ => rfl⟩

theorem only_sns (s : State) (x : Sns) : Only [.sns] [] s { s with sns := x } :=
  ⟨fun p hp => by cases p <;> first | rfl | exact fun _ => rfl | exact absurd (List.mem_singleton.mpr rfl) hp, fun _ _ => rfl⟩

theorem only_est (s : State) (x : Est) : Only [.est] [] s { s with est := x } :=
  ⟨fun p hp => by cases p <;> first | rfl | exact fun _ => rfl | exact absurd (List.mem_singleton.mpr rfl) hp, fun _ _ => rfl⟩

theorem only_ctl (s : State) (x : Ctl) : Only [.ctl] [] s { s with ctl := x } :=
  ⟨fun p hp => by cases p <;> first | rfl | exact fun _ => rfl | exact absurd (List.mem_singleton.mpr rfl) hp, fun _ _ => rfl⟩

theorem only_frm (s : State) (x : Frm) : Only [.frm] [] s { s with frm := x } :=
  ⟨fun p hp => by cases p <;> first | rfl | exact fun _ => rfl | exact absurd (List.mem_singleton.mpr rfl) hp, fun _ _ => rfl⟩

theorem only_saf (s : State) (x : Saf) : Only [.saf] [] s { s with saf := x } :=
  ⟨fun p hp => by cases p <;> first | rfl | exact fun _ => rfl | exact absurd (List.mem_singleton.mpr rfl) hp, fun _ _ => rfl⟩

theorem only_pair (s : State) (x : Pair) : Only [.pair] [] s { s with pair := x } :=
  ⟨fun p hp => by cases p <;> first | rfl | exact fun _ => rfl | exact absurd (List.mem_singleton.mpr rfl) hp, fun _ _ => rfl⟩

theorem only_mbx (s : State) (x : Mbx) : Only [.mbx] [] s { s with mbx := x } :=
  ⟨fun p hp => by cases p <;> first | rfl | exact fun _ => rfl | exact absurd (List.mem_singleton.mpr rfl) hp, fun _ _ => rfl⟩

theorem only_can0 (s : State) (x : Can) : Only [.can0] [] s { s with can0 := x } :=
  ⟨fun p hp => by cases p <;> first | rfl | exact fun _ => rfl | exact absurd (List.mem_singleton.mpr rfl) hp, fun _ _ => rfl⟩

theorem only_can1 (s : State) (x : Can) : Only [.can1] [] s { s with can1 := x } :=
  ⟨fun p hp => by cases p <;> first | rfl | exact fun _ => rfl | exact absurd (List.mem_singleton.mpr rfl) hp, fun _ _ => rfl⟩

theorem only_filters (s : State) (x : Tab FilterSet) : Only [.filters] [] s { s with filters := x } :=
  ⟨fun p hp => by cases p <;> first | rfl | exact fun _ => rfl | exact absurd (List.mem_singleton.mpr rfl) hp, fun _ _ => rfl⟩

theorem only_eth (s : State) (x : Eth) : Only [.eth] [] s { s with eth := x } :=
  ⟨fun p hp => by cases p <;> first | rfl | exact fun _ => rfl | exact absurd (List.mem_singleton.mpr rfl) hp, fun _ _ => rfl⟩

theorem only_dsp (s : State) (x : Dsp) : Only [.dsp] [] s { s with dsp := x } :=
  ⟨fun p hp => by cases p <;> first | rfl | exact fun _ => rfl | exact absurd (List.mem_singleton.mpr rfl) hp, fun _ _ => rfl⟩

theorem only_recd (s : State) (x : Recorder) : Only [.recd] [] s { s with recd := x } :=
  ⟨fun p hp => by cases p <;> first | rfl | exact fun _ => rfl | exact absurd (List.mem_singleton.mpr rfl) hp, fun _ _ => rfl⟩

theorem only_clock (s : State) (x : Clk) : Only [.clock] [] s { s with clock := x } :=
  ⟨fun p hp => by cases p <;> first | rfl | exact fun _ => rfl | exact absurd (List.mem_singleton.mpr rfl) hp, fun _ _ => rfl⟩

theorem only_rst (s : State) (x : Rst) : Only [.rst] [] s { s with rst := x } :=
  ⟨fun p hp => by cases p <;> first | rfl | exact fun _ => rfl | exact absurd (List.mem_singleton.mpr rfl) hp, fun _ _ => rfl⟩

theorem only_gpio (s : State) (x : Gpio) : Only [.gpio] [] s { s with gpio := x } :=
  ⟨fun p hp => by cases p <;> first | rfl | exact fun _ => rfl | exact absurd (List.mem_singleton.mpr rfl) hp, fun _ _ => rfl⟩

theorem only_upd (s : State) (x : Upd) : Only [.upd] [] s { s with upd := x } :=
  ⟨fun p hp => by cases p <;> first | rfl | exact fun _ => rfl | exact absurd (List.mem_singleton.mpr rfl) hp, fun _ _ => rfl⟩

theorem only_nv (s : State) (x : Nv) : Only [.nv] [] s { s with nv := x } :=
  ⟨fun p hp => by cases p <;> first | rfl | exact fun _ => rfl | exact absurd (List.mem_singleton.mpr rfl) hp, fun _ _ => rfl⟩

/-! ### Registers -/

theorem only_setReg (s : State) (a : Nat) (v : Word) : Only [] [a] s (s.setReg a v) :=
  ⟨fun p _ => by cases p <;> first | rfl | exact fun _ => rfl, fun _ hb => State.reg_setReg_ne s v fun h => hb (List.mem_singleton.mpr h)⟩

theorem only_wr (s : State) (a n : Nat) : Only [] [a] s (s.wr a n) := only_setReg s a _

theorem only_wrI (s : State) (a : Nat) (i : Int) : Only [] [a] s (s.wrI a i) := only_setReg s a _

theorem only_setFld (s : State) (a lo n v : Nat) : Only [] [a] s (s.setFld a lo n v) := only_setReg s a _

theorem only_setBit (s : State) (a i : Nat) (b : Bool) : Only [] [a] s (s.setBit a i b) := only_setReg s a _

theorem only_bump (s : State) (a k : Nat) : Only [] [a] s (s.bump a k) := only_setReg s a _

theorem only_bumpSat (s : State) (a lo n : Nat) : Only [] [a] s (s.bumpSat a lo n) := only_setReg s a _

/-- A refusal writes ERR_CODE of the page and nothing else (R381). -/
theorem only_err (s : State) (m : Mid) (a : Nat) (e : ErrCode) : Only [] [errAddr (a / 0x1000)] s (s.err m a e) := only_setReg s _ _

/-- A refusal's code stands in the low byte of ERR_CODE. -/
theorem err_code (s : State) (m : Mid) (a : Nat) (e : ErrCode) : (s.err m a e).rd (errAddr (a / 0x1000)) % 2 ^ 8 = e.code := by
  show ((s.err m a e).reg (a / 0x1000 * 0x1000 + 0x01c)).toNat % 2 ^ 8 = e.code
  rw [State.reg_err]
  have hc : e.code < 256 := by cases e <;> decide
  simp only [w32, BitVec.toNat_ofNat]
  omega

/-- A plain write by access code changes that register or, under LOCK, ERR_CODE. -/
theorem only_regWrite (s : State) (m : Mid) (a : Nat) (v : Word) : Only [] [a, errAddr (a / 0x1000)] s (s.regWrite m a v) := by
  have h1 : ∀ w, Only [] [a, errAddr (a / 0x1000)] s (s.setReg a w) := fun w =>
    (only_setReg s a w).mono (fun _ h => h) fun b hb => by simp only [List.mem_singleton] at hb; simp [hb]
  have h2 : Only [] [a, errAddr (a / 0x1000)] s (s.err m a .locked) :=
    (only_err s m a .locked).mono (fun _ h => h) fun b hb => by simp only [List.mem_singleton] at hb; simp [hb]
  unfold State.regWrite
  cases regRow? a with
  | none => exact Only.refl _ _ s
  | some r =>
    dsimp only
    cases r.acc with
    | rw => exact h1 _
    | rwl => dsimp only; exact Only.ite _ (fun _ => h2) fun _ => h1 _
    | w1c => exact h1 _
    | w1s => exact h1 _
    | ro => exact Only.refl _ _ s
    | wo => exact Only.refl _ _ s
    | rc => exact Only.refl _ _ s

/-! ### Events and the recorder -/

theorem only_arrive (s : State) (k c v m : Nat) (d : List Word) : Only [.recd] [] s (s.arrive k c v m d) := only_recd s _

theorem only_fixedEvent (s : State) (c : Nat) (d : List Word) : Only [.recd] [] s (s.fixedEvent c d) := only_recd s _

/-- A rise of an EVT bit touches EVT of its page, the recorder's arrivals and the count of free values (R316). -/
theorem only_evtRise (s : State) (m p b : Nat) : OnlyEvents [] [] [p] s (s.evtRise m p b) := by
  have h1 : OnlyEvents [] [] [p] s (s.setBit (State.evtAddr p) b true) :=
    (only_setBit s _ _ _).mono (fun _ h => absurd h List.not_mem_nil) fun _ h => h
  have h2 : ∀ (u : State) (k c v m : Nat) (d : List Word) (n : Nat), OnlyEvents [] [] [p] u { u.arrive k c v m d with free := n } :=
    fun u k c v m d n => Only.trans (t := u.arrive k c v m d)
      ((only_arrive u k c v m d).mono (fun _ h => by simp only [List.mem_singleton] at h; simp [h]) fun _ h => absurd h List.not_mem_nil)
      ((only_free _ n).mono (fun _ h => by simp only [List.mem_singleton] at h; simp [h]) fun _ h => absurd h List.not_mem_nil)
  unfold State.evtRise
  split
  · exact Only.refl _ _ s
  · dsimp only
    split
    · exact h1.trans (h2 _ _ _ _ _ _ _)
    · exact h1

/-- An event touches EVT of its page, the recorder and the count of free values (R316, R381). -/
theorem only_eventBy (s : State) (m p b : Nat) : OnlyEvents [] [] [p] s (s.eventBy m p b) :=
  OnlyEvents.trans (t := s.evtNote p b)
    ((only_recd s _).mono (fun _ h => by simp only [List.mem_singleton] at h; simp [h]) fun _ h => absurd h List.not_mem_nil)
    (only_evtRise _ m p b)

theorem only_event (s : State) (p b : Nat) : OnlyEvents [] [] [p] s (s.event p b) := only_eventBy s 0 p b

theorem only_eventIf (s : State) (c : Bool) (p b : Nat) : OnlyEvents [] [] [p] s (s.eventIf c p b) := by
  cases c
  · exact Only.refl _ _ s
  · exact only_event s p b

/-! ### Other shared operations -/

theorem only_setClk (s : State) (n t : Nat) : Only [.tim] [] s (s.setClk n t) := only_tim s _

theorem only_newGen (s : State) (c : HClass) (i : Nat) : Only [.gens] [] s (s.newGen c i) := only_gens s _

theorem only_drawFree (s : State) : Only [.free] [] s s.drawFree := only_free s _

theorem only_activate (s : State) (i g : Nat) : Only [.saf] [] s (s.activate i g) := only_saf s _

theorem only_quiet (s : State) (i g : Nat) : Only [.saf] [] s (s.quiet i g) := only_saf s _

/-- A write of memory changes no part but memory and no register. -/
theorem only_mem (s : State) (x : List Host.Cell) : Only [.mem] [] s { s with mem := x } :=
  ⟨fun p hp => by cases p <;> first | rfl | exact absurd (List.mem_singleton.mpr rfl) hp, fun _ _ => rfl⟩

theorem only_writeByte (s : State) (a : Nat) (b : Byte) : Only [.mem] [] s (s.writeByte a b) := only_mem s _

theorem only_writeLE (n : Nat) : ∀ (s : State) (a v : Nat), Only [.mem] [] s (s.writeLE a n v) := by
  induction n with
  | zero => exact fun s _ _ => Only.refl _ _ s
  | succ n ih => exact fun s a v => (only_writeByte s a _).trans (ih _ _ _)

theorem only_writeBytes (l : List Nat) : ∀ (s : State) (a : Nat), Only [.mem] [] s (s.writeBytes a l) := by
  induction l with
  | nil => exact fun s _ => Only.refl _ _ s
  | cons b r ih => exact fun s a => (only_writeByte s a _).trans (ih _ _)

/-! ### The bus -/

/-- What a bus access may do: nothing, a read of 0 from a page that does not answer, a violation, or its effect. -/
theorem bus_cases (s : State) (m : Mid) (a : Nat) (w : Bool) (eff : State → State) :
    s.bus m a w eff = s ∨ s.bus m a w eff = { s with busData := 0 } ∨
      s.bus m a w eff = s.violate m (0x40000000 + a) w false 2 false (a / 0x1000) ∨ (Passes s m a w ∧ s.bus m a w eff = eff s) := by
  show s.busSized m a w 2 eff = s ∨ s.busSized m a w 2 eff = _ ∨ s.busSized m a w 2 eff = _ ∨ _ ∧ s.busSized m a w 2 eff = _
  unfold State.busSized State.busAny
  dsimp only
  by_cases h1 : s.held m = true
  · exact .inl (by rw [if_pos h1])
  · rw [if_neg h1]
    by_cases h2 : (s.fwlOn && !s.pageRight (midColumn m) (a / 0x1000) w) = true
    · exact .inr (.inr (.inl (by rw [if_pos h2])))
    · rw [if_neg h2]
      by_cases h3 : (!pageImplemented (a / 0x1000) || !s.pageOpen (a / 0x1000)) = true
      · rw [if_pos h3]
        cases w
        · exact .inr (.inl rfl)
        · exact .inl rfl
      · rw [if_neg h3]
        refine .inr (.inr (.inr ⟨⟨by simpa using h1, by simpa using h2, ?_, ?_⟩, rfl⟩))
        · cases hp : pageImplemented (a / 0x1000)
          · simp [hp] at h3
          · rfl
        · cases ho : s.pageOpen (a / 0x1000)
          · simp [ho] at h3
          · rfl

/-- A bus access that passes has its effect. -/
theorem busW_passes {s : State} {m : Mid} {a : Nat} (h : Passes s m a true) (eff : State → State) : s.busW m a eff = eff s :=
  State.bus_passes s m a true eff h.1 h.2.1 h.2.2.1 h.2.2.2

/-- A bus read that passes has its effect. -/
theorem busR_passes {s : State} {m : Mid} {a : Nat} (h : Passes s m a false) (eff : State → State) : s.busR m a eff = eff s :=
  State.bus_passes s m a false eff h.1 h.2.1 h.2.2.1 h.2.2.2

/-- The registers that a violation writes, besides EVT of page 0x03 (R266). -/
def violated : List Nat :=
  [Reg.FWL_FROZEN, Reg.FWL_DROPPED, Reg.FWL_VIOL_COUNT, Reg.FWL_FWL_STAT, Reg.FWL_VIOL_MID, Reg.FWL_VIOL_ADDR_LO, Reg.FWL_VIOL_ADDR_HI,
   Reg.FWL_VIOL_INFO, Reg.FWL_VIOL_ODO_LO, Reg.FWL_VIOL_ODO_HI]

/-- A violation writes its record, its counts and its events, and a read returns 0 (R265, R266). -/
theorem only_violate (s : State) (m : Mid) (a : Nat) (w f : Bool) (z : Nat) (im : Bool) (i : Nat) :
    OnlyEvents [.busData, .busHi, .busErr] violated [0x03] s (s.violate m a w f z im i) := by
  have reg : ∀ (t : State) (b : Nat) (v : Word), b ∈ violated → OnlyEvents [.busData, .busHi, .busErr] violated [0x03] t (t.setReg b v) := fun t b v hb =>
    OnlyEvents.of_only ((only_setReg t b v).mono (fun _ h => absurd h List.not_mem_nil) fun c hc => by rw [List.mem_singleton.mp hc]; exact hb)
  have ev : ∀ (t : State) (b : Nat), OnlyEvents [.busData, .busHi, .busErr] violated [0x03] t (t.event 0x03 b) := fun t b =>
    (only_event t 0x03 b).mono (fun _ h => absurd h List.not_mem_nil) (fun _ h => absurd h List.not_mem_nil) fun _ h => h
  have fe : ∀ (t : State) (c : Nat) (d : List Word), OnlyEvents [.busData, .busHi, .busErr] violated [0x03] t (t.fixedEvent c d) := fun t c d =>
    (only_fixedEvent t c d).mono (fun _ h => by simp only [List.mem_singleton] at h; simp [h]) fun _ h => absurd h List.not_mem_nil
  have bd : ∀ (t : State) (e : Option Nat), OnlyEvents [.busData, .busHi, .busErr] violated [0x03] t { t with busData := 0, busHi := 0, busErr := e } := fun t e =>
    OnlyEvents.of_only ⟨fun p hp => by cases p <;> first | rfl | exact fun _ => rfl | exact absurd (by decide) hp, fun _ _ => rfl⟩
  unfold State.violate
  extract_lets k info s1 s2 s3 s4 s5
  refine OnlyEvents.trans (t := s5) ?_ (fe _ _ _)
  refine OnlyEvents.trans (t := s4) ?_ (ev _ _)
  have h1 : OnlyEvents [.busData, .busHi, .busErr] violated [0x03] s s1 := by
    show OnlyEvents _ _ _ _ (if columnFreezes k then _ else _)
    split
    · exact reg _ _ _ (by decide)
    · exact reg _ _ _ (by decide)
  have h3 : OnlyEvents [.busData, .busHi, .busErr] violated [0x03] s s3 := h1.trans ((bd s1 _).trans (reg _ _ _ (by decide)))
  refine h3.trans ?_
  show OnlyEvents _ _ _ _ (if s3.bit Reg.FWL_FWL_STAT 1 then _ else _)
  split
  · exact ev _ _
  · exact ((((((reg _ _ _ (by decide)).trans (reg _ _ _ (by decide))).trans (reg _ _ _ (by decide))).trans (reg _ _ _ (by decide))).trans
      (reg _ _ _ (by decide))).trans (reg _ _ _ (by decide))).trans (reg _ _ _ (by decide))

/-! ### What every operation keeps -/

/-- The queue and the odometer are as before, and memory stays canonical. -/
structure Keeps (s t : State) : Prop where
  pending : t.pending = s.pending
  odo : t.tim.odo = s.tim.odo
  mem : memWf s.mem = true → memWf t.mem = true

theorem Keeps.refl (s : State) : Keeps s s := ⟨rfl, rfl, id⟩

theorem Keeps.trans {s t u : State} (h : Keeps s t) (k : Keeps t u) : Keeps s u :=
  ⟨k.pending.trans h.pending, k.odo.trans h.odo, fun m => k.mem (h.mem m)⟩

/-- An operation that changes neither the queue, nor the odometer, nor memory keeps them. -/
theorem Keeps.of_same {s t : State} (hp : t.pending = s.pending) (ho : t.tim.odo = s.tim.odo) (hm : t.mem = s.mem) : Keeps s t :=
  ⟨hp, ho, fun h => by rw [hm]; exact h⟩

theorem Keeps.ite {s t u : State} (c : Prop) [Decidable c] (h : c → Keeps s t) (k : ¬c → Keeps s u) : Keeps s (if c then t else u) := by
  split
  · exact h ‹_›
  · exact k ‹_›

theorem Keeps.foldl {α : Type} {f : State → α → State} (h : ∀ s x, Keeps s (f s x)) (l : List α) : ∀ s, Keeps s (l.foldl f s) := by
  induction l with
  | nil => exact Keeps.refl
  | cons x r ih => exact fun s => (h s x).trans (ih (f s x))

theorem keeps_setReg (s : State) (a : Nat) (v : Word) : Keeps s (s.setReg a v) := .of_same rfl rfl rfl

theorem keeps_wr (s : State) (a n : Nat) : Keeps s (s.wr a n) := keeps_setReg s a _

theorem keeps_wrI (s : State) (a : Nat) (i : Int) : Keeps s (s.wrI a i) := keeps_setReg s a _

theorem keeps_setFld (s : State) (a lo n v : Nat) : Keeps s (s.setFld a lo n v) := keeps_setReg s a _

theorem keeps_setBit (s : State) (a i : Nat) (b : Bool) : Keeps s (s.setBit a i b) := keeps_setFld s a i 1 _

theorem keeps_bump (s : State) (a k : Nat) : Keeps s (s.bump a k) := keeps_setReg s a _

theorem keeps_bumpSat (s : State) (a lo n : Nat) : Keeps s (s.bumpSat a lo n) := keeps_setFld s a lo n _

theorem keeps_err (s : State) (m : Mid) (a : Nat) (e : ErrCode) : Keeps s (s.err m a e) := keeps_wr s _ _

theorem keeps_arrive (s : State) (k c v m : Nat) (d : List Word) : Keeps s (s.arrive k c v m d) := .of_same rfl rfl rfl

theorem keeps_fixedEvent (s : State) (c : Nat) (d : List Word) : Keeps s (s.fixedEvent c d) := keeps_arrive s _ _ _ _ _

theorem keeps_eventBy (s : State) (m p b : Nat) : Keeps s (s.eventBy m p b) := by
  obtain ⟨r, d, f, h⟩ := State.eventBy_form s m p b
  rw [h]
  exact .of_same rfl rfl rfl

theorem keeps_event (s : State) (p b : Nat) : Keeps s (s.event p b) := keeps_eventBy s 0 p b

theorem keeps_eventIf (s : State) (c : Bool) (p b : Nat) : Keeps s (s.eventIf c p b) := by
  cases c
  · exact .refl s
  · exact keeps_event s p b

theorem keeps_setClk (s : State) (n t : Nat) : Keeps s (s.setClk n t) := .of_same rfl rfl rfl

theorem keeps_newGen (s : State) (c : HClass) (i : Nat) : Keeps s (s.newGen c i) := .of_same rfl rfl rfl

theorem keeps_drawFree (s : State) : Keeps s s.drawFree := .of_same rfl rfl rfl

theorem keeps_activate (s : State) (i g : Nat) : Keeps s (s.activate i g) := .of_same rfl rfl rfl

theorem keeps_quiet (s : State) (i g : Nat) : Keeps s (s.quiet i g) := .of_same rfl rfl rfl

theorem keeps_writeByte (s : State) (a : Nat) (b : Byte) : Keeps s (s.writeByte a b) := ⟨rfl, rfl, State.memWf_writeByte s a b⟩

theorem keeps_writeLE (n : Nat) : ∀ (s : State) (a v : Nat), Keeps s (s.writeLE a n v) := by
  induction n with
  | zero => exact fun s _ _ => .refl s
  | succ n ih => exact fun s a v => (keeps_writeByte s a _).trans (ih _ _ _)

theorem keeps_writeBytes (l : List Nat) : ∀ (s : State) (a : Nat), Keeps s (s.writeBytes a l) := by
  induction l with
  | nil => exact fun s _ => .refl s
  | cons b r ih => exact fun s a => (keeps_writeByte s a _).trans (ih _ _)

theorem keeps_regWrite (s : State) (m : Mid) (a : Nat) (v : Word) : Keeps s (s.regWrite m a v) := by
  unfold State.regWrite
  cases regRow? a with
  | none => exact .refl s
  | some r =>
    dsimp only
    cases r.acc with
    | rw => exact keeps_setReg _ _ _
    | rwl => dsimp only; exact .ite _ (fun _ => keeps_err _ _ _ _) fun _ => keeps_setReg _ _ _
    | w1c => exact keeps_setReg _ _ _
    | w1s => exact keeps_setReg _ _ _
    | ro => exact .refl s
    | wo => exact .refl s
    | rc => exact .refl s

/-- What changes only parts other than the queue, the clock and memory keeps them. -/
theorem Keeps.of_violate (s : State) (m : Mid) (a : Nat) (w f : Bool) (z : Nat) (im : Bool) (i : Nat) : Keeps s (s.violate m a w f z im i) := by
  unfold State.violate
  extract_lets k info s1 s2 s3 s4 s5
  refine Keeps.trans (t := s5) (Keeps.trans (t := s4) (Keeps.trans (t := s3) (Keeps.trans (t := s1) ?_ ((Keeps.of_same (s := s1) (t := s2) rfl rfl rfl).trans (keeps_bump s2 Reg.FWL_VIOL_COUNT 1))) ?_) (keeps_event _ _ _))
    (keeps_fixedEvent _ _ _)
  · show Keeps s (if columnFreezes k then _ else _)
    exact .ite _ (fun _ => keeps_setBit _ _ _ _) fun _ => keeps_setBit _ _ _ _
  · show Keeps s3 (if s3.bit Reg.FWL_FWL_STAT 1 then _ else _)
    exact .ite _ (fun _ => keeps_event _ _ _) fun _ =>
      ((((((keeps_setBit _ _ _ _).trans (keeps_wr _ _ _)).trans (keeps_wr _ _ _)).trans (keeps_wr _ _ _)).trans (keeps_wr _ _ _)).trans
        (keeps_setReg _ _ _)).trans (keeps_setReg _ _ _)

/-- A bus access keeps what its effect keeps. -/
theorem keeps_bus (s : State) (m : Mid) (a : Nat) (w : Bool) (eff : State → State) (h : Keeps s (eff s)) : Keeps s (s.bus m a w eff) := by
  rcases bus_cases s m a w eff with k | k | k | ⟨_, k⟩
  · rw [k]; exact .refl s
  · rw [k]; exact .of_same rfl rfl rfl
  · rw [k]; exact .of_violate ..
  · rw [k]; exact h

end Sys2Proof.Machine
end

