-- ==== Sys2Proof/Laws/Traffic.lean ====
section
/-! SUPPORT. What the operations that send and receive frames do, and those by which a master reads and writes memory, each said once: the Causeway
(R229), the radios (R49), and checked accesses (R262, R265). -/

namespace Sys2Proof.Machine

/-! ### The Causeway (R229) -/

/-- A Causeway that is not up sends nothing. -/
theorem cswSend_down (s : State) (c t : Nat) (ps : List (List Nat)) (n : Bool) (h : s.cswUp = false) : s.cswSend c t ps n = s := by
  simp [State.cswSend, h]

/-- Sending touches the frames and SEQ that the pair logic holds, and the count of frames. -/
theorem only_cswSend (s : State) (c t : Nat) (ps : List (List Nat)) (n : Bool) : Only [.pair] [Reg.CSW_TX_FRAMES] s (s.cswSend c t ps n) := by
  unfold State.cswSend
  exact .ite _ (fun _ => .refl _ _ s) fun _ =>
    Only.trans ((only_pair s _).mono (fun _ h => h) fun _ h => absurd h List.not_mem_nil)
      ((only_bump _ _ _).mono (fun _ h => absurd h List.not_mem_nil) fun _ h => h)

theorem keeps_pair (s : State) (x : Pair) : Keeps s { s with pair := x } := .of_same rfl rfl rfl

theorem keeps_cswSend (s : State) (c t : Nat) (ps : List (List Nat)) (n : Bool) : Keeps s (s.cswSend c t ps n) := by
  unfold State.cswSend
  exact .ite _ (fun _ => .refl s) fun _ => (keeps_pair s _).trans (keeps_bump _ _ _)

/-- A CRC error touches the instant of its lane's last one, and the lane's count. -/
theorem only_cswBad (s : State) (lane n : Nat) : Only [.pair] [Reg.CSW_CRC_ERR0, Reg.CSW_CRC_ERR1] s (s.cswBad lane n) := by
  have one (a : Nat) (ha : a ∈ [Reg.CSW_CRC_ERR0, Reg.CSW_CRC_ERR1]) (p : Pair) :
      Only [.pair] [Reg.CSW_CRC_ERR0, Reg.CSW_CRC_ERR1] s (({ s with pair := p } : State).bump a n) :=
    Only.trans ((only_pair s p).mono (fun _ h => h) fun _ h => absurd h List.not_mem_nil)
      ((only_bump _ _ _).mono (fun _ h => absurd h List.not_mem_nil) fun _ h => List.mem_singleton.mp h ▸ ha)
  unfold State.cswBad
  exact .ite _ (fun _ => .refl _ _ s) fun _ => .ite _ (fun _ => one _ (by decide) _) fun _ => one _ (by decide) _

theorem keeps_cswBad (s : State) (lane n : Nat) : Keeps s (s.cswBad lane n) := by
  unfold State.cswBad
  exact .ite _ (fun _ => .refl s) fun _ =>
    .ite _ (fun _ => (keeps_pair s _).trans (keeps_bump _ _ _)) fun _ => (keeps_pair s _).trans (keeps_bump _ _ _)

/-- A frame that is accepted is noted and counted, and has its effect; any other one changes a CRC count at most. -/
theorem cswTake_cases (s : State) (c t : Nat) (rx : CswRx) (eff : State → State) :
    (s.cswAccepts c t rx = true ∧ s.cswTake c t rx eff =
      eff ({ s with pair := { s.pair with cswRx := s.pair.cswRx.set (cswKey c t) rx.seq } }.bump Reg.CSW_RX_FRAMES)) ∨
    (s.cswAccepts c t rx = false ∧ (s.cswTake c t rx eff = s ∨ s.cswTake c t rx eff = s.cswBad rx.lane.val 1)) := by
  unfold State.cswTake
  cases h : s.cswAccepts c t rx with
  | true => exact .inl ⟨rfl, rfl⟩
  | false =>
    refine .inr ⟨rfl, ?_⟩
    simp only [Bool.false_eq_true, if_false]
    split
    · exact .inr rfl
    · exact .inl rfl

/-- Taking a frame keeps what its effect keeps. -/
theorem keeps_cswTake (s : State) (c t : Nat) (rx : CswRx) (eff : State → State) (h : ∀ u, Keeps u (eff u)) : Keeps s (s.cswTake c t rx eff) := by
  rcases cswTake_cases s c t rx eff with ⟨_, k⟩ | ⟨_, k | k⟩
  · rw [k]; exact ((keeps_pair s _).trans (keeps_bump _ _ _)).trans (h _)
  · rw [k]; exact .refl s
  · rw [k]; exact keeps_cswBad s _ _

/-! ### The radios (R49) -/

/-- Sending on a radio touches the link's last frame and the radio's count. -/
theorem only_transmit (s : State) (l typ slot : Nat) (aad body : List Nat) :
    Only [.link] [Reg.LNK_TX_FRAMES l] s (s.transmit l typ slot aad body) := by
  have pre : Only [.link] [Reg.LNK_TX_FRAMES l] s (s.bump (Reg.LNK_TX_FRAMES l)) :=
    (only_bump s _ _).mono (fun _ h => absurd h List.not_mem_nil) fun _ h => h
  have post (u : State) (x : Link) : Only [.link] [Reg.LNK_TX_FRAMES l] u { u with link := x } :=
    (only_link u x).mono (fun _ h => h) fun _ h => absurd h List.not_mem_nil
  unfold State.transmit State.sendFrame
  exact .ite _ (fun _ => pre.trans (post _ _)) fun _ => pre.trans (post _ _)

/-! ### Checked accesses (R262, R265) -/

/-- A master's store keeps the queue, the clock and the canonical form of memory, whatever the table denies. -/
theorem keeps_storeAs (s : State) (m : Mid) (a : Nat) (b : List Nat) : Keeps s (s.storeAs m a b) := by
  unfold State.storeAs
  exact .ite _ (fun _ => .refl s) fun _ => .ite _ (fun _ => keeps_writeBytes _ _ _) fun _ =>
    (keeps_writeBytes _ _ _).trans (.of_violate ..)

/-- A master's read keeps them too, and where the table denies it, it returns zeros. -/
theorem keeps_fetchAs (s : State) (m : Mid) (a n : Nat) : Keeps s (s.fetchAs m a n).1 := by
  unfold State.fetchAs
  split
  · exact .refl s
  · split
    · exact .refl s
    · exact .of_violate ..

/-- A store that the table allows writes every byte, in rising order of address. -/
theorem storeAs_allowed (s : State) (m : Mid) (a : Nat) (b : List Nat) (hh : s.held m = false)
    (hr : s.rangeRight (midColumn m) a b.length true = true) : s.storeAs m a b = s.writeBytes a b := by
  simp [State.storeAs, hh, hr]

end Sys2Proof.Machine
end

