-- ==== Sys2Proof/Tests/Slice0.lean ====
section
/-! SUPPORT. Tests: ill-formed commands, worked examples of the spec, one step here and there, and for every statement with hypotheses
concrete states and operands that meet them, clause by clause (`witness_…`). -/

namespace Sys2Proof.Tests
open Sys2Proof Sys2Proof.Machine Sys2Proof.Machine.State
set_option Elab.async false
theorem ok_of {ε α : Type} [DecidableEq α] {x : Except ε α} {i : α} (h : (match x with | .ok j => decide (j = i) | .error _ => false) = true) :
    x = .ok i := by
  cases x with
  | ok j => simpa using h
  | error e => cases h
theorem err_of {ε α : Type} [DecidableEq ε] {x : Except ε α} {i : ε} (h : (match x with | .ok _ => false | .error e => decide (e = i)) = true) :
    x = .error i := by
  cases x with
  | ok j => cases h
  | error e => simpa using h
theorem stale_key {s : State} {m : Mid} (h : (s.rst.key.find? m.code).any (fun t => decide (s.since t ≤ usT 1)) = false) :
    ¬ KeyFresh s m := by
  rintro ⟨t0, hk, ht⟩
  rw [hk] at h
  simp at h
  omega
def b0 : State := { State.reset.wr Reg.RST_RST_HOLD 0 with pair := {} }
def c0 : Mid := .own (.core 0)

def nx (o : Out) : State := match o with
  | .next t => t
  | _ => State.reset

def mb (ch a b : Nat) : State := { b0.wr (Reg.MBX_BIND ch) (a + 256 * b + 0x10000) with tim := { odo := 900000000000 } }
def mbP (ch a b : Nat) : State := let s := (mb ch a b).setBit Reg.CSW_CSW_CFG 0 true; { s with pair := { s.pair with lane0 := 2, alive := true } }
def mbF (s : State) (ch : Nat) (e0 e1 : MbxEnd) : State := { s with mbx := { s.mbx with chs := [(ch, { e0 := e0, e1 := e1 })] } }

def fs (en : Bool) : FilterSet := { ctl := 0, first := 60, count := 4, en := en }
def bF (en : Bool) : State := let s := { b0 with filters := [(7, fs en)] }; s.wr (Reg.CAN_FS_HANDLE 0) (s.handleOf .filter 7).toNat

def sw : State := { ((b0.wr Reg.ETH_ETH_CFG 7).wr Reg.ETH_ETH_STAT 3) with tim := { odo := 1000000000 } }
def fr : List Nat := List.replicate 60 0xff
def pd : List Nat := [1,0x80,0xC2,0,0,0x0e,2,0,0,0,0,1,0x88,0xf7,2] ++ List.replicate 60 0
def sy : List Nat := [1,0x1b,0x19,0,0,0,2,0,0,0,0,1,0x88,0xf7,0] ++ List.replicate 60 0
def ef (b : List Nat) (p : Nat) : EthFrame := { bytes := b, port := p, odo := 999999000, clk0 := 0, clk1 := 0, clk2 := 0 }
def swRing : State := let s := (((sw.wr (Reg.ETH_RXR_BASE 0) 0x1000).wr (Reg.ETH_RXR_SIZE 0) 8).wr (Reg.ETH_RXR_HEAD 0) 7).wr (Reg.ETH_RXR_TAIL 0) 3
  let s := (s.writeLE 0x1070 8 0x2000).writeLE 0x107a 2 1
  { s with eth := { s.eth with q0 := [(0, ef fr 1)] } }
def swTx : State := let s := ((sw.wr (Reg.ETH_TXR_BASE 3) 0x1000).wr (Reg.ETH_TXR_SIZE 3) 8).wr (Reg.ETH_TXR_HEAD 3) 7
  (s.writeLE 0x1070 8 0x2000).writeLE 0x1078 4 (14 + 0x30000)
def la (e : LaunchEnt) : State := { sw with eth := { launches := [(63, e)] } }

def wmS (w : Waymark) : State := { b0 with gau := { pos := 5 * 2 ^ 64 + 2 ^ 40, cyc := 5, wms := [(255, w)] } }
def hdr (t c : Nat) : DspHdr := { ver := 1, typ := t, keyId := 1, sender := 77, counter := c, tagOk := true }
def dsp0 : State := let s := (((b0.setBit Reg.DSP_DSP_CFG 0 true).wr (Reg.DSP_PEER 3) 77).wr Reg.DSP_STRING_ID 9).wr Reg.DSP_SENDER_ID 5
  { s with dsp := { key0 := some (List.replicate 8 3), key1 := some (List.replicate 8 1) } }
def spe : SpEntry := { stringId := 9, spId := 0xFFFFFFFE, kind := 1, flags := 1, value := 5, limit := 0, actCycle := 1, actAngle := 0x80000000 }

def lkS (aux : Bool) : State := let s := ((b0.wr (Reg.LNK_LNK_CFG 1) 1).setBit (Reg.NOD_NODE_STAT 31) 13 true).setBit (Reg.NOD_NODE_STAT 31) 8 true
  let s := (s.setFld (Reg.LNK_LANE_Q 1 15) 16 8 31).setFld (Reg.NOD_NODE_STAT 31) 9 4 15
  { s with link := { s.link with sf := some { cycle := 300, aux := aux, start := 0, served := true, cmdSeq := 0 } }, tim := { odo := 9000000000 }, gau := { s.gau with cyc := 300 } }
def inf (slot : Nat) : RxInfo := { slot := slot, crcOk := true, micOk := true, src := 31, cyc8 := 44, ep := false, rssi := -60 }
def bd : UplinkBody := { v := List.replicate 16 36000, t := [250, 250, 250, 250], nstat := 0x40, stat := 0x5A, cmdEcho := 3, tdie := 300, balOn := 1 }
def cur (s : State) : State := { s with swp := { s.swp with cur := some { cycle := 300 } } }
def pol (s : State) (k a : Nat) : State := s.setPoll 1 (some (31, k, a))
def ring2 (s : State) : State := { s with swp := { s.swp with ring := [{ cycle := 299, index := 7 }, { cycle := 298, index := 6 }] } }
def pe (n : Nat) : PlanEntry := { node := n, radio := 1, lane := 3, w0 := 0xFF, w1 := 0xFF, serial := 5, key := 6 }
def jn : State := let s := { b0.wr (Reg.LNK_LNK_CFG 1) 1 with gau := { pos := 300 * 2 ^ 64, cyc := 300 } }
  { s with link := { s.link with plan := some ⟨1, [pe 31]⟩, sf := some { cycle := 300, aux := true, start := 0, served := true, cmdSeq := 0, join1 := some 31 } } }

def psA0 : Pset := { setId := 1, stringId := 1, si := [], fb := [], kUsed := 15, silLimit := 1, proofInt := 1, proofWarn := 1, cellOv := 42000, cellUv := 25000, cellOt := 600, cellUt := -200, ihTrip := 1000, sf8Time := 100, sf8Abs := 1, sf8Rel := 1, digest := 5 }
def m11 : SweepRec := { cycle := 299, index := 7, present := 2 ^ 31, nodes := [(31, { body := { bd with v := 45000 :: List.replicate 15 36000 } })] }
def s11 : State := let s := pol (ring2 (lkS false)) 3 42; { s with swp := { s.swp with ring := [m11, { cycle := 298, index := 6 }] }, saf := { s.saf with pset := some psA0 } }

def act (s : State) : State := { s with pair := { s.pair with role := .active } }
def fit (s : State) : State := ({ s with pair := { s.pair with role := .active, present := true, alive := true, hb := { s.pair.hb with role := 3, score := 200 } } })
def mv : LaneMove := { oldRadio := 0, oldLane := 15, radio := 1, lane := 15, w0 := 0xFF, w1 := 0xFF, eff := 300 }
def jn2 (s : State) (n lane : Nat) : State := ((s.setBit (Reg.NOD_NODE_STAT n) 13 true).setFld (Reg.NOD_NODE_STAT n) 8 1 1).setFld (Reg.NOD_NODE_STAT n) 9 4 lane |>.setFld (Reg.LNK_LANE_Q 1 lane) 16 8 n
def sf0 : Superframe := { cycle := 300, aux := false, start := 0, served := true, cmdSeq := 0 }
def loS (s : State) : State := let s := s.setNode 31 { lostAt := some 1000 }; ({ s with link := { s.link with objs := 2 ^ 31 } }.setBit Reg.NOD_LOST_MASK 31 true)

def runOf (d : Nat) : Run := { done := d, cycle := 300, index := 9, start := 0, dt := 1, qsum := 0, nsum := 0, qbal := [], curOk := true }
def ready (s : State) (m : Mode) : State := { s with pair := { s.pair with mode := m } }
def psA : Pset := { setId := 1, stringId := 1, si := [], fb := [], kUsed := 15, silLimit := 1, proofInt := 1, proofWarn := 1, cellOv := 42000, cellUv := 25000, cellOt := 600, cellUt := -200, ihTrip := 1000, sf8Time := 100, sf8Abs := 1, sf8Rel := 1, digest := 5 }
def sf8 (s : State) : State := { s with sns := { s.sns with sf8Since := some 0 }, saf := { s.saf with pset := some psA }, tim := { odo := 25000000000 } }

def r12 : SweepRec := { cycle := 300, index := 9, present := 2 ^ 31, nodes := [(31, { body := { bd with v := 45000 :: List.replicate 15 36000 } })] }

def s12 : State :=
  let s := act { ((((b0.setBit Reg.SNS_SNS_CFG 0 true).wr Reg.EST_C_RATE 100000).setBit Reg.EST_EST_CFG 2 true).wr Reg.SNS_GAIN_A 1000) with tim := { odo := 2 ^ 40 } }
  let outs := (List.range 1000).map fun i => (BitVec.ofNat 64 (2 ^ 40 - 5000 - 3200 * i), if i < 80 then (5000000 : Int) else 0)
  { s with sns := { s.sns with a := { outs := outs }, taken := BitVec.ofNat 64 (2 ^ 40 - 5000) }, swp := { s.swp with cur := some { cycle := 300, index := 9, smpOdo := BitVec.ofNat 64 (2 ^ 40 - 4900) }, smps := [(299, BitVec.ofNat 64 (2 ^ 40 - 1000000))] } }

def tab0 : ChemTable := { id := 1, cNom := 3000, temps := [-20, 25, 60], vMin := 25000, vMax := 42000, gamma := 0x3f800000, etaC := 0x3f800000, params := List.replicate 3 { rohm := 0x3a83126f, rp1 := 0x3a83126f, cp1 := 0x447a0000, rp2 := 0x3a83126f, cp2 := 0x447a0000, sd := 0 }, ocv := List.replicate 3 ((List.range 101).map fun i => 30000 + 100 * i), m := List.replicate 3 (List.replicate 101 0) }
def cl0 : Cell := { socQ := 0x3f000000, socV := 0x3f000000, socF := 0x3f000000, cap := 0x40400000, t := 0x41c80000, varQ := 0x3a000000, p00 := 0x3a000000, p11 := 0x3a000000, p22 := 0x3a000000, rohm25 := 0x3a83126f, rp125 := 0x3a83126f, cp1 := 0x447a0000, rp225 := 0x3a83126f, cp2 := 0x447a0000, flags := 0x00640000 }
def recA : SweepRec := { cycle := 300, index := 9, iA := 100, rflags := 1, nsum := 2, nodes := [(31, { body := { bd with v := List.replicate 16 42000 } })], present := 2 ^ 31 }
def es (d : Nat) : State := let s := { (lkS false) with tim := { odo := 2 ^ 50 } }
  { s with est := { s.est with on := true, chems := [(0, tab0)], work := [(511, cl0)], aux := [(511, { started := true, table := some 0 })], run := some { runOf d with qsum := 10000, nsum := 2, dt := 6400, start := 2 ^ 50, ring := [recA] } },
           swp := { s.swp with ring := [recA] }, link := { s.link with plan := some ⟨1, [pe 31]⟩ } }
def rn (d : Nat) : Run := (es d).est.run.getD (runOf 0)
def aux (s : State) (f : CellAux → CellAux) : State := { s with est := { s.est with aux := [(511, f { started := true, table := some 0 })] } }
def tp (s : State) : State := let s := (((s.setFld Reg.FUS_TAPER_CFG 16 16 0).setFld Reg.FUS_TAPER_CFG 0 16 65535).wr Reg.EST_C_RATE 100000).setFld Reg.FUS_TAPER_V 16 16 42000
  s

def capA : Capture := { id := 7, cycle := 290, j := 0, ts := 2 ^ 50 - 20000000, sk := 2 ^ 50 - 20000000, trace := List.replicate 9 0 ++ List.replicate 23 60000, nodes := [(31, { buf := 0, accepted := true, ready := true, frags := (List.range 22).map fun k => (k, (List.range 24).map fun m => let q := (24 * k + m) / 16; if q < 9 then 36000 else 36600 + 20 * q) })] }
def inst_tap : Tap := ⟨1, 1, 0, 1, 0, 2, 24, 0, 0, 7, false⟩
def wk (s : State) (f : Cell → Cell) : State := { s with est := { s.est with work := [(511, f cl0)] } }
def usedS (s : State) : State := aux s fun a => { a with usedNow := true }
def pubS : State := { (es 7) with est := { (es 7).est with run := some { rn 7 with out := [(Reg.FUS_SOC_REP, 5)] } } }
def pubR : Run := { rn 7 with out := [(Reg.FUS_SOC_REP, 5)] }
def es16 : State := let s := es 6; { s with est := { s.est with work := (List.range 16).map fun i => (496 + i, cl0), aux := (List.range 16).map fun i => (496 + i, { started := true, table := some 0 }) } }
def balS : State := let s := jn2 (es 7) 31 15; ((s.setFld Reg.BAL_BAL_CFG 0 2 2).setFld Reg.BAL_BAL_DEAD 16 16 100).wr Reg.BAL_BAL_VMIN 30000
def prog : List Nat := [80, 77, 82, 70, 1, 0, 1, 0, 52, 0, 0, 0, 0, 0, 0, 0, 1, 0, 255, 255, 232, 3, 0, 0, 0, 0, 0, 0, 60, 0, 0, 0, 0, 0, 0, 0, 0, 0, 0, 0, 0, 0, 0, 0, 0, 0, 0, 0, 59, 169, 81, 155]
def cs (st : Nat) : State := let s := ((act b0).setBit Reg.CVL_CVL_CFG 0 true).setBit Reg.SNS_SNS_CFG 2 true |>.setBit Reg.SNS_SNS_CFG 0 true
  { s with ctl := { s.ctl with state := st, outs := 4, lineOn := true, stopping := st == 0 }, tim := { odo := 2 ^ 40 } }
def meas (s : State) : State := { s with sns := { s.sns with a := { outs := [(7, 50000)] }, v := { outs := [(9, 800000)] } } }
def mr (st : Nat) : State := let s := (((ready (cs st) .operate).setBit Reg.CTL_CTL_CFG 8 true).setFld Reg.SAF_K_REQ 0 6 1)
  { s with ctl := { s.ctl with applied := true }, saf := { s.saf with ch := [(0, { kh := true, kl := true, fbA := true, fbB := true })] } }
def solo (s : State) : State := { s with pair := { s.pair with role := .solo } }
def ctlW (s : State) (f : Ctl → Ctl) : State := { s with ctl := f s.ctl }
def spS (n : Nat) : State := let s := { b0 with gau := { wms := [(3, {})] } }
  let s := (s.wr Reg.CTL_SP_HANDLE (s.handleOf .waymark 3).toNat).setFld Reg.CTL_SP_KIND 0 2 1
  { s with ctl := { s.ctl with staged := List.replicate n ⟨5, 1, 0, 0, false⟩ }, dsp := { staged := [(9, ⟨s.handleOf .waymark 3, 1, 0, false⟩)] } }
def stp (k : Nat) : FrmStep := { kind := k, flags := 0, nextOk := 0xFF, nextFail := 0xFF, iSet := 1000, vSet := 0, tMax := 60, iEnd := 0, qMax := 0, vcLim := 0, vcGrade := 0, loops := 0 }
def frS (st : Nat) : State := let s := { (cs 1) with frm := { progs := [(7, [stp 1])], slot := some 7, state := st } }; s.wr Reg.FRM_FRM_HANDLE (s.handleOf .program 7).toNat

def stpR : FrmStep := { stp 1 with flags := 3 }
def frR : State := let s := (cs 1); let s := { s with frm := { progs := [(7, [stpR, stp 4])], slot := some 7, state := 1 } }; ((s.wr Reg.FRM_FRM_RES_BASE 0x100000).wr Reg.FRM_FRM_RES_SIZE 4000).wr Reg.FRM_FRM_HANDLE (s.handleOf .program 7).toNat

def saW (s : State) (f : Saf → Saf) : State := { s with saf := f s.saf }
def paW (s : State) (f : Pair → Pair) : State := { s with pair := f s.pair }
def sip : SiParam := { used := true, startup := false, tpA := 1, tpB := 2, filter := 3, disc := 50 }
def psB : Pset := { psA with si := List.replicate 12 sip, fb := List.replicate 6 { used := true, tpA := 0, tpB := 0, fbTime := 100 }, kUsed := 63, proofInt := 30, proofWarn := 20, silLimit := 8 }
def oper : State := { (ready b0 .operate) with tim := { odo := 2 ^ 40 }, saf := { b0.saf with pset := some psB } }
def shd (s : State) : State := paW s fun p => { p with role := .shadow }
def chW (s : State) (k : Nat) (c : ChSt) : State := saW s fun x => { x with ch := [(k, c)] }
def csw (s : State) : State := paW (s.setBit Reg.CSW_CSW_CFG 0 true) fun p => { p with lane1 := 2, mode := if p.mode = .off then .ready else p.mode }
def onc : ChSt := { kh := true, kl := true, fbA := true, fbB := true }

def okS (q : Nat) : State := let s := solo { (ready b0 .operate) with tim := { odo := 2 ^ 40 } }; paW s fun p => { p with stop := some { target := .service, step := q, since := 0 } }
def qOf (q : Nat) : StopSeq := { target := .service, step := q, since := 0 }
def ld : State := let s := b0; { (s.setBit Reg.HPM_HPM_STAT 8 false) with upd := { s.upd with boot := .loading } }
def par (s : State) : State := let s := csw { s with tim := { odo := 2 ^ 40 } }; paW s fun p => { p with alive := true, present := true, mode := .ready, hbAt := BitVec.ofNat 64 (2 ^ 40 - usT 450) }

def sp1 : SnapCell := { cell := 3, core := [0x3f000000, 0x3f000000, 0x3f000000], anchorPt := 0, socAnchor := 0, qAnchor := 0, conflictN := 0, lowSpan := 0, runValid := false, varAnchor := 0 }
def snp (c : Bool) : Snapshot := { complete := c, segs := 3, bad0 := 1, bad1 := 2, pubSeq := 7, cycle := 0, rep := 0, raw := 0, pfDis := 0, pfChg := 0, taperHi := 0, taperLo := 0, cells := [sp1] }

def key (s : State) (m : Mid) : State := { s with rst := { s.rst with key := [(m.code, 0)] }, tim := { odo := BitVec.ofNat 64 (usT 1) } }
def saf : Mid := .own .safety
def boot (s : State) (p : BootPhase) : State := { (ready s .boot) with upd := { s.upd with boot := p } }
def upW (s : State) (f : Upd → Upd) : State := { s with upd := f s.upd }
def wdS (n d : Nat) : State := let s := (b0.setBit (Reg.RST_WDT_CFG n) 31 true).setFld (Reg.RST_WDT_CFG n) 0 16 10; { s with rst := { wdt := [(n, 0)] }, tim := { odo := BitVec.ofNat 64 (msT 10 - d) } }

theorem next_nx {o : Out} (h : (match o with | .next _ => true | _ => false) = true) : o = .next (nx o) := by
  cases o with
  | next u => rfl
  | fault f => cases h
  | refused r => cases h

/-- The next state of an outcome has a property. -/
def gives (o : Out) (f : State → Bool) : Bool :=
  match o with
  | .next t => f t
  | _ => false

/-! ### Well-formedness: each check refuses an ill-formed term -/

theorem test_wf_width : fitsU 8 255 = true ∧ fitsU 8 256 = false ∧ fitsS 16 (-32768) = true ∧ fitsS 16 32768 = false ∧ fitsS 16 (-32769) = false := by decide

theorem test_wf_register_write : (Instr.registerWrite c0 0x40000000 { size := 4 } 5).ok = true ∧ (Instr.registerWrite c0 0 { size := 3 } 5).ok = false ∧
    (Instr.registerWrite c0 (2 ^ 40) { size := 4 } 5).ok = false ∧ (Instr.registerWrite c0 0 { size := 1 } 256).ok = false := by decide

theorem test_wf_page : (Instr.snap c0 63).ok = true ∧ (Instr.snap c0 64).ok = false ∧ (Instr.blkLock c0 64 0).ok = false ∧
    (Instr.evtForce c0 64 0).ok = false ∧ (Instr.errCodeRead c0 64).ok = false := by decide

theorem test_wf_uplink : (Instr.uplinkRx 0 (inf 1) bd).ok = true ∧ (Instr.uplinkRx 0 (inf 35) bd).ok = false ∧
    (Instr.uplinkRx 0 (inf 1) { bd with v := [1] }).ok = false ∧ (Instr.uplinkRx 0 (inf 1) { bd with tdie := 32768 }).ok = false ∧
    (Instr.statusRx 0 { (inf 1) with src := 256 } { ov := 0, uv := 0, tflag := 0, nstat := 0, stat := 0, cmdEcho := 0 }).ok = false := by decide

theorem test_wf_slots : (Instr.retrySlot 0 16).ok = false ∧ (Instr.retrySlot 0 21).ok = false ∧ (Instr.detourSlot 0 23).ok = false ∧
    (Instr.backfillSlot 0 33).ok = false ∧ (Instr.backfillSlot 0 32).ok = true := by decide

theorem test_wf_messages : (Instr.postRx 0 9 (.core 0) { body := [] }).ok = false ∧ (Instr.postRx 0 1 (.core 0) { body := [5] }).ok = true ∧ (Instr.canFrameRx 0 0 0 0 (List.replicate 65 0)).ok = false ∧
    (Instr.ethFrameRx 0 (List.replicate 59 0)).ok = false ∧ (Instr.setpointRx (hdr 1 5) []).ok = false ∧ (Instr.setpointRx (hdr 256 5) [spe]).ok = false ∧
    (Instr.heartbeatRx { score := 101 }).ok = false ∧ (Instr.controlFrameRx { kind := 4 }).ok = false ∧ (Instr.nodeStateRx { nodes := [(16, 0)] }).ok = false ∧
    (Instr.imageDataRx (2 ^ 32) { body := [] }).ok = false ∧ (Instr.tollRefill 4096).ok = false ∧ (Instr.grdMismatch 9).ok = false := by decide

/-! ### Worked examples of the spec -/

-- Worked example of R11: node object in slot 5 with generation 3
theorem test_handle : mkHandle 1 3 5 = 0x10300540#32 ∧ crc8Byte 0 0x10 = 0x70 ∧ crc8Byte 0x70 0x30 = 0xC7 ∧ crc8Byte 0xC7 0x05 = 0x40 := by decide

-- R11: the handle of generation 2 of the same slot is stale, 0x1030_0541 has a bad CHK
theorem test_handle_checked : let s := { b0 with gens := [(4096 + 5, 3)] }
    s.checkHandle .node (fun _ => true) 0x10300540#32 = .ok 5 ∧ s.checkHandle .node (fun _ => true) (mkHandle 1 2 5) = .error .handleStale ∧
    s.checkHandle .node (fun _ => true) 0x10300541#32 = .error .handleBad :=
  ⟨ok_of (by decide +kernel), err_of (by decide +kernel), err_of (by decide +kernel)⟩

-- The check value of CRC-32 over the nine digits (R188), and of CRC-16 with polynomial 0x1021 from 0xFFFF (R49)
theorem test_crc : crc32 [0x31, 0x32, 0x33, 0x34, 0x35, 0x36, 0x37, 0x38, 0x39] = 0xCBF43926#32 ∧
    crc16 [0x31, 0x32, 0x33, 0x34, 0x35, 0x36, 0x37, 0x38, 0x39] = 0x29B1 := by decide +kernel

-- Binary32: 1/3, and a tie that goes to the even significand
theorem test_float : F32.div F32.one 0x40400000#32 = 0x3eaaaaab#32 ∧ F32.add F32.one 0x33800000#32 = F32.one ∧
    F32.add 0x3f800001#32 0x33800000#32 = 0x3f800002#32 ∧ F32.mul 0x40400000#32 F32.half = 0x3fc00000#32 ∧ F32.sqrt 0x40800000#32 = F32.two := by decide +kernel

-- Worked example of R27: CLKD1 stands 350 ns ahead, and the residual becomes -350 ns
theorem test_plant_sel : gives (execPlantSelWrite c0 1 { b0 with tim := { clk := [(1, 350 * fracPerNs)] } })
    (fun t => decide (t.residNs = -350) && t.tim.plantSel == 1) = true := by decide +kernel

-- The GAU adds 858.993459 angle codes in a TIME cycle at 50 Hz; FREQ reads 50,000,000 at reset
theorem test_gau_rate : State.reset.gauRate / 2 ^ 32 = 858 ∧ State.reset.freqMicroHz = 50000000 := by decide +kernel

-- Worked example of R35: p = 4,320,000.005 and CYC_OFFSET reads 328
theorem test_cyc_offset :
    let s := (((b0.wr Reg.GAU_CYC_ORIGIN_L 1800000000).wr Reg.GAU_CYC_BIAS 9830))
    let s := { s with tim := { clk := [(0, (1800086400 * 1000000000 + 3100000) * fracPerNs)] } }
    s.nominalPos / 2 ^ 64 = 4320000 ∧ (s.nominalPos * 65536 + 2 ^ 63) / 2 ^ 64 - 4320000 * 65536 = 328 := by decide +kernel

-- R28: 65 Hz to 45 Hz in TIME cycles
theorem test_period_window : inPeriodWindow 5000000 = true ∧ inPeriodWindow 3846249 = false ∧ inPeriodWindow 5555501 = false := by decide

-- Worked example of R87: at 1 C, x reads 293,601, which is 280 A
theorem test_current_scale : divRound (293601 * 8000000) (2 ^ 23) = 280000 := by decide

-- Worked example of R114: the limit at 82 °C is 157/256, DUTY_MAX at 50 Hz is 227, and QBAL is 1,227 µC
theorem test_balance : balCap 7000 9500 10500 2000 8200 = 157 ∧ State.reset.dutyMax = 227 ∧
    { b0 with swp := { cells := [(115, { last := some 33000 })] } }.qbalOf 115 157 5000000 = 1227 := by decide +kernel

-- Worked example of R263: A2 reads and the pipeline writes, nobody else does
theorem test_rights : rightOf 0x2010 0 2 false = true ∧ rightOf 0x2010 0 6 true = true ∧ rightOf 0x2010 0 2 true = false ∧ rightOf 0x2010 0 1 false = false := by decide

-- R380: the examples of BLK_ID
theorem test_blk_id : blkId 0x09 = 0x4D580108 ∧ blkId 0x0E = 0x4D58010D ∧ blkId 0x05 = 0x4D580104 ∧ b0.readReg c0 0x5000 = 0x4D580104#32 := by decide +kernel

/-! ### One step of each family -/

-- R19: one TIME cycle
theorem test_idle : gives (step State.reset) (fun t => t.tim.odo == 1) = true := by decide +kernel

-- The queue is first in, first out
theorem test_queue : gives (step { b0 with pending := [.slewDone, .gauSlewDone] }) (fun t => t.pending == [.gauSlewDone]) = true := by decide +kernel

-- R384: the copy is the writer's
theorem test_tim_snap : gives (execTimSnap c0 { b0 with tim := { odo := 0x100000007 } })
    (fun t => t.held? c0 Reg.TIM_SNAP_ODO_LO == 7 && t.held? c0 Reg.TIM_SNAP_ODO_HI == 1) = true := by decide +kernel

-- R10, R39: the first waymark takes slot 0 with generation 1
theorem test_wm_create : gives (execWmCreate c0 ((b0.wr Reg.GAU_WM_TGT_CYCLE 5).wr Reg.GAU_WM_CTRL 0x20000)) (fun t => decide ((t.reg Reg.GAU_WM_HANDLE).toNat / 256 = 0x301000)) = true := by
  decide +kernel

-- R247: an application core may not bind
theorem test_bind_denied : gives (execBindWrite c0 3 0x10201 b0) (fun t => decide (t.rd (errAddr 5) % 256 = 0x08)) = true := by decide +kernel

-- R342: an application core may not reset page 0x13
theorem test_block_reset_denied : gives (execBlockReset c0 0x13 b0) (fun t => decide (t.rd (errAddr 2) % 256 = 0x08)) = true := by decide +kernel

-- R249, R264: the reset word of RST_HOLD holds the cores, and the command changes nothing
theorem test_held_core : gives (execTimSnap c0 { State.reset with pair := {} }) (fun t => t == { State.reset with pair := {} }) = true := by decide +kernel

-- R224: a SHADOW is refused with 1
theorem test_mode_shadow : gives (execModeReq c0 4 (shd (ready b0 .ready))) (fun t => t.pair.mode == .ready && t.rd Reg.RED_MODE_REFUSE == 1) = true := by decide +kernel

-- R199, R205: a trip of IHALL opens every path and ends in SAFE-HOLD
theorem test_ihall : gives (execIhallTrip 5 (chW (solo oper) 1 onc)) (fun t => t.saf.latched && !t.pathOn 1 && t.pair.mode == .safeHold) = true := by decide +kernel

-- R286: a frame for an unknown address goes to the other two ports
theorem test_eth_flood : gives (execEthFrameRx 1 (List.replicate 60 2) sw) (fun t => t.eth.q0.length == 1 && t.eth.q1.length + t.eth.q2.length == 1) = true := by decide +kernel

-- R276: the first entry of a transmit queue has tag 0 and TX_FILL counts it
theorem test_tx_push : gives (execTxPush 0 c0 1 { (b0.setBit (Reg.CAN_CAN_CTRL 0) 0 false) with can0 := { state := 1 } }) (fun t => t.can0.txf.length == 1) = true := by decide +kernel

-- R343: a kick of the third watchdog of core 0 is counted from now
theorem test_kick : gives (execWdtKick 0 (.own (.core 0)) 0x00005A5A (wdS 0 1)) (fun t => t.rst.wdt.find? 0 == some t.tim.odo) = true := by decide +kernel

/-! ### Witnesses: one for each clause of each statement -/

theorem witness_IdleStepIsOneTimeCycle :
    ∃ s : State, (s.pending = []) :=
  ⟨(b0), (by decide +kernel)⟩

theorem witness_OnlyTimeAndPowerMoveTheOdometer :
    (∃ s : State, (s.pending = [])) ∧
    (∃ (c : Instr) (s t : State), (∀ brown rom sw, c ≠ .powerReset brown rom sw) ∧ (exec c s = .next t)) :=
  ⟨⟨(b0), (by decide +kernel)⟩,
   ⟨.slewDone, b0, _, (by intro _ _ _ h; cases h), rfl⟩⟩

theorem witness_BusCommandsAreChecked :
    (∃ c : Instr, ∃ mid : Mid, ∃ a : Nat, ∃ w : Bool, ∃ s : State, (access c = some (mid, a, w)) ∧ (s.held mid = true)) ∧
    (∃ c : Instr, ∃ mid : Mid, ∃ a : Nat, ∃ w : Bool, ∃ s : State, let k := midColumn mid; (access c = some (mid, a, w)) ∧ (s.held mid = false) ∧ (s.fwlOn = true) ∧ (s.pageRight k (a / 0x1000) w = false)) ∧
    (∃ c : Instr, ∃ mid : Mid, ∃ a : Nat, ∃ w : Bool, ∃ s : State, let k := midColumn mid; (access c = some (mid, a, w)) ∧ (s.held mid = false) ∧ ((s.fwlOn && !s.pageRight k (a / 0x1000) w) = false) ∧ ((0x20 < a / 0x1000 ∨ s.pageOpen (a / 0x1000) = false))) :=
  ⟨⟨(.apply c0), (c0), (Reg.CTL_CTL_CMD), (true), (State.reset), (by decide +kernel), (by decide +kernel)⟩,
   ⟨(.apply c0), (c0), (Reg.CTL_CTL_CMD), (true), (b0.setBit 0x300c 0 true), (by decide +kernel), (by decide +kernel), (by decide +kernel), (by decide +kernel)⟩,
   ⟨(.apply c0), (c0), (Reg.CTL_CTL_CMD), (true), (b0.setBit Reg.CLK_CLK_GATE_LO 16 false), (by decide +kernel), (by decide +kernel), (by decide +kernel), (by decide +kernel)⟩⟩

theorem witness_WritesByAccessCode :
    (∃ mid : Mid, ∃ a : Nat, ∃ r : RegRow, ∃ s : State, (a ∈ plainRegisters) ∧ (Passes s mid a true) ∧ (regRow? a = some r) ∧ ((r.acc = .rw ∨ (r.acc = .rwl ∧ s.pageLocked (a / 0x1000) = false)))) ∧
    (∃ mid : Mid, ∃ a : Nat, ∃ r : RegRow, ∃ s : State, (a ∈ plainRegisters) ∧ (Passes s mid a true) ∧ (regRow? a = some r) ∧ (r.acc = .rwl) ∧ (s.pageLocked (a / 0x1000) = true)) ∧
    (∃ mid : Mid, ∃ a : Nat, ∃ r : RegRow, ∃ s : State, (a ∈ plainRegisters) ∧ (Passes s mid a true) ∧ (regRow? a = some r) ∧ (r.acc = .w1c)) ∧
    (∃ mid : Mid, ∃ page : Nat, ∃ s : State, (page ≤ 0x20) ∧ ((page = 3 → mid = .own .safety)) ∧ (Passes s mid (State.evtAddr page) true)) ∧
    (∃ mid : Mid, ∃ a : Nat, ∃ size : Nat, ∃ s : State, (a < registerSpan) ∧ ((a % size ≠ 0 ∨ (size ≠ 4 ∧ size ≠ 8))) ∧ (size ≤ 8) ∧ (Passes s mid a true)) ∧
    (∃ mid : Mid, ∃ a : Nat, ∃ v : Nat, ∃ s : State, ∃ s1 : State, (a < registerSpan) ∧ (a % 8 = 0) ∧ (exec (.registerWrite mid (registerBase + a) ⟨4, .write⟩ v) s = .next s1)) ∧
    (∃ mid : Mid, ∃ a : Nat, ∃ s : State, (a / 0x1000 = 3) ∧ (a % 4 = 0) ∧ (mid ≠ .own .safety) ∧ (Passes s mid a true)) ∧
    (∃ a : Nat, ∃ s : State, (0x21000 ≤ a) ∧ (a < registerSpan) ∧ (a % 4 = 0) ∧ (s.fwlOn = false)) ∧
    (∃ mid : Mid, ∃ a : Nat, ∃ s : State, (0x21000 ≤ a) ∧ (a < registerSpan) ∧ (a % 4 = 0) ∧ (s.held mid = false) ∧ (s.fwlOn = false)) ∧
    (∃ mid : Mid, ∃ a : Nat, ∃ size : Nat, ∃ op : BusOp, ∃ s : State, (a / 4 * 4 ∈ plainRegisters) ∧ (Passes s mid a false) ∧ (size ∈ [1, 2, 4]) ∧ (a % size = 0) ∧ (op ≠ .write)) ∧
    (∃ mid : Mid, ∃ a : Nat, ∃ size : Nat, ∃ op : BusOp, ∃ s : State, (a < registerSpan) ∧ (Passes s mid a false) ∧ (size ∈ [2, 4, 8]) ∧ (a % size ≠ 0) ∧ (op ≠ .write)) ∧
    (∃ mid : Mid, ∃ a : Nat, ∃ size : Nat, ∃ s : State, (¬(registerBase ≤ a ∧ a < registerBase + registerSpan)) ∧ (a + size ≤ 2 ^ 40) ∧ (s.held mid = false) ∧ (s.rangeRight (midColumn mid) a size true = true)) ∧
    (∃ mid : Mid, ∃ a : Nat, ∃ size : Nat, ∃ op : BusOp, ∃ s : State, (¬(registerBase ≤ a ∧ a < registerBase + registerSpan)) ∧ (a + size ≤ 2 ^ 40) ∧ (s.held mid = false) ∧ (s.rangeRight (midColumn mid) a size false = true) ∧ (op ≠ .write)) ∧
    (∃ mid : Mid, ∃ a : Nat, ∃ size : Nat, ∃ op : BusOp, ∃ s : State, (¬(registerBase ≤ a ∧ a < registerBase + registerSpan)) ∧ (a + size ≤ 2 ^ 40) ∧ (s.held mid = false) ∧ (s.rangeRight (midColumn mid) a size (op == .write) = false)) ∧
    (∃ a : Nat, ∃ size : Nat, (2 ^ 40 < a + size)) ∧
    (∃ mid : Mid, ∃ page : Nat, ∃ s : State, (Passes s mid (page * 0x1000 + 0x020) true) ∧ (page ≠ 6) ∧ (page ≠ 7) ∧ ((page = 3 → mid = .own .safety))) ∧
    (∃ mid : Mid, ∃ s : State, (Passes s mid 0x3020 true) ∧ (mid ≠ .own .safety)) :=
  ⟨⟨(c0), (Reg.RED_STOP_TMO), ((regRow? Reg.RED_STOP_TMO).getD ⟨0, 0, 0, .rw, 0, 0⟩), (b0), (by decide +kernel), (by decide +kernel), (by decide +kernel), (by decide +kernel)⟩,
   ⟨(c0), (Reg.CSW_CSW_CFG), ((regRow? Reg.CSW_CSW_CFG).getD ⟨0, 0, 0, .rw, 0, 0⟩), (b0.setBit 0x1b00c 0 true), (by decide +kernel), (by decide +kernel), (by decide +kernel), (by decide +kernel), (by decide +kernel)⟩,
   ⟨(c0), (Reg.RST_RST_CAUSE), ((regRow? Reg.RST_RST_CAUSE).getD ⟨0, 0, 0, .rw, 0, 0⟩), (b0), (by decide +kernel), (by decide +kernel), (by decide +kernel), (by decide +kernel)⟩,
   ⟨(c0), (0x20), (b0.setBit 0x20010 0 true), (by decide +kernel), (by decide +kernel), (by decide +kernel)⟩,
   ⟨(c0), (0x20ffd), (4), (b0), (by decide +kernel), (by decide +kernel), (by decide +kernel), (by decide +kernel)⟩,
   ⟨(c0), (0x1c098), (5), (b0), (let mid : Mid := c0; let a : Nat := 0x1c098; let v : Nat := 5; let s : State := b0; nx (execRegisterWrite mid (registerBase + a) ⟨4, .write⟩ v s)), (by decide +kernel), (by decide +kernel), (next_nx (by decide +kernel))⟩,
   ⟨(c0), (0x3040), (b0), (by decide +kernel), (by decide +kernel), (by decide +kernel), (by decide +kernel)⟩,
   ⟨(0x21000), (b0), (by decide +kernel), (by decide +kernel), (by decide +kernel), (by decide +kernel)⟩,
   ⟨(c0), (0x3fffc), (b0), (by decide +kernel), (by decide +kernel), (by decide +kernel), (by decide +kernel), (by decide +kernel)⟩,
   ⟨(c0), (Reg.RED_STOP_TMO + 2), (2), (.read), (b0), (by decide +kernel), (by decide +kernel), (by decide +kernel), (by decide +kernel), (by decide +kernel)⟩,
   ⟨(c0), (0x20ffd), (8), (.read), (b0), (by decide +kernel), (by decide +kernel), (by decide +kernel), (by decide +kernel), (by decide +kernel)⟩,
   ⟨(c0), (2 ^ 40 - 4), (4), (b0), (by decide +kernel), (by decide +kernel), (by decide +kernel), (by decide +kernel)⟩,
   ⟨(c0), (2 ^ 40 - 8), (8), (.fetch), (b0), (by decide +kernel), (by decide +kernel), (by decide +kernel), (by decide +kernel), (by decide +kernel)⟩,
   ⟨(c0), (2 ^ 40 - 8), (8), (.write), (b0.setBit 0x300c 0 true), (by decide +kernel), (by decide +kernel), (by decide +kernel), (by decide +kernel)⟩,
   ⟨(2 ^ 40 - 3), (4), (by decide +kernel)⟩,
   ⟨(c0), (0x0e), (b0), (by decide +kernel), (by decide +kernel), (by decide +kernel), (by decide +kernel)⟩,
   ⟨(c0), (b0), (by decide +kernel), (by decide +kernel)⟩⟩

theorem witness_SnapHoldsOneInstant :
    (∃ mid : Mid, ∃ s : State, (Passes s mid 0x6020 true)) ∧
    (∃ mid : Mid, ∃ s : State, (Passes s mid 0x7020 true)) :=
  ⟨⟨(c0), (b0), (by decide +kernel)⟩,
   ⟨(c0), (b0), (by decide +kernel)⟩⟩

theorem witness_PpsAndPlantTime :
    (∃ mid : Mid, ∃ v : Word, ∃ s : State, let r := clkDiff s.plant (s.clk (v.toNat % 4)); (Passes s mid Reg.TIM_PLANT_CFG true) ∧ (v.toNat % 4 ≠ 3) ∧ (v.toNat % 4 ≠ s.tim.plantSel) ∧ (r ≤ s.slewLim) ∧ (-s.slewLim ≤ r)) ∧
    (∃ mid : Mid, ∃ v : Word, ∃ s : State, (Passes s mid Reg.TIM_PLANT_CFG true) ∧ (v.toNat % 4 ≠ s.tim.plantSel) ∧ ((v.toNat % 4 = 3 ∨ s.slewLim < clkDiff s.plant (s.clk (v.toNat % 4)) ∨ clkDiff s.plant (s.clk (v.toNat % 4)) < -s.slewLim))) ∧
    (∃ mid : Mid, ∃ v : Word, ∃ s : State, (Passes s mid Reg.TIM_PLANT_CFG true) ∧ (v.toNat % 4 ≠ 3) ∧ (v.toNat % 4 = s.tim.plantSel)) ∧
    (∃ s : State, (s.tim.slewing = true) ∧ (s.tim.resid = 0)) ∧
    (∃ s : State, (s.tim.slewing = false ∨ s.tim.resid ≠ 0)) ∧
    (∃ f : Bool, ∃ s : State, (s.bit Reg.TIM_PPS_IN_CFG 0 = true) ∧ (s.bit Reg.TIM_PPS_IN_CFG 1 = f)) ∧
    (∃ f : Bool, ∃ s : State, (s.bit Reg.TIM_PPS_IN_CFG 0 = false ∨ s.bit Reg.TIM_PPS_IN_CFG 1 ≠ f)) ∧
    (∃ s : State, ∃ e : BitVec 64, (s.tim.ppsLast = some e) ∧ (s.bit Reg.TIM_PPS_IN_CFG 0 = true) ∧ (secT 11 ≤ 10 * s.since e)) ∧
    (∃ s : State, ∃ e : BitVec 64, (s.tim.ppsLast = some e) ∧ ((s.bit Reg.TIM_PPS_IN_CFG 0 = false ∨ 10 * s.since e < secT 11))) ∧
    (∃ s : State, (s.tim.ppsLast = none)) ∧
    (∃ s : State, (s.bit Reg.TIM_PPS_OUT_CFG 0 = true) ∧ ((s.tim.ppsLand.getD (s.ppsSecond - 1) < s.ppsSecond)) ∧ ((s.tim.ppsLand = none → s.tim.ppsSec.getD (s.ppsSecond - 1) < s.ppsSecond))) ∧
    (∃ s : State, ∃ k : Int, (s.bit Reg.TIM_PPS_OUT_CFG 0 = false ∨ (s.tim.ppsLand = some k ∧ s.ppsSecond ≤ k) ∨
    (s.tim.ppsLand = none ∧ s.tim.ppsSec = some k ∧ s.ppsSecond ≤ k))) ∧
    (∃ s : State, ∃ e : BitVec 64, (s.tim.ppsPulse = some e) ∧ (usT (s.rd Reg.TIM_PPS_OUT_WIDTH) ≤ s.since e)) ∧
    (∃ s : State, ∃ e : BitVec 64, (s.tim.ppsPulse = some e) ∧ (s.since e < usT (s.rd Reg.TIM_PPS_OUT_WIDTH))) :=
  ⟨⟨(c0), (1), (b0), (by decide +kernel), (by decide +kernel), (by decide +kernel), (by decide +kernel), (by decide +kernel)⟩,
   ⟨(c0), (1), (b0.setClk 0 (2 * fracPerSec)), (by decide +kernel), (by decide +kernel), (by decide +kernel)⟩,
   ⟨(c0), (0), (b0), (by decide +kernel), (by decide +kernel), (by decide +kernel)⟩,
   ⟨({ b0 with tim := { slewing := true } }), (by decide +kernel), (by decide +kernel)⟩,
   ⟨(b0), (by decide +kernel)⟩,
   ⟨(false), ((b0.setBit Reg.TIM_PPS_IN_CFG 0 true)), (by decide +kernel), (by decide +kernel)⟩,
   ⟨(false), (b0), (by decide +kernel)⟩,
   ⟨({ (b0.setBit Reg.TIM_PPS_IN_CFG 0 true) with tim := { odo := 275000005, ppsLast := some 5 } }), (5), (by decide +kernel), (by decide +kernel), (by decide +kernel)⟩,
   ⟨({ (b0.setBit Reg.TIM_PPS_IN_CFG 0 true) with tim := { odo := 275000004, ppsLast := some 5 } }), (5), (by decide +kernel), (by decide +kernel)⟩,
   ⟨(b0), (by decide +kernel)⟩,
   ⟨({ ((b0.setBit Reg.TIM_PPS_OUT_CFG 0 true).setClk 0 (2 * fracPerSec)) with tim := { ((b0.setBit Reg.TIM_PPS_OUT_CFG 0 true).setClk 0 (2 * fracPerSec)).tim with ppsSec := some 1 } }), (by decide +kernel), (by decide +kernel), (by decide +kernel)⟩,
   ⟨({ ((b0.setBit Reg.TIM_PPS_OUT_CFG 0 true).setClk 0 (2 * fracPerSec)) with tim := { ((b0.setBit Reg.TIM_PPS_OUT_CFG 0 true).setClk 0 (2 * fracPerSec)).tim with ppsSec := some 2 } }), (2), (by decide +kernel)⟩,
   ⟨({ b0 with tim := { odo := BitVec.ofNat 64 (5 + usT (b0.rd Reg.TIM_PPS_OUT_WIDTH)), ppsPulse := some 5 } }), (5), (by decide +kernel), (by decide +kernel)⟩,
   ⟨({ ((b0.wr Reg.TIM_PPS_OUT_WIDTH 10)) with tim := { odo := 6, ppsPulse := some 5 } }), (5), (by decide +kernel), (by decide +kernel)⟩⟩

theorem witness_GridTimelineFollowsItsSources :
    (∃ s : State, ∃ e : BitVec 64, (s.gau.lastEdge = some e) ∧ (s.gau.locked = true) ∧ (3 * s.gau.tracked ≤ 8 * s.since e)) ∧
    (∃ s : State, ∃ e : BitVec 64, (s.gau.lastEdge = some e) ∧ ((s.gau.locked = false ∨ 8 * s.since e < 3 * s.gau.tracked))) ∧
    (∃ s : State, (s.gau.lastEdge = none)) ∧
    (∃ s : State, (s.gau.src = .holdover) ∧ (msT (s.rd Reg.GAU_HOLDOVER) ≤ s.since s.gau.holdFrom)) ∧
    (∃ s : State, (s.gau.src ≠ .holdover ∨ s.since s.gau.holdFrom < msT (s.rd Reg.GAU_HOLDOVER))) ∧
    (∃ s : State, (s.gau.slewing = true) ∧ (s.gau.slew = 0)) ∧
    (∃ s : State, (s.gau.slewing = false ∨ s.gau.slew ≠ 0)) ∧
    (∃ f : Bool, ∃ s : State, (s.bit Reg.GAU_GAU_CFG 1 = false ∨ s.bit Reg.GAU_GAU_CFG 2 ≠ f)) ∧
    (∃ f : Bool, ∃ s : State, (s.bit Reg.GAU_GAU_CFG 1 = true) ∧ (s.bit Reg.GAU_GAU_CFG 2 = f) ∧ (s.gau.lateSweep = none) ∧ ((s.gau.lastEdge = none ∨ (s.gau.locked = false ∧ 5555500 < s.since (s.gau.lastEdge.getD 0))))) ∧
    (∃ f : Bool, ∃ s : State, ∃ e : BitVec 64, (s.bit Reg.GAU_GAU_CFG 1 = true) ∧ (s.bit Reg.GAU_GAU_CFG 2 = f) ∧ (s.gau.lateSweep = none) ∧ (s.gau.lastEdge = some e) ∧ ((s.since e < 3846250 ∨ (s.gau.locked = true ∧ (5555500 < s.since e ∨ s.nearTracked (s.since e) = false))))) ∧
    (∃ f : Bool, ∃ s : State, ∃ e : BitVec 64, (s.bit Reg.GAU_GAU_CFG 1 = true) ∧ (s.bit Reg.GAU_GAU_CFG 2 = f) ∧ (s.gau.lateSweep = none) ∧ (s.gau.lastEdge = some e) ∧ (s.gau.locked = false) ∧ (3846250 ≤ s.since e) ∧ (s.since e ≤ 5555500) ∧ (lockable ((s.since e :: s.gau.periods).take 4) = false)) ∧
    (∃ f : Bool, ∃ s : State, ∃ e : BitVec 64, (s.bit Reg.GAU_GAU_CFG 1 = true) ∧ (s.bit Reg.GAU_GAU_CFG 2 = f) ∧ (s.gau.lastEdge = some e) ∧ (s.gau.locked = false) ∧ (3846250 ≤ s.since e) ∧ (s.since e ≤ 5555500) ∧ (lockable ((s.since e :: s.gau.periods).take 4) = true)) ∧
    (∃ f : Bool, ∃ s : State, ∃ e : BitVec 64, (s.bit Reg.GAU_GAU_CFG 1 = true) ∧ (s.bit Reg.GAU_GAU_CFG 2 = f) ∧ (s.gau.lastEdge = some e) ∧ (s.gau.locked = true) ∧ (inPeriodWindow (s.since e) = true) ∧ (s.nearTracked (s.since e) = true)) ∧
    (∃ s : State, (s.gau.src ≠ .phref) ∧ (0 ≤ posDiff s.gau.pos ((s.gau.cyc + 1) * oneCycle))) ∧
    (∃ s : State, (s.gau.src = .phref ∨ posDiff s.gau.pos ((s.gau.cyc + 1) * oneCycle) < 0)) ∧
    (∃ mid : Mid, ∃ v : Word, ∃ s : State, (Passes s mid Reg.GAU_CYC_BIAS_AT true) ∧ (s.gau.lateSweep = none) ∧ (0 < sdiff 32 v.toNat s.cycle)) ∧
    (∃ mid : Mid, ∃ v : Word, ∃ s : State, (Passes s mid Reg.GAU_CYC_BIAS_AT true) ∧ (sdiff 32 v.toNat s.cycle ≤ 0)) ∧
    (∃ s : State, ∃ c : Nat, (s.gau.biasAt = some c) ∧ (0 ≤ sdiff 48 s.gau.cyc c)) ∧
    (∃ s : State, ∃ c : Nat, (s.gau.biasAt = some c) ∧ (sdiff 48 s.gau.cyc c < 0)) ∧
    (∃ s : State, (s.gau.biasAt = none)) ∧
    (∃ mid : Mid, ∃ s : State, (Passes s mid Reg.GAU_GAU_CFG true) ∧ (s.pageLocked 7 = false)) ∧
    (∃ mid : Mid, ∃ s : State, (Passes s mid Reg.GAU_GAU_CFG true) ∧ (s.pageLocked 7 = true) ∧ (s.gau.lateSweep = none)) :=
  ⟨⟨({ b0 with tim := { odo := 7501000 }, gau := { lastEdge := some 1000, locked := true, tracked := 20000000, src := .phref } }), (1000), (by decide +kernel), (by decide +kernel), (by decide +kernel)⟩,
   ⟨({ b0 with tim := { odo := 7500999 }, gau := { lastEdge := some 1000, locked := true, tracked := 20000000, src := .phref } }), (1000), (by decide +kernel), (by decide +kernel)⟩,
   ⟨(b0), (by decide +kernel)⟩,
   ⟨({ b0 with tim := { odo := BitVec.ofNat 64 (msT (b0.rd Reg.GAU_HOLDOVER)) }, gau := { src := .holdover, holdFrom := 0 } }), (by decide +kernel), (by decide +kernel)⟩,
   ⟨(b0), (by decide +kernel)⟩,
   ⟨({ b0 with gau := { slewing := true } }), (by decide +kernel), (by decide +kernel)⟩,
   ⟨(b0), (by decide +kernel)⟩,
   ⟨(false), (b0.setBit Reg.GAU_GAU_CFG 1 false), (by decide +kernel)⟩,
   ⟨(false), ({ (b0.setBit Reg.GAU_GAU_CFG 1 true) with tim := { odo := 5556501 }, gau := { lastEdge := some 1000, periods := [5] } }), (by decide +kernel), (by decide +kernel), (by decide +kernel), (by decide +kernel)⟩,
   ⟨(false), ({ (b0.setBit Reg.GAU_GAU_CFG 1 true) with tim := { odo := 3847249 }, gau := { lastEdge := some 1000, periods := [5] } }), (1000), (by decide +kernel), (by decide +kernel), (by decide +kernel), (by decide +kernel), (by decide +kernel)⟩,
   ⟨(false), ({ (b0.setBit Reg.GAU_GAU_CFG 1 true) with tim := { odo := 3847250 }, gau := { lastEdge := some 1000,  } }), (1000), (by decide +kernel), (by decide +kernel), (by decide +kernel), (by decide +kernel), (by decide +kernel), (by decide +kernel), (by decide +kernel), (by decide +kernel)⟩,
   ⟨(false), ({ (b0.setBit Reg.GAU_GAU_CFG 1 true) with tim := { odo := 5001000 }, gau := { lastEdge := some 1000, periods := [5000000, 5000001, 4999999] } }), (1000), (by decide +kernel), (by decide +kernel), (by decide +kernel), (by decide +kernel), (by decide +kernel), (by decide +kernel), (by decide +kernel)⟩,
   ⟨(false), ({ (b0.setBit Reg.GAU_GAU_CFG 1 true) with tim := { odo := 5001000 }, gau := { lastEdge := some 1000, periods := [5000000, 5000001, 4999999, 5000000], locked := true, src := .phref, tracked := 20000000, pos := oneCycle - 2 ^ 40 } }), (1000), (by decide +kernel), (by decide +kernel), (by decide +kernel), (by decide +kernel), (by decide +kernel), (by decide +kernel)⟩,
   ⟨({ b0 with gau := { pos := oneCycle } }), (by decide +kernel), (by decide +kernel)⟩,
   ⟨(b0), (by decide +kernel)⟩,
   ⟨(c0), (1), (b0), (by decide +kernel), (by decide +kernel), (by decide +kernel)⟩,
   ⟨(c0), (0), ({ b0 with gau := { src := .phref } }), (by decide +kernel), (by decide +kernel)⟩,
   ⟨({ b0 with gau := { biasAt := some 5, cyc := 5, src := .phref } }), (5), (by decide +kernel), (by decide +kernel)⟩,
   ⟨({ b0 with gau := { biasAt := some 6, cyc := 5, src := .phref } }), (6), (by decide +kernel), (by decide +kernel)⟩,
   ⟨(b0), (by decide +kernel)⟩,
   ⟨(c0), ({ (b0.setBit Reg.GAU_GAU_CFG 1 false) with gau := { src := .holdover } }), (by decide +kernel), (by decide +kernel)⟩,
   ⟨(c0), (b0.setBit 0x700c 0 true), (by decide +kernel), (by decide +kernel), (by decide +kernel)⟩⟩

theorem witness_WaymarkEntriesAndFiringLog :
    (∃ mid : Mid, ∃ s : State, ∃ i : Nat, let target : BitVec 64 := BitVec.ofNat 64 (s.rd Reg.GAU_WM_TGT_CYCLE * 2 ^ 32 + s.rd Reg.GAU_WM_TGT_ANGLE); let d := sdiff 64 target.toNat s.gridPos.toNat; (Passes s mid Reg.GAU_WM_CMD true) ∧ (s.gau.wms.firstFree 256 = some i) ∧ (d ≤ 2 ^ 62) ∧ ((0 < d ∨ (s.reg Reg.GAU_WM_CTRL).toNat.testBit 24 = true))) ∧
    (∃ mid : Mid, ∃ s : State, (Passes s mid Reg.GAU_WM_CMD true) ∧ (s.gau.wms.firstFree 256 = none)) ∧
    (∃ mid : Mid, ∃ s : State, ∃ i : Nat, let target : BitVec 64 := BitVec.ofNat 64 (s.rd Reg.GAU_WM_TGT_CYCLE * 2 ^ 32 + s.rd Reg.GAU_WM_TGT_ANGLE); let d := sdiff 64 target.toNat s.gridPos.toNat; (Passes s mid Reg.GAU_WM_CMD true) ∧ (s.gau.wms.firstFree 256 = some i) ∧ ((2 ^ 62 < d ∨ (d ≤ 0 ∧ (s.reg Reg.GAU_WM_CTRL).toNat.testBit 24 = false)))) ∧
    (∃ mid : Mid, ∃ s : State, ∃ i : Nat, let u := s.fireDue 15; (Passes s mid Reg.GAU_WM_CMD true) ∧ (u.wmHandle (u.reg Reg.GAU_WM_HANDLE) = .ok i)) ∧
    (∃ s : State, (s.wmNow = none)) ∧
    (∃ mid : Mid, ∃ s : State, ∃ e : ErrCode, (Passes s mid Reg.GAU_WM_CMD true) ∧ (s.wmNow = none) ∧ (s.wmHandle (s.reg Reg.GAU_WM_HANDLE) = .error e)) ∧
    (∃ mid : Mid, ∃ s : State, ∃ e : ErrCode, (Passes s mid Reg.GAU_WM_CMD true) ∧ (s.wmHandle (s.reg Reg.GAU_WM_HANDLE) = .error e)) ∧
    (∃ mid : Mid, ∃ s : State, ∃ i : Nat, ∃ w : Waymark, (Passes s mid Reg.GAU_WM_CMD true) ∧ (s.wmHandle (s.reg Reg.GAU_WM_HANDLE) = .ok i) ∧ (s.gau.wms.find? i = some w)) ∧
    (∃ mid : Mid, ∃ s : State, ∃ f : WmFiring, ∃ r : List WmFiring, (Passes s mid Reg.GAU_WM_FIFO false) ∧ (s.gau.wmFifo = f :: r)) ∧
    (∃ mid : Mid, ∃ s : State, (Passes s mid Reg.GAU_WM_FIFO false) ∧ (s.gau.wmFifo = [])) ∧
    (∃ pin : Fin 8, ∃ s : State, (s.bit Reg.CLK_CLK_GATE_STAT_HI 0 = true) ∧ (s.bit Reg.GPIO_GPIO_DIR pin.val = false)) ∧
    (∃ pin : Fin 8, ∃ s : State, (s.bit Reg.GPIO_GPIO_DIR pin.val = true ∨ s.bit Reg.CLK_CLK_GATE_STAT_HI 0 = false)) ∧
    (∃ pin : Fin 8, ∃ s : State, ∃ e : BitVec 64, ∃ l : Bool, (s.gpio.pulses.find? pin.val = some (e, l)) ∧ (usT (s.fld Reg.GAU_WM_GPIO 16 16) ≤ s.since e)) ∧
    (∃ pin : Fin 8, ∃ s : State, ∃ e : BitVec 64, ∃ l : Bool, (s.gpio.pulses.find? pin.val = some (e, l)) ∧ (s.since e < usT (s.fld Reg.GAU_WM_GPIO 16 16))) ∧
    (∃ pin : Fin 8, ∃ s : State, (s.gpio.pulses.find? pin.val = none)) :=
  ⟨⟨(c0), (b0.wr Reg.GAU_WM_TGT_ANGLE 5), (0), (by decide +kernel), (by decide +kernel), (by decide +kernel), (by decide +kernel)⟩,
   ⟨(c0), ({ b0 with gau := { wms := (List.range 256).map fun i => (i, {}) } }), (by decide +kernel), (by decide +kernel)⟩,
   ⟨(c0), (b0), (0), (by decide +kernel), (by decide +kernel), (by decide +kernel)⟩,
   ⟨(c0), (({ b0 with gau := { wms := [(3, { target := 9 })] } }).setReg Reg.GAU_WM_HANDLE (mkHandle 3 0 3)), (3), (by decide +kernel), (ok_of (by decide +kernel))⟩,
   ⟨(b0), (by decide +kernel)⟩,
   ⟨(c0), (b0), (.handleBad), (by decide +kernel), (by decide +kernel), (err_of (by decide +kernel))⟩,
   ⟨(c0), (b0), (.handleBad), (by decide +kernel), (err_of (by decide +kernel))⟩,
   ⟨(c0), (({ b0 with gau := { wms := [(3, { target := 9 })] } }).setReg Reg.GAU_WM_HANDLE (mkHandle 3 0 3)), (3), ({ target := 9 }), (by decide +kernel), (ok_of (by decide +kernel)), (by decide +kernel)⟩,
   ⟨(c0), ({ b0 with gau := { wmFifo := [⟨7, true, 2⟩] } }), (⟨7, true, 2⟩), ([]), (by decide +kernel), (by decide +kernel)⟩,
   ⟨(c0), (b0), (by decide +kernel), (by decide +kernel)⟩,
   ⟨(2), ((b0.setBit Reg.GPIO_GPIO_EDGE 2 true).setFld Reg.GPIO_GPIO_STAMP_SEL 0 3 2), (by decide +kernel), (by decide +kernel)⟩,
   ⟨(7), (b0.setBit Reg.GPIO_GPIO_DIR 7 true), (by decide +kernel)⟩,
   ⟨(1), ({ b0 with tim := { odo := 250005 }, gpio := { pulses := [(1, (5, true))] } }), (5), (true), (by decide +kernel), (by decide +kernel)⟩,
   ⟨(1), ({ (b0.setFld Reg.GAU_WM_GPIO 16 16 9) with tim := { odo := 6 }, gpio := { pulses := [(1, (5, true))] } }), (5), (true), (by decide +kernel), (by decide +kernel)⟩,
   ⟨(1), (b0), (by decide +kernel)⟩⟩

theorem witness_RecorderTakesEventsThroughTolls :
    (∃ s : State, ∃ a : Arrival, ∃ r : List Arrival, (s.recd.arriving = a :: r) ∧ (s.recd.scanning = false) ∧ (s.recd.frozen = none) ∧ ((s.recd.queue.filter fun r => !r.fromBlotter).length < 256) ∧ (tollFree a.kind a.code a.sev = true)) ∧
    (∃ s : State, ∃ a : Arrival, ∃ r : List Arrival, (s.recd.arriving = a :: r) ∧ (s.recd.scanning = false) ∧ (s.recd.frozen = none) ∧ ((s.recd.queue.filter fun r => !r.fromBlotter).length < 256) ∧ (tollFree a.kind a.code a.sev = false) ∧ ((s.toll a.code).pending = 0) ∧ (0 < (s.toll a.code).tokens)) ∧
    (∃ s : State, ∃ a : Arrival, ∃ r : List Arrival, (s.recd.arriving = a :: r) ∧ ((s.recd.scanning = true ∨ s.recd.frozen.isSome = true)) ∧ (s.recd.blotter.length < 1024) ∧ (tollFree a.kind a.code a.sev = true) ∧ ((a.kind == 0 && codeMilestone a.code) = false)) ∧
    (∃ s : State, (s.recd.arriving = [])) ∧
    (∃ s : State, ∃ a : Arrival, ∃ r : List Arrival, (s.recd.arriving = a :: r) ∧ (s.recd.scanning = false) ∧ (s.recd.frozen = none) ∧ ((s.recd.queue.filter fun r => !r.fromBlotter).length < 256) ∧ (tollFree a.kind a.code a.sev = false) ∧ ((s.toll a.code).tokens = 0) ∧ (0 < (s.toll a.code).burst) ∧ (s.since (s.toll a.code).since < refillT (s.toll a.code).refill)) ∧
    (∃ s : State, ∃ a : Arrival, ∃ r : List Arrival, (s.recd.arriving = a :: r) ∧ (s.recd.scanning = false) ∧ (s.recd.frozen = none) ∧ (256 ≤ (s.recd.queue.filter fun r => !r.fromBlotter).length)) ∧
    (∃ mid : Mid, ∃ v : Word, ∃ s : State, (Passes s mid Reg.REC_REC_POST true) ∧ (postAllowed mid (v.toNat % 2 ^ 12) = true)) ∧
    (∃ mid : Mid, ∃ v : Word, ∃ s : State, (Passes s mid Reg.REC_REC_POST true) ∧ (postAllowed mid (v.toNat % 2 ^ 12) = false)) ∧
    (∃ s : State, ∃ r : LogRec, ∃ q : List LogRec, (s.recd.scanning = false) ∧ (s.recd.queue = r :: q) ∧ ((∀ x ∈ r :: q, x.milestone = false))) ∧
    (∃ s : State, ∃ r : LogRec, ∃ q : List LogRec, let ms := (r :: q).filter (·.milestone); (s.recd.scanning = false) ∧ (s.recd.queue = r :: q) ∧ (s.recd.gap = false) ∧ (s.nv.milestones.length + ms.length ≤ milestoneSize)) ∧
    (∃ s : State, ∃ r : LogRec, ∃ q : List LogRec, (s.recd.scanning = false) ∧ (s.recd.queue = r :: q) ∧ (r.milestone = true) ∧ (milestoneSize ≤ s.nv.milestones.length)) ∧
    (∃ s : State, (s.recd.scanning = true ∨ s.recd.queue = [])) ∧
    (∃ code : Nat, ∃ s : State, ((s.toll code).pending = 0) ∧ ((s.toll code).tokens < (s.toll code).burst) ∧ (0 < (s.toll code).refill)) ∧
    (∃ code : Nat, ∃ s : State, (s.recd.scanning = false) ∧ (s.recd.frozen = none) ∧ ((s.toll code).pending ≠ 0) ∧ ((s.toll code).tokens < (s.toll code).burst) ∧ ((s.toll code).burst ≤ (s.refilled (s.toll code)).tokens)) ∧
    (∃ mid : Mid, ∃ v : Word, ∃ s : State, (Passes s mid Reg.REC_TOLL_PARAM true) ∧ (s.pageLocked 0x1A = false) ∧ (v.toNat / 2 ^ 16 = 0)) ∧
    (∃ mid : Mid, ∃ v : Word, ∃ s : State, (Passes s mid Reg.REC_TOLL_PARAM true) ∧ (s.pageLocked 0x1A = false) ∧ (v.toNat / 2 ^ 16 ≠ 0) ∧ ((s.toll (s.fld Reg.REC_TOLL_CODE 0 12)).pending = 0)) ∧
    (∃ mid : Mid, ∃ s : State, (Passes s mid Reg.REC_TOLL_PARAM true) ∧ (s.pageLocked 0x1A = true)) :=
  ⟨⟨({ b0 with recd := { scanning := false, arriving := [⟨0, 0x010, 3, 0, [1], 4⟩] } }), (⟨0, 0x010, 3, 0, [1], 4⟩), ([]), (by decide +kernel), (by decide +kernel), (by decide +kernel), (by decide +kernel), (by decide +kernel)⟩,
   ⟨({ b0 with recd := { scanning := false, arriving := [⟨2, 0x801, 1, 1, [1], 4⟩] } }), (⟨2, 0x801, 1, 1, [1], 4⟩), ([]), (by decide +kernel), (by decide +kernel), (by decide +kernel), (by decide +kernel), (by decide +kernel), (by decide +kernel), (by decide +kernel)⟩,
   ⟨({ b0 with recd := { scanning := false, frozen := some 3, arriving := [⟨2, 0x801, 3, 1, [1], 4⟩] } }), (⟨2, 0x801, 3, 1, [1], 4⟩), ([]), (by decide +kernel), (by decide +kernel), (by decide +kernel), (by decide +kernel), (by decide +kernel)⟩,
   ⟨(b0), (by decide +kernel)⟩,
   ⟨({ b0 with recd := { scanning := false, arriving := [⟨2, 0x801, 1, 1, [1], 4⟩], tolls := [(0x801, { burst := 4, refill := 10, tokens := 0, since := 0 })] } }), (⟨2, 0x801, 1, 1, [1], 4⟩), ([]), (by decide +kernel), (by decide +kernel), (by decide +kernel), (by decide +kernel), (by decide +kernel), (by decide +kernel), (by decide +kernel), (by decide +kernel)⟩,
   ⟨({ b0 with recd := { scanning := false, arriving := [⟨0, 0x010, 3, 0, [1], 4⟩], queue := List.replicate 256 { code := 0x801, sev := 1, mid := 1 } } }), (⟨0, 0x010, 3, 0, [1], 4⟩), ([]), (by decide +kernel), (by decide +kernel), (by decide +kernel), (by decide +kernel)⟩,
   ⟨(c0), (0x801), (b0), (by decide +kernel), (by decide +kernel)⟩,
   ⟨(c0), (0x520), (b0), (by decide +kernel), (by decide +kernel)⟩,
   ⟨({ b0 with recd := { scanning := false, queue := [{ code := 0x801, sev := 1, mid := 1 }] } }), ({ code := 0x801, sev := 1, mid := 1 }), ([]), (by decide +kernel), (by decide +kernel), (by decide +kernel)⟩,
   ⟨({ b0 with recd := { scanning := false, queue := [{ code := 0x801, sev := 1, mid := 1 }, { code := 0x010, sev := 3, mid := 0, milestone := true }] } }), ({ code := 0x801, sev := 1, mid := 1 }), ([{ code := 0x010, sev := 3, mid := 0, milestone := true }]), (by decide +kernel), (by decide +kernel), (by decide +kernel), (by decide +kernel)⟩,
   ⟨({ { b0 with recd := { scanning := false, queue := [{ code := 0x010, sev := 3, mid := 0, milestone := true }] } } with nv := { milestones := List.replicate 16384 { code := 0x010, sev := 3, mid := 0, milestone := true } } }), ({ code := 0x010, sev := 3, mid := 0, milestone := true }), ([]), (by decide +kernel), (by decide +kernel), (by decide +kernel), (by decide +kernel)⟩,
   ⟨({ b0 with recd := { scanning := false } }), (by decide +kernel)⟩,
   ⟨(0x801), ({ b0 with tim := { odo := 250000000 }, recd := { tolls := [(0x801, { burst := 4, refill := 10, tokens := 3, since := 0 })] } }), (by decide +kernel), (by decide +kernel), (by decide +kernel)⟩,
   ⟨(0x801), ({ b0 with tim := { odo := 250000000 }, recd := { scanning := false, tolls := [(0x801, { burst := 4, refill := 10, tokens := 3, pending := 9, since := 0 })] } }), (by decide +kernel), (by decide +kernel), (by decide +kernel), (by decide +kernel), (by decide +kernel)⟩,
   ⟨(c0), (0x00000001), (b0.wr Reg.REC_TOLL_CODE 0x801), (by decide +kernel), (by decide +kernel), (by decide +kernel)⟩,
   ⟨(c0), (0x00010001), (b0.wr Reg.REC_TOLL_CODE 0x801), (by decide +kernel), (by decide +kernel), (by decide +kernel), (by decide +kernel)⟩,
   ⟨(c0), (b0.setBit 0x1a00c 0 true), (by decide +kernel), (by decide +kernel)⟩⟩

theorem witness_RecorderFreezeScanAndReaders :
    (∃ mid : Mid, ∃ s : State, (Passes s mid Reg.REC_REC_FREEZE true) ∧ (s.recd.scanning = false) ∧ (s.recd.frozen = none)) ∧
    (∃ mid : Mid, ∃ s : State, (Passes s mid Reg.REC_REC_FREEZE true) ∧ (s.recd.scanning = true)) ∧
    (∃ mid : Mid, ∃ s : State, (Passes s mid Reg.REC_REC_FREEZE true) ∧ (s.recd.scanning = false) ∧ (s.recd.frozen.isSome = true)) ∧
    (∃ mid : Mid, ∃ s : State, ∃ e : BitVec 64, (Passes s mid Reg.REC_REC_FREEZE true) ∧ (s.recd.scanning = false) ∧ (s.recd.frozen = some e)) ∧
    (∃ mid : Mid, ∃ s : State, (Passes s mid Reg.REC_REC_FREEZE true) ∧ (s.recd.frozen = none)) ∧
    (∃ s : State, ∃ e : BitVec 64, (s.recd.scanning = false) ∧ (s.recd.frozen = some e) ∧ (secT 10 ≤ s.since e)) ∧
    (∃ s : State, ∃ e : BitVec 64, (s.recd.frozen = some e) ∧ (s.since e < secT 10)) ∧
    (∃ s : State, (s.recd.frozen = none)) ∧
    (∃ s : State, ∃ r : LogRec, ∃ l : List LogRec, (s.recd.scanning = true) ∧ (s.nv.log = r :: l)) ∧
    (∃ s : State, (s.recd.scanning = true) ∧ (s.nv.log = [])) ∧
    (∃ s : State, (s.recd.scanning = false)) ∧
    (∃ s : State, (s.recd.scanning = true) ∧ (s.recd.scanned = true) ∧ (s.recd.overflow = none) ∧ (s.recd.frozen = none) ∧ ((s.toll 0x002).pending = 0) ∧ (0 < (s.toll 0x002).tokens)) ∧
    (∃ s : State, (s.recd.scanning = false ∨ s.recd.scanned = false)) ∧
    (∃ s : State, (s.recd.erasing = true) ∧ (s.recd.queue = []) ∧ (s.recd.ckpt = none)) ∧
    (∃ s : State, (s.recd.erasing = false ∨ s.recd.queue ≠ [] ∨ s.recd.ckpt.isSome = true)) ∧
    (∃ mid : Mid, ∃ v : Word, ∃ s : State, ∃ r : LogRec, (Passes s mid Reg.REC_RD_KEY true) ∧ (s.bit Reg.REC_RD_AREA 0 = false) ∧ (s.nv.log.find? (fun r => r.seq == v.toNat) = some r)) ∧
    (∃ mid : Mid, ∃ v : Word, ∃ s : State, (Passes s mid Reg.REC_RD_KEY true) ∧ (s.bit Reg.REC_RD_AREA 0 = false) ∧ (s.nv.log.find? (fun r => r.seq == v.toNat) = none)) ∧
    (∃ mid : Mid, ∃ s : State, (Passes s mid Reg.REC_RD_KEY true) ∧ (s.bit Reg.REC_RD_AREA 0 = true)) ∧
    (∃ s : State, ∃ i : Nat, ∃ pub : Nat, (s.recd.ckpt = some (i, pub)) ∧ (s.recd.queue = []) ∧ (s.bit Reg.EST_EST_CFG 0 = true)) ∧
    (∃ s : State, (s.recd.ckpt.isSome = true) ∧ (s.recd.queue = []) ∧ (s.bit Reg.EST_EST_CFG 0 = false)) ∧
    (∃ s : State, (s.recd.ckpt = none ∨ s.recd.queue ≠ [])) ∧
    (∃ mid : Mid, ∃ s : State, (Passes s mid Reg.REC_REC_CMD true) ∧ (s.pair.mode ≠ .operate) ∧ (s.pair.mode ≠ .formation) ∧ (s.recd.frozen = none) ∧ (s.recd.scanning = false)) ∧
    (∃ mid : Mid, ∃ s : State, (Passes s mid Reg.REC_REC_CMD true) ∧ ((s.pair.mode = .operate ∨ s.pair.mode = .formation ∨ s.recd.frozen.isSome = true ∨ s.recd.scanning = true))) :=
  ⟨⟨(c0), ({ b0 with recd := { scanning := false } }), (by decide +kernel), (by decide +kernel), (by decide +kernel)⟩,
   ⟨(c0), (b0), (by decide +kernel), (by decide +kernel)⟩,
   ⟨(c0), ({ b0 with recd := { scanning := false, frozen := some 5 } }), (by decide +kernel), (by decide +kernel), (by decide +kernel)⟩,
   ⟨(c0), ({ b0 with recd := { scanning := false, frozen := some 5 } }), (5), (by decide +kernel), (by decide +kernel), (by decide +kernel)⟩,
   ⟨(c0), (b0), (by decide +kernel), (by decide +kernel)⟩,
   ⟨({ b0 with tim := { odo := 2500000005 }, recd := { scanning := false, frozen := some 5 } }), (5), (by decide +kernel), (by decide +kernel), (by decide +kernel)⟩,
   ⟨({ b0 with tim := { odo := 2500000004 }, recd := { scanning := false, frozen := some 5 } }), (5), (by decide +kernel), (by decide +kernel)⟩,
   ⟨(b0), (by decide +kernel)⟩,
   ⟨({ b0 with nv := { log := [{ code := 0x801, sev := 1, mid := 1 }] } }), ({ code := 0x801, sev := 1, mid := 1 }), ([]), (by decide +kernel), (by decide +kernel)⟩,
   ⟨(b0), (by decide +kernel), (by decide +kernel)⟩,
   ⟨({ b0 with recd := { scanning := false } }), (by decide +kernel)⟩,
   ⟨({ b0 with recd := { scanned := true, blotter := [{ code := 0x801, sev := 1, mid := 1 }] } }), (by decide +kernel), (by decide +kernel), (by decide +kernel), (by decide +kernel), (by decide +kernel), (by decide +kernel)⟩,
   ⟨(b0), (by decide +kernel)⟩,
   ⟨({ b0 with recd := { erasing := true } }), (by decide +kernel), (by decide +kernel), (by decide +kernel)⟩,
   ⟨(b0), (by decide +kernel)⟩,
   ⟨(c0), (0), (let mid : Mid := c0; { b0 with nv := { log := [{ code := 0x801, sev := 1, mid := 1 }] } }), (let mid : Mid := c0; { code := 0x801, sev := 1, mid := 1 }), (by decide +kernel), (by decide +kernel), (by decide +kernel)⟩,
   ⟨(c0), (7), (b0), (by decide +kernel), (by decide +kernel), (by decide +kernel)⟩,
   ⟨(c0), (b0.setBit Reg.REC_RD_AREA 0 true), (by decide +kernel), (by decide +kernel)⟩,
   ⟨({ (b0.setBit Reg.EST_EST_CFG 0 true) with recd := { ckpt := some (2, 7) }, est := { pub := [(3, cl0)] } }), (2), (7), (by decide +kernel), (by decide +kernel), (by decide +kernel)⟩,
   ⟨({ (b0.setBit Reg.EST_EST_CFG 0 false) with recd := { ckpt := some (2, 7) } }), (by decide +kernel), (by decide +kernel), (by decide +kernel)⟩,
   ⟨(b0), (by decide +kernel)⟩,
   ⟨(c0), ({ b0 with recd := { scanning := false } }), (by decide +kernel), (by decide +kernel), (by decide +kernel), (by decide +kernel), (by decide +kernel)⟩,
   ⟨(c0), (b0), (by decide +kernel), (by decide +kernel)⟩⟩

theorem witness_MailboxSlotsAndTimeouts :
    (∃ mid : Mid, ∃ ch : Fin 64, ∃ n : Fin 8, ∃ s : State, ∃ e : Bool, (Passes s mid (mbxAddr ch.val (4 * n.val)) true) ∧ (s.endOf ch.val mid.code = some e) ∧ ((s.mbxEnd ch.val e).full = false)) ∧
    (∃ mid : Mid, ∃ ch : Fin 64, ∃ n : Fin 8, ∃ s : State, ∃ e : Bool, (Passes s mid (mbxAddr ch.val (4 * n.val)) true) ∧ (s.endOf ch.val mid.code = some e) ∧ ((s.mbxEnd ch.val e).full = true)) ∧
    (∃ mid : Mid, ∃ ch : Fin 64, ∃ v : Word, ∃ s : State, ∃ e : Bool, (Passes s mid (mbxAddr ch.val 0x20) true) ∧ (s.endOf ch.val mid.code = some e) ∧ (v.toNat.testBit 8 = false) ∧ ((s.mbxEnd ch.val e).full = false) ∧ (1 ≤ v.toNat % 16) ∧ (v.toNat % 16 ≤ 8) ∧ ((s.farRemote ch.val e = true → s.mbxPeer = true))) ∧
    (∃ mid : Mid, ∃ ch : Fin 64, ∃ v : Word, ∃ s : State, ∃ e : Bool, (Passes s mid (mbxAddr ch.val 0x20) true) ∧ (s.endOf ch.val mid.code = some e) ∧ (v.toNat.testBit 8 = false) ∧ (((s.mbxEnd ch.val e).full = true ∨ v.toNat % 16 = 0 ∨ 8 < v.toNat % 16 ∨ (s.farRemote ch.val e = true ∧ s.mbxPeer = false)))) ∧
    (∃ v : Word, (v.toNat.testBit 8 = true)) ∧
    (∃ mid : Mid, ∃ ch : Fin 64, ∃ s : State, ∃ e : Bool, (Passes s mid (mbxAddr ch.val 0x24) false) ∧ (s.endOf ch.val mid.code = some e) ∧ ((s.mbxEnd ch.val (!e)).full = true)) ∧
    (∃ mid : Mid, ∃ ch : Fin 64, ∃ s : State, ∃ e : Bool, (Passes s mid (mbxAddr ch.val 0x24) false) ∧ (s.endOf ch.val mid.code = some e) ∧ ((s.mbxEnd ch.val (!e)).full = false)) ∧
    (∃ mid : Mid, ∃ ch : Fin 64, ∃ s : State, ∃ e : Bool, (Passes s mid (mbxAddr ch.val 0x20) true) ∧ (s.endOf ch.val mid.code = some e) ∧ ((s.mbxEnd ch.val e).full = true)) ∧
    (∃ mid : Mid, ∃ ch : Fin 64, ∃ s : State, ∃ e : Bool, (Passes s mid (mbxAddr ch.val 0x20) true) ∧ (s.endOf ch.val mid.code = some e) ∧ ((s.mbxEnd ch.val e).full = false)) ∧
    (∃ mid : Mid, ∃ ch : Fin 64, ∃ s : State, ∃ e : Bool, (Passes s mid (mbxAddr ch.val 0x2c) true) ∧ (s.endOf ch.val mid.code = some e)) ∧
    (∃ mid : Mid, ∃ ch : Fin 64, ∃ s : State, ∃ e : Bool, (Passes s mid (mbxAddr ch.val 0x30) true) ∧ (s.endOf ch.val mid.code = some e)) ∧
    (∃ mid : Mid, ∃ ch : Fin 64, ∃ s : State, (s.endOf ch.val mid.code = none)) ∧
    (∃ ch : Fin 64, ∃ e : Bool, ∃ s : State, (s.rd Reg.MBX_MBX_TMO ≠ 0) ∧ ((s.mbxEnd ch.val e).full = true) ∧ ((s.mbxEnd ch.val e).tmo = false) ∧ (usT (s.rd Reg.MBX_MBX_TMO) ≤ s.since (s.mbxEnd ch.val e).postAt)) ∧
    (∃ ch : Fin 64, ∃ e : Bool, ∃ s : State, ((s.rd Reg.MBX_MBX_TMO = 0 ∨ (s.mbxEnd ch.val e).full = false ∨ (s.mbxEnd ch.val e).tmo = true ∨
    s.since (s.mbxEnd ch.val e).postAt < usT (s.rd Reg.MBX_MBX_TMO)))) ∧
    (∃ ch : Fin 64, ∃ s : State, (s.rd Reg.MBX_MBX_TMO ≠ 0) ∧ ((s.mbxEnd ch.val false).full = true) ∧ ((s.mbxEnd ch.val true).full = true) ∧ (((s.mbxEnd ch.val false).mutual_ = false ∨ (s.mbxEnd ch.val true).mutual_ = false)) ∧ (usT (s.rd Reg.MBX_MBX_TMO) ≤ s.since (s.mbxEnd ch.val false).postAt) ∧ (usT (s.rd Reg.MBX_MBX_TMO) ≤ s.since (s.mbxEnd ch.val true).postAt)) ∧
    (∃ ch : Fin 64, ∃ e : Bool, ∃ s : State, ((s.rd Reg.MBX_MBX_TMO = 0 ∨ (s.mbxEnd ch.val e).full = false ∨
    s.since (s.mbxEnd ch.val e).postAt < usT (s.rd Reg.MBX_MBX_TMO)))) :=
  ⟨⟨(c0), (63), (7), (mb 63 1 2), (false), (by decide +kernel), (by decide +kernel), (by decide +kernel)⟩,
   ⟨(c0), (63), (7), (mbF (mb 63 1 2) 63 { full := true } {}), (false), (by decide +kernel), (by decide +kernel), (by decide +kernel)⟩,
   ⟨(c0), (63), (8), (mbP 63 1 0x42), (false), (by decide +kernel), (by decide +kernel), (by decide +kernel), (by decide +kernel), (by decide +kernel), (by decide +kernel), (by decide +kernel)⟩,
   ⟨(c0), (63), (8), (mbF (mb 63 1 2) 63 { full := true } {}), (false), (by decide +kernel), (by decide +kernel), (by decide +kernel), (by decide +kernel)⟩,
   ⟨(0x108), (by decide +kernel)⟩,
   ⟨(c0), (63), (mbF (mb 63 1 2) 63 {} { full := true, len := 8 }), (false), (by decide +kernel), (by decide +kernel), (by decide +kernel)⟩,
   ⟨(c0), (63), (mb 63 1 2), (false), (by decide +kernel), (by decide +kernel), (by decide +kernel)⟩,
   ⟨(c0), (63), (mbF (mb 63 1 2) 63 { full := true } {}), (false), (by decide +kernel), (by decide +kernel), (by decide +kernel)⟩,
   ⟨(c0), (63), (mb 63 1 2), (false), (by decide +kernel), (by decide +kernel), (by decide +kernel)⟩,
   ⟨(c0), (63), (mb 63 1 2), (false), (by decide +kernel), (by decide +kernel)⟩,
   ⟨(c0), (63), (mbF (mb 63 1 2) 63 {} { ring := 5 }), (false), (by decide +kernel), (by decide +kernel)⟩,
   ⟨(c0), (63), (mb 63 2 3), (by decide +kernel)⟩,
   ⟨(63), (false), (mbF ((mb 63 1 2).wr Reg.MBX_MBX_TMO 100) 63 { full := true } {}), (by decide +kernel), (by decide +kernel), (by decide +kernel), (by decide +kernel)⟩,
   ⟨(63), (false), (b0.wr Reg.MBX_MBX_TMO 0), (by decide +kernel)⟩,
   ⟨(63), (mbF ((mb 63 1 2).wr Reg.MBX_MBX_TMO 100) 63 { full := true } { full := true }), (by decide +kernel), (by decide +kernel), (by decide +kernel), (by decide +kernel), (by decide +kernel), (by decide +kernel)⟩,
   ⟨(63), (false), (b0.wr Reg.MBX_MBX_TMO 0), (by decide +kernel)⟩⟩

theorem witness_BindingByTheSafetyCore :
    (∃ ch : Fin 64, ∃ v : Word, ∃ s : State, (Passes s (.own .safety) (Reg.MBX_BIND ch.val) true) ∧ (s.pageLocked 5 = false) ∧ (bindOk v.toNat = true)) ∧
    (∃ mid : Mid, ∃ ch : Fin 64, ∃ s : State, (Passes s mid (Reg.MBX_BIND ch.val) true) ∧ (mid ≠ .own .safety)) ∧
    (∃ ch : Fin 64, ∃ s : State, (Passes s (.own .safety) (Reg.MBX_BIND ch.val) true) ∧ (s.pageLocked 5 = true)) ∧
    (∃ ch : Fin 64, ∃ v : Word, ∃ s : State, (Passes s (.own .safety) (Reg.MBX_BIND ch.val) true) ∧ (s.pageLocked 5 = false) ∧ (bindOk v.toNat = false)) :=
  ⟨⟨(63), (0x14201), (b0), (by decide +kernel), (by decide +kernel), (by decide +kernel)⟩,
   ⟨(c0), (63), (b0), (by decide +kernel), (by decide +kernel)⟩,
   ⟨(63), (b0.setBit 0x500c 0 true), (by decide +kernel), (by decide +kernel)⟩,
   ⟨(63), (0x10101), (b0), (by decide +kernel), (by decide +kernel), (by decide +kernel)⟩⟩

theorem witness_MailboxFramesFromThePartner :
    (∃ ch : Fin 64, ∃ m : LocalMid, ∃ rx : CswRx, ∃ s : State, ∃ e : Bool, (s.cswAccepts 3 0 rx = true) ∧ (s.nearEnd ch.val m.code = some e) ∧ ((s.mbxEnd ch.val (!e)).full = false)) ∧
    (∃ ch : Fin 64, ∃ m : LocalMid, ∃ rx : CswRx, ∃ s : State, (s.cswAccepts 3 0 rx = true) ∧ ((∀ e, s.nearEnd ch.val m.code = some e → (s.mbxEnd ch.val (!e)).full = true))) ∧
    (∃ ch : Fin 64, ∃ m : LocalMid, ∃ rx : CswRx, ∃ s : State, ∃ e : Bool, (s.cswAccepts 3 1 rx = true) ∧ (s.nearEnd ch.val m.code = some e) ∧ ((s.mbxEnd ch.val e).full = true)) ∧
    (∃ ch : Fin 64, ∃ m : LocalMid, ∃ rx : CswRx, ∃ s : State, ∃ e : Bool, (s.cswAccepts 3 2 rx = true) ∧ (s.nearEnd ch.val m.code = some e) ∧ ((s.mbxEnd ch.val (!e)).full = true)) ∧
    (∃ ch : Fin 64, ∃ rx : CswRx, ∃ s : State, ∃ e : Bool, (s.cswAccepts 3 3 rx = true) ∧ (s.localEnd ch.val = some e)) ∧
    (∃ ch : Fin 64, ∃ rx : CswRx, ∃ s : State, ∃ e : Bool, (s.cswAccepts 3 4 rx = true) ∧ (s.localEnd ch.val = some e)) ∧
    (∃ ch : Fin 64, ∃ rx : CswRx, ∃ s : State, ∃ e : Bool, (s.cswAccepts 3 5 rx = true) ∧ (s.localEnd ch.val = some e) ∧ ((s.mbxEnd ch.val e).full = true)) ∧
    (∃ rx : CswRx, ∃ s : State, (s.cswAccepts 3 6 rx = true)) :=
  ⟨⟨(63), (.core 1), (⟨0, true, 9⟩), (mbP 63 1 0x42), (false), (by decide +kernel), (by decide +kernel), (by decide +kernel)⟩,
   ⟨(63), (.core 0), (⟨0, true, 9⟩), (mbP 63 1 0x42), (by decide +kernel), (by decide +kernel)⟩,
   ⟨(63), (.core 1), (⟨0, true, 9⟩), (mbF (mbP 63 1 0x42) 63 { full := true } {}), (false), (by decide +kernel), (by decide +kernel), (by decide +kernel)⟩,
   ⟨(63), (.core 1), (⟨0, true, 9⟩), (mbF (mbP 63 1 0x42) 63 {} { full := true }), (false), (by decide +kernel), (by decide +kernel), (by decide +kernel)⟩,
   ⟨(63), (⟨0, true, 9⟩), (mbP 63 1 0x42), (false), (by decide +kernel), (by decide +kernel)⟩,
   ⟨(63), (⟨0, true, 9⟩), (mbP 63 1 0x42), (false), (by decide +kernel), (by decide +kernel)⟩,
   ⟨(63), (⟨0, true, 9⟩), (mbF (mbP 63 1 0x42) 63 { full := true } {}), (false), (by decide +kernel), (by decide +kernel), (by decide +kernel)⟩,
   ⟨(⟨0, true, 9⟩), (mbP 63 1 0x42), (by decide +kernel)⟩⟩

theorem witness_FirewallCommandsAndHeaders :
    (∃ v : Word, ∃ s : State, (Passes s (.own .safety) Reg.FWL_FWL_CMD true) ∧ (v.toNat = 2 ^ 8 + v.toNat % 32) ∧ (s.bit Reg.FWL_FROZEN (v.toNat % 32) = true)) ∧
    (∃ v : Word, ∃ s : State, (Passes s (.own .safety) Reg.FWL_FWL_CMD true) ∧ ((v.toNat ≠ 2 ^ 8 + v.toNat % 32 ∨ s.bit Reg.FWL_FROZEN (v.toNat % 32) = false))) ∧
    (∃ s : State, (Passes s (.own .safety) Reg.FWL_VIOL_CLR true)) ∧
    (∃ mid : Mid, ∃ s : State, (mid ≠ .own .safety) ∧ (Passes s mid Reg.FWL_FWL_CMD true)) ∧
    (∃ mid : Mid, ∃ s : State, (mid ≠ .own .safety) ∧ (Passes s mid Reg.FWL_VIOL_CLR true)) ∧
    (∃ mid : Mid, ∃ page : Nat, ∃ v : Word, ∃ s : State, (page < 64) ∧ (Passes s mid (page * 0x1000 + 0x00c) true) ∧ (v.toNat.testBit 0 = true) ∧ (page ≠ 3) ∧ (page ≠ 5) ∧ (page ≠ 0x14) ∧ ((page = 0x13 → mid = .own .safety))) ∧
    (∃ page : Nat, ∃ v : Word, ∃ s : State, ((page = 3 ∨ page = 5)) ∧ (Passes s (.own .safety) (page * 0x1000 + 0x00c) true) ∧ (v.toNat.testBit 0 = true)) ∧
    (∃ mid : Mid, ∃ page : Nat, ∃ v : Word, ∃ s : State, (page ∈ [3, 5, 0x13]) ∧ (Passes s mid (page * 0x1000 + 0x00c) true) ∧ (v.toNat.testBit 0 = true) ∧ (mid ≠ .own .safety)) ∧
    (∃ mid : Mid, ∃ page : Nat, ∃ v : Word, ∃ s : State, (page < 64) ∧ (Passes s mid (page * 0x1000 + 0x00c) true) ∧ ((v.toNat.testBit 0 = false ∨ page = 0x14))) ∧
    (∃ mid : Mid, ∃ page : Nat, ∃ s : State, (page < 64) ∧ (Passes s mid (page * 0x1000 + 0x018) true) ∧ ((page ∈ [3, 0x13, 0x14] → mid = .own .safety))) ∧
    (∃ mid : Mid, ∃ page : Nat, ∃ s : State, (page ∈ [3, 0x13, 0x14]) ∧ (Passes s mid (page * 0x1000 + 0x018) true) ∧ (mid ≠ .own .safety)) ∧
    (∃ mid : Mid, ∃ page : Nat, ∃ s : State, (page < 64) ∧ (Passes s mid (errAddr page) false)) :=
  ⟨⟨(0x117), (b0.setBit Reg.FWL_FROZEN 23 true), (by decide +kernel), (by decide +kernel), (by decide +kernel)⟩,
   ⟨(0x105), (b0), (by decide +kernel), (by decide +kernel)⟩,
   ⟨(b0), (by decide +kernel)⟩,
   ⟨(c0), (b0), (by decide +kernel), (by decide +kernel)⟩,
   ⟨(c0), (b0), (by decide +kernel), (by decide +kernel)⟩,
   ⟨(c0), (0x20), (1), (b0), (by decide +kernel), (by decide +kernel), (by decide +kernel), (by decide +kernel), (by decide +kernel), (by decide +kernel), (by decide +kernel)⟩,
   ⟨(3), (1), (b0.setBit 0x500c 0 true), (by decide +kernel), (by decide +kernel), (by decide +kernel)⟩,
   ⟨(c0), (0x13), (1), (b0), (by decide +kernel), (by decide +kernel), (by decide +kernel), (by decide +kernel)⟩,
   ⟨(c0), (0x14), (1), (b0), (by decide +kernel), (by decide +kernel), (by decide +kernel)⟩,
   ⟨(c0), (0x20), (b0), (by decide +kernel), (by decide +kernel), (by decide +kernel)⟩,
   ⟨(c0), (0x14), (b0), (by decide +kernel), (by decide +kernel), (by decide +kernel)⟩,
   ⟨(c0), (0x20), (b0), (by decide +kernel), (by decide +kernel)⟩⟩

theorem witness_CanControllersAndTransmission :
    (∃ l : Fin 2, ∃ mid : Mid, ∃ s : State, (Passes s mid (Reg.CAN_CAN_CTRL l.val) true) ∧ (s.canInit l.val = true)) ∧
    (∃ l : Fin 2, ∃ mid : Mid, ∃ s : State, (Passes s mid (Reg.CAN_CAN_CTRL l.val) true) ∧ (s.canInit l.val = false)) ∧
    (∃ l : Fin 2, ∃ mid : Mid, ∃ s : State, (Passes s mid (Reg.CAN_CAN_CMD l.val) true)) ∧
    (∃ l : Fin 2, ∃ mid : Mid, ∃ v : Word, ∃ s : State, (Passes s mid (Reg.CAN_TX_PUSH l.val) true) ∧ (v.getLsbD 0 = true)) ∧
    (∃ l : Fin 2, ∃ mid : Mid, ∃ v : Word, ∃ s : State, (Passes s mid (Reg.CAN_TX_PUSH l.val) true) ∧ (v.getLsbD 0 = false)) ∧
    (∃ l : Fin 2, ∃ s : State, ∃ e : CanTx, ∃ r : List CanTx, ((s.can l.val).txf = e :: r) ∧ (s.canOn l.val = true) ∧ ((s.can l.val).flying = false) ∧ (s.bit (Reg.CAN_CAN_CTRL l.val) 4 = false)) ∧
    (∃ l : Fin 2, ∃ s : State, (((s.can l.val).txf = [] ∨ s.canOn l.val = false ∨ (s.can l.val).flying = true ∨ s.bit (Reg.CAN_CAN_CTRL l.val) 4 = true))) ∧
    (∃ l : Fin 2, ∃ how : CanEnd, ∃ s : State, ∃ e : CanTx, ∃ r : List CanTx, ((s.can l.val).txf = e :: r) ∧ ((s.can l.val).flying = true) ∧ (canEndOf (s.bit (Reg.CAN_CAN_CTRL l.val) 6) how = .sent)) ∧
    (∃ l : Fin 2, ∃ s : State, ∃ e : CanTx, ∃ r : List CanTx, ((s.can l.val).txf = e :: r) ∧ ((s.can l.val).flying = true)) ∧
    (∃ l : Fin 2, ∃ k : CanError, ∃ s : State, ∃ e : CanTx, ∃ r : List CanTx, ((s.can l.val).txf = e :: r) ∧ ((s.can l.val).flying = true) ∧ ((k = .ack → s.bit (Reg.CAN_CAN_CTRL l.val) 6 = false))) ∧
    (∃ l : Fin 2, ∃ s : State, (((s.can l.val).txf = [] ∨ (s.can l.val).flying = false))) ∧
    (∃ l : Fin 2, ∃ mid : Mid, ∃ v : Word, ∃ s : State, (Passes s mid (Reg.CAN_TX_CANCEL l.val) true) ∧ ((s.can l.val).txf.find? (fun e => e.tag == v.toNat % 256) = none)) ∧
    (∃ l : Fin 2, ∃ mid : Mid, ∃ v : Word, ∃ s : State, ∃ e : CanTx, ∃ h : CanTx, ∃ r : List CanTx, (Passes s mid (Reg.CAN_TX_CANCEL l.val) true) ∧ ((s.can l.val).txf.find? (fun e => e.tag == v.toNat % 256) = some e) ∧ ((s.can l.val).txf = h :: r)) ∧
    (∃ l : Fin 2, ∃ s : State, ∃ id : Word, ∃ tag : Nat, ((s.can l.val).clashDue = some (id, tag))) ∧
    (∃ l : Fin 2, ∃ s : State, ((s.can l.val).clashDue = none)) :=
  ⟨⟨(0), (c0), (b0), (by decide +kernel), (by decide +kernel)⟩,
   ⟨(0), (c0), ((b0.setBit (Reg.CAN_CAN_CTRL 0) 0 false)), (by decide +kernel), (by decide +kernel)⟩,
   ⟨(0), (c0), ({ (b0.setBit (Reg.CAN_CAN_CTRL 0) 0 false) with can0 := { ((b0.setBit (Reg.CAN_CAN_CTRL 0) 0 false)).can0 with state := 3 } }), (by decide +kernel)⟩,
   ⟨(0), (c0), (1), ({ (b0.setBit (Reg.CAN_CAN_CTRL 0) 0 false) with can0 := { ((b0.setBit (Reg.CAN_CAN_CTRL 0) 0 false)).can0 with state := 1 } }), (by decide +kernel), (by decide +kernel)⟩,
   ⟨(0), (c0), (0), (b0), (by decide +kernel), (by decide +kernel)⟩,
   ⟨(0), ({ (b0.setBit (Reg.CAN_CAN_CTRL 0) 0 false) with can0 := { ((b0.setBit (Reg.CAN_CAN_CTRL 0) 0 false)).can0 with state := 1, txf := [{ tag := 5, w0 := 0, w1 := 0, data := [] }] } }), ({ tag := 5, w0 := 0, w1 := 0, data := [] }), ([]), (by decide +kernel), (by decide +kernel), (by decide +kernel), (by decide +kernel)⟩,
   ⟨(0), (b0), (by decide +kernel)⟩,
   ⟨(0), (.sent), ({ (b0.setBit (Reg.CAN_CAN_CTRL 0) 0 false) with can0 := { ((b0.setBit (Reg.CAN_CAN_CTRL 0) 0 false)).can0 with state := 1, flying := true, tec := 9, txf := [{ tag := 5, w0 := 0, w1 := 0, data := [] }] } }), ({ tag := 5, w0 := 0, w1 := 0, data := [] }), ([]), (by decide +kernel), (by decide +kernel), (by decide +kernel)⟩,
   ⟨(0), ({ (b0.setBit (Reg.CAN_CAN_CTRL 0) 0 false) with can0 := { ((b0.setBit (Reg.CAN_CAN_CTRL 0) 0 false)).can0 with state := 1, flying := true, tec := 9, txf := [{ tag := 5, w0 := 0, w1 := 0, data := [] }] } }), ({ tag := 5, w0 := 0, w1 := 0, data := [] }), ([]), (by decide +kernel), (by decide +kernel)⟩,
   ⟨(0), (.bit0), ({ (b0.setBit (Reg.CAN_CAN_CTRL 0) 0 false) with can0 := { ((b0.setBit (Reg.CAN_CAN_CTRL 0) 0 false)).can0 with state := 1, flying := true, tec := 9, txf := [{ tag := 5, w0 := 0, w1 := 0, data := [] }] } }), ({ tag := 5, w0 := 0, w1 := 0, data := [] }), ([]), (by decide +kernel), (by decide +kernel), (by decide +kernel)⟩,
   ⟨(0), (b0), (by decide +kernel)⟩,
   ⟨(0), (c0), (6), (b0), (by decide +kernel), (by decide +kernel)⟩,
   ⟨(0), (c0), (5), ({ (b0.setBit (Reg.CAN_CAN_CTRL 0) 0 false) with can0 := { ((b0.setBit (Reg.CAN_CAN_CTRL 0) 0 false)).can0 with state := 1, txf := [{ tag := 5, w0 := 0, w1 := 0, data := [] }] } }), ({ tag := 5, w0 := 0, w1 := 0, data := [] }), ({ tag := 5, w0 := 0, w1 := 0, data := [] }), ([]), (by decide +kernel), (by decide +kernel), (by decide +kernel)⟩,
   ⟨(0), ({ ((b0.setBit (Reg.CAN_CAN_CTRL 0) 0 false).setBit (Reg.CAN_CAN_CTRL 0) 9 true) with can0 := { (((b0.setBit (Reg.CAN_CAN_CTRL 0) 0 false).setBit (Reg.CAN_CAN_CTRL 0) 9 true)).can0 with clashDue := some (7, 5), txf := [{ tag := 5, w0 := 0, w1 := 0, data := [] }] } }), (7), (5), (by decide +kernel)⟩,
   ⟨(0), (b0), (by decide +kernel)⟩⟩

theorem witness_CanReceptionFlushesAndFilters :
    (∃ l : Fin 2, ∃ s : State, (s.canOn l.val = true) ∧ (s.bit (Reg.CAN_CAN_CTRL l.val) 5 = false)) ∧
    (∃ l : Fin 2, ∃ s : State, ((s.canOn l.val = false ∨ s.bit (Reg.CAN_CAN_CTRL l.val) 5 = true))) ∧
    (∃ l : Fin 2, ∃ s : State, (s.canOn l.val = true) ∧ (s.bit (Reg.CAN_CAN_CTRL l.val) 5 = false)) ∧
    (∃ l : Fin 2, ∃ mid : Mid, ∃ s : State, (Passes s mid (Reg.CAN_RXF_POP l.val) true)) ∧
    (∃ l : Fin 2, ∃ mid : Mid, ∃ s : State, (Passes s mid (Reg.CAN_TXE_POP l.val) true)) ∧
    (∃ l : Fin 2, ∃ mid : Mid, ∃ s : State, (Passes s mid (Reg.CAN_CAN_CMD l.val) true)) ∧
    (∃ l : Fin 2, ∃ mid : Mid, ∃ s : State, (Passes s mid (Reg.CAN_CAN_CMD l.val) true) ∧ ((s.can l.val).state = 3 ∨ s.canInit l.val = true)) ∧
    (∃ l : Fin 2, ∃ mid : Mid, ∃ s : State, (Passes s mid (Reg.CAN_CAN_CMD l.val) true) ∧ ((s.can l.val).state ≠ 3) ∧ (s.canInit l.val = false)) ∧
    (∃ l : Fin 2, ∃ mid : Mid, ∃ s : State, (Passes s mid (Reg.CAN_FS_CMD l.val) true) ∧ (s.filters.firstFree 8 = none)) ∧
    (∃ l : Fin 2, ∃ mid : Mid, ∃ s : State, ∃ i : Nat, (Passes s mid (Reg.CAN_FS_CMD l.val) true) ∧ (s.filters.firstFree 8 = some i)) ∧
    (∃ l : Fin 2, ∃ mid : Mid, ∃ s : State, ∃ i : Nat, ∃ f : FilterSet, (Passes s mid (Reg.CAN_FS_CMD l.val) true) ∧ (s.fsHandle l.val = .ok (i, f))) ∧
    (∃ l : Fin 2, ∃ mid : Mid, ∃ s : State, ∃ e : ErrCode, (Passes s mid (Reg.CAN_FS_CMD l.val) true) ∧ (s.fsHandle l.val = .error e)) ∧
    (∃ l : Fin 2, ∃ mid : Mid, ∃ k : Fin 64, ∃ m : Bool, ∃ s : State, let a := if m then Reg.CAN_FLT_MASK l.val k.val else Reg.CAN_FLT_ID l.val k.val; (Passes s mid a true)) :=
  ⟨⟨(0), ({ ((b0.setBit (Reg.CAN_CAN_CTRL 0) 0 false).setBit (Reg.CAN_CAN_CTRL 0) 8 true) with can0 := { (((b0.setBit (Reg.CAN_CAN_CTRL 0) 0 false).setBit (Reg.CAN_CAN_CTRL 0) 8 true)).can0 with state := 1 } }), (by decide +kernel), (by decide +kernel)⟩,
   ⟨(0), (b0), (by decide +kernel)⟩,
   ⟨(0), ({ (b0.setBit (Reg.CAN_CAN_CTRL 0) 0 false) with can0 := { ((b0.setBit (Reg.CAN_CAN_CTRL 0) 0 false)).can0 with state := 1 } }), (by decide +kernel), (by decide +kernel)⟩,
   ⟨(0), (c0), ({ (b0.setBit (Reg.CAN_CAN_CTRL 0) 0 false) with can0 := { ((b0.setBit (Reg.CAN_CAN_CTRL 0) 0 false)).can0 with rxf := [⟨0,0,0,0,[]⟩] } }), (by decide +kernel)⟩,
   ⟨(0), (c0), ({ (b0.setBit (Reg.CAN_CAN_CTRL 0) 0 false) with can0 := { ((b0.setBit (Reg.CAN_CAN_CTRL 0) 0 false)).can0 with txe := [(0,0,0,0)] } }), (by decide +kernel)⟩,
   ⟨(0), (c0), (b0), (by decide +kernel)⟩,
   ⟨(0), (c0), (b0), (by decide +kernel), (by decide +kernel)⟩,
   ⟨(0), (c0), ({ (b0.setBit (Reg.CAN_CAN_CTRL 0) 0 false) with can0 := { ((b0.setBit (Reg.CAN_CAN_CTRL 0) 0 false)).can0 with state := 1, txf := [{ tag := 5, w0 := 0, w1 := 0, data := [] }] } }), (by decide +kernel), (by decide +kernel), (by decide +kernel)⟩,
   ⟨(0), (c0), ({ b0 with filters := (List.range 8).map fun i => (i, fs true) }), (by decide +kernel), (by decide +kernel)⟩,
   ⟨(0), (c0), (b0.wr (Reg.CAN_FS_RANGE 0) (4*65536+60)), (0), (by decide +kernel), (by decide +kernel)⟩,
   ⟨(0), (c0), (bF true), (7), (fs true), (by decide +kernel), (ok_of (by decide +kernel))⟩,
   ⟨(0), (c0), (b0), (.handleBad), (by decide +kernel), (err_of (by decide +kernel))⟩,
   ⟨(0), (c0), (63), (true), (bF false), (by decide +kernel)⟩⟩

theorem witness_ClocksFollowTheirSources :
    (∃ mid : Mid, ∃ b : Bool, ∃ s : State, (Passes s mid Reg.CLK_CLK_CFG true) ∧ (s.pageLocked 1 = false) ∧ ((b = true → s.rd Reg.CLK_OSC_QUAL ≠ 0))) ∧
    (∃ mid : Mid, ∃ b : Bool, ∃ s : State, (Passes s mid Reg.CLK_CLK_CFG true) ∧ ((s.pageLocked 1 = true ∨ (b = true ∧ s.rd Reg.CLK_OSC_QUAL = 0)))) ∧
    (∃ s : State, (s.bit Reg.CLK_CLK_STAT 2 = true)) ∧
    (∃ s : State, (s.bit Reg.CLK_CLK_STAT 2 = false)) ∧
    (∃ s : State, (s.clock.qualified = true)) ∧
    (∃ s : State, (s.clock.qualified = false)) ∧
    (∃ s : State, (Passes s (.own .loader) Reg.CLK_CLK_CFG true) ∧ (s.fld Reg.RST_RST_HOLD 0 4 = 15) ∧ (s.pageLocked 1 = false)) ∧
    (∃ mid : Mid, ∃ s : State, (Passes s mid Reg.CLK_CLK_CFG true) ∧ ((mid ≠ .own .loader ∨ s.fld Reg.RST_RST_HOLD 0 4 ≠ 15 ∨ s.pageLocked 1 = true))) ∧
    (∃ mid : Mid, ∃ s : State, (Passes s mid Reg.CLK_DVFS_REQ true) ∧ (s.bit Reg.CLK_CLK_CFG 1 = false) ∧ (s.clock.goal = none)) ∧
    (∃ mid : Mid, ∃ s : State, ∃ p : Nat, (Passes s mid Reg.CLK_DVFS_REQ true) ∧ (s.bit Reg.CLK_CLK_CFG 1 = false) ∧ (s.clock.goal = some p)) ∧
    (∃ mid : Mid, ∃ s : State, (Passes s mid Reg.CLK_DVFS_REQ true) ∧ (s.bit Reg.CLK_CLK_CFG 1 = true)) ∧
    (∃ s : State, ∃ p : Nat, (s.clock.goal = some p) ∧ (p < 4)) ∧
    (∃ s : State, ∃ p : Nat, (s.clock.goal = some p) ∧ (s.clock.confirmed = true) ∧ (s.clock.held.getD 0 < 4)) ∧
    (∃ s : State, ∃ p : Nat, (s.clock.goal = some p) ∧ (s.clock.confirmed = false) ∧ (s.clock.from_ < 4) ∧ (s.clock.held.getD 0 < 4) ∧ (usT 100 ≤ s.since s.clock.since)) ∧
    (∃ s : State, (s.clock.goal = none)) ∧
    (∃ s : State, (s.clock.confirmed = false)) ∧
    (∃ s : State, (s.clock.confirmed = true)) ∧
    (∃ s : State, (s.since s.clock.since < usT 100)) ∧
    (∃ mid : Mid, ∃ hi : Bool, ∃ s : State, let a := if hi then Reg.CLK_CLK_GATE_HI else Reg.CLK_CLK_GATE_LO; (Passes s mid a true)) ∧
    (∃ mid : Mid, ∃ s : State, (Passes s mid Reg.RST_RST_KEY true)) ∧
    (∃ n : Fin 5, ∃ mid : Mid, ∃ s : State, (Passes s mid (Reg.RST_WDT_KICK n.val) true)) ∧
    (∃ s : State, (s.pair.hot = true)) ∧
    (∃ s : State, (s.pair.hot = false)) :=
  ⟨⟨(c0), (true), (b0.wr Reg.CLK_OSC_QUAL 5), (by decide +kernel), (by decide +kernel), (by decide +kernel)⟩,
   ⟨(c0), (true), (b0), (by decide +kernel), (by decide +kernel)⟩,
   ⟨(b0.setBit Reg.CLK_CLK_STAT 2 true), (by decide +kernel)⟩,
   ⟨(b0), (by decide +kernel)⟩,
   ⟨({ b0 with clock := { qualified := true } }), (by decide +kernel)⟩,
   ⟨(b0), (by decide +kernel)⟩,
   ⟨(State.reset), (by decide +kernel), (by decide +kernel), (by decide +kernel)⟩,
   ⟨(c0), (b0), (by decide +kernel), (by decide +kernel)⟩,
   ⟨(c0), (b0), (by decide +kernel), (by decide +kernel), (by decide +kernel)⟩,
   ⟨(c0), ({ b0 with clock := { goal := some 2 } }), (2), (by decide +kernel), (by decide +kernel), (by decide +kernel)⟩,
   ⟨(c0), (b0.setBit Reg.CLK_CLK_CFG 1 true), (by decide +kernel), (by decide +kernel)⟩,
   ⟨({ b0 with clock := { goal := some 3, from_ := 1 } }), (3), (by decide +kernel), (by decide +kernel)⟩,
   ⟨({ b0 with clock := { goal := some 3, from_ := 1, confirmed := true, held := some 0 } }), (3), (by decide +kernel), (by decide +kernel), (by decide +kernel)⟩,
   ⟨({ b0 with tim := { odo := 25000 }, clock := { goal := some 3, from_ := 1 } }), (3), (by decide +kernel), (by decide +kernel), (by decide +kernel), (by decide +kernel), (by decide +kernel)⟩,
   ⟨(b0), (by decide +kernel)⟩,
   ⟨(b0), (by decide +kernel)⟩,
   ⟨({ b0 with clock := { confirmed := true } }), (by decide +kernel)⟩,
   ⟨(b0), (by decide +kernel)⟩,
   ⟨(c0), (true), (b0), (by decide +kernel)⟩,
   ⟨(c0), (b0), (by decide +kernel)⟩,
   ⟨(4), (.own .link), (b0), (by decide +kernel)⟩,
   ⟨({ b0 with pair := { b0.pair with hot := true } }), (by decide +kernel)⟩,
   ⟨(b0), (by decide +kernel)⟩⟩

theorem witness_SwitchStoresAndSends :
    (∃ port : Fin 2, ∃ bytes : List Nat, ∃ s : State, (s.clockRuns 0x17 = true) ∧ (s.ethPortOn (port.val + 1) = true) ∧ ((∀ p, p < 3 → s.ethUsed p + bytes.length ≤ s.rd Reg.ETH_Q_LIMIT)) ∧ (s.ethUsed 0 + s.ethUsed 1 + s.ethUsed 2 + 3 * bytes.length ≤ 262144)) ∧
    (∃ port : Fin 2, ∃ bytes : List Nat, ∃ s : State, (s.clockRuns 0x17 = true) ∧ (s.ethPortOn (port.val + 1) = true) ∧ ((∀ p, p < 3 → s.rd Reg.ETH_Q_LIMIT < s.ethUsed p + bytes.length))) ∧
    (∃ port : Fin 2, ∃ s : State, ((s.ethPortOn (port.val + 1) = false ∨ s.clockRuns 0x17 = false))) ∧
    (∃ p : Nat, (p < 3)) ∧
    (∃ port : Fin 3, ∃ s : State, ∃ f : EthFrame, ∃ rest : List (Nat × EthFrame), let d := (f.desc.map (·.1)).getD 0; (port.val ≠ 0) ∧ (s.ethPick port.val = some (f, rest)) ∧ (s.ethPortOn port.val = true) ∧ (s.ethLink port.val = true) ∧ (s.ethBusy port.val = false) ∧ (s.launchHolds port.val f.bytes = false) ∧ ((∀ d ∈ f.desc, s.held ringMid = false ∧ s.rangeRight (midColumn ringMid) (d.1 + 8) 8 true = true))) ∧
    (∃ port : Fin 3, ∃ s : State, (s.ethPick port.val = none)) ∧
    (∃ port : Fin 3, ∃ s : State, ∃ f : EthFrame, ∃ rest : List (Nat × EthFrame), (port.val ≠ 0) ∧ (s.ethPick port.val = some (f, rest)) ∧ ((s.ethPortOn port.val = false ∨ s.ethLink port.val = false ∨ s.ethBusy port.val = true ∨ s.launchHolds port.val f.bytes = true))) ∧
    (∃ s : State, ∃ f : EthFrame, ∃ rest : List (Nat × EthFrame), ∃ r : Nat, let d := s.rd (Reg.ETH_RXR_BASE r) + 16 * s.rd (Reg.ETH_RXR_HEAD r); let b := s.readLE d 8; (s.ethPick 0 = some (f, rest)) ∧ (r = (if (ptpOff f.bytes).isSome then 1 else 0)) ∧ (s.held ringMid = false) ∧ (s.rd (Reg.ETH_RXR_SIZE r) ≠ 0) ∧ (s.rd (Reg.ETH_RXR_HEAD r) ≠ s.rd (Reg.ETH_RXR_TAIL r)) ∧ (s.rangeRight (midColumn ringMid) d 16 false = true) ∧ (s.rangeRight (midColumn ringMid) b f.bytes.length true = true) ∧ (s.rangeRight (midColumn ringMid) (d + 8) 8 true = true) ∧ ((s.readByte (d + 10)).getLsbD 0 = true)) ∧
    (∃ s : State, ∃ f : EthFrame, ∃ rest : List (Nat × EthFrame), ∃ r : Nat, (s.ethPick 0 = some (f, rest)) ∧ (r = (if (ptpOff f.bytes).isSome then 1 else 0)) ∧ ((s.rd (Reg.ETH_RXR_SIZE r) = 0 ∨ s.rd (Reg.ETH_RXR_HEAD r) = s.rd (Reg.ETH_RXR_TAIL r) ∨ s.held ringMid = true))) :=
  ⟨⟨(1), (pd), (sw), (by decide +kernel), (by decide +kernel), (by decide +kernel), (by decide +kernel)⟩,
   ⟨(0), (fr), (sw.wr Reg.ETH_Q_LIMIT 5), (by decide +kernel), (by decide +kernel), (by decide +kernel)⟩,
   ⟨(0), (b0.wr Reg.ETH_ETH_CFG 0), (by decide +kernel)⟩,
   ⟨(2), (by decide +kernel)⟩,
   ⟨(2), ({ (sw.setBit Reg.ETH_ETH_CFG 3 true) with eth := { q2 := [(3, ef sy 1)] } }), (ef sy 1), ([]), (by decide +kernel), (by decide +kernel), (by decide +kernel), (by decide +kernel), (by decide +kernel), (by decide +kernel), (by decide +kernel)⟩,
   ⟨(1), (b0), (by decide +kernel)⟩,
   ⟨(1), ({ sw with eth := { q1 := [(0, ef fr 0)], launches := [(0, ⟨1000, [], true, false⟩)] } }), (ef fr 0), ([]), (by decide +kernel), (by decide +kernel), (by decide +kernel)⟩,
   ⟨(swRing), (ef fr 1), ([]), (0), (by decide +kernel), (by decide +kernel), (by decide +kernel), (by decide +kernel), (by decide +kernel), (by decide +kernel), (by decide +kernel), (by decide +kernel), (by decide +kernel)⟩,
   ⟨({ sw with eth := { q0 := [(0, ef fr 0)] } }), (ef fr 0), ([]), (0), (by decide +kernel), (by decide +kernel), (by decide +kernel)⟩⟩

theorem witness_SwitchTablesRingsAndStamps :
    (∃ port : Fin 2, ∃ up : Bool, ∃ s : State, (s.bit Reg.ETH_ETH_STAT port.val ≠ up)) ∧
    (∃ mid : Mid, ∃ q : Fin 4, ∃ v : Word, ∃ s : State, let d := s.rd (Reg.ETH_TXR_BASE q.val) + 16 * s.rd (Reg.ETH_TXR_HEAD q.val); let n := s.readLE (d + 8) 2; let flags := s.readLE (d + 10) 2; (Passes s mid (Reg.ETH_TXR_TAIL q.val) true) ∧ (s.held ringMid = false) ∧ (s.rd (Reg.ETH_TXR_SIZE q.val) ≠ 0) ∧ (s.rd (Reg.ETH_TXR_HEAD q.val) ≠ v.toNat) ∧ ((s.rd (Reg.ETH_TXR_HEAD q.val) + 1) % s.rd (Reg.ETH_TXR_SIZE q.val) = v.toNat) ∧ (flags % 2 = 1) ∧ (s.rangeRight (midColumn ringMid) d 16 false = true) ∧ (s.rangeRight (midColumn ringMid) (s.readLE d 8) n false = true) ∧ (s.rangeRight (midColumn ringMid) (d + 8) 8 true = true) ∧ ((∀ p, p < 3 → s.ethUsed p + n ≤ s.rd Reg.ETH_Q_LIMIT)) ∧ (s.ethUsed 0 + s.ethUsed 1 + s.ethUsed 2 + 3 * n ≤ 262144)) ∧
    (∃ mid : Mid, ∃ q : Fin 4, ∃ v : Word, ∃ s : State, (Passes s mid (Reg.ETH_TXR_TAIL q.val) true) ∧ ((s.rd (Reg.ETH_TXR_SIZE q.val) = 0 ∨ s.rd (Reg.ETH_TXR_HEAD q.val) = v.toNat))) ∧
    (∃ mid : Mid, ∃ s : State, (Passes s mid (Reg.ETH_TS_HEAD 5) false)) :=
  ⟨⟨(1), (true), (b0), (by decide +kernel)⟩,
   ⟨(c0), (3), (0), (swTx), (by decide +kernel), (by decide +kernel), (by decide +kernel), (by decide +kernel), (by decide +kernel), (by decide +kernel), (by decide +kernel), (by decide +kernel), (by decide +kernel), (by decide +kernel), (by decide +kernel)⟩,
   ⟨(c0), (3), (7), (swTx), (by decide +kernel), (by decide +kernel)⟩,
   ⟨(c0), ({ b0 with eth := { ts := [[1,2,3,4,5,6]] } }), (by decide +kernel)⟩⟩

theorem witness_PtpInstances :
    (∃ n : Fin 3, ∃ mid : Mid, ∃ s : State, (Passes s mid (Reg.PTP_CLKD_CMD n.val) true)) ∧
    (∃ n : Fin 3, ∃ mid : Mid, ∃ s : State, (Passes s mid (Reg.PTP_CLKD_CMD n.val) true)) ∧
    (∃ n : Fin 3, ∃ mid : Mid, ∃ s : State, (Passes s mid (Reg.PTP_ADJ n.val) true)) ∧
    (∃ n : Fin 3, ∃ mid : Mid, ∃ v : Word, ∃ s : State, let both (m k : Nat) : Bool := v.getLsbD k && s.bit (Reg.PTP_CLKD_CFG m) k; let dup (m : Nat) : Bool := both m 16 && (s.rd (Reg.PTP_CLKD_CFG m) % 256 == v.toNat % 256) && (both m 8 || both m 9); (Passes s mid (Reg.PTP_CLKD_CFG n.val) true)) :=
  ⟨⟨(0), (c0), ((((b0.wr (Reg.PTP_STEP_NS 0) 5).wr (Reg.PTP_STEP_SECL 0) 0).wr (Reg.PTP_STEP_SECH 0) 0)), (by decide +kernel)⟩,
   ⟨(0), (c0), ((((b0.wr (Reg.PTP_STEP_NS 0) 0xC0000000).wr (Reg.PTP_STEP_SECL 0) 0).wr (Reg.PTP_STEP_SECH 0) 0)), (by decide +kernel)⟩,
   ⟨(2), (c0), (b0), (by decide +kernel)⟩,
   ⟨(2), (c0), (0x10105), (b0.wr (Reg.PTP_CLKD_CFG 1) 0x10105), (by decide +kernel)⟩⟩

theorem witness_TimedLaunches :
    (∃ mid : Mid, ∃ s : State, ∃ i : Nat, (Passes s mid Reg.ETH_LA_CMD true) ∧ (s.eth.launches.firstFree 64 = some i)) ∧
    (∃ mid : Mid, ∃ s : State, (Passes s mid Reg.ETH_LA_CMD true) ∧ (s.eth.launches.firstFree 64 = none)) ∧
    (∃ mid : Mid, ∃ idx : Fin 64, ∃ s : State, ∃ u : State, ∃ e, (Passes s mid Reg.ETH_LA_CMD true) ∧ (s.rd Reg.ETH_LA_HANDLE / 2 ^ 8 % 2 ^ 12 = idx.val) ∧ ((if (s.eth.launches.find? idx.val).any s.launchReached then exec (.launch idx) s = .next u else u = s)) ∧ (u.checkHandle .launch (fun i => (u.eth.launches.find? i).isSome) (u.reg Reg.ETH_LA_HANDLE) = .error e)) ∧
    (∃ mid : Mid, ∃ idx : Fin 64, ∃ s : State, ∃ u : State, (Passes s mid Reg.ETH_LA_CMD true) ∧ (s.rd Reg.ETH_LA_HANDLE / 2 ^ 8 % 2 ^ 12 = idx.val) ∧ ((if (s.eth.launches.find? idx.val).any s.launchReached then exec (.launch idx) s = .next u else u = s)) ∧ (u.checkHandle .launch (fun i => (u.eth.launches.find? i).isSome) (u.reg Reg.ETH_LA_HANDLE) = .ok idx.val)) ∧
    (∃ idx : Fin 64, ∃ s : State, ∃ e : LaunchEnt, let up1 := e.p1 && s.ethLink 1 && s.ethPortOn 1; let up2 := e.p2 && s.ethLink 2 && s.ethPortOn 2; (s.eth.launches.find? idx.val = some e) ∧ (s.launchDue e = true) ∧ (s.launchFirst idx.val e = true) ∧ (s.eth.laFifo.length ≤ 32) ∧ ((up1 && s.launchBusy 1) = false) ∧ ((up2 && s.launchBusy 2) = false)) ∧
    (∃ idx : Fin 64, ∃ s : State, ∃ e : LaunchEnt, (s.eth.launches.find? idx.val = some e) ∧ ((s.launchDue e = false ∨ s.launchFirst idx.val e = false ∨ (e.p1 && s.ethLink 1 && s.ethPortOn 1 && s.launchBusy 1) = true ∨
      (e.p2 && s.ethLink 2 && s.ethPortOn 2 && s.launchBusy 2) = true))) ∧
    (∃ idx : Fin 64, ∃ s : State, (s.eth.launches.find? idx.val = none)) ∧
    (∃ mid : Mid, ∃ s : State, (Passes s mid Reg.ETH_LA_FIFO false)) :=
  ⟨⟨(c0), ((((sw.wr Reg.ETH_LA_TIME_SECL 999).wr Reg.ETH_LA_TIME_NS 500).wr Reg.ETH_LA_CTRL (60 + 0x30000))), (0), (by decide +kernel), (by decide +kernel)⟩,
   ⟨(c0), ({ sw with eth := { launches := (List.range 64).map fun i => (i, (⟨1000, fr, true, false⟩ : LaunchEnt)) } }), (by decide +kernel), (by decide +kernel)⟩,
   ⟨(c0), (63), ({ (let s := la (⟨1000, fr, true, false⟩ : LaunchEnt); s.wr Reg.ETH_LA_HANDLE (s.handleOf .launch 63).toNat) with tim := { clk := [(0, 1000)], odo := 1000000000 } }), (let s : State := { (let s := la (⟨1000, fr, true, false⟩ : LaunchEnt); s.wr Reg.ETH_LA_HANDLE (s.handleOf .launch 63).toNat) with tim := { clk := [(0, 1000)], odo := 1000000000 } }; nx (execLaunch 63 s)), (.handleStale), (by decide +kernel), (by decide +kernel), (by first | exact (if_pos (by decide +kernel)).mpr (next_nx (by decide +kernel)) | exact (if_neg (by decide +kernel)).mpr (by decide +kernel)), (err_of (by decide +kernel))⟩,
   ⟨(c0), (63), ((let s := la ⟨4000000 * fracPerNs, fr, true, false⟩; s.wr Reg.ETH_LA_HANDLE (s.handleOf .launch 63).toNat)), (let s : State := (let s := la ⟨4000000 * fracPerNs, fr, true, false⟩; s.wr Reg.ETH_LA_HANDLE (s.handleOf .launch 63).toNat); nx (execLaunch 63 s)), (by decide +kernel), (by decide +kernel), (by first | exact (if_pos (by decide +kernel)).mpr (next_nx (by decide +kernel)) | exact (if_neg (by decide +kernel)).mpr (by decide +kernel)), (ok_of (by decide +kernel))⟩,
   ⟨(63), ({ la (⟨1000, fr, true, false⟩ : LaunchEnt) with tim := { clk := [(0, 1000)], odo := 1000000000 } }), ((⟨1000, fr, true, false⟩ : LaunchEnt)), (by decide +kernel), (by decide +kernel), (by decide +kernel), (by decide +kernel), (by decide +kernel), (by decide +kernel)⟩,
   ⟨(63), (la ⟨4000000 * fracPerNs, fr, true, false⟩), ((⟨4000000 * fracPerNs, fr, true, false⟩ : LaunchEnt)), (by decide +kernel), (by decide +kernel)⟩,
   ⟨(63), (b0), (by decide +kernel)⟩,
   ⟨(c0), ({ b0 with eth := { laFifo := [7] } }), (by decide +kernel)⟩⟩

theorem witness_WaymarkFires :
    (∃ s : State, ∃ i : Nat, ∃ w : Waymark, (s.clockRuns 0x07 = true) ∧ (s.wmNow = some (i, w)) ∧ ((w.action 18 = false ∨ s.dsp.rptWm ≠ some (s.handleOf .waymark i) ∨ s.bit Reg.DSP_RPT_CFG 16 = false ∨
      (s.dsp.key0 = none ∧ s.dsp.key1 = none) ∨ s.dspOn = false ∨ s.senderOk = false))) ∧
    (∃ s : State, ∃ i : Nat, ∃ w : Waymark, (s.wmNow = some (i, w))) ∧
    (∃ s : State, (s.clockRuns 0x07 = true) ∧ (s.wmNow = none)) ∧
    (∃ s : State, ((s.clockRuns 0x07 = false ∨ ∀ e ∈ s.gau.wms, s.wmDue e.2 = false))) ∧
    (∃ s : State, ∃ i : Nat, ∃ w : Waymark, ∃ key : List Word, (s.clockRuns 0x07 = true) ∧ (s.wmNow = some (i, w)) ∧ (w.action 18 = true) ∧ (s.dsp.rptWm = some (s.handleOf .waymark i)) ∧ (s.bit Reg.DSP_RPT_CFG 16 = true) ∧ (s.dsp.key0.or s.dsp.key1 = some key) ∧ (s.dspOn = true) ∧ (s.senderOk = true) ∧ ((∀ p, p < 3 → s.ethUsed p + 400 ≤ s.rd Reg.ETH_Q_LIMIT)) ∧ (s.ethUsed 0 + s.ethUsed 1 + s.ethUsed 2 + 800 ≤ 262144)) :=
  ⟨⟨(wmS { target := 3 * 2 ^ 32, ctrl := 0xB0001 }), (255), ({ target := 3 * 2 ^ 32, ctrl := 0xB0001 }), (by decide +kernel), (by decide +kernel), (by decide +kernel)⟩,
   ⟨(wmS { target := 3 * 2 ^ 32, ctrl := 0xB0001 }), (255), ({ target := 3 * 2 ^ 32, ctrl := 0xB0001 }), (by decide +kernel)⟩,
   ⟨(wmS { target := 7 * 2 ^ 32, ctrl := 0x10000 }), (by decide +kernel), (by decide +kernel)⟩,
   ⟨(wmS { target := 7 * 2 ^ 32, ctrl := 0x10000 }), (by decide +kernel)⟩,
   ⟨(let s := wmS { target := 5 * 2 ^ 32, ctrl := 0x4FFFF }; { ((dsp0.setBit Reg.DSP_RPT_CFG 16 true).wr Reg.ETH_ETH_CFG 7).setBit Reg.DSP_DSP_CFG 2 true with gau := s.gau, dsp := { dsp0.dsp with rptWm := some (s.handleOf .waymark 255), txLo := 4294967294 } }), (255), ({ target := 5 * 2 ^ 32, ctrl := 0x4FFFF }), (List.replicate 8 3), (by decide +kernel), (by decide +kernel), (by decide +kernel), (by decide +kernel), (by decide +kernel), (by decide +kernel), (by decide +kernel), (by decide +kernel), (by decide +kernel), (by decide +kernel)⟩⟩

theorem witness_DispatchMessagesKeysAndReports :
    (∃ h : DspHdr, ∃ e : SpEntry, ∃ s : State, ∃ i : Nat, let target : BitVec 64 := BitVec.ofNat 64 (e.actCycle * 2 ^ 32 + e.actAngle); let ahead := sdiff 64 target.toNat s.gridPos.toNat; (DspAccepts s 1 h) ∧ (e.stringId = s.rd Reg.DSP_STRING_ID) ∧ (0 < e.spId) ∧ (e.spId < 0xFFFFFFFF) ∧ (s.dsp.staged.find? e.spId = none) ∧ (s.gau.wms.firstFree 256 = some i) ∧ (ahead ≤ 2 ^ 62) ∧ ((0 < ahead ∨ e.flags.testBit 1 = true)) ∧ (s.spRange e.kind e.value e.limit = true) ∧ (s.ctl.staged.length < 16) ∧ ((∀ x ∈ s.dsp.staged, ¬(x.2.cycle = e.actCycle ∧ x.2.angle = e.actAngle)))) ∧
    (∃ h : DspHdr, ∃ e : SpEntry, ∃ s : State, ∃ c : Nat, (DspAccepts s 1 h) ∧ (e.stringId = s.rd Reg.DSP_STRING_ID) ∧ (s.dspStage e = .error c)) ∧
    (∃ e : SpEntry, ((e.spId = 0 ∨ 0xFFFFFFFF ≤ e.spId))) ∧
    (∃ e : SpEntry, ∃ s : State, (0 < e.spId) ∧ (e.spId < 0xFFFFFFFF) ∧ (s.dsp.staged.find? e.spId = none) ∧ (s.gau.wms.firstFree 256 = none)) ∧
    (∃ e : SpEntry, ∃ s : State, let target : BitVec 64 := BitVec.ofNat 64 (e.actCycle * 2 ^ 32 + e.actAngle); let ahead := sdiff 64 target.toNat s.gridPos.toNat; (0 < e.spId) ∧ (e.spId < 0xFFFFFFFF) ∧ (s.dsp.staged.find? e.spId = none) ∧ (s.gau.wms.firstFree 256 ≠ none) ∧ (2 ^ 62 < ahead)) ∧
    (∃ e : SpEntry, ∃ s : State, let target : BitVec 64 := BitVec.ofNat 64 (e.actCycle * 2 ^ 32 + e.actAngle); let ahead := sdiff 64 target.toNat s.gridPos.toNat; let past := decide (ahead ≤ 0) && !e.flags.testBit 1; (0 < e.spId) ∧ (e.spId < 0xFFFFFFFF) ∧ (s.dsp.staged.find? e.spId = none) ∧ (s.gau.wms.firstFree 256 ≠ none) ∧ (past = true)) ∧
    (∃ e : SpEntry, ∃ s : State, let target : BitVec 64 := BitVec.ofNat 64 (e.actCycle * 2 ^ 32 + e.actAngle); let ahead := sdiff 64 target.toNat s.gridPos.toNat; let past := decide (ahead ≤ 0) && !e.flags.testBit 1; (0 < e.spId) ∧ (e.spId < 0xFFFFFFFF) ∧ (s.dsp.staged.find? e.spId = none) ∧ (s.gau.wms.firstFree 256 ≠ none) ∧ (ahead ≤ 2 ^ 62) ∧ (past = false) ∧ (s.spRange e.kind e.value e.limit = false)) ∧
    (∃ e : SpEntry, ∃ s : State, let target : BitVec 64 := BitVec.ofNat 64 (e.actCycle * 2 ^ 32 + e.actAngle); let ahead := sdiff 64 target.toNat s.gridPos.toNat; let past := decide (ahead ≤ 0) && !e.flags.testBit 1; let clash := s.dsp.staged.any fun x => x.2.cycle == e.actCycle && x.2.angle == e.actAngle; (0 < e.spId) ∧ (e.spId < 0xFFFFFFFF) ∧ (s.dsp.staged.find? e.spId = none) ∧ (s.gau.wms.firstFree 256 ≠ none) ∧ (ahead ≤ 2 ^ 62) ∧ (past = false) ∧ (s.spRange e.kind e.value e.limit = true) ∧ (s.ctl.staged.length < 16) ∧ (clash = true)) ∧
    (∃ h : DspHdr, ∃ e : SpEntry, ∃ s : State, (DspAccepts s 1 h) ∧ (e.stringId ≠ s.rd Reg.DSP_STRING_ID)) ∧
    (∃ h : DspHdr, ∃ s : State, (DspAccepts s 1 h)) ∧
    (∃ h : DspHdr, ∃ e : SpEntry, ∃ s : State, ∃ u : State, (DspAccepts s 1 h) ∧ (exec (.setpointRx h [e]) s = .next u)) ∧
    (∃ h : DspHdr, ∃ id : Nat, ∃ i : Nat, ∃ d : DspSp, ∃ s : State, (DspAccepts s 2 h) ∧ (s.gau.ctlFired = []) ∧ (s.wmNow = none) ∧ (id ≠ 0xFFFFFFFF) ∧ (s.dsp.staged.find? id = some d) ∧ (s.wmHandle d.handle = .ok i)) ∧
    (∃ h : DspHdr, ∃ s : State, (DspAccepts s 2 h) ∧ (s.gau.ctlFired = []) ∧ (s.wmNow = none)) ∧
    (∃ h : DspHdr, ∃ str : Nat, ∃ id : Nat, ∃ s : State, (DspAccepts s 2 h) ∧ (s.gau.ctlFired = []) ∧ (s.wmNow = none) ∧ ((str ≠ s.rd Reg.DSP_STRING_ID ∨ (id ≠ 0xFFFFFFFF ∧ s.dsp.staged.find? id = none)))) ∧
    (∃ h : DspHdr, ∃ b : TimebaseBody, ∃ s : State, (DspAccepts s 3 h) ∧ (s.gau.lateSweep = none) ∧ (b.biasAt < 2 ^ 32)) ∧
    (∃ mid : Mid, ∃ s : State, (Passes s mid Reg.DSP_KEY_CMD true)) ∧
    (∃ mid : Mid, ∃ v : Word, ∃ s : State, (Passes s mid Reg.DSP_RPT_CFG true) ∧ (v.toNat % 2 ^ 16 ≠ 0) ∧ (v.getLsbD 16 = false)) ∧
    (∃ mid : Mid, ∃ v : Word, ∃ s : State, ∃ i : Nat, let p := v.toNat % 2 ^ 16; let target : BitVec 64 := BitVec.ofNat 64 (s.rptFirst p * 2 ^ 32 + s.rd Reg.DSP_RPT_ANGLE); (Passes s mid Reg.DSP_RPT_CFG true) ∧ (v.toNat % 2 ^ 16 ≠ 0) ∧ (v.getLsbD 16 = true) ∧ (s.senderOk = true) ∧ (s.dsp.rptWm = none) ∧ (s.gau.wms.firstFree 256 = some i) ∧ (0 < sdiff 64 target.toNat s.gridPos.toNat) ∧ (sdiff 64 target.toNat s.gridPos.toNat ≤ 2 ^ 62)) ∧
    (∃ mid : Mid, ∃ v : Word, ∃ s : State, (Passes s mid Reg.DSP_RPT_CFG true) ∧ (v.toNat % 2 ^ 16 ≠ 0) ∧ (v.getLsbD 16 = true) ∧ (s.senderOk = true) ∧ (s.dsp.rptWm = none) ∧ (s.gau.wms.firstFree 256 = none)) ∧
    (∃ mid : Mid, ∃ v : Word, ∃ s : State, (Passes s mid Reg.DSP_RPT_CFG true) ∧ ((v.toNat % 2 ^ 16 = 0 ∨ (v.getLsbD 16 = true ∧ s.senderOk = false)))) ∧
    (∃ mid : Mid, ∃ s : State, (Passes s mid Reg.DSP_SENDER_ID true)) ∧
    (∃ n : Fin 4, ∃ mid : Mid, ∃ s : State, (Passes s mid (Reg.DSP_PEER n.val) true)) :=
  ⟨⟨(hdr 1 8), (spe), ({ dsp0 with dsp := { dsp0.dsp with counters := [(2 ^ 32 + 77, 7)] } }), (0), (by unfold DspAccepts; decide +kernel), (by decide +kernel), (by decide +kernel), (by decide +kernel), (by decide +kernel), (by decide +kernel), (by decide +kernel), (by decide +kernel), (by decide +kernel), (by decide +kernel), (by decide +kernel)⟩,
   ⟨(hdr 1 8), ({ spe with spId := 0 }), ({ dsp0 with dsp := { dsp0.dsp with counters := [(2 ^ 32 + 77, 7)] } }), (2), (by unfold DspAccepts; decide +kernel), (by decide +kernel), (err_of (by decide +kernel))⟩,
   ⟨({ spe with spId := 0 }), (by decide +kernel)⟩,
   ⟨(spe), ({ dsp0 with gau := { wms := (List.range 256).map fun i => (i, {}) } }), (by decide +kernel), (by decide +kernel), (by decide +kernel), (by decide +kernel)⟩,
   ⟨({ spe with actCycle := 2 ^ 30 + 1 }), ({ dsp0 with dsp := { dsp0.dsp with counters := [(2 ^ 32 + 77, 7)] } }), (by decide +kernel), (by decide +kernel), (by decide +kernel), (by decide +kernel), (by decide +kernel)⟩,
   ⟨({ spe with actCycle := 0, actAngle := 0, flags := 0 }), ({ dsp0 with dsp := { dsp0.dsp with counters := [(2 ^ 32 + 77, 7)] } }), (by decide +kernel), (by decide +kernel), (by decide +kernel), (by decide +kernel), (by decide +kernel)⟩,
   ⟨({ spe with kind := 3 }), ({ dsp0 with dsp := { dsp0.dsp with counters := [(2 ^ 32 + 77, 7)] } }), (by decide +kernel), (by decide +kernel), (by decide +kernel), (by decide +kernel), (by decide +kernel), (by decide +kernel), (by decide +kernel)⟩,
   ⟨({ spe with actCycle := 9, actAngle := 0 }), ({ dsp0 with dsp := { dsp0.dsp with staged := [(12, ⟨b0.handleOf .waymark 3, 9, 0, false⟩)] }, gau := { wms := [(3, { target := 9 * 2 ^ 32 })] } }), (by decide +kernel), (by decide +kernel), (by decide +kernel), (by decide +kernel), (by decide +kernel), (by decide +kernel), (by decide +kernel), (by decide +kernel), (by decide +kernel)⟩,
   ⟨(hdr 1 8), ({ spe with stringId := 8 }), ({ dsp0 with dsp := { dsp0.dsp with counters := [(2 ^ 32 + 77, 7)] } }), (by unfold DspAccepts; decide +kernel), (by decide +kernel)⟩,
   ⟨(hdr 1 8), ({ dsp0 with dsp := { dsp0.dsp with counters := [(2 ^ 32 + 77, 7)] } }), (by unfold DspAccepts; decide +kernel)⟩,
   ⟨(hdr 1 8), (spe), ({ dsp0 with dsp := { dsp0.dsp with counters := [(2 ^ 32 + 77, 7)] } }), (let s : State := { dsp0 with dsp := { dsp0.dsp with counters := [(2 ^ 32 + 77, 7)] } }; nx (execSetpointRx (hdr 1 8) [spe] s)), (by unfold DspAccepts; decide +kernel), (next_nx (by decide +kernel))⟩,
   ⟨(hdr 2 9), (12), (3), (⟨b0.handleOf .waymark 3, 9, 0, false⟩), ({ dsp0 with dsp := { dsp0.dsp with staged := [(12, ⟨b0.handleOf .waymark 3, 9, 0, false⟩)] }, gau := { wms := [(3, { target := 9 * 2 ^ 32 })] } }), (by unfold DspAccepts; decide +kernel), (by decide +kernel), (by decide +kernel), (by decide +kernel), (by decide +kernel), (ok_of (by decide +kernel))⟩,
   ⟨(hdr 2 9), ({ dsp0 with dsp := { dsp0.dsp with staged := [(12, ⟨b0.handleOf .waymark 3, 9, 0, false⟩)] }, gau := { wms := [(3, { target := 9 * 2 ^ 32 })] } }), (by unfold DspAccepts; decide +kernel), (by decide +kernel), (by decide +kernel)⟩,
   ⟨(hdr 2 9), (9), (13), ({ dsp0 with dsp := { dsp0.dsp with staged := [(12, ⟨b0.handleOf .waymark 3, 9, 0, false⟩)] }, gau := { wms := [(3, { target := 9 * 2 ^ 32 })] } }), (by unfold DspAccepts; decide +kernel), (by decide +kernel), (by decide +kernel), (by decide +kernel)⟩,
   ⟨(hdr 3 9), (⟨0, 1, 2, 0x7fffffff⟩), (dsp0.setBit Reg.DSP_DSP_CFG 1 true), (by unfold DspAccepts; decide +kernel), (by decide +kernel), (by decide +kernel)⟩,
   ⟨(c0), (b0), (by decide +kernel)⟩,
   ⟨(c0), (5), (let s := wmS { target := 5 * 2 ^ 32, ctrl := 0x4FFFF }; { ((dsp0.setBit Reg.DSP_RPT_CFG 16 true).wr Reg.ETH_ETH_CFG 7).setBit Reg.DSP_DSP_CFG 2 true with gau := s.gau, dsp := { dsp0.dsp with rptWm := some (s.handleOf .waymark 255), txLo := 4294967294 } }), (by decide +kernel), (by decide +kernel), (by decide +kernel)⟩,
   ⟨(c0), (0x10005), (dsp0), (0), (by decide +kernel), (by decide +kernel), (by decide +kernel), (by decide +kernel), (by decide +kernel), (by decide +kernel), (by decide +kernel), (by decide +kernel)⟩,
   ⟨(c0), (0x10005), ({ dsp0 with gau := { wms := (List.range 256).map fun i => (i, {}) } }), (by decide +kernel), (by decide +kernel), (by decide +kernel), (by decide +kernel), (by decide +kernel), (by decide +kernel)⟩,
   ⟨(c0), (0x10000), (b0), (by decide +kernel), (by decide +kernel)⟩,
   ⟨(c0), (let s := wmS { target := 5 * 2 ^ 32, ctrl := 0x4FFFF }; { ((dsp0.setBit Reg.DSP_RPT_CFG 16 true).wr Reg.ETH_ETH_CFG 7).setBit Reg.DSP_DSP_CFG 2 true with gau := s.gau, dsp := { dsp0.dsp with rptWm := some (s.handleOf .waymark 255), txLo := 4294967294 } }), (by decide +kernel)⟩,
   ⟨(3), (c0), (let s := wmS { target := 5 * 2 ^ 32, ctrl := 0x4FFFF }; { ((dsp0.setBit Reg.DSP_RPT_CFG 16 true).wr Reg.ETH_ETH_CFG 7).setBit Reg.DSP_DSP_CFG 2 true with gau := s.gau, dsp := { dsp0.dsp with rptWm := some (s.handleOf .waymark 255), txLo := 4294967294 } }), (by decide +kernel)⟩⟩

theorem witness_NodeReportsReceived :
    (∃ radio : Fin 2, ∃ info : RxInfo, ∃ s : State, let fit := !s.sfAux && s.laneSender radio.val info.slot info.src; (rxTakes s radio.val info fit (s.linkMic info) = false)) ∧
    (∃ radio : Fin 2, ∃ info : RxInfo, ∃ s : State, let fit := s.sfAux && s.laneSender radio.val info.slot info.src; (rxTakes s radio.val info fit (s.linkMic info) = false)) ∧
    (∃ radio : Fin 2, ∃ info : RxInfo, ∃ b : UplinkBody, ∃ s : State, (rxTakes s radio.val info (!s.sfAux && s.laneSender radio.val info.slot info.src) (s.linkMic info) = true) ∧ (QuietBody b) ∧ (Uncaptured s info.src)) ∧
    (∃ radio : Fin 2, ∃ info : RxInfo, ∃ b : UplinkBody, ∃ s : State, (rxTakes s radio.val info (s.sfAux && s.laneSender radio.val info.slot info.src) (s.linkMic info) = true) ∧ (QuietBody b) ∧ (Uncaptured s info.src)) ∧
    (∃ radio : Fin 2, ∃ info : RxInfo, ∃ s : State, (rxTakes s radio.val info (!s.sfAux && s.laneSender radio.val info.slot info.src) (s.linkMic info) = true)) ∧
    (∃ radio : Fin 2, ∃ info : RxInfo, ∃ s : State, (rxTakes s radio.val info (s.sfAux && s.laneSender radio.val info.slot info.src) (s.linkMic info) = true)) ∧
    (∃ radio : Fin 2, ∃ info : RxInfo, ∃ b : UplinkBody, ∃ s : State, ∃ c : Capture, ∃ x : NodeCap, (rxTakes s radio.val info (!s.sfAux && s.laneSender radio.val info.slot info.src) (s.linkMic info) = true) ∧ (QuietBody b) ∧ (s.est.caps = [c]) ∧ (c.nodes = [(info.src, x)])) ∧
    (∃ radio : Fin 2, ∃ info : RxInfo, ∃ b : UplinkBody, ∃ s : State, ∃ c : Capture, ∃ x : NodeCap, (rxTakes s radio.val info (s.sfAux && s.laneSender radio.val info.slot info.src) (s.linkMic info) = true) ∧ (QuietBody b) ∧ (s.est.caps = [c]) ∧ (c.nodes = [(info.src, x)])) :=
  ⟨⟨(1), (inf 15), (lkS false), (by decide +kernel)⟩,
   ⟨(1), ({ inf 16 with micOk := false }), (lkS true), (by decide +kernel)⟩,
   ⟨(1), (inf 16), (bd), (cur (lkS false)), (by decide +kernel), (by unfold QuietBody; decide +kernel), (by unfold Uncaptured; decide +kernel)⟩,
   ⟨(1), (inf 16), (bd), (lkS true), (by decide +kernel), (by unfold QuietBody; decide +kernel), (by unfold Uncaptured; decide +kernel)⟩,
   ⟨(1), (inf 16), (let s := cur (lkS false); { s with est := { s.est with caps := [{ id := 5, cycle := 290, j := 1, ts := 0, sk := 0, trace := [], nodes := [(31, { buf := 1 })] }] } }), (by decide +kernel)⟩,
   ⟨(1), (inf 16), (let s := lkS true; { s with est := { s.est with caps := [{ id := 5, cycle := 290, j := 1, ts := 0, sk := 0, trace := [], nodes := [(31, { buf := 1 })] }] } }), (by decide +kernel)⟩,
   ⟨(1), (inf 16), (bd), (let s := cur (lkS false); { s with est := { s.est with caps := [{ id := 5, cycle := 290, j := 1, ts := 0, sk := 0, trace := [], nodes := [(31, { buf := 1, seqs := [3] })] }] } }), ({ id := 5, cycle := 290, j := 1, ts := 0, sk := 0, trace := [], nodes := [(31, { buf := 1, seqs := [3] })] }), ({ buf := 1, seqs := [3] }), (by decide +kernel), (by unfold QuietBody; decide +kernel), (by decide +kernel), (by decide +kernel)⟩,
   ⟨(1), (inf 16), (bd), (let s := lkS true; { s with est := { s.est with caps := [{ id := 5, cycle := 290, j := 1, ts := 0, sk := 0, trace := [], nodes := [(31, { buf := 0, accepted := true, ready := true })] }] } }), ({ id := 5, cycle := 290, j := 1, ts := 0, sk := 0, trace := [], nodes := [(31, { buf := 0, accepted := true, ready := true })] }), ({ buf := 0, accepted := true, ready := true }), (by decide +kernel), (by unfold QuietBody; decide +kernel), (by decide +kernel), (by decide +kernel)⟩⟩

theorem witness_PollAnswersAndNodesJoining :
    (∃ radio : Fin 2, ∃ info : RxInfo, ∃ s : State, let fit := !s.sfAux && decide (17 ≤ info.slot) && decide (info.slot ≤ 20) && s.pollFits radio.val 1 info.src fun _ => true; (rxTakes s radio.val info fit (s.linkMic info) = false)) ∧
    (∃ radio : Fin 2, ∃ info : RxInfo, ∃ inner : RxInfo, ∃ s : State, let fit := detourFits s radio.val info inner; (rxTakes s radio.val info fit (s.linkMic inner) = false)) ∧
    (∃ radio : Fin 2, ∃ info : RxInfo, ∃ s : State, let fit := s.backfillSlotNo info.slot && s.pollFits radio.val 3 info.src fun _ => true; (rxTakes s radio.val info fit (s.linkMic info) = false)) ∧
    (∃ radio : Fin 2, ∃ info : RxInfo, ∃ s : State, let fit := s.backfillSlotNo info.slot && s.pollFits radio.val 4 info.src fun _ => true; (rxTakes s radio.val info fit (s.linkMic info) = false)) ∧
    (∃ radio : Fin 2, ∃ info : RxInfo, ∃ s : State, (rxTakes s radio.val info (notHeldFits s radio.val info) (s.linkMic info) = false)) ∧
    (∃ radio : Fin 2, ∃ info : RxInfo, ∃ b : UplinkBody, ∃ s : State, let fit := !s.sfAux && decide (17 ≤ info.slot) && decide (info.slot ≤ 20) && s.pollFits radio.val 1 info.src fun _ => true; (rxTakes s radio.val info fit (s.linkMic info) = true) ∧ (QuietBody b) ∧ (Uncaptured s info.src)) ∧
    (∃ radio : Fin 2, ∃ info : RxInfo, ∃ inner : RxInfo, ∃ b : UplinkBody, ∃ s : State, (rxTakes s radio.val info (detourFits s radio.val info inner) (s.linkMic inner) = true) ∧ (QuietBody b) ∧ (Uncaptured s inner.src)) ∧
    (∃ radio : Fin 2, ∃ info : RxInfo, ∃ b : UplinkBody, ∃ s : State, let fit := !s.sfAux && decide (17 ≤ info.slot) && decide (info.slot ≤ 20) && s.pollFits radio.val 1 info.src fun _ => true; (rxTakes s radio.val info fit (s.linkMic info) = true) ∧ (b.ov ≠ 0 ∨ b.uv ≠ 0 ∨ b.tflag ≠ 0)) ∧
    (∃ radio : Fin 2, ∃ info : RxInfo, ∃ inner : RxInfo, ∃ b : UplinkBody, ∃ s : State, (rxTakes s radio.val info (detourFits s radio.val info inner) (s.linkMic inner) = true) ∧ (b.ov ≠ 0 ∨ b.uv ≠ 0 ∨ b.tflag ≠ 0)) ∧
    (∃ radio : Fin 2, ∃ info : RxInfo, ∃ b : UplinkBody, ∃ s : State, let fit := s.backfillSlotNo info.slot && s.pollFits radio.val 3 info.src fun _ => true; (rxTakes s radio.val info fit (s.linkMic info) = true) ∧ (b.ov ≠ 0 ∨ b.uv ≠ 0 ∨ b.tflag ≠ 0)) ∧
    (∃ radio : Fin 2, ∃ info : RxInfo, ∃ data : Nat, ∃ b : UplinkBody, ∃ s : State, ∃ r : SweepRec, ∃ place : Nat, let fit := s.backfillSlotNo info.slot && s.pollFits radio.val 3 info.src fun _ => true; (rxTakes s radio.val info fit (s.linkMic info) = true) ∧ (QuietBody b) ∧ (s.backfillRec data = some (r, place)) ∧ (recNode r info.src = none) ∧ (s.lateAge r place < 8) ∧ ((s.saf.pset.all fun p => outsideBits p b == 0) = true)) ∧
    (∃ radio : Fin 2, ∃ info : RxInfo, ∃ data : Nat, ∃ b : UplinkBody, ∃ s : State, ∃ r : SweepRec, ∃ m : SweepRec, ∃ d : NodeData, ∃ p : Pset, let fit := s.backfillSlotNo info.slot && s.pollFits radio.val 3 info.src fun _ => true; (rxTakes s radio.val info fit (s.linkMic info) = true) ∧ (QuietBody b) ∧ (s.swp.ring = [m, r]) ∧ (s.backfillRec data = some (r, 1)) ∧ (recNode r info.src = none) ∧ (s.lateAge r 1 < 8) ∧ (r.index < m.index) ∧ (recNode m info.src = some d) ∧ (s.saf.pset = some p) ∧ ((outsideBits p b &&& outsideBits p d.body) % 2 ^ 16 ≠ 0)) ∧
    (∃ radio : Fin 2, ∃ info : RxInfo, ∃ data : Nat, ∃ b : UplinkBody, ∃ s : State, ∃ r : SweepRec, ∃ place : Nat, ∃ d : NodeData, let fit := s.backfillSlotNo info.slot && s.pollFits radio.val 3 info.src fun _ => true; (rxTakes s radio.val info fit (s.linkMic info) = true) ∧ (QuietBody b) ∧ (s.backfillRec data = some (r, place)) ∧ (recNode r info.src = some d)) ∧
    (∃ radio : Fin 2, ∃ info : RxInfo, ∃ data : Nat, ∃ b : UplinkBody, ∃ s : State, let fit := s.backfillSlotNo info.slot && s.pollFits radio.val 3 info.src fun _ => true; (rxTakes s radio.val info fit (s.linkMic info) = true) ∧ (QuietBody b) ∧ (((s.backfillRec data).all fun (r, place) => (recNode r info.src).isNone && decide (8 ≤ s.lateAge r place)) = true)) ∧
    (∃ radio : Fin 2, ∃ info : RxInfo, ∃ s : State, (rxTakes s radio.val info (s.backfillSlotNo info.slot && s.pollFits radio.val 4 info.src fun _ => true) (s.linkMic info) = true)) ∧
    (∃ radio : Fin 2, ∃ info : RxInfo, ∃ n : Nat, ∃ a : Nat, ∃ s : State, (rxTakes s radio.val info (notHeldFits s radio.val info) (s.linkMic info) = true) ∧ (s.poll radio.val = some (n, 2, a)) ∧ (n < 32) ∧ (s.watcher n 1 ≠ s.watcher n 0) ∧ (s.watcher n 0 = some a)) ∧
    (∃ radio : Fin 2, ∃ info : RxInfo, ∃ arg : Nat, ∃ s : State, (rxTakes s radio.val info (notHeldFits s radio.val info) (s.linkMic info) = true) ∧ (s.poll radio.val = some (info.src, 3, arg))) ∧
    (∃ radio : Fin 2, ∃ info : RxInfo, ∃ arg : Nat, ∃ s : State, ∃ c : Capture, ∃ x : NodeCap, (rxTakes s radio.val info (notHeldFits s radio.val info) (s.linkMic info) = true) ∧ (s.poll radio.val = some (info.src, 4, arg)) ∧ (s.est.caps = [c]) ∧ (c.nodes = [(info.src, x)])) ∧
    (∃ radio : Fin 2, ∃ info : RxInfo, ∃ s : State, (rxTakes s radio.val info (notHeldFits s radio.val info) (s.linkMic info) = true) ∧ (s.poll radio.val = none)) ∧
    (∃ radio : Fin 2, ∃ info : RxInfo, ∃ nn : Word, ∃ s : State, ∃ n : Nat, ∃ lr : Nat, ∃ lane : Nat, ∃ e : PlanEntry, let body (t : State) := leBytes 16 t.kNet ++ leBytes 2 t.nv.epoch ++ [n, lr, lane, e.w0, e.w1, s.rd Reg.NOD_PLAN_VER % 256] ++ leBytes 5 s.link.chMask ++ wordBytes nn; (rxTakes s radio.val info (joinFits s radio.val info.slot) info.micOk = true) ∧ (s.serves radio.val = true) ∧ (s.joinAdv radio.val = some n) ∧ (s.planOf n = some e) ∧ (s.joinPlace radio.val n e = some (lr, lane)) ∧ (lr < 2) ∧ (lane < 16)) ∧
    (∃ radio : Fin 2, ∃ info : RxInfo, ∃ n : Nat, ∃ s : State, (rxTakes s radio.val info (joinFits s radio.val info.slot) info.micOk = true) ∧ (s.joinAdv radio.val = some n) ∧ (s.serves radio.val = false ∨ s.planOf n = none ∨ ((s.planOf n).any fun e => (s.joinPlace radio.val n e).isNone) = true)) ∧
    (∃ radio : Fin 2, ∃ info : RxInfo, ∃ s : State, (rxTakes s radio.val info (joinFits s radio.val info.slot) true = true) ∧ (info.micOk = false)) ∧
    (∃ radio : Fin 2, ∃ info : RxInfo, ∃ s : State, (rxTakes s radio.val info (joinFits s radio.val info.slot) true = false)) ∧
    (∃ radio : Fin 2, ∃ info : RxInfo, ∃ s : State, let fit := s.joinAdv radio.val == some 32 && info.slot == if s.sfAux then 34 else 30; (rxTakes s radio.val info fit true = true)) ∧
    (∃ radio : Fin 2, ∃ info : RxInfo, ∃ s : State, let fit := s.joinAdv radio.val == some 32 && info.slot == if s.sfAux then 34 else 30; (rxTakes s radio.val info fit true = false)) :=
  ⟨⟨(1), ({ inf 17 with crcOk := false }), (pol (cur (lkS false)) 1 0), (by decide +kernel)⟩,
   ⟨(1), (inf 22), ({ inf 16 with micOk := false }), (pol (cur (lkS false)) 2 4), (by decide +kernel)⟩,
   ⟨(1), (inf 22), (pol (cur (lkS false)) 3 4), (by decide +kernel)⟩,
   ⟨(1), (inf 17), (b0), (by decide +kernel)⟩,
   ⟨(1), (inf 20), (pol (cur (lkS false)) 2 31), (by decide +kernel)⟩,
   ⟨(1), (inf 17), (bd), (pol (cur (lkS false)) 1 0), (by decide +kernel), (by unfold QuietBody; decide +kernel), (by unfold Uncaptured; decide +kernel)⟩,
   ⟨(1), (inf 22), (inf 16), (bd), (pol (cur (lkS false)) 2 4), (by decide +kernel), (by unfold QuietBody; decide +kernel), (by unfold Uncaptured; decide +kernel)⟩,
   ⟨(1), (inf 17), ({ bd with tflag := 1 }), (pol (cur (lkS false)) 1 0), (by decide +kernel), (by decide +kernel)⟩,
   ⟨(1), (inf 22), (inf 16), ({ bd with ov := 1 }), (pol (cur (lkS false)) 2 4), (by decide +kernel), (by decide +kernel)⟩,
   ⟨(1), (inf 28), ({ bd with uv := 1 }), (pol (ring2 (lkS false)) 3 42), (by decide +kernel), (by decide +kernel)⟩,
   ⟨(1), (inf 23), (42), (bd), ((pol (ring2 (lkS false)) 3 42).setNode 31 { missed := [298] }), ({ cycle := 298, index := 6 }), (1), (by decide +kernel), (by unfold QuietBody; decide +kernel), (by decide +kernel), (by decide +kernel), (by decide +kernel), (by decide +kernel)⟩,
   ⟨(1), (inf 23), (42), ({ bd with v := 45000 :: List.replicate 15 36000 }), (s11), ({ cycle := 298, index := 6 }), (m11), ({ body := { bd with v := 45000 :: List.replicate 15 36000 } }), (psA0), (by decide +kernel), (by unfold QuietBody; decide +kernel), (by decide +kernel), (by decide +kernel), (by decide +kernel), (by decide +kernel), (by decide +kernel), (by decide +kernel), (by decide +kernel), (by decide +kernel)⟩,
   ⟨(1), (inf 28), (42), (bd), (let s := pol (lkS false) 3 42; { s with swp := { s.swp with ring := [{ cycle := 298, index := 6, present := 2 ^ 31, nodes := [(31, { body := { bd with ov := 5 } })] }] } }), ({ cycle := 298, index := 6, present := 2 ^ 31, nodes := [(31, { body := { bd with ov := 5 } })] }), (0), ({ body := { bd with ov := 5 } }), (by decide +kernel), (by unfold QuietBody; decide +kernel), (by decide +kernel), (by decide +kernel)⟩,
   ⟨(1), (inf 32), (41), (bd), (pol (ring2 (lkS true)) 3 41), (by decide +kernel), (by unfold QuietBody; decide +kernel), (by decide +kernel)⟩,
   ⟨(1), (inf 28), (let s := pol (lkS false) 4 5; { s with est := { s.est with caps := [{ id := 5, cycle := 290, j := 1, ts := 0, sk := 0, trace := [], nodes := [(31, { buf := 1, frags := (List.range 21).map fun i => (i, []) })] }] } }), (by decide +kernel)⟩,
   ⟨(1), ({ inf 22 with src := 4 }), (31), (4), (((pol (lkS false) 2 4).wr (Reg.NOD_NODE_DET 31) 0x00070904).setFld (Reg.LNK_LANE_Q 1 2) 16 8 4 |>.setFld (Reg.LNK_LANE_Q 1 3) 16 8 5), (by decide +kernel), (by decide +kernel), (by decide +kernel), (by decide +kernel), (by decide +kernel)⟩,
   ⟨(1), (inf 28), (42), ((pol (lkS false) 3 42).setNode 31 { missed := [298, 297] }), (by decide +kernel), (by decide +kernel)⟩,
   ⟨(1), (inf 28), (130), (let s := pol (lkS false) 4 130; { s with est := { s.est with caps := [{ id := 5, cycle := 290, j := 1, ts := 0, sk := 0, trace := [], nodes := [(31, { buf := 1, accepted := true })] }] } }), ({ id := 5, cycle := 290, j := 1, ts := 0, sk := 0, trace := [], nodes := [(31, { buf := 1, accepted := true })] }), ({ buf := 1, accepted := true }), (by decide +kernel), (by decide +kernel), (by decide +kernel), (by decide +kernel)⟩,
   ⟨(1), (inf 28), (let s := lkS false; { s with link := { s.link with sf := s.link.sf.map fun f => { f with served := false } } }), (by decide +kernel), (by decide +kernel)⟩,
   ⟨(1), (inf 34), (5), (let s := jn; { (s.setBit (Reg.NOD_NODE_STAT 31) 25 true) with pair := { s.pair with role := .active } }), (31), (1), (3), (pe 31), (by decide +kernel), (by decide +kernel), (by decide +kernel), (by decide +kernel), (by decide +kernel), (by decide +kernel), (by decide +kernel)⟩,
   ⟨(1), (inf 34), (31), (jn), (by decide +kernel), (by decide +kernel), (by decide +kernel)⟩,
   ⟨(1), ({ inf 34 with micOk := false }), (jn), (by decide +kernel), (by decide +kernel)⟩,
   ⟨(1), ({ inf 30 with micOk := false }), (jn), (by decide +kernel)⟩,
   ⟨(1), (inf 34), (jn.setJoinAdv 1 (some 32)), (by decide +kernel)⟩,
   ⟨(1), (inf 34), (jn), (by decide +kernel)⟩⟩

theorem witness_SuperframesOpen :
    (∃ s : State, let c := s.newestFired s.gau.pos; (c % s.gau.swpDiv = 0) ∧ ((s.gau.lastSweep.all fun l => decide (0 < sdiff 48 c l)) = true)) ∧
    (∃ s : State, let c := s.newestFired s.gau.pos; (c % s.gau.swpDiv = 0) ∧ ((s.gau.lastSweep.all fun l => decide (0 < sdiff 48 c l)) = true) ∧ (s.poll 0 = none) ∧ (s.poll 1 = none)) ∧
    (∃ s : State, let c := s.newestFired s.gau.pos; (c % s.gau.swpDiv ≠ 0 ∨ (s.gau.lastSweep.any fun l => decide (sdiff 48 c l ≤ 0)) = true)) ∧
    (∃ s : State, ∃ k : Nat, let u := s.setReg Reg.GAU_CYC_BIAS (s.reg Reg.GAU_CYC_BIAS_NEXT); let new := posWrap (s.gau.pos + roundCycles (posDiff (posWrap u.nominalPos) s.gau.pos) * 2 ^ 64); let c := s.newestSweepCycle (s.newestFired new); (s.gau.biasAt = some k) ∧ (0 ≤ sdiff 48 s.gau.cyc k) ∧ (s.gau.src = .nominal) ∧ (0 < posDiff new s.gau.pos) ∧ (0 < posDiff (s.firePos c) s.gau.pos) ∧ ((s.gau.lastSweep.all fun l => decide (0 < sdiff 48 c l)) = true)) ∧
    (∃ s : State, let c := s.newestFired s.gau.pos; (c % s.gau.swpDiv ≠ 0) ∧ ((s.gau.lastSuper.all fun l => decide (0 < sdiff 48 c l)) = true)) ∧
    (∃ s : State, let c := s.newestFired s.gau.pos; (c % s.gau.swpDiv = 0 ∨ (s.gau.lastSuper.any fun l => decide (sdiff 48 c l ≤ 0)) = true)) :=
  ⟨⟨(let s := act (lkS false); { s with link := { s.link with epochDue := true }, swp := { s.swp with owts := [{ node := 31, wire := 4, sent := true }] } }), (by decide +kernel), (by decide +kernel)⟩,
   ⟨(let s := act (lkS false); { s with link := { s.link with epochDue := true, cmds := [.owt 31 4, .release 3 1], balPlan := [⟨31, 7, 9⟩] } }), (by decide +kernel), (by decide +kernel), (by decide +kernel), (by decide +kernel)⟩,
   ⟨(let s := lkS false; { s with gau := { s.gau with lastSweep := some (s.newestFired s.gau.pos) } }), (by decide +kernel)⟩,
   ⟨(let s := b0.wr Reg.GAU_CYC_BIAS_NEXT 0xFFFB0000; { s with gau := { s.gau with biasAt := some 5, cyc := 5, pos := posWrap s.nominalPos } }), (5), (by decide +kernel), (by decide +kernel), (by decide +kernel), (by decide +kernel), (by decide +kernel), (by decide +kernel)⟩,
   ⟨(let s := lkS true; { s with gau := { s.gau with swpDiv := 8, pos := 3 * 2 ^ 64 + 2 ^ 62, cyc := 3, lastSuper := some 2 } }), (by decide +kernel), (by decide +kernel)⟩,
   ⟨(b0), (by decide +kernel)⟩⟩

theorem witness_SlotsServed :
    (∃ radio : Fin 2, ∃ slot : Nat, ∃ s : State, let wait := (s.missingNodes radio.val).filter fun n => decide ((s.node n).retries < 2); (s.serves radio.val = true) ∧ (s.sfAux = false) ∧ (17 ≤ slot) ∧ (slot ≤ 20) ∧ (s.poll radio.val = none) ∧ (wait ≠ [])) ∧
    (∃ radio : Fin 2, ∃ s : State, (s.poll radio.val = none) ∧ ((s.missingNodes radio.val).filter (fun n => decide ((s.node n).retries < 2)) = [])) ∧
    (∃ radio : Fin 2, ∃ slot : Nat, ∃ s : State, let wait := (s.missingNodes radio.val).filter fun n => (s.relayFor n).isSome; let key (n : Nat) := s.retryKey (s.askedFor n).length n; (s.serves radio.val = true) ∧ (s.sfAux = false) ∧ (21 ≤ slot) ∧ (slot ≤ 22) ∧ (s.poll radio.val = none) ∧ (wait ≠ [])) ∧
    (∃ radio : Fin 2, ∃ s : State, (s.poll radio.val = none) ∧ ((s.missingNodes radio.val).filter (fun n => (s.relayFor n).isSome) = [])) ∧
    (∃ radio : Fin 2, ∃ slot : Nat, ∃ n : Nat, ∃ k : Nat, ∃ a : Nat, ∃ s : State, (s.serves radio.val = true) ∧ (s.backfillSlotNo slot = true) ∧ (s.poll radio.val = none) ∧ (s.backfillAsk radio.val = some (n, k, a))) ∧
    (∃ radio : Fin 2, ∃ s : State, (s.poll radio.val = none) ∧ (s.backfillAsk radio.val = none)) ∧
    (∃ radio : Fin 2, ∃ s : State, (s.serves radio.val = false)) ∧
    (∃ slot : Nat, ∃ s : State, (slot < 17 ∨ 20 < slot ∨ s.sfAux = true)) ∧
    (∃ slot : Nat, ∃ s : State, (slot < 21 ∨ 22 < slot ∨ s.sfAux = true)) ∧
    (∃ slot : Nat, ∃ s : State, (s.backfillSlotNo slot = false)) ∧
    (∃ radio : Fin 2, ∃ slot : Nat, ∃ n : Nat, ∃ k : Nat, ∃ a : Nat, ∃ s : State, let d := min 255 (s.fld (Reg.NOD_NODE_DET n) 16 8 + 1); (s.serves radio.val = true) ∧ (s.poll radio.val = some (n, k, a)) ∧ (k ≠ 2 ∨ s.watcher n 0 = some a ∧ s.watcher n 1 ≠ some a ∧ d < 8 ∧ s.fld (Reg.NOD_NODE_DET n) 24 8 < 8) ∧ (s.sfAux = false) ∧ (17 ≤ slot) ∧ (slot ≤ 20)) ∧
    (∃ radio : Fin 2, ∃ slot : Nat, ∃ n : Nat, ∃ k : Nat, ∃ a : Nat, ∃ s : State, let d := min 255 (s.fld (Reg.NOD_NODE_DET n) 16 8 + 1); (s.serves radio.val = true) ∧ (s.poll radio.val = some (n, k, a)) ∧ (k ≠ 2 ∨ s.watcher n 0 = some a ∧ s.watcher n 1 ≠ some a ∧ d < 8 ∧ s.fld (Reg.NOD_NODE_DET n) 24 8 < 8) ∧ (s.sfAux = false) ∧ (21 ≤ slot) ∧ (slot ≤ 22)) ∧
    (∃ radio : Fin 2, ∃ slot : Nat, ∃ n : Nat, ∃ k : Nat, ∃ a : Nat, ∃ s : State, let d := min 255 (s.fld (Reg.NOD_NODE_DET n) 16 8 + 1); (s.serves radio.val = true) ∧ (s.poll radio.val = some (n, k, a)) ∧ (k ≠ 2 ∨ s.watcher n 0 = some a ∧ s.watcher n 1 ≠ some a ∧ d < 8 ∧ s.fld (Reg.NOD_NODE_DET n) 24 8 < 8) ∧ (s.backfillSlotNo slot = true)) ∧
    (∃ radio : Fin 2, ∃ n : Nat, ∃ k : Nat, ∃ a : Nat, ∃ s : State, let d := min 255 (s.fld (Reg.NOD_NODE_DET n) 16 8 + 1); (s.serves radio.val = true) ∧ (s.poll radio.val = some (n, k, a)) ∧ (k ≠ 2 ∨ s.watcher n 0 = some a ∧ s.watcher n 1 ≠ some a ∧ d < 8 ∧ s.fld (Reg.NOD_NODE_DET n) 24 8 < 8)) ∧
    (∃ radio : Fin 2, ∃ s : State, ∃ f : Superframe, (s.link.sf = some f) ∧ (s.serves radio.val = true) ∧ (s.poll radio.val = none)) ∧
    (∃ radio : Fin 2, ∃ s : State, (s.link.sf = none ∨ s.lnkState radio.val ≠ 1)) ∧
    (∃ radio : Fin 2, ∃ s : State, (s.link.sf.isSome = true) ∧ (s.lnkState radio.val = 1)) ∧
    (∃ radio : Fin 2, ∃ s : State, (s.serves radio.val = false) ∧ (s.link.sf = none ∨ s.isShadow = false ∨ s.lnkState radio.val ≠ 1)) ∧
    (∃ radio : Fin 2, ∃ seq : Nat, ∃ s : State, let note (x : NodeCap) (n : Nat) : NodeCap := if s.nodeRadio n = radio.val then { x with seqs := seq :: x.seqs } else x; (s.link.sf.isSome = true) ∧ (s.isShadow = true) ∧ (s.lnkState radio.val = 1)) ∧
    (∃ radio : Fin 2, ∃ s : State, ∃ f : Superframe, let l := radio.val; let jctr := (s.nv.jctr + 1) % 2 ^ 32; let aad (serial : Nat) := leBytes 4 f.cycle ++ leBytes 8 serial ++ leBytes 4 jctr; let air (t : State) := if l = 0 then t.link.air0 else t.link.air1; (s.link.sf = some f) ∧ (s.radioHears radio.val = true) ∧ (s.serves radio.val = true) ∧ (s.poll radio.val = none)) ∧
    (∃ radio : Fin 2, ∃ s : State, (s.link.sf.isSome = true) ∧ (s.radioHears radio.val = true) ∧ (s.serves radio.val = false) ∧ (s.poll radio.val = none)) ∧
    (∃ radio : Fin 2, ∃ s : State, (s.link.sf = none ∨ s.radioHears radio.val = false)) :=
  ⟨⟨(1), (20), (cur (jn2 (act (lkS false)) 4 2)), (by decide +kernel), (by decide +kernel), (by decide +kernel), (by decide +kernel), (by decide +kernel), (by decide +kernel)⟩,
   ⟨(1), (b0), (by decide +kernel), (by decide +kernel)⟩,
   ⟨(1), (21), (cur ((jn2 (act (lkS false)) 4 2).setNode 4 { first := true })), (by decide +kernel), (by decide +kernel), (by decide +kernel), (by decide +kernel), (by decide +kernel), (by decide +kernel)⟩,
   ⟨(1), (b0), (by decide +kernel), (by decide +kernel)⟩,
   ⟨(1), (23), (31), (3), (42), ((jn2 (act (ring2 (lkS false))) 31 15).setNode 31 { missed := [298], silent := 0 }), (by decide +kernel), (by decide +kernel), (by decide +kernel), (by decide +kernel)⟩,
   ⟨(1), (act (lkS false)), (by decide +kernel), (by decide +kernel)⟩,
   ⟨(1), (b0), (by decide +kernel)⟩,
   ⟨(16), (act (lkS false)), (by decide +kernel)⟩,
   ⟨(23), (act (lkS false)), (by decide +kernel)⟩,
   ⟨(22), (act (lkS false)), (by decide +kernel)⟩,
   ⟨(1), (20), (31), (2), (4), ((act (pol (lkS false) 2 4)).wr (Reg.NOD_NODE_DET 31) 0x00060904), (by decide +kernel), (by decide +kernel), (by decide +kernel), (by decide +kernel), (by decide +kernel), (by decide +kernel)⟩,
   ⟨(1), (22), (31), (1), (0), ((act (pol (lkS false) 1 0))), (by decide +kernel), (by decide +kernel), (by decide +kernel), (by decide +kernel), (by decide +kernel), (by decide +kernel)⟩,
   ⟨(1), (28), (31), (3), (0), ((act (pol (lkS false) 3 0))), (by decide +kernel), (by decide +kernel), (by decide +kernel), (by decide +kernel)⟩,
   ⟨(1), (31), (2), (4), ((act (pol (lkS true) 2 4)).wr (Reg.NOD_NODE_DET 31) 0x00060904), (by decide +kernel), (by decide +kernel), (by decide +kernel)⟩,
   ⟨(1), (let s := let s := act (lkS false); { s with est := { s.est with caps := [{ id := 5, cycle := 290, j := 1, ts := 0, sk := 0, trace := [], nodes := [(31, { buf := 1 })] }] } }; { s with link := { s.link with cmds := [.rejoin 9, .owt 4 0, .release 3 1], sf := some { sf0 with frame1 := [.owt 4 0, .release 3 1, .rejoin 9, .freeze 5 290 1 [(31, 1)], .bal [⟨31, 7, 9⟩]] } }, swp := { s.swp with owts := [{ node := 4, wire := 0 }] } }), ({ sf0 with frame1 := [.owt 4 0, .release 3 1, .rejoin 9, .freeze 5 290 1 [(31, 1)], .bal [⟨31, 7, 9⟩]] }), (by decide +kernel), (by decide +kernel), (by decide +kernel)⟩,
   ⟨(1), (act (lkS false)), (by decide +kernel)⟩,
   ⟨(1), (let s := cur (lkS false); { s with pair := { s.pair with role := .shadow }, swp := { s.swp with smps := [(298, 8000000000)] } }), (by decide +kernel), (by decide +kernel)⟩,
   ⟨(1), (lkS false), (by decide +kernel), (by decide +kernel)⟩,
   ⟨(1), (5), (let s := lkS false; { s with pair := { s.pair with role := .shadow }, swp := { s.swp with smps := [(298, 8000000000)] } }), (by decide +kernel), (by decide +kernel), (by decide +kernel)⟩,
   ⟨(1), (let s := act (b0.wr (Reg.LNK_LNK_CFG 1) 1); { s with link := { s.link with plan := some ⟨1, [pe 31]⟩, sf := some sf0 } }), (sf0), (by decide +kernel), (by decide +kernel), (by decide +kernel), (by decide +kernel)⟩,
   ⟨(1), (let s := lkS false; { s with link := { s.link with sf := some sf0 } }), (by decide +kernel), (by decide +kernel), (by decide +kernel), (by decide +kernel)⟩,
   ⟨(1), (b0), (by decide +kernel)⟩⟩

theorem witness_LinkEventsAndDeadlines :
    (∃ radio : Fin 2, ∃ s : State, (s.bit (Reg.LNK_LNK_CFG radio.val) 0 = true)) ∧
    (∃ radio : Fin 2, ∃ s : State, (s.bit (Reg.LNK_LNK_CFG radio.val) 0 = true)) ∧
    (∃ radio : Fin 2, ∃ s : State, (s.bit (Reg.LNK_LNK_CFG radio.val) 0 = false)) ∧
    (∃ radio : Fin 2, ∃ s : State, (s.pair.role = .shadow) ∧ (s.lnkState radio.val = 1)) ∧
    (∃ radio : Fin 2, ∃ s : State, (s.pair.role ≠ .shadow ∨ s.lnkState radio.val ≠ 1)) ∧
    (∃ id : Nat, ∃ n : Nat, ∃ s : State, ∃ c : Capture, ∃ x : NodeCap, ((s.est.caps.find? fun c => c.id == id) = some c) ∧ (msT (s.rd Reg.NOD_CAP_MAXAGE) < s.since c.ts) ∧ (c.nodes = [(n, x)])) ∧
    (∃ id : Nat, ∃ s : State, (((s.est.caps.find? fun c => c.id == id).all fun c => decide (s.since c.ts ≤ msT (s.rd Reg.NOD_CAP_MAXAGE))) = true)) ∧
    (∃ node : Fin 32, ∃ s : State, (s.link.objs.testBit node.val = true) ∧ (s.bit Reg.NOD_LOST_MASK node.val = true) ∧ (((s.node node.val).lostAt.any fun t0 => decide (secT (s.rd Reg.NOD_NODE_FORGET) ≤ s.since t0)) = true)) ∧
    (∃ node : Fin 32, ∃ s : State, (s.link.objs.testBit node.val = false ∨ s.bit Reg.NOD_LOST_MASK node.val = false ∨
    ((s.node node.val).lostAt.all fun t0 => decide (s.since t0 < secT (s.rd Reg.NOD_NODE_FORGET))) = true)) ∧
    (∃ node : Fin 32, ∃ s : State, ∃ m : LaneMove, ((s.node node.val).move = some m) ∧ (m.accept = none) ∧ (0 ≤ sdiff 48 s.gau.cyc m.eff) ∧ ((m.radio ≠ m.oldRadio ∨ m.lane ≠ m.oldLane)) ∧ (m.radio < 2) ∧ (m.lane < 16) ∧ (m.oldRadio < 2) ∧ (m.oldLane < 16) ∧ (s.link.wants = [])) ∧
    (∃ node : Fin 32, ∃ s : State, ∃ m : LaneMove, ((s.node node.val).move = some m) ∧ (m.accept = none) ∧ (0 ≤ sdiff 48 s.gau.cyc m.eff) ∧ (m.radio = m.oldRadio) ∧ (m.lane = m.oldLane) ∧ (s.link.wants = [])) ∧
    (∃ node : Fin 32, ∃ s : State, (((s.node node.val).move.all fun m => m.accept.isSome || decide (sdiff 48 s.gau.cyc m.eff < 0)) = true)) ∧
    (∃ node : Fin 32, ∃ s : State, ∃ m : LaneMove, ((s.node node.val).move = some m) ∧ (m.accept = some 0) ∧ (m.usedNew = true) ∧ (s.link.wants = [])) ∧
    (∃ node : Fin 32, ∃ s : State, ∃ m : LaneMove, ((s.node node.val).move = some m) ∧ (m.accept = some 0) ∧ (m.usedNew = false) ∧ (m.radio < 2) ∧ (m.lane < 16) ∧ (m.oldRadio < 2) ∧ (m.oldLane < 16) ∧ ((m.radio ≠ m.oldRadio ∨ m.lane ≠ m.oldLane))) ∧
    (∃ node : Fin 32, ∃ s : State, (((s.node node.val).move.all fun m => m.accept != some 0) = true)) ∧
    (∃ s : State, ∃ m : Nat, ∃ eff : Nat, (s.link.chMaskPend = some (m, eff)) ∧ (0 ≤ sdiff 48 s.gau.cyc eff)) ∧
    (∃ s : State, ((s.link.chMaskPend.all fun p => decide (sdiff 48 s.gau.cyc p.2 < 0)) = true)) :=
  ⟨⟨(1), (fit (b0.setBit (Reg.LNK_LNK_CFG 1) 0 true)), (by decide +kernel)⟩,
   ⟨(1), ((b0.setBit (Reg.LNK_LNK_CFG 1) 0 true).setBit (Reg.LNK_LNK_STAT 1) 2 true), (by decide +kernel)⟩,
   ⟨(1), (b0), (by decide +kernel)⟩,
   ⟨(1), (let s := b0.setBit (Reg.LNK_LNK_CFG 1) 0 true; { s with pair := { s.pair with role := .shadow } }), (by decide +kernel), (by decide +kernel)⟩,
   ⟨(1), (b0), (by decide +kernel)⟩,
   ⟨(5), (31), (let id : Nat := 5; let s := act (lkS false); { s with est := { s.est with caps := [{ id := 5, cycle := 290, j := 1, ts := 0, sk := 0, trace := [], nodes := [(31, { buf := 1 })] }] } }), (let id : Nat := 5; { id := 5, cycle := 290, j := 1, ts := 0, sk := 0, trace := [], nodes := [(31, { buf := 1 })] }), ({ buf := 1 }), (by decide +kernel), (by decide +kernel), (by decide +kernel)⟩,
   ⟨(0), (b0), (by decide +kernel)⟩,
   ⟨(31), (let s := loS (lkS false); { s with tim := { odo := 1000 + BitVec.ofNat 64 (secT (s.rd Reg.NOD_NODE_FORGET)) } }), (by decide +kernel), (by decide +kernel), (by decide +kernel)⟩,
   ⟨(31), (let s := loS (lkS false); { s with tim := { odo := 999 + BitVec.ofNat 64 (secT (s.rd Reg.NOD_NODE_FORGET)) } }), (by decide +kernel)⟩,
   ⟨(31), ((lkS false).setNode 31 { move := some mv }), (mv), (by decide +kernel), (by decide +kernel), (by decide +kernel), (by decide +kernel), (by decide +kernel), (by decide +kernel), (by decide +kernel), (by decide +kernel), (by decide +kernel)⟩,
   ⟨(31), ((lkS false).setNode 31 { move := some { mv with oldRadio := 1, echoed := true } }), ({ mv with oldRadio := 1, echoed := true }), (by decide +kernel), (by decide +kernel), (by decide +kernel), (by decide +kernel), (by decide +kernel), (by decide +kernel)⟩,
   ⟨(31), ((lkS false).setNode 31 { move := some { mv with eff := 301 } }), (by decide +kernel)⟩,
   ⟨(31), ((lkS false).setNode 31 { move := some { mv with accept := some 0, usedNew := true } }), ({ mv with accept := some 0, usedNew := true }), (by decide +kernel), (by decide +kernel), (by decide +kernel), (by decide +kernel)⟩,
   ⟨(31), ((lkS false).setNode 31 { move := some { mv with accept := some 0 } }), ({ mv with accept := some 0 }), (by decide +kernel), (by decide +kernel), (by decide +kernel), (by decide +kernel), (by decide +kernel), (by decide +kernel), (by decide +kernel), (by decide +kernel)⟩,
   ⟨(31), ((lkS false).setNode 31 { move := some { mv with accept := some 1 } }), (by decide +kernel)⟩,
   ⟨(let s := lkS false; { s with link := { s.link with chMaskPend := some (5, 300) } }), (5), (300), (by decide +kernel), (by decide +kernel)⟩,
   ⟨(let s := lkS false; { s with link := { s.link with chMaskPend := some (5, 301) } }), (by decide +kernel)⟩⟩

theorem witness_PlansAndChannels :
    (∃ mid : Mid, ∃ s : State, ∃ fleet : Nat, ∃ bench : Nat, (Passes s mid Reg.NOD_PLAN_CMD true) ∧ (s.fwlOn = false) ∧ (s.nv.keys.find? 1 = some fleet) ∧ (s.nv.keys.find? 3 = some bench)) ∧
    (∃ mid : Mid, ∃ s : State, (Passes s mid Reg.NOD_PLAN_CMD true) ∧ (s.fwlOn = false) ∧ (s.nv.keys.find? 1 = none ∨ s.nv.keys.find? 3 = none)) ∧
    (∃ mid : Mid, ∃ s : State, ∃ n : Nat, (Passes s mid Reg.NOD_PLAN_CMD true) ∧ (s.nodHandle = .ok n)) ∧
    (∃ mid : Mid, ∃ s : State, ∃ e : ErrCode, (Passes s mid Reg.NOD_PLAN_CMD true) ∧ (s.nodHandle = .error e)) ∧
    (∃ mid : Mid, ∃ s : State, (Passes s mid Reg.NOD_PLAN_CMD true) ∧ (s.running = false)) ∧
    (∃ mid : Mid, ∃ s : State, (Passes s mid Reg.NOD_PLAN_CMD true) ∧ (s.running = true)) ∧
    (∃ mid : Mid, ∃ s : State, (Passes s mid Reg.NOD_PLAN_CMD true)) ∧
    (∃ mid : Mid, ∃ hi : Bool, ∃ s : State, let a := if hi then Reg.NOD_CH_MASK_HI else Reg.NOD_CH_MASK_LO; (Passes s mid a true)) ∧
    (∃ mid : Mid, ∃ s : State, (Passes s mid Reg.NOD_DISC_LO false)) :=
  ⟨⟨(c0), ({ b0 with nv := { keys := [(1, 5), (3, 6)] } }), (5), (6), (by decide +kernel), (by decide +kernel), (by decide +kernel), (by decide +kernel)⟩,
   ⟨(c0), ({ b0 with nv := { keys := [(1, 5)] } }), (by decide +kernel), (by decide +kernel), (by decide +kernel)⟩,
   ⟨(c0), (let s := act { b0 with link := { objs := 2 ^ 31 } }; s.wr Reg.NOD_NOD_HANDLE (s.handleOf .node 31).toNat), (31), (by decide +kernel), (ok_of (by decide +kernel))⟩,
   ⟨(c0), (b0), (.handleBad), (by decide +kernel), (err_of (by decide +kernel))⟩,
   ⟨(c0), (b0), (by decide +kernel), (by decide +kernel)⟩,
   ⟨(c0), ({ b0 with pair := { b0.pair with mode := .operate } }), (by decide +kernel), (by decide +kernel)⟩,
   ⟨(c0), (let s := act { b0 with link := { objs := 2 ^ 31 } }; s.wr Reg.NOD_NOD_HANDLE (s.handleOf .node 31).toNat), (by decide +kernel)⟩,
   ⟨(c0), (false), (b0), (by decide +kernel)⟩,
   ⟨(c0), ({ b0 with link := { disc := [2^63, 3] } }), (by decide +kernel)⟩⟩

theorem witness_RecordsCloseAndAreScreened :
    (∃ s : State, ∃ r : SweepRec, (s.swp.cur = some r)) ∧
    (∃ s : State, ∃ r : SweepRec, (s.swp.cur = some r) ∧ (s.est.run = none) ∧ (s.saf.pset = none)) ∧
    (∃ s : State, (s.swp.cur = none)) ∧
    (∃ s : State, ∃ r : SweepRec, ∃ n : Nat, (s.swp.cur = some r) ∧ (s.est.run = none) ∧ (s.saf.pset = none) ∧ ((s.isShadow && s.partnerAlive) = false) ∧ (n < 32) ∧ (s.joined n = true)) ∧
    (∃ s : State, ∃ r : SweepRec, ∃ n : Nat, ∃ d : NodeData, ∃ p : Pset, let both := outsideBits p d.body &&& (s.node n).outside; (s.swp.cur = some r) ∧ (s.saf.pset = some p) ∧ (r.nodes.filter (·.1 == n) = [(n, d)]) ∧ (both ≠ 0)) ∧
    (∃ s : State, ∃ r : SweepRec, ∃ n : Nat, ∃ p : Pset, (s.swp.cur = some r) ∧ (s.saf.pset = some p) ∧ (s.est.run = none) ∧ ((r.nodes.all fun e => outsideBits p e.2.body == 0) = true) ∧ ((s.isShadow && s.partnerAlive) = false) ∧ (n < 32) ∧ (s.joined n = true) ∧ (r.present.testBit n = false) ∧ (s.running = true) ∧ (p.silLimit ≤ min 255 (s.miss n + 1))) ∧
    (∃ s : State, ∃ run : Run, ∃ x : SweepRec, ∃ live : SweepRec, (s.est.run = some run) ∧ (run.done = 1) ∧ (run.ring.head? = some x) ∧ (s.recOf x.index = some live)) ∧
    (∃ s : State, ∃ run : Run, ∃ x : SweepRec, ∃ o : Owt, ∃ pre : Nat, (s.est.run = some run) ∧ (run.done = 1) ∧ (run.ring.head? = some x) ∧ (s.swp.owts = [o]) ∧ (o.sweep = some x.cycle) ∧ (o.wire ≤ 16) ∧ (o.node < 32) ∧ (x.tests = [(o.node, o.wire)]) ∧ ((s.swp.cells.get {} (owtCell o.node o.wire)).last = some pre)) ∧
    (∃ s : State, ((s.est.run.all fun r => r.done != 1 || r.ring.isEmpty) = true)) :=
  ⟨⟨(let s := cur (lkS false); { s with swp := { s.swp with cur := some r12 }, est := { s.est with run := some (runOf 3), taps := [(3, ⟨0x8001, 1, 0, 511, 0x1000, 4, 24, 3, 5, 7, true⟩)] } }), (r12), (by decide +kernel)⟩,
   ⟨(let s := cur (lkS false); { s with swp := { s.swp with cur := some { cycle := 300, index := 9, present := 0 } } }), ({ cycle := 300, index := 9, present := 0 }), (by decide +kernel), (by decide +kernel), (by decide +kernel)⟩,
   ⟨(b0), (by decide +kernel)⟩,
   ⟨(let s := cur (lkS false); { s with swp := { s.swp with cur := some { cycle := 300, index := 9, present := 0 } } }), ({ cycle := 300, index := 9, present := 0 }), (31), (by decide +kernel), (by decide +kernel), (by decide +kernel), (by decide +kernel), (by decide +kernel), (by decide +kernel)⟩,
   ⟨(let s := (lkS false).setNode 31 { outside := 1 }; { s with swp := { s.swp with cur := some r12 }, saf := { s.saf with pset := some psA } }), (r12), (31), ({ body := { bd with v := 45000 :: List.replicate 15 36000 } }), (psA), (by decide +kernel), (by decide +kernel), (by decide +kernel), (by decide +kernel)⟩,
   ⟨(let s := (let s := cur (lkS false); { s with swp := { s.swp with cur := some { cycle := 300, index := 9, present := 0 } } }).setFld (Reg.NOD_NODE_STAT 31) 0 8 3; { s with saf := { s.saf with pset := some { psA with silLimit := 4 } }, pair := { s.pair with mode := .operate } }), ({ cycle := 300, index := 9, present := 0 }), (31), ({ psA with silLimit := 4 }), (by decide +kernel), (by decide +kernel), (by decide +kernel), (by decide +kernel), (by decide +kernel), (by decide +kernel), (by decide +kernel), (by decide +kernel), (by decide +kernel), (by decide +kernel)⟩,
   ⟨(let s := lkS false; { s with swp := { s.swp with ring := [(placed { cycle := 300, index := 9, tests := [(31, 4)] } 31 { bd with v := 100 :: List.replicate 15 36000 } 0)] }, est := { s.est with run := some { runOf 1 with ring := [(placed { cycle := 300, index := 9, tests := [(31, 4)] } 31 { bd with v := 100 :: List.replicate 15 36000 } 0)] } } }), ({ runOf 1 with ring := [(placed { cycle := 300, index := 9, tests := [(31, 4)] } 31 { bd with v := 100 :: List.replicate 15 36000 } 0)] }), ((placed { cycle := 300, index := 9, tests := [(31, 4)] } 31 { bd with v := 100 :: List.replicate 15 36000 } 0)), ((placed { cycle := 300, index := 9, tests := [(31, 4)] } 31 { bd with v := 100 :: List.replicate 15 36000 } 0)), (by decide +kernel), (by decide +kernel), (by decide +kernel), (by decide +kernel)⟩,
   ⟨(let s := lkS false; { s with swp := { s.swp with ring := [(placed { cycle := 300, index := 9, tests := [(31, 4)] } 31 { bd with v := 100 :: List.replicate 15 36000 } 0)], owts := [{ node := 31, wire := 4, sent := true, sweep := some 300 }], cells := [(500, { last := some 36000 })] }, est := { s.est with run := some { runOf 1 with ring := [(placed { cycle := 300, index := 9, tests := [(31, 4)] } 31 { bd with v := 100 :: List.replicate 15 36000 } 0)] } } }), ({ runOf 1 with ring := [(placed { cycle := 300, index := 9, tests := [(31, 4)] } 31 { bd with v := 100 :: List.replicate 15 36000 } 0)] }), ((placed { cycle := 300, index := 9, tests := [(31, 4)] } 31 { bd with v := 100 :: List.replicate 15 36000 } 0)), ({ node := 31, wire := 4, sent := true, sweep := some 300 }), (36000), (by decide +kernel), (by decide +kernel), (by decide +kernel), (by decide +kernel), (by decide +kernel), (by decide +kernel), (by decide +kernel), (by decide +kernel), (by decide +kernel)⟩,
   ⟨(b0), (by decide +kernel)⟩⟩

theorem witness_StreamsSweepDividerAndWireTests :
    (∃ mid : Mid, ∃ s : State, (Passes s mid Reg.SWP_SWP_CFG true)) ∧
    (∃ s : State, let due := s.gau.swpDivPend.any fun p => decide (2 ≤ sdiff 48 s.openingCycle p.2) && s.openingCycle % p.1 == 0; (due = false)) ∧
    (∃ s : State, let due := s.gau.swpDivPend.any fun p => decide (2 ≤ sdiff 48 s.openingCycle p.2) && s.openingCycle % p.1 == 0; (due = true)) ∧
    (∃ mid : Mid, ∃ s : State, (Passes s mid Reg.SWP_WIRE_CMD true)) ∧
    (∃ node : Fin 32, ∃ wire : Fin 17, ∃ s : State, let past := (s.wire node.val wire.val).holdoff.any fun t0 => decide (secT (s.rd Reg.SWP_WIRE_HOLDOFF) ≤ s.since t0); (past = false)) ∧
    (∃ node : Fin 32, ∃ wire : Fin 17, ∃ s : State, let past := (s.wire node.val wire.val).holdoff.any fun t0 => decide (secT (s.rd Reg.SWP_WIRE_HOLDOFF) ≤ s.since t0); (past = true)) ∧
    (∃ ch : Fin 3, ∃ s : State, (s.snsEn ch.val = true)) ∧
    (∃ ch : Fin 3, ∃ s : State, (s.snsEn ch.val = false)) ∧
    (∃ ch : Fin 3, ∃ s : State, (s.snsEn ch.val = true)) ∧
    (∃ ch : Fin 3, ∃ s : State, (s.snsEn ch.val = true) ∧ (s.snsBad ch.val = false)) ∧
    (∃ ch : Fin 3, ∃ s : State, (s.snsBad ch.val = true)) ∧
    (∃ s : State, let half := (s.sns.sf8Since.bind fun t0 => s.saf.pset.map fun p => decide (msT p.sf8Time ≤ 2 * s.since t0)).getD false; (s.pair.role ≠ .active ∨ half = false)) ∧
    (∃ s : State, let half := (s.sns.sf8Since.bind fun t0 => s.saf.pset.map fun p => decide (msT p.sf8Time ≤ 2 * s.since t0)).getD false; (s.pair.role = .active) ∧ (half = true)) ∧
    (∃ s : State, let past := (s.sns.sf8Since.bind fun t0 => s.saf.pset.map fun p => decide (msT p.sf8Time ≤ s.since t0)).getD false; (s.inControl = false ∨ past = false)) ∧
    (∃ s : State, let past := (s.sns.sf8Since.bind fun t0 => s.saf.pset.map fun p => decide (msT p.sf8Time ≤ s.since t0)).getD false; (s.inControl = true) ∧ (past = true)) :=
  ⟨⟨(c0), (ready b0 .ready), (by decide +kernel)⟩,
   ⟨(b0), (by decide +kernel)⟩,
   ⟨(let s := lkS false; { s with gau := { s.gau with swpDivPend := some (4, 298) } }), (by decide +kernel)⟩,
   ⟨(c0), (act (lkS false)), (by decide +kernel)⟩,
   ⟨(0), (default), (b0), (by decide +kernel)⟩,
   ⟨(31), (16), (let s := { (lkS false) with tim := { odo := 2 ^ 62 } }; s.setWire 31 16 { holdoff := some 0 }), (by decide +kernel)⟩,
   ⟨(0), (s12), (by decide +kernel)⟩,
   ⟨(2), (b0.setBit Reg.SNS_SNS_CFG 2 false), (by decide +kernel)⟩,
   ⟨(1), ((b0.setBit Reg.SNS_SNS_CFG 1 true)), (by decide +kernel)⟩,
   ⟨(2), ((b0.setBit Reg.SNS_SNS_CFG 2 true)), (by decide +kernel), (by decide +kernel)⟩,
   ⟨(2), (b0.setBit Reg.SNS_SNS_CFG 2 false), (by decide +kernel)⟩,
   ⟨(b0), (by decide +kernel)⟩,
   ⟨(fit (sf8 b0)), (by decide +kernel), (by decide +kernel)⟩,
   ⟨(b0), (by decide +kernel)⟩,
   ⟨(act (sf8 b0)), (by decide +kernel), (by decide +kernel)⟩⟩

theorem witness_EstimatorStagesChargeToStep :
    (∃ s : State, ∃ r : Run, (s.est.run = some r) ∧ (r.done = 2)) ∧
    (∃ s : State, ∃ r : Run, ∃ x : SweepRec, (s.est.run = some r) ∧ (r.done = 3) ∧ (r.ring.head? = some x)) ∧
    (∃ s : State, ∃ r : Run, ∃ c : Nat, ∃ v : Nat, ∃ age : Nat, ∃ yhat : Word, ∃ hj0 : Word, (s.lateReading r c = some (v, age, yhat, hj0))) ∧
    (∃ cell : Fin 512, ∃ s : State, ∃ r : Run, (s.est.run = some r) ∧ (r.done = 4) ∧ (s.estimated cell.val = true) ∧ (s.fld Reg.EST_GATE_CFG 8 8 ≤ refusals (s.workCell cell.val))) ∧
    (∃ cell : Fin 512, ∃ s : State, ∃ r : Run, (s.est.run = some r) ∧ (r.done = 4) ∧ ((s.estimated cell.val = false ∨ refusals (s.workCell cell.val) < s.fld Reg.EST_GATE_CFG 8 8))) ∧
    (∃ s : State, ∃ r : Run, (s.est.run = some r) ∧ (r.done = 4)) ∧
    (∃ s : State, ∃ r : Run, (s.est.run = some r) ∧ (r.done = 4) ∧ (s.est.caps = [])) ∧
    (∃ s : State, ∃ r : Run, ∃ cap : Capture, (s.est.run = some r) ∧ (r.done = 4) ∧ (s.est.caps = [cap]) ∧ (capsReady s = [cap]) ∧ ((∀ c, c < 512 → (s.estimated c && s.gateDue (s.workCell c)) = false)) ∧ ((cap.nodes.map (·.1)).Nodup)) ∧
    (∃ s : State, (s.est.run = none)) ∧
    (∃ s : State, ∃ r : Run, (s.est.run = some r) ∧ (r.done ≠ 2)) ∧
    (∃ s : State, ∃ r : Run, (s.est.run = some r) ∧ (r.done ≠ 3)) ∧
    (∃ s : State, ∃ r : Run, (s.est.run = some r) ∧ (r.done ≠ 4)) ∧
    (∃ s : State, ∃ r : Run, (s.est.run = some r) ∧ (r.done ≠ 5)) ∧
    (∃ s : State, ∃ r : Run, (s.est.run = some r) ∧ (r.done ≠ 6)) ∧
    (∃ s : State, ∃ r : Run, (s.est.run = some r) ∧ (r.done ≠ 7)) :=
  ⟨⟨(es 2), (rn 2), (by decide +kernel), (by decide +kernel)⟩,
   ⟨(es 3), (rn 3), (recA), (by decide +kernel), (by decide +kernel), (by decide +kernel)⟩,
   ⟨((let s := es 3; { s with swp := { s.swp with ring := [{ recA with index := 8 }] }, est := { s.est with aux := [(511, { started := true, table := some 0, hist := [(8, some (0x40866666, 0x3f800000))] })] } }.setBit Reg.EST_EST_CFG 1 true)), ({ rn 3 with late := [(31, 8)] }), (511), (42000), (0), (0x40866666), (0x3f800000), (by decide +kernel)⟩,
   ⟨(511), ((es 4).setFld Reg.EST_GATE_CFG 8 8 100), (rn 4), (by decide +kernel), (by decide +kernel), (by decide +kernel), (by decide +kernel)⟩,
   ⟨(511), ((es 4).setFld Reg.EST_GATE_CFG 8 8 101), (rn 4), (by decide +kernel), (by decide +kernel), (by decide +kernel)⟩,
   ⟨(let s := es 4; { s with est := { s.est with caps := [capA, { capA with id := 8, nodes := [] }] } }), (rn 4), (by decide +kernel), (by decide +kernel)⟩,
   ⟨((es 4).setFld Reg.EST_GATE_CFG 8 8 100), (rn 4), (by decide +kernel), (by decide +kernel), (by decide +kernel)⟩,
   ⟨(let s := (((es 4).setFld Reg.EST_GATE_CFG 8 8 101).wr Reg.EST_C_RATE 1000).setFld Reg.EST_FIT_CFG 8 16 65535; { s with est := { s.est with caps := [capA] } }), (rn 4), (capA), (by decide +kernel), (by decide +kernel), (by decide +kernel), (by decide +kernel), (by decide +kernel), (by decide +kernel)⟩,
   ⟨(b0), (by decide +kernel)⟩,
   ⟨(es 1), (rn 1), (by decide +kernel), (by decide +kernel)⟩,
   ⟨(es 1), (rn 1), (by decide +kernel), (by decide +kernel)⟩,
   ⟨(es 1), (rn 1), (by decide +kernel), (by decide +kernel)⟩,
   ⟨(es 1), (rn 1), (by decide +kernel), (by decide +kernel)⟩,
   ⟨(es 1), (rn 1), (by decide +kernel), (by decide +kernel)⟩,
   ⟨(es 1), (rn 1), (by decide +kernel), (by decide +kernel)⟩⟩

theorem witness_FusionAndItsFindings :
    (∃ s : State, ∃ r : Run, ∃ x : SweepRec, (s.est.run = some r) ∧ (r.done = 5) ∧ (r.ring.head? = some x)) ∧
    (∃ s : State, ∃ r : Run, ∃ x : SweepRec, ∃ c : Nat, ∃ tab : ChemTable, (FuseRow s r x c tab) ∧ ((s.cellAux c).usedNow = true) ∧ (F32.le (s.workCell c).socV F32.zero = true)) ∧
    (∃ s : State, ∃ r : Run, ∃ x : SweepRec, ∃ c : Nat, ∃ tab : ChemTable, (FuseRow s r x c tab) ∧ ((s.cellAux c).usedNow = true) ∧ (F32.le (s.workCell c).socV F32.zero = false) ∧ (F32.le F32.one (s.workCell c).socV = true)) ∧
    (∃ s : State, ∃ r : Run, ∃ x : SweepRec, ∃ c : Nat, ∃ tab : ChemTable, let v := s.workCell c; let empty := F32.le v.socQ F32.zero && F32.le s.emptyMargin v.socV; let full := F32.le F32.one v.socQ && F32.le v.socV (F32.sub F32.one s.emptyMargin); (FuseRow s r x c tab) ∧ ((s.cellAux c).usedNow = true) ∧ (F32.le v.socV F32.zero = false) ∧ (F32.le F32.one v.socV = false) ∧ ((empty || full) = true)) ∧
    (∃ s : State, ∃ r : Run, ∃ x : SweepRec, ∃ c : Nat, ∃ tab : ChemTable, let v := s.workCell c; (FuseRow s r x c tab) ∧ ((s.cellAux c).usedNow = true) ∧ (F32.le v.socV F32.zero = false) ∧ (F32.le F32.one v.socV = false) ∧ ((F32.le v.socQ F32.zero || F32.le F32.one v.socQ) = true) ∧ ((F32.le v.socQ F32.zero && F32.le s.emptyMargin v.socV || F32.le F32.one v.socQ && F32.le v.socV (F32.sub F32.one s.emptyMargin)) = false)) ∧
    (∃ s : State, ∃ r : Run, ∃ x : SweepRec, ∃ c : Nat, ∃ tab : ChemTable, let v := s.workCell c; (FuseRow s r x c tab) ∧ ((s.cellAux c).usedNow = false) ∧ ((F32.le v.socQ F32.zero || F32.le F32.one v.socQ) = true)) ∧
    (∃ s : State, ∃ r : Run, ∃ x : SweepRec, ∃ c : Nat, ∃ tab : ChemTable, let v := fuseIn s c; let u := (s.cellAux c).usedNow; (FuseRow s r x c tab) ∧ (F32.le v.socQ F32.zero = false) ∧ (F32.le F32.one v.socQ = false) ∧ ((u && (F32.le v.socV F32.zero || F32.le F32.one v.socV)) = false)) ∧
    (∃ full : Bool, ∃ s : State, ∃ r : Run, ∃ x : SweepRec, (s.est.run = some r) ∧ (r.done = 5) ∧ (r.ring.head? = some x) ∧ (s.taperDue r x full = true)) ∧
    (∃ full : Bool, ∃ s : State, ∃ r : Run, (s.est.run = some r) ∧ ((r.done ≠ 5 ∨ r.ring.head? = none ∨ (r.ring.head?.all fun x => !s.taperDue r x full) = true))) ∧
    (∃ cell : Fin 512, ∃ s : State, ∃ r : Run, (s.est.run = some r) ∧ (r.done = 6) ∧ (s.estimated cell.val = true) ∧ ((s.cellAux cell.val).confirmed = true)) ∧
    (∃ cell : Fin 512, ∃ s : State, ∃ r : Run, (s.est.run = some r) ∧ ((r.done ≠ 6 ∨ s.estimated cell.val = false ∨ (s.cellAux cell.val).confirmed = false))) ∧
    (∃ s : State, ∃ r : Run, (s.est.run = some r)) ∧
    (∃ s : State, ∃ r : Run, (s.est.run = some r)) :=
  ⟨⟨(tp (es 5)), (rn 5), (recA), (by decide +kernel), (by decide +kernel), (by decide +kernel)⟩,
   ⟨(wk (usedS (es 5)) fun x => { x with socV := 0 }), (rn 5), (recA), (511), (tab0), (by decide +kernel), (by decide +kernel), (by decide +kernel)⟩,
   ⟨(wk (usedS (es 5)) fun x => { x with socV := 0x3f800000 }), (rn 5), (recA), (511), (tab0), (by decide +kernel), (by decide +kernel), (by decide +kernel), (by decide +kernel)⟩,
   ⟨(wk (usedS (es 5)) fun x => { x with socQ := 0 }), (rn 5), (recA), (511), (tab0), (by decide +kernel), (by decide +kernel), (by decide +kernel), (by decide +kernel), (by decide +kernel)⟩,
   ⟨(wk (usedS (es 5)) fun x => { x with socQ := 0, socV := 0x358637bd }), (rn 5), (recA), (511), (tab0), (by decide +kernel), (by decide +kernel), (by decide +kernel), (by decide +kernel), (by decide +kernel), (by decide +kernel)⟩,
   ⟨(wk (es 5) fun x => { x with socQ := 0x3f800000 }), (rn 5), (recA), (511), (tab0), (by decide +kernel), (by decide +kernel), (by decide +kernel)⟩,
   ⟨(wk (usedS (es 5)) fun x => { x with conflictN := 1, socQ := 0x3e800000 }), (rn 5), (recA), (511), (tab0), (by decide +kernel), (by decide +kernel), (by decide +kernel), (by decide +kernel)⟩,
   ⟨(true), (tp (es 5)), (rn 5), (recA), (by decide +kernel), (by decide +kernel), (by decide +kernel), (by decide +kernel)⟩,
   ⟨(false), (tp (es 5)), (rn 5), (by decide +kernel), (by decide +kernel)⟩,
   ⟨(511), (aux (es 6) fun a => { a with confirmed := true }), (rn 6), (by decide +kernel), (by decide +kernel), (by decide +kernel), (by decide +kernel)⟩,
   ⟨(511), (es 6), (rn 6), (by decide +kernel), (by decide +kernel)⟩,
   ⟨((es 6).wr Reg.FUS_ANCHOR_MAX 0), (rn 6), (by decide +kernel)⟩,
   ⟨(aux ((es 6).setFld Reg.FUS_CONF_CFG 16 16 1) fun a => { a with span := secT 1 }), (rn 6), (by decide +kernel)⟩⟩

theorem witness_ScalePublishAndOverrun :
    (∃ s : State, ∃ r : Run, ∃ x : SweepRec, let k := F32.div (secF r.dt) (F32.ofNat (s.rd Reg.FUS_ZP_TAU)); let step (a b : Word) : Word := F32.add a (F32.mul k (F32.sub (F32.max b F32.zero) a)); (s.est.run = some r) ∧ (r.done = 6) ∧ (r.ring.head? = some x)) ∧
    (∃ s : State, ∃ r : Run, ∃ x : SweepRec, (s.est.run = some r) ∧ (r.done = 6) ∧ (r.ring.head? = some x) ∧ ((s.countedCells = [] ∨ (s.fuseRest r).countedCells.any (fun c => !(s.estimated c && F32.finite ((s.fuseRest r).workCell c).socF)) = true))) ∧
    (∃ s : State, ∃ r : Run, ∃ x : SweepRec, ∃ rows : List ScaleRow, (s.est.run = some r) ∧ (r.done = 6) ∧ (r.ring.head? = some x) ∧ ((s.fuseRest r).scaleRows = some rows)) ∧
    (∃ s : State, ∃ r : Run, ∃ x : SweepRec, ∃ rec_ : SweepRec, (PublishDue s r x rec_)) ∧
    (∃ s : State, ∃ x : SweepRec, ∃ n : Nat, ∃ i : Nat, let wants := s.balWants x; let g := s.balGroup wants x.index n; let q (c : Nat) : Bool := wants.any fun w => w.1 == c; (n < 32) ∧ (i < 16) ∧ (g.mask.testBit i = true)) ∧
    (∃ s : State, ∃ x : SweepRec, ∃ n : Nat, ∃ i : Nat, let wants := s.balWants x; let q (c : Nat) : Bool := wants.any fun w => w.1 == c; (n < 32) ∧ (i < 16)) ∧
    (∃ s : State, ∃ r : Run, ∃ x : SweepRec, ∃ rec_ : SweepRec, ∃ i : Nat, ∃ p : Tap, (PublishDue s r x rec_) ∧ (i < 32) ∧ (s.est.taps = [(i, p)]) ∧ (s.frm.state = 0) ∧ (s.held (.own .pipe) = false) ∧ (s.fwlOn = false)) ∧
    (∃ s : State, ∃ r : Run, (s.est.run = some r) ∧ (msT 2 ≤ s.since r.start)) ∧
    (∃ s : State, ((s.est.run.all fun r => decide (s.since r.start < msT 2)) = true)) :=
  ⟨⟨(es 6), (rn 6), (recA), (by decide +kernel), (by decide +kernel), (by decide +kernel)⟩,
   ⟨(let s := es 6; { s with link := { s.link with plan := none } }), (rn 6), (recA), (by decide +kernel), (by decide +kernel), (by decide +kernel), (by decide +kernel)⟩,
   ⟨(es16), (rn 6), (recA), ((es16.fuseRest (rn 6)).scaleRows.getD []), (by decide +kernel), (by decide +kernel), (by decide +kernel), (by decide +kernel)⟩,
   ⟨(act pubS), (pubR), (recA), (recA), (by decide +kernel)⟩,
   ⟨(balS), ({ recA with nodes := [(31, { body := { bd with v := List.replicate 15 36000 ++ [42000] } })] }), (31), (15), (by decide +kernel), (by decide +kernel), (by decide +kernel)⟩,
   ⟨(es 7), (recA), (31), (15), (by decide +kernel), (by decide +kernel)⟩,
   ⟨({ pubS with est := { pubS.est with taps := [(31, inst_tap)] } }), (pubR), (recA), (recA), (31), (inst_tap), (by decide +kernel), (by decide +kernel), (by decide +kernel), (by decide +kernel), (by decide +kernel), (by decide +kernel)⟩,
   ⟨(let s := act (es 6); { s with est := { s.est with overrunAt := some 0, run := some { rn 6 with start := 2 ^ 50 - 500000 } } }), ({ rn 6 with start := 2 ^ 50 - 500000 }), (by decide +kernel), (by decide +kernel)⟩,
   ⟨(es 6), (by decide +kernel)⟩⟩

theorem witness_EstimatorTablesTapsAndDither :
    (∃ mid : Mid, ∃ s : State, ∃ i : Nat, (Passes s mid Reg.EST_CHEM_CMD true) ∧ (s.fwlOn = false) ∧ (s.held (.own .pipe) = false) ∧ (s.est.chems.firstFree 4 = some i)) ∧
    (∃ mid : Mid, ∃ s : State, (Passes s mid Reg.EST_CHEM_CMD true) ∧ (s.est.chems.firstFree 4 = none)) ∧
    (∃ mid : Mid, ∃ s : State, ∃ i : Nat, (Passes s mid Reg.EST_CHEM_CMD true) ∧ (s.chemHandle = .ok i)) ∧
    (∃ mid : Mid, ∃ s : State, ∃ i : Nat, (Passes s mid Reg.EST_CHEM_CMD true) ∧ (s.chemHandle = .ok i)) ∧
    (∃ mid : Mid, ∃ s : State, ∃ e : ErrCode, (Passes s mid Reg.EST_CHEM_CMD true) ∧ (s.chemHandle = .error e)) ∧
    (∃ mid : Mid, ∃ s : State, (Passes s mid Reg.EST_EST_CFG true)) ∧
    (∃ s : State, ∃ cyc : Nat, ∃ t0 : BitVec 64, ∃ l : List (Nat × BitVec 64), (s.swp.smps = (cyc, t0) :: l)) ∧
    (∃ s : State, ((s.swp.smps = [] ∨ s.inControl = false ∨ s.pair.mode ≠ .operate ∨ s.bit Reg.EST_EST_CFG 3 = false ∨ s.rd Reg.EST_C_RATE = 0))) ∧
    (∃ s : State, ∃ t0 : BitVec 64, ∃ a : Int, (s.est.dither = some (t0, a))) ∧
    (∃ s : State, (s.est.dither = none)) ∧
    (∃ mid : Mid, ∃ s : State, ∃ i : Nat, (Passes s mid Reg.FUS_TAP_CMD true) ∧ (s.est.taps.firstFree 32 = some i)) ∧
    (∃ mid : Mid, ∃ s : State, (Passes s mid Reg.FUS_TAP_CMD true) ∧ (s.est.taps.firstFree 32 = none)) ∧
    (∃ mid : Mid, ∃ s : State, ∃ i : Nat, ∃ x : Tap, (Passes s mid Reg.FUS_TAP_CMD true) ∧ (s.tapHandle = .ok i) ∧ (s.est.taps.find? i = some x)) ∧
    (∃ mid : Mid, ∃ s : State, ∃ e : ErrCode, (Passes s mid Reg.FUS_TAP_CMD true) ∧ (s.tapHandle = .error e)) :=
  ⟨⟨(c0), ({ b0 with nv := { keys := [(1, 5), (3, 6)] } }), (0), (by decide +kernel), (by decide +kernel), (by decide +kernel), (by decide +kernel)⟩,
   ⟨(c0), ({ b0 with est := { chems := [(0,tab0),(1,tab0),(2,tab0),(3,tab0)] } }), (by decide +kernel), (by decide +kernel)⟩,
   ⟨(c0), ((let s := { b0 with est := { chems := [(3, tab0)], aux := [(5, { table := some 2 })] } }; s.wr Reg.EST_CHEM_HANDLE (s.handleOf .chem 3).toNat)), (3), (by decide +kernel), (ok_of (by decide +kernel))⟩,
   ⟨(c0), ((let s := { b0 with est := { chems := [(3, tab0)], aux := [(5, { table := some 3 })] } }; s.wr Reg.EST_CHEM_HANDLE (s.handleOf .chem 3).toNat)), (3), (by decide +kernel), (ok_of (by decide +kernel))⟩,
   ⟨(c0), (b0), (.handleBad), (by decide +kernel), (err_of (by decide +kernel))⟩,
   ⟨(c0), (b0), (by decide +kernel)⟩,
   ⟨(let s := (((act (ready b0 .operate)).setBit Reg.EST_EST_CFG 3 true).setBit Reg.DSP_DSP_STAT 2 true).wr Reg.EST_C_RATE 100000; { s with swp := { s.swp with smps := [(5, 2 ^ 50 - 1250000)] }, est := { s.est with ditherArm := true }, tim := { odo := 2 ^ 50 } }), (5), (2 ^ 50 - 1250000), ([]), (by decide +kernel)⟩,
   ⟨(b0), (by decide +kernel)⟩,
   ⟨({ b0 with est := { dither := some (0, 5) }, tim := { odo := 25000000 } }), (0), (5), (by decide +kernel)⟩,
   ⟨(b0), (by decide +kernel)⟩,
   ⟨(c0), (((b0.wr Reg.FUS_TAP_CFG 0x10001).wr Reg.FUS_TAP_RANGE (511 * 65536 + 511)).wr Reg.FUS_TAP_DEPTH 65535), (0), (by decide +kernel), (by decide +kernel)⟩,
   ⟨(c0), ({ b0 with est := { taps := (List.range 32).map fun i => (i, inst_tap) } }), (by decide +kernel), (by decide +kernel)⟩,
   ⟨(c0), ((let s := { b0 with est := { taps := [(31, ⟨1, 1, 0, 1, 0, 2, 24, 0, 0, 7, false⟩)] } }; s.wr Reg.FUS_TAP_HANDLE (s.handleOf .tap 31).toNat)), (31), (inst_tap), (by decide +kernel), (ok_of (by decide +kernel)), (by decide +kernel)⟩,
   ⟨(c0), (b0), (.handleBad), (by decide +kernel), (err_of (by decide +kernel))⟩⟩

theorem witness_ControlSteps :
    (∃ s : State, (s.ctl.set.n ≤ s.ctl.outs)) ∧
    (∃ s : State, (StepClear s) ∧ ((s.ctl.set.n ≤ s.ctl.outs ∨ s.ctlSource = none)) ∧ (s.ctl.state = 0)) ∧
    (∃ s : State, ∃ b : Bool, ∃ st : BitVec 64, ∃ i : Int, ∃ v : Int, (StepClear s) ∧ (s.ctl.set.n ≤ s.ctl.outs) ∧ (s.ctl.state ≠ 0) ∧ ((s.ctl.state ≠ 3 ∨ s.mayRun = true)) ∧ (s.ctlMeas = some (b, st, i, v))) ∧
    (∃ s : State, (StepClear s) ∧ ((s.ctl.set.n ≤ s.ctl.outs ∨ s.ctlSource = none)) ∧ (s.ctl.state ≠ 0) ∧ ((s.ctlMeas = none ∨ (s.ctl.state = 3 ∧ s.mayRun = false)))) ∧
    (∃ s : State, ∃ b : Bool, ∃ st : BitVec 64, ∃ i : Int, ∃ v : Int, (StepClear s) ∧ (s.ctl.set.n ≤ s.ctl.outs) ∧ (s.ctl.state = 3) ∧ (s.mayRun = true) ∧ (s.ctlMeas = some (b, st, i, v)) ∧ ((mainOf s i v).finite = true)) ∧
    (∃ s : State, ∃ b : Bool, (s.ctl.outs < s.ctl.set.n) ∧ (s.ctlSource = some b)) ∧
    (∃ s : State, (StepClear s) ∧ (s.ctl.set.n ≤ s.ctl.outs)) :=
  ⟨⟨(solo (ctlW (cs 1) fun c => { c with fallDue := true, restore := true })), (by decide +kernel)⟩,
   ⟨(cs 0), (by decide +kernel), (by decide +kernel), (by decide +kernel)⟩,
   ⟨(meas (mr 1)), (false), (7), (50000), (800000), (by decide +kernel), (by decide +kernel), (by decide +kernel), (by decide +kernel), (by decide +kernel)⟩,
   ⟨(mr 1), (by decide +kernel), (by decide +kernel), (by decide +kernel), (by decide +kernel)⟩,
   ⟨(meas (mr 3)), (false), (7), (50000), (800000), (by decide +kernel), (by decide +kernel), (by decide +kernel), (by decide +kernel), (by decide +kernel), (by decide +kernel)⟩,
   ⟨(ctlW (cs 1) fun c => { c with outs := 3 }), (false), (by decide +kernel), (by decide +kernel)⟩,
   ⟨(meas (mr 1)), (by decide +kernel), (by decide +kernel)⟩⟩

theorem witness_ControlEngineEvents :
    (∃ s : State, (s.ctl.fallDue = true)) ∧
    (∃ s : State, (s.ctl.fallDue = false)) ∧
    (∃ s : State, ∃ n : Nat, (s.ctl.oscDue = some n)) ∧
    (∃ s : State, (s.ctl.oscDue = none)) ∧
    (∃ s : State, ∃ t0 : BitVec 64, (s.ctl.frameAt = some t0) ∧ (25600 ≤ s.since t0)) ∧
    (∃ s : State, ((s.ctl.frameAt.all fun t0 => decide (s.since t0 < 25600)) = true)) ∧
    (∃ s : State, ∃ b : Bool, ∃ st : BitVec 64, ∃ i : Int, ∃ v : Int, (s.ctlMeas = some (b, st, i, v)) ∧ (s.ctl.state = 0) ∧ (s.mayRun = true)) ∧
    (∃ s : State, ((s.mayRun = false ∨ s.ctl.state ≠ 0 ∨ s.ctlMeas = none))) ∧
    (∃ s : State, (s.bit Reg.CVL_CVL_CFG 0 = true)) ∧
    (∃ s : State, (s.bit Reg.CVL_CVL_CFG 0 = false)) ∧
    (∃ mid : Mid, ∃ s : State, (Passes s mid Reg.CVL_CVL_GAP false)) :=
  ⟨⟨(fit (ctlW (cs 1) fun c => { c with fallDue := true })), (by decide +kernel)⟩,
   ⟨(b0), (by decide +kernel)⟩,
   ⟨(ctlW (cs 1) fun c => { c with oscDue := some 5, set := { c.set with oscAct := 1 } }), (5), (by decide +kernel)⟩,
   ⟨(b0), (by decide +kernel)⟩,
   ⟨(ctlW (cs 1) fun c => { c with frameAt := some (BitVec.ofNat 64 (2^40 - 25600)), frame := { ref := 5, stop := false } }), (BitVec.ofNat 64 (2^40 - 25600)), (by decide +kernel), (by decide +kernel)⟩,
   ⟨(ctlW (cs 1) fun c => { c with frameAt := some (BitVec.ofNat 64 (2^40 - 25599)), frame := { ref := 5, stop := false } }), (by decide +kernel)⟩,
   ⟨(meas (mr 0)), (false), (7), (50000), (800000), (by decide +kernel), (by decide +kernel), (by decide +kernel)⟩,
   ⟨(b0), (by decide +kernel)⟩,
   ⟨(fit (cs 1)), (by decide +kernel)⟩,
   ⟨(b0), (by decide +kernel)⟩,
   ⟨(c0), (ctlW b0 fun c => { c with gap := 2 ^ 29 }), (by decide +kernel)⟩⟩

theorem witness_ControlCommands :
    (∃ mid : Mid, ∃ s : State, ∃ g : CtlSet, (Passes s mid Reg.CTL_CTL_CMD true) ∧ (s.applySet = some g)) ∧
    (∃ mid : Mid, ∃ s : State, (Passes s mid Reg.CTL_CTL_CMD true) ∧ (s.applySet = none)) ∧
    (∃ s : State, let bad := [Reg.CTL_CUR_TF, Reg.CTL_VOL_TF, Reg.CTL_PWR_TF].any fun a => F32.lt (s.reg a) F32.zero; let nums := [Reg.CTL_CUR_KP, Reg.CTL_CUR_KI, Reg.CTL_CUR_KD, Reg.CTL_CUR_TF, Reg.CTL_CUR_UMAX, Reg.CTL_CUR_UMIN, Reg.CTL_VOL_KP, Reg.CTL_VOL_KI, Reg.CTL_VOL_KD, Reg.CTL_VOL_TF, Reg.CTL_PWR_KP, Reg.CTL_PWR_KI, Reg.CTL_PWR_KD, Reg.CTL_PWR_TF]; ((s.rdI Reg.CTL_V_STR_MAX ≤ s.rdI Reg.CTL_V_STR_MIN ∨ bad = true ∨ (nums.all fun a => F32.finite (s.reg a)) = false))) ∧
    (∃ s : State, ∃ g : CtlSet, (s.applySet = some g)) ∧
    (∃ mid : Mid, ∃ s : State, (Passes s mid Reg.CTL_CTL_CMD true)) ∧
    (∃ s : State, (s.ctl.restore = true) ∧ (s.ctl.set.n ≤ s.ctl.outs) ∧ (s.ctl.oscDue = none) ∧ (s.ctl.fallDue = false)) ∧
    (∃ mid : Mid, ∃ s : State, (Passes s mid Reg.CTL_CTL_CMD true)) ∧
    (∃ mid : Mid, ∃ s : State, (Passes s mid Reg.CTL_CTL_CMD true)) :=
  ⟨⟨(c0), (((b0.wr Reg.CTL_V_STR_MAX 900000).wr Reg.CTL_V_STR_MIN 500000)), ((((b0.wr Reg.CTL_V_STR_MAX 900000).wr Reg.CTL_V_STR_MIN 500000).applySet).getD {}), (by decide +kernel), (by decide +kernel)⟩,
   ⟨(c0), ((b0.wr Reg.CTL_V_STR_MAX 5).wr Reg.CTL_V_STR_MIN 5), (by decide +kernel), (by decide +kernel)⟩,
   ⟨((b0.wr Reg.CTL_V_STR_MAX 5).wr Reg.CTL_V_STR_MIN 5), (by decide +kernel)⟩,
   ⟨(((b0.wr Reg.CTL_V_STR_MAX 900000).wr Reg.CTL_V_STR_MIN 500000)), ((((b0.wr Reg.CTL_V_STR_MAX 900000).wr Reg.CTL_V_STR_MIN 500000).applySet).getD {}), (by decide +kernel)⟩,
   ⟨(c0), (ctlW b0 fun c => { c with sinceDis := 64 }), (by decide +kernel)⟩,
   ⟨(ctlW (cs 1) fun c => { c with restore := true, path := true }), (by decide +kernel), (by decide +kernel), (by decide +kernel), (by decide +kernel)⟩,
   ⟨(c0), (ctlW b0 fun c => { c with derate := true, oscStop := true }), (by decide +kernel)⟩,
   ⟨(c0), (b0), (by decide +kernel)⟩⟩

theorem witness_SetPoints :
    (∃ mid : Mid, ∃ s : State, ∃ i : Nat, (Passes s mid Reg.CTL_SP_CMD true) ∧ (s.wmHandle (s.reg Reg.CTL_SP_HANDLE) = .ok i)) ∧
    (∃ mid : Mid, ∃ s : State, ∃ e : ErrCode, (Passes s mid Reg.CTL_SP_CMD true) ∧ (s.wmHandle (s.reg Reg.CTL_SP_HANDLE) = .error e)) ∧
    (∃ mid : Mid, ∃ s : State, ∃ i : Nat, (Passes s mid Reg.CTL_SP_CMD true) ∧ (s.wmHandle (s.reg Reg.CTL_SP_HANDLE) = .ok i)) ∧
    (∃ mid : Mid, ∃ s : State, (Passes s mid Reg.CTL_SP_CMD true)) ∧
    (∃ mid : Mid, ∃ s : State, (Passes s mid Reg.CTL_SP_CMD true)) ∧
    (∃ s : State, ∃ h : Word, ∃ e : Staged, (s.gau.ctlFired = [h]) ∧ ((s.ctl.staged.find? fun x => x.handle == h) = some e) ∧ (s.pair.mode = .operate) ∧ (s.ctl.oscStop = false) ∧ (s.ctl.stopHold = false)) ∧
    (∃ s : State, ∃ h : Word, ∃ e : Staged, (s.gau.ctlFired = [h]) ∧ ((s.ctl.staged.find? fun x => x.handle == h) = some e) ∧ ((s.pair.mode ≠ .operate ∨ s.ctl.oscStop = true ∨ s.ctl.stopHold = true))) ∧
    (∃ s : State, ∃ h : Word, (s.gau.ctlFired = [h]) ∧ ((s.ctl.staged.find? fun x => x.handle == h) = none)) ∧
    (∃ s : State, ∃ h : Word, ∃ l : List Word, (s.gau.ctlFired = h :: l)) ∧
    (∃ s : State, (s.gau.ctlFired = [])) :=
  ⟨⟨(c0), (spS 15), (3), (by decide +kernel), (ok_of (by decide +kernel))⟩,
   ⟨(c0), (b0), (.handleBad), (by decide +kernel), (err_of (by decide +kernel))⟩,
   ⟨(c0), (spS 2), (3), (by decide +kernel), (ok_of (by decide +kernel))⟩,
   ⟨(c0), (spS 2), (by decide +kernel)⟩,
   ⟨(c0), (ready (spS 2) .service), (by decide +kernel)⟩,
   ⟨(let s := ready (spS 0) .operate; { s with ctl := { s.ctl with staged := [⟨5, 1, 700, 0, false⟩] }, gau := { s.gau with ctlFired := [5] }, est := { s.est with dither := some (3, 4) } }), (5), (⟨5, 1, 700, 0, false⟩), (by decide +kernel), (by decide +kernel), (by decide +kernel), (by decide +kernel), (by decide +kernel)⟩,
   ⟨(let s := ready (spS 0) .ready; { s with ctl := { s.ctl with staged := [⟨5, 1, 700, 0, false⟩] }, gau := { s.gau with ctlFired := [5] } }), (5), (⟨5, 1, 700, 0, false⟩), (by decide +kernel), (by decide +kernel), (by decide +kernel)⟩,
   ⟨(let s := spS 0; { s with gau := { s.gau with ctlFired := [5] } }), (5), (by decide +kernel), (by decide +kernel)⟩,
   ⟨(let s := ready (spS 0) .operate; { s with ctl := { s.ctl with staged := [⟨5, 1, 700, 0, false⟩, ⟨6, 1, 900, 0, true⟩] }, gau := { s.gau with ctlFired := [5, 6] } }), (5), ([6]), (by decide +kernel)⟩,
   ⟨(spS 2), (by decide +kernel)⟩⟩

theorem witness_FormationPrograms :
    (∃ mid : Mid, ∃ s : State, ∃ i : Nat, (Passes s mid Reg.FRM_FRM_CMD true) ∧ (s.fwlOn = false) ∧ (s.held (.own .ctl) = false) ∧ (s.frm.progs.firstFree 8 = some i)) ∧
    (∃ mid : Mid, ∃ s : State, (Passes s mid Reg.FRM_FRM_CMD true) ∧ (s.frm.progs.firstFree 8 = none)) ∧
    (∃ mid : Mid, ∃ s : State, ∃ e : ErrCode, (Passes s mid Reg.FRM_FRM_CMD true) ∧ (s.frmHandle = .error e)) ∧
    (∃ mid : Mid, ∃ s : State, ∃ i : Nat, (Passes s mid Reg.FRM_FRM_CMD true) ∧ (s.frmHandle = .ok i)) ∧
    (∃ mid : Mid, ∃ s : State, ∃ i : Nat, ∃ p : FrmStep, ∃ l : List FrmStep, (Passes s mid Reg.FRM_FRM_CMD true) ∧ (s.frmHandle = .ok i) ∧ (s.frm.progs.find? i = some (p :: l))) ∧
    (∃ mid : Mid, ∃ s : State, (Passes s mid Reg.FRM_FRM_CMD true)) ∧
    (∃ mid : Mid, ∃ s : State, (Passes s mid Reg.FRM_FRM_CMD true)) ∧
    (∃ mid : Mid, ∃ s : State, (Passes s mid Reg.FRM_FRM_CMD true) ∧ (s.held (.own .ctl) = false)) ∧
    (∃ cause : StepCause, ∃ s : State, ∃ p : FrmStep, (s.frmStep = some p) ∧ (s.frm.state = 1) ∧ (s.causeMet p cause = true) ∧ (s.held (.own .ctl) = false)) ∧
    (∃ s : State, ∃ i : Nat, ∃ p : FrmStep, (s.frmProg[i]? = some p) ∧ (p.kind = 5) ∧ (p.flags = 0)) ∧
    (∃ cause : StepCause, ∃ s : State, ((s.frm.state ≠ 1 ∨ (s.frmStep.all fun p => !s.causeMet p cause) = true))) ∧
    (∃ s : State, ∃ p : FrmStep, (s.frmStep = some p) ∧ (s.frm.state = 1)) ∧
    (∃ s : State, ∃ p : FrmStep, ∃ c : Nat, (s.frmStep = some p) ∧ (s.frm.state = 1) ∧ (c ∈ s.countedCells)) :=
  ⟨⟨(c0), ((b0.wr Reg.FRM_FRM_ADDR 0x100000).writeBytes (b0.wr Reg.FRM_FRM_ADDR 0x100000 |>.rd Reg.FRM_FRM_ADDR) prog), (0), (by decide +kernel), (by decide +kernel), (by decide +kernel), (by decide +kernel)⟩,
   ⟨(c0), ({ b0 with frm := { progs := (List.range 8).map fun i => (i, [stp 1]) } }), (by decide +kernel), (by decide +kernel)⟩,
   ⟨(c0), (b0), (.handleBad), (by decide +kernel), (err_of (by decide +kernel))⟩,
   ⟨(c0), (frS 0), (7), (by decide +kernel), (ok_of (by decide +kernel))⟩,
   ⟨(c0), (ready (frS 0) .formation), (7), (stp 1), ([]), (by decide +kernel), (ok_of (by decide +kernel)), (by decide +kernel)⟩,
   ⟨(c0), (frS 1), (by decide +kernel)⟩,
   ⟨(c0), (frS 2), (by decide +kernel)⟩,
   ⟨(c0), (frR), (by decide +kernel), (by decide +kernel)⟩,
   ⟨(.tMax), (let s := frR; { s with frm := { s.frm with time := 10 ^ 9 } }), (stpR), (by decide +kernel), (by decide +kernel), (by decide +kernel), (by decide +kernel)⟩,
   ⟨(let s := frS 1; { s with frm := { s.frm with progs := [(7, [stp 5])] } }), (0), (stp 5), (by decide +kernel), (by decide +kernel), (by decide +kernel)⟩,
   ⟨(.tMax), (frS 1), (by decide +kernel)⟩,
   ⟨(frS 1), (stp 1), (by decide +kernel), (by decide +kernel)⟩,
   ⟨({ frR with link := { frR.link with plan := some ⟨1, [pe 31]⟩ } }), (stpR), (511), (by decide +kernel), (by decide +kernel), (by decide +kernel)⟩⟩

theorem witness_SafetyInputs :
    (∃ i : Fin 12, ∃ s : State, (s.discDue i.val = false)) ∧
    (∃ i : Fin 12, ∃ s : State, (s.discDue i.val = true)) ∧
    (∃ s : State, (s.saf.tpShift = 0)) ∧
    (∃ s : State, ((s.saf.tpOff = none ∨ s.since s.saf.tpAt < usT 700))) ∧
    (∃ even : Bool, ∃ s : State, (s.saf.tpOff = some even) ∧ (usT 700 ≤ s.since s.saf.tpAt)) :=
  ⟨⟨(11), (oper), (by decide +kernel)⟩,
   ⟨(11), (saW oper fun x => { x with si := [(11, { parted := some 0 })] }), (by decide +kernel)⟩,
   ⟨(oper), (by decide +kernel)⟩,
   ⟨(oper), (by decide +kernel)⟩,
   ⟨(true), (saW oper fun x => { x with tpOff := some true, ch := [(5, { missA := 1 })], si := [(11, { missA := 1, missB := 1 })] }), (by decide +kernel), (by decide +kernel)⟩⟩

theorem witness_ContactorsAndReset :
    (∃ mid : Mid, ∃ s : State, (Passes s mid Reg.SAF_K_REQ true)) ∧
    (∃ mid : Mid, ∃ v : Word, ∃ s : State, (Passes s mid Reg.SAF_K_REQ true) ∧ (s.pair.role ≠ .shadow) ∧ (s.heldOpen = false) ∧ ((s.partnerAlive = false ∨ s.pair.hb.psetDigest = s.psetDigest ∨ (s.anyPath = false ∧ v.toNat % 64 ∈ [1, 2, 4, 8, 16, 32])))) ∧
    (∃ s : State, (s.saf.nextTest < 12)) ∧
    (∃ mid : Mid, ∃ s : State, (Passes s mid Reg.SAF_SAF_CMD true)) :=
  ⟨⟨(c0), (chW oper 1 onc), (by decide +kernel)⟩,
   ⟨(c0), (0x21), (oper), (by decide +kernel), (by decide +kernel), (by decide +kernel), (by decide +kernel)⟩,
   ⟨(solo (saW oper fun x => { x with nextTest := 11, ch := [(5, onc)] })), (by decide +kernel)⟩,
   ⟨(c0), (saW (ready oper .safeHold) fun x => { x with latched := true, gLatch := true }), (by decide +kernel)⟩⟩

theorem witness_ParameterSets :
    (∃ mid : Mid, ∃ s : State, (Passes s mid Reg.SAF_SAF_CMD true)) ∧
    (∃ mid : Mid, ∃ s : State, (Passes s mid Reg.SAF_SAF_CMD true) ∧ (s.saf.pending = none)) ∧
    (∃ mid : Mid, ∃ s : State, ∃ b : List Nat, (Passes s mid Reg.SAF_SAF_CMD true) ∧ (s.saf.pending = some b)) :=
  ⟨⟨(c0), (ready b0 .service), (by decide +kernel)⟩,
   ⟨(c0), (b0), (by decide +kernel), (by decide +kernel)⟩,
   ⟨(c0), ({ State.reset with regs := [(Reg.SAF_PSET_CONFIRM, (psetOf [1, 2]).digest), (Reg.RST_RST_HOLD, 0)], saf := { State.reset.saf with pending := some [1, 2] } }), ([1, 2]), (by decide +kernel), (by decide +kernel)⟩⟩

theorem witness_ModesAndTheStopSequence :
    (∃ mid : Mid, ∃ v : Word, ∃ s : State, ∃ m : Mode, (Passes s mid Reg.RED_MODE_REQ true) ∧ (s.modeStep (Mode.ofCode (v.toNat % 8)) = .enter m)) ∧
    (∃ mid : Mid, ∃ v : Word, ∃ s : State, ∃ m : Mode, (Passes s mid Reg.RED_MODE_REQ true) ∧ (s.modeStep (Mode.ofCode (v.toNat % 8)) = .stop m) ∧ (s.pair.stop = none)) ∧
    (∃ mid : Mid, ∃ v : Word, ∃ s : State, ∃ m : Mode, ∃ q, (Passes s mid Reg.RED_MODE_REQ true) ∧ (s.modeStep (Mode.ofCode (v.toNat % 8)) = .stop m) ∧ (s.pair.stop = some q)) ∧
    (∃ mid : Mid, ∃ v : Word, ∃ s : State, ∃ c : Nat, (Passes s mid Reg.RED_MODE_REQ true) ∧ (s.modeStep (Mode.ofCode (v.toNat % 8)) = .refuse c)) ∧
    (∃ s : State, (s.pair.role = .shadow)) ∧
    (∃ s : State, (s.pair.role ≠ .shadow) ∧ (s.pair.stop ≠ none)) ∧
    (∃ s : State, (s.pair.role ≠ .shadow) ∧ (s.pair.stop = none) ∧ (s.pair.mode = .ready)) ∧
    (∃ s : State, (s.pair.role ≠ .shadow) ∧ (s.pair.stop = none) ∧ (s.pair.mode = .commission)) ∧
    (∃ s : State, (s.pair.role ≠ .shadow) ∧ (s.pair.stop = none) ∧ (s.pair.mode = .service)) ∧
    (∃ s : State, (s.pair.role ≠ .shadow) ∧ (s.pair.stop = none) ∧ (s.pair.mode = .operate ∨ s.pair.mode = .formation)) ∧
    (∃ s : State, (s.pair.role ≠ .shadow) ∧ (s.pair.stop = none) ∧ (s.pair.mode = .safeHold)) ∧
    (∃ s : State, (s.pair.role ≠ .shadow) ∧ (s.pair.stop = none) ∧ (s.pair.mode = .off ∨ s.pair.mode = .boot)) ∧
    (∃ s : State, ((s.pair.mode ≠ .boot ∨ s.upd.boot ≠ .loading ∨ s.hpm 8 = true))) ∧
    (∃ pass : Bool, ∃ s : State, (s.pair.mode = .boot) ∧ (s.upd.boot = .loading) ∧ (s.hpm 8 = false) ∧ ((pass = false ∨ s.pair.homeBad = true)) ∧ (s.nv.journal.state ≠ 2)) ∧
    (∃ pass : Bool, ∃ s : State, (s.pair.mode = .boot) ∧ (s.upd.boot = .loading) ∧ (s.hpm 8 = false) ∧ ((pass = false ∨ s.pair.homeBad = true)) ∧ (s.nv.journal.state = 2)) ∧
    (∃ s : State, (s.pair.mode = .boot) ∧ (s.upd.boot = .loading) ∧ (s.hpm 8 = false) ∧ (s.pair.homeBad = false) ∧ (s.pair.role = .none)) ∧
    (∃ s : State, ∃ t0 : BitVec 64, (s.pair.startWait = some t0) ∧ (s.since t0 < msT (s.rd Reg.RED_START_WAIT))) ∧
    (∃ s : State, ∃ t0 : BitVec 64, (s.pair.startWait = some t0) ∧ (msT (s.rd Reg.RED_START_WAIT) ≤ s.since t0)) ∧
    (∃ s : State, (s.pair.startWait = none)) :=
  ⟨⟨(c0), (6), (ready b0 .ready), (.service), (by decide +kernel), (by decide +kernel)⟩,
   ⟨(c0), (2), (ready b0 .operate), (.ready), (by decide +kernel), (by decide +kernel), (by decide +kernel)⟩,
   ⟨(c0), (2), (okS 1), (.ready), (qOf 1), (by decide +kernel), (by decide +kernel), (by decide +kernel)⟩,
   ⟨(c0), (0), (ready b0 .ready), (2), (by decide +kernel), (by decide +kernel)⟩,
   ⟨(shd b0), (by decide +kernel)⟩,
   ⟨(okS 1), (by decide +kernel), (by decide +kernel)⟩,
   ⟨(ready b0 .ready), (by decide +kernel), (by decide +kernel), (by decide +kernel)⟩,
   ⟨(ready b0 .commission), (by decide +kernel), (by decide +kernel), (by decide +kernel)⟩,
   ⟨(ready b0 .service), (by decide +kernel), (by decide +kernel), (by decide +kernel)⟩,
   ⟨(ready b0 .operate), (by decide +kernel), (by decide +kernel), (by decide +kernel)⟩,
   ⟨(ready b0 .safeHold), (by decide +kernel), (by decide +kernel), (by decide +kernel)⟩,
   ⟨(ready b0 .boot), (by decide +kernel), (by decide +kernel), (by decide +kernel)⟩,
   ⟨(b0), (by decide +kernel)⟩,
   ⟨(false), (ld), (by decide +kernel), (by decide +kernel), (by decide +kernel), (by decide +kernel), (by decide +kernel)⟩,
   ⟨(false), ({ ld with nv := { journal := { state := 2, count := 2 } } }), (by decide +kernel), (by decide +kernel), (by decide +kernel), (by decide +kernel), (by decide +kernel)⟩,
   ⟨(ld.setBit Reg.RED_RED_CFG 0 false), (by decide +kernel), (by decide +kernel), (by decide +kernel), (by decide +kernel), (by decide +kernel)⟩,
   ⟨(paW b0 fun p => { p with startWait := some 0 }), (0), (by decide +kernel), (by decide +kernel)⟩,
   ⟨(paW { b0 with tim := { odo := 2 ^ 50 } } fun p => { p with startWait := some 0 }), (0), (by decide +kernel), (by decide +kernel)⟩,
   ⟨(b0), (by decide +kernel)⟩⟩

theorem witness_HeartbeatsAndRoles :
    (∃ s : State, ((s.pair.mode = .off ∨ s.pair.unpowered = true))) ∧
    (∃ s : State, (inPair s = true)) ∧
    (∃ l, (l < 2)) ∧
    (∃ c, (c < 3)) ∧
    (∃ h : Heartbeat, ∃ s : State, (inPair s = true) ∧ (s.cswAccepts 0 0 h.rx = false)) ∧
    (∃ h : Heartbeat, ∃ s : State, (inPair s = true) ∧ (s.cswAccepts 0 0 h.rx = true)) ∧
    (∃ s : State, (inPair s = true)) ∧
    (∃ s : State, (inPair s = true)) ∧
    (∃ s : State, (inPair s = true)) ∧
    (∃ mid : Mid, ∃ s : State, (Passes s mid Reg.RED_RED_CMD true)) :=
  ⟨⟨(ready b0 .off), (by decide +kernel)⟩,
   ⟨(par b0), (by decide +kernel)⟩,
   ⟨(1), (by decide +kernel)⟩,
   ⟨(2), (by decide +kernel)⟩,
   ⟨({ rx := { seq := 7, lane := 0 }, role := 1, mode := 4, epoch := 9 }), (shd (par b0)), (by decide +kernel), (by decide +kernel)⟩,
   ⟨({ rx := { seq := 7, lane := 1 }, role := 1, mode := 4, epoch := 9 }), (shd (par b0)), (by decide +kernel), (by decide +kernel)⟩,
   ⟨(shd (par b0)), (by decide +kernel)⟩,
   ⟨(solo (par b0)), (by decide +kernel)⟩,
   ⟨(paW (shd (par b0)) fun p => { p with claimIn := true }), (by decide +kernel)⟩,
   ⟨(c0), (fit b0), (by decide +kernel)⟩⟩

theorem witness_MirroringAndHandover :
    (∃ s : State, (inPair s = false)) ∧
    (∃ f : CtlFrame, ∃ s : State, (inPair s = true) ∧ (s.cswAccepts 1 0 f.rx = false)) ∧
    (∃ f : CtlFrame, ∃ s : State, (inPair s = true) ∧ (s.cswAccepts 1 0 f.rx = true)) ∧
    (∃ f : NodeState, ∃ s : State, (inPair s = true) ∧ (s.cswAccepts 0 2 f.rx = false)) ∧
    (∃ f : NodeState, ∃ s : State, (inPair s = true) ∧ (s.cswAccepts 0 2 f.rx = true)) ∧
    (∃ f : Snapshot, ∃ c : SnapCell, (c ∈ f.cells)) ∧
    (∃ s : State, (s.pair.role ≠ .shadow)) ∧
    (∃ s : State, (s.pair.role = .shadow)) ∧
    (∃ s : State, (s.quietSweep = true)) ∧
    (∃ mid : Mid, ∃ s : State, (Passes s mid Reg.RED_RED_CMD true)) :=
  ⟨⟨(ready b0 .off), (by decide +kernel)⟩,
   ⟨({ rx := { seq := 7, lane := 0 } }), (shd (par b0)), (by decide +kernel), (by decide +kernel)⟩,
   ⟨({ rx := { seq := 7, lane := 1 }, curI := 5, spValue := 7, steps := 9, frmHandle := 3, kReq := 32 }), (shd (par b0)), (by decide +kernel), (by decide +kernel)⟩,
   ⟨({ rx := { seq := 7, lane := 0 }, joined := 1, nodes := [] }), (par b0), (by decide +kernel), (by decide +kernel)⟩,
   ⟨({ rx := { seq := 7, lane := 1 }, joined := 2 ^ 31 + 1, nodes := List.replicate 32 (15, 1) }), (shd (par b0)), (by decide +kernel), (by decide +kernel)⟩,
   ⟨(snp true), (sp1), (by decide +kernel)⟩,
   ⟨(b0), (by decide +kernel)⟩,
   ⟨(let s := (shd (par b0)).wr Reg.SAF_K_REQ 32; paW (saW s fun x => { x with pset := some psB, xtripIn := 1 }) fun p => { p with hb := { p.hb with psetDigest := 5, path := 32 } }), (by decide +kernel)⟩,
   ⟨(let s := act (par b0); paW s fun p => { p with slotB := true, revertNow := true, hb := { p.hb with score := 100, role := 3 } }), (by decide +kernel)⟩,
   ⟨(c0), (let s := act (par b0); paW s fun p => { p with slotB := true, hb := { p.hb with score := 100, role := 3 } }), (by decide +kernel)⟩⟩

theorem witness_HotPlugAndSupplies :
    (∃ s : State, (s.pair.unpowered = true)) ∧
    (∃ s : State, (s.pair.unpowered = false) ∧ (s.bit Reg.HPM_HPM_CFG 0 = true)) ∧
    (∃ s : State, (s.pair.unpowered = false) ∧ (s.bit Reg.HPM_HPM_CFG 0 = false) ∧ (s.hpm 8 = true)) ∧
    (∃ s : State, (s.pair.unpowered = false) ∧ (s.bit Reg.HPM_HPM_CFG 0 = false) ∧ (s.pair.mode = .boot ∧ s.hpm 8 = false ∧ s.upd.romAt = none)) ∧
    (∃ s : State, (s.pair.unpowered = false) ∧ (s.bit Reg.HPM_HPM_CFG 0 = false) ∧ (s.hpm 8 = false) ∧ (s.pair.mode ∈ [Mode.ready, .commission, .operate, .formation, .service])) ∧
    (∃ s : State, (s.pair.unpowered = false) ∧ (s.bit Reg.HPM_HPM_CFG 0 = false) ∧ (s.pair.mode = .safeHold)) ∧
    (∃ s : State, (s.pair.unpowered = false) ∧ (s.bit Reg.HPM_HPM_CFG 0 = false) ∧ (s.pair.mode ≠ .safeHold) ∧ (s.pair.mode ≠ .boot) ∧ (s.fld Reg.RED_SCORE 0 8 < 100)) ∧
    (∃ s : State, (s.pair.unpowered = false) ∧ (s.bit Reg.HPM_HPM_CFG 0 = false) ∧ (s.pair.mode ≠ .safeHold) ∧ (s.pair.mode ≠ .boot) ∧ (s.fld Reg.RED_SCORE 0 8 = 100) ∧ (s.saf.latched = false)) ∧
    (∃ s : State, (s.pair.unpowered = false) ∧ (s.bit Reg.HPM_HPM_CFG 0 = false)) :=
  ⟨⟨(paW b0 fun p => { p with unpowered := true }), (by decide +kernel)⟩,
   ⟨(b0.setBit Reg.HPM_HPM_CFG 0 true), (by decide +kernel), (by decide +kernel)⟩,
   ⟨((b0.wr Reg.HPM_HPM_STAT 256)), (by decide +kernel), (by decide +kernel), (by decide +kernel)⟩,
   ⟨(ready (b0.wr Reg.HPM_HPM_STAT 0) .boot), (by decide +kernel), (by decide +kernel), (by decide +kernel)⟩,
   ⟨(ready (b0.wr Reg.HPM_HPM_STAT 0) .service), (by decide +kernel), (by decide +kernel), (by decide +kernel), (by decide +kernel)⟩,
   ⟨(ready b0 .safeHold), (by decide +kernel), (by decide +kernel), (by decide +kernel)⟩,
   ⟨((ready b0 .ready).setFld Reg.RED_SCORE 0 8 99), (by decide +kernel), (by decide +kernel), (by decide +kernel), (by decide +kernel), (by decide +kernel)⟩,
   ⟨((ready b0 .ready).setFld Reg.RED_SCORE 0 8 100), (by decide +kernel), (by decide +kernel), (by decide +kernel), (by decide +kernel), (by decide +kernel), (by decide +kernel)⟩,
   ⟨(act b0), (by decide +kernel), (by decide +kernel)⟩⟩

theorem witness_ResetsAreGuarded :
    (∃ mid : Mid, ∃ s : State, (Passes s mid Reg.RST_RST_CMD true) ∧ (¬ ResetMaster mid)) ∧
    (∃ mid : Mid, ∃ s : State, (Passes s mid Reg.RST_RST_CMD true) ∧ (mid ≠ .own .safety)) ∧
    (∃ mid : Mid, ∃ s : State, ∃ p : Fin 64, (Passes s mid Reg.RST_RST_CMD true) ∧ ((¬ ResetMaster mid ∨ (p.val ∈ safetyPages ∧ mid ≠ .own .safety)))) ∧
    (∃ mid : Mid, ∃ s : State, (Passes s mid Reg.RST_RST_CMD true) ∧ (ResetMaster mid) ∧ (¬ KeyFresh s mid)) ∧
    (∃ mid : Mid, ∃ s : State, (Passes s mid Reg.RST_RST_CMD true) ∧ (mid = .own .safety) ∧ (¬ KeyFresh s mid)) ∧
    (∃ mid : Mid, ∃ s : State, (Passes s mid Reg.RST_RST_CMD true)) ∧
    (∃ mid : Mid, ∃ s : State, ∃ v, (Passes s mid Reg.RST_RST_CMD true) ∧ (v ≠ 0x0000A5C3#32)) ∧
    (∃ mid : Mid, ∃ s : State, ∃ v, (Passes s mid Reg.RST_RST_CMD true) ∧ (v < 2 ^ 32) ∧ (v % 16 = 0 ∨ 5 < v % 16)) ∧
    (∃ mid : Mid, ∃ s : State, (Passes s mid Reg.RST_RST_CMD true) ∧ (ResetMaster mid) ∧ (KeyFresh s mid)) ∧
    (∃ mid : Mid, ∃ s : State, (Passes s mid Reg.RST_RST_CMD true) ∧ (mid = .own .safety) ∧ (KeyFresh s mid)) ∧
    (∃ mid : Mid, ∃ s : State, (Passes s mid Reg.RST_RST_CMD true) ∧ (ResetMaster mid)) ∧
    (∃ mid : Mid, ∃ s : State, (Passes s mid Reg.RST_RST_CMD true) ∧ (mid = .own .safety)) ∧
    (∃ mid : Mid, ∃ s : State, ∃ p : Fin 64, (Passes s mid Reg.RST_RST_CMD true) ∧ (ResetMaster mid) ∧ (p.val ≤ 0x20) ∧ ((p.val ∈ safetyPages → mid = .own .safety))) :=
  ⟨⟨(.own .link), (b0), (by decide +kernel), (by simp [ResetMaster])⟩,
   ⟨(c0), (b0), (by decide +kernel), (by decide +kernel)⟩,
   ⟨(c0), (b0), (0x13), (by decide +kernel), (.inr ⟨by decide, by decide⟩)⟩,
   ⟨(c0), (let s := key b0 c0; { s with tim := { odo := BitVec.ofNat 64 (usT 1 + 1) } }), (by decide +kernel), (.inl ⟨_, rfl⟩), (by exact stale_key (by decide +kernel))⟩,
   ⟨(saf), (b0), (by decide +kernel), (by decide +kernel), (by exact stale_key (by decide +kernel))⟩,
   ⟨(.own .link), (b0), (by decide +kernel)⟩,
   ⟨(.own .link), (b0), (5), (by decide +kernel), (by decide +kernel)⟩,
   ⟨(c0), (b0), (6), (by decide +kernel), (by decide +kernel), (by decide +kernel)⟩,
   ⟨(c0), (key b0 c0), (by decide +kernel), (.inl ⟨_, rfl⟩), ⟨0, by decide +kernel, by decide +kernel⟩⟩,
   ⟨(saf), (key b0 saf), (by decide +kernel), (by decide +kernel), ⟨0, by decide +kernel, by decide +kernel⟩⟩,
   ⟨(c0), (b0), (by decide +kernel), (.inl ⟨_, rfl⟩)⟩,
   ⟨(saf), (b0), (by decide +kernel), (by decide +kernel)⟩,
   ⟨(c0), (b0), (0x20), (by decide +kernel), (.inl ⟨_, rfl⟩), (by decide +kernel), (by decide +kernel)⟩⟩

theorem witness_WhatResetsCover :
    (∃ src : ModuleSrc, ∃ s : State, ((src = .debug ∧ s.pair.unpowered = false) ∨
      (src = .loader ∧ s.upd.boot = .overwriting ∧ s.pair.mode ≠ .boot ∧ s.pair.unpowered = false))) ∧
    (∃ s : State, (s.upd.boot ≠ .overwriting ∨ s.pair.mode = .boot ∨ s.pair.unpowered = true)) ∧
    (∃ s : State, (s.pair.unpowered = true)) ∧
    (∃ s : State, (Passes s (.own .safety) Reg.RST_RST_CMD true) ∧ (KeyFresh s (.own .safety))) ∧
    (∃ mid : Mid, ∃ s : State, (Passes s mid Reg.RST_RST_CMD true) ∧ (ResetMaster mid)) ∧
    (∃ s : State, (Passes s (.own .safety) Reg.RST_RST_CMD true)) ∧
    (∃ p : Fin 64, ∃ s : State, (Passes s (.own .safety) Reg.RST_RST_CMD true) ∧ (p.val ≤ 0x20)) ∧
    (∃ mid : Mid, ∃ p : Fin 64, ∃ s : State, (Passes s mid Reg.RST_RST_CMD true) ∧ (ResetMaster mid) ∧ (0x20 < p.val)) :=
  ⟨⟨(.debug), (b0), (by decide +kernel)⟩,
   ⟨({ b0 with pair := { unpowered := true } }), (by decide +kernel)⟩,
   ⟨({ b0 with pair := { unpowered := true } }), (by decide +kernel)⟩,
   ⟨(key b0 saf), (by decide +kernel), ⟨0, by decide +kernel, by decide +kernel⟩⟩,
   ⟨(c0), (b0), (by decide +kernel), (.inl ⟨_, rfl⟩)⟩,
   ⟨(b0), (by decide +kernel)⟩,
   ⟨(0x20), (b0), (by decide +kernel), (by decide +kernel)⟩,
   ⟨(c0), (0x21), (b0), (by decide +kernel), (.inl ⟨_, rfl⟩), (by decide +kernel)⟩⟩

theorem witness_SecurityCommands :
    (∃ mid : Mid, ∃ s : State, (Passes s mid Reg.SEC_SEC_CMD true)) ∧
    (∃ s : State, ∃ i : Nat, (i < s.rd Reg.SEC_SEC_LEN)) ∧
    (∃ s : State, ∃ root, (s.nv.keys.find? 2 = some root)) ∧
    (∃ s : State, (s.nv.keys.find? 2 = none)) ∧
    (∃ s : State, (s.upd.job = none)) ∧
    (∃ s : State, ∃ digest : List Nat, ∃ out : Nat, (s.upd.job = some (.sign digest out))) ∧
    (∃ s : State, ∃ chain : Bool, ∃ out : Nat, (s.upd.job = some (.certRead chain out))) ∧
    (∃ s : State, ∃ slot : Nat, ∃ out : Nat, ∃ k : Nat, (s.upd.job = some (.pubRead slot out)) ∧ ((slot = 0 ∧ k = 0) ∨ (2 ≤ slot ∧ slot ≤ 6 ∧ s.nv.keys.find? slot = some k))) ∧
    (∃ s : State, ∃ slot : Nat, ∃ cert : List Nat, (s.upd.job = some (.keyInstall slot cert))) ∧
    (∃ s : State, ∃ b : List Nat, (s.upd.job = some (.fleetInstall b))) ∧
    (∃ mid : Mid, ∃ s : State, (Passes s mid Reg.SEC_SEC_RAND false)) :=
  ⟨⟨(c0), ((b0.wr Reg.SEC_SEC_LEN 48).wr Reg.SEC_SEC_SLOT 3), (by decide +kernel)⟩,
   ⟨(b0.wr Reg.SEC_SEC_LEN 48), (0), (by decide +kernel)⟩,
   ⟨({ b0 with nv := { keys := [(2, 7)] } }), (7), (by decide +kernel)⟩,
   ⟨(b0), (by decide +kernel)⟩,
   ⟨(b0), (by decide +kernel)⟩,
   ⟨(upW b0 fun u => { u with job := some (.sign [1] 0x1000) }), ([1]), (0x1000), (by decide +kernel)⟩,
   ⟨(upW b0 fun u => { u with job := some (.certRead true 0x1000) }), (true), (0x1000), (by decide +kernel)⟩,
   ⟨(upW b0 fun u => { u with job := some (.pubRead 0 0x1000) }), (0), (0x1000), (0), (by decide +kernel), (by decide +kernel)⟩,
   ⟨(upW b0 fun u => { u with job := some (.keyInstall 2 [1]) }), (2), ([1]), (by decide +kernel)⟩,
   ⟨(upW b0 fun u => { u with job := some (.fleetInstall [1]) }), ([1]), (by decide +kernel)⟩,
   ⟨(c0), (b0), (by decide +kernel)⟩⟩

theorem witness_StagingAndActivation :
    (∃ mid : Mid, ∃ s : State, (Passes s mid Reg.UPD_UPD_CMD true)) ∧
    (∃ s : State, (s.upd.staging = none)) ∧
    (∃ s : State, ∃ b : List Nat, (s.upd.staging = some b) ∧ (s.mayInstall = false)) ∧
    (∃ s : State, ∃ b : List Nat, (s.upd.staging = some b) ∧ (s.mayInstall = true)) ∧
    (∃ s : State, ∃ b : List Nat, (s.upd.staging = some b)) ∧
    (∃ mid : Mid, ∃ s : State, (Passes s mid Reg.UPD_UPD_CMD true)) ∧
    (∃ mid : Mid, ∃ s : State, (Passes s mid Reg.UPD_UPD_CMD true)) ∧
    (∃ mid : Mid, ∃ s : State, (Passes s mid Reg.UPD_UPD_CMD true)) ∧
    (∃ s : State, ((s.pair.mode == .boot && s.upd.boot == .overwriting) = false)) ∧
    (∃ s : State, (s.pair.mode = .boot) ∧ (s.upd.boot = .overwriting) ∧ (s.nv.staged = none)) ∧
    (∃ s : State, ∃ b : List Nat, (s.pair.mode = .boot) ∧ (s.upd.boot = .overwriting) ∧ (s.nv.staged = some b)) :=
  ⟨⟨(c0), ((boot b0 .done).wr Reg.UPD_UPD_LEN 1000), (by decide +kernel)⟩,
   ⟨(b0), (by decide +kernel)⟩,
   ⟨(upW (boot b0 .done) fun u => { u with staging := some [1] }), ([1]), (by decide +kernel), (by decide +kernel)⟩,
   ⟨(upW (boot b0 .install) fun u => { u with staging := some [1] }), ([1]), (by decide +kernel), (by decide +kernel)⟩,
   ⟨(upW (boot b0 .done) fun u => { u with staging := some [1] }), ([1]), (by decide +kernel)⟩,
   ⟨(c0), ({ (((boot b0 .done).wr Reg.UPD_UPD_ACT_SECL 2592000).wr Reg.UPD_UPD_ACT_SECH 0) with nv := { staged := some [1] } }), (by decide +kernel)⟩,
   ⟨(c0), (b0), (by decide +kernel)⟩,
   ⟨(c0), ({ (boot b0 .done) with nv := { running := some (List.replicate 20 7) }, tim := { odo := BitVec.ofNat 64 (secT 3600) } }), (by decide +kernel)⟩,
   ⟨(b0), (by decide +kernel)⟩,
   ⟨(boot b0 .overwriting), (by decide +kernel), (by decide +kernel), (by decide +kernel)⟩,
   ⟨({ (boot b0 .overwriting) with nv := { staged := some (List.replicate 40 1), journal := { state := 1 } } }), (List.replicate 40 1), (by decide +kernel), (by decide +kernel), rfl⟩⟩

theorem witness_RecoveryFromThePartner :
    (∃ s : State, (inPair s = false)) ∧
    (∃ rx : CswRx, ∃ s : State, (inPair s = true) ∧ (s.cswAccepts 4 0 rx = false)) ∧
    (∃ rx : CswRx, ∃ s : State, (inPair s = true) ∧ (s.cswAccepts 4 0 rx = true)) ∧
    (∃ rx : CswRx, ∃ s : State, (s.cswAccepts 4 1 rx = false)) ∧
    (∃ rx : CswRx, ∃ s : State, (s.cswAccepts 4 1 rx = true)) ∧
    (∃ rx : CswRx, ∃ s : State, (s.cswAccepts 4 2 rx = false)) ∧
    (∃ rx : CswRx, ∃ s : State, (s.cswAccepts 4 2 rx = true)) ∧
    (∃ rx : CswRx, ∃ s : State, (s.cswAccepts 4 3 rx = false)) ∧
    (∃ rx : CswRx, ∃ s : State, (s.cswAccepts 4 3 rx = true)) ∧
    (∃ rx : CswRx, ∃ s : State, (s.cswAccepts 4 4 rx = false)) ∧
    (∃ rx : CswRx, ∃ s : State, (s.cswAccepts 4 4 rx = true)) :=
  ⟨⟨({ b0 with pair := { mode := .off } }), (by decide +kernel)⟩,
   ⟨({ seq := 7, lane := 1 }), (b0), (by decide +kernel), (by decide +kernel)⟩,
   ⟨({ seq := 7, lane := 1 }), ({ (csw (boot b0 .done)) with nv := { running := some [1, 2] } }), (by decide +kernel), (by decide +kernel)⟩,
   ⟨({ seq := 7, lane := 1 }), (b0), (by decide +kernel)⟩,
   ⟨({ seq := 7, lane := 1 }), ((upW (csw (boot b0 .install)) fun u => { u with reqAt := some 5 })), (by decide +kernel)⟩,
   ⟨({ seq := 7, lane := 1 }), (b0), (by decide +kernel)⟩,
   ⟨({ seq := 7, lane := 1 }), ((upW (csw (boot b0 .install)) fun u => { u with reqAt := some 5, wrapIn := some (List.replicate 192 1), imageIn := [1, 2, 3] })), (by decide +kernel)⟩,
   ⟨({ seq := 7, lane := 1 }), (b0), (by decide +kernel)⟩,
   ⟨({ seq := 7, lane := 1 }), ((upW (csw (boot b0 .install)) fun u => { u with reqAt := some 5, wrapIn := some (List.replicate 192 1), imageIn := [1, 2, 3] })), (by decide +kernel)⟩,
   ⟨({ seq := 7, lane := 1 }), (b0), (by decide +kernel)⟩,
   ⟨({ seq := 7, lane := 1 }), ((upW (csw (boot b0 .install)) fun u => { u with reqAt := some 5 })), (by decide +kernel)⟩⟩

theorem witness_HandlesNameOneObject :
    (∃ c : HClass, ∃ i : Nat, ∃ occ : Nat → Bool, ∃ s : State, (i < c.limit) ∧ (occ i = true) ∧ (s.gen c i < 256)) ∧
    (∃ c : HClass, ∃ i : Nat, ∃ occ : Nat → Bool, ∃ s : State, (i < c.limit) ∧ (occ i = false) ∧ (s.gen c i < 256)) ∧
    (∃ c : HClass, ∃ i : Nat, ∃ s : State, (i < c.limit) ∧ (s.gen c i < 256)) ∧
    (∃ h : Word, (handleChk (h.toNat / 256) ≠ h.toNat % 256)) ∧
    (∃ c : HClass, ∃ h : Word, (h.toNat / 2 ^ 28 ≠ c.code)) ∧
    (∃ c : HClass, ∃ h : Word, (c.limit ≤ h.toNat / 2 ^ 8 % 2 ^ 12)) ∧
    (∃ c : HClass, ∃ i : Nat, ∃ s : State, ∃ j, (s.gen c i < 256) ∧ (j < 4096) ∧ (j ≠ i) ∧ (i < 4096)) ∧
    (∃ c : HClass, ∃ i : Nat, ∃ s : State, (s.gen c i < 256)) ∧
    (∃ p : Fin 64, ∃ s : State, (Passes s (.own .safety) Reg.RST_RST_CMD true) ∧ (p.val ≤ 0x20)) ∧
    (∃ s : State, (s.pair.unpowered = false)) ∧
    (∃ s : State, (s.gens = [])) ∧
    (∃ (mid : Mid) (s t : State), (s.gau.wms ≠ []) ∧ (exec (.wmDestroy mid) s = .next t)) ∧
    (∃ (mid : Mid) (p : Fin 64) (s t : State), (s.gens ≠ []) ∧ (exec (.blockReset mid p) s = .next t)) :=
  ⟨⟨(.launch), (63), (fun _ => true), (b0), (by decide +kernel), (by decide +kernel), (by decide +kernel)⟩,
   ⟨(.launch), (63), (fun _ => false), (b0), (by decide +kernel), (by decide +kernel), (by decide +kernel)⟩,
   ⟨(.launch), (63), (b0), (by decide +kernel), (by decide +kernel)⟩,
   ⟨(0x10300541), (by decide +kernel)⟩,
   ⟨(.launch), (0x10300540), (by decide +kernel)⟩,
   ⟨(.node), (0x10302000), (by decide +kernel)⟩,
   ⟨(.launch), (63), (b0), (default), (by decide +kernel), (by decide +kernel), (by decide +kernel), (by decide +kernel)⟩,
   ⟨(.launch), (63), (b0), (by decide +kernel)⟩,
   ⟨(0x15), (b0), (by decide +kernel), (by decide +kernel)⟩,
   ⟨(b0), (by decide +kernel)⟩,
   ⟨(b0), (by decide +kernel)⟩,
   ⟨c0, wmS {}, _, by decide +kernel, rfl⟩,
   ⟨saf, 0x12, { b0 with gens := [(5, 7)] }, _, by decide +kernel, rfl⟩⟩

theorem witness_ChannelsOfASuperframe :
    ∃ s : State, (15 ≤ s.channels.length) :=
  ⟨({ b0 with link := { chMask := 0x7FFF } }), (by decide +kernel)⟩

theorem witness_MemoryStaysCanonical :
    ∃ s t : State, (memWf s.mem = true) ∧ (s.mem ≠ []) ∧ (step s = .next t) :=
  ⟨{ b0 with mem := [(0x1000, 7)] }, _, by decide +kernel, by decide +kernel, rfl⟩

theorem witness_CommandsLeaveTheQueue :
    ∃ (c : Instr) (s t : State), (s.pending ≠ []) ∧ (exec c s = .next t) :=
  ⟨.slewDone, { b0 with pending := [.gauSlewDone, .slewDone] }, _, by decide +kernel, rfl⟩

theorem witness_RolesStaySound :
    ∃ s t : State, (RolesSound s) ∧ (s.pair.stop ≠ none) ∧ (step s = .next t) :=
  ⟨{ b0 with pair := { mode := .operate, role := .active, claim := true, stop := some { target := .service, step := 1, since := 0 } } }, _,
    ⟨fun h => (by rcases h with h | h <;> cases h), fun _ => .inl rfl, fun q h => (by cases h; exact .inr rfl)⟩, by decide +kernel, rfl⟩

end Sys2Proof.Tests
end

section
/-! PROOFS. Handles (R8 to R11): what a handle's fields are and what the checks make of them, which commands keep the generations, and which resets
destroy the objects of a block. -/

namespace Sys2Proof.Machine

open Sys2Proof

/-! ### The fields of a handle (R8, R9) -/

theorem crc8Bit_lt {c : Nat} (h : c < 256) : crc8Bit c < 256 := by
  unfold crc8Bit
  split
  · exact Nat.xor_lt_two_pow (n := 8) (Nat.mod_lt _ (by decide)) (by decide)
  · omega

theorem crc8Byte_lt {c b : Nat} (hc : c < 256) (hb : b < 256) : crc8Byte c b < 256 := by
  have h : c ^^^ b < 256 := Nat.xor_lt_two_pow (n := 8) hc hb
  exact crc8Bit_lt (crc8Bit_lt (crc8Bit_lt (crc8Bit_lt (crc8Bit_lt (crc8Bit_lt (crc8Bit_lt (crc8Bit_lt h)))))))

theorem bitsOf_lt (x lo n : Nat) : bitsOf x lo n < 2 ^ n := Nat.mod_lt _ (Nat.two_pow_pos n)

theorem handleChk_lt (top : Nat) : handleChk top < 256 :=
  crc8Byte_lt (crc8Byte_lt (crc8Byte_lt (by decide) (bitsOf_lt _ _ _)) (bitsOf_lt _ _ _)) (bitsOf_lt _ _ _)

theorem HClass.code_lt (c : HClass) : c.code < 16 := by cases c <;> decide

theorem HClass.limit_lt (c : HClass) : c.limit < 4096 := by cases c <;> decide

/-- The bits of a handle above CHK. -/
def handleTop (c : HClass) (g i : Nat) : Nat := c.code * 2 ^ 20 + g * 2 ^ 12 + i

theorem toNat_mkHandle (c : HClass) {g i : Nat} (hg : g < 256) (hi : i < 4096) :
    (mkHandle c.code g i).toNat = handleTop c g i * 256 + handleChk (handleTop c g i) := by
  have hchk := handleChk_lt (handleTop c g i)
  have hc := c.code_lt
  unfold mkHandle
  rw [Nat.mod_eq_of_lt hg, Nat.mod_eq_of_lt hi]
  simp only [w32, BitVec.toNat_ofNat]
  refine Nat.mod_eq_of_lt ?_
  show handleTop c g i * 256 + handleChk (handleTop c g i) < _
  generalize handleChk _ = k at *
  unfold handleTop
  omega

section Fields
variable (c : HClass) {g i : Nat} (hg : g < 256) (hi : i < 4096)
include hg hi

theorem mkHandle_chk_ok : handleChk ((mkHandle c.code g i).toNat / 256) = (mkHandle c.code g i).toNat % 256 := by
  have hchk := handleChk_lt (handleTop c g i)
  have htop : (mkHandle c.code g i).toNat / 256 = handleTop c g i := by rw [toNat_mkHandle c hg hi]; omega
  have hlow : (mkHandle c.code g i).toNat % 256 = handleChk (handleTop c g i) := by rw [toNat_mkHandle c hg hi]; omega
  rw [htop, hlow]

theorem mkHandle_fields : bitsOf (mkHandle c.code g i).toNat 28 4 = c.code ∧ bitsOf (mkHandle c.code g i).toNat 20 8 = g ∧
    bitsOf (mkHandle c.code g i).toNat 8 12 = i := by
  have hchk := handleChk_lt (handleTop c g i)
  have hc := c.code_lt
  rw [toNat_mkHandle c hg hi]
  generalize handleChk _ = k at *
  unfold handleTop bitsOf
  refine ⟨?_, ?_, ?_⟩ <;> omega

/-- A handle that `mkHandle` made passes CHK, CLASS and INDEX of R11, and GEN alone decides. -/
theorem checkHandle_mkHandle (hl : i < c.limit) (occ : Nat → Bool) (s : State) :
    s.checkHandle c occ (mkHandle c.code g i) =
      if occ i = true ∧ s.gen c i = g then .ok i else .error .handleStale := by
  obtain ⟨hcls, hgen, hidx⟩ := mkHandle_fields c hg hi
  unfold State.checkHandle
  dsimp only
  rw [hcls, hgen, hidx, if_neg (not_not_intro (mkHandle_chk_ok c hg hi)),
    if_neg (not_not_intro rfl), if_neg (by omega)]
  cases occ i <;> by_cases h : s.gen c i = g <;> simp [h]

end Fields

theorem checkHandle_handleOf (c : HClass) {i : Nat} (occ : Nat → Bool) (s t : State) (hi : i < c.limit) (hg : t.gen c i < 256) :
    s.checkHandle c occ (t.handleOf c i) =
      if occ i = true ∧ s.gen c i = t.gen c i then .ok i else .error .handleStale :=
  checkHandle_mkHandle c hg (Nat.lt_trans hi c.limit_lt) hi occ s

/-! ### Generations (R10) -/

theorem gen_newGen_same (s : State) (c : HClass) (i : Nat) :
    (s.newGen c i).gen c i = if s.gen c i = 0xFF then 1 else s.gen c i + 1 := Tab.get_put_same _ _ _ _

theorem gen_newGen_ne (s : State) (c : HClass) {i j : Nat} (h : j ≠ i) : (s.newGen c i).gen c j = s.gen c j :=
  Tab.get_put_ne _ _ _ fun hk => h (Nat.add_left_cancel hk)

theorem gen_newGen_next {s : State} {c : HClass} {i : Nat} (h : s.gen c i < 256) : (s.newGen c i).gen c i = s.gen c i % 255 + 1 := by
  rw [gen_newGen_same]
  split <;> omega

/-- With the new generation, a handle of the object before it no longer matches. -/
theorem gen_newGen_changed (s : State) (c : HClass) (i : Nat) : (s.newGen c i).gen c i ≠ s.gen c i := by
  rw [gen_newGen_same]
  split <;> omega

theorem gen_newGen_first {s : State} (c : HClass) (i : Nat) (h : s.gens = []) : (s.newGen c i).gen c i = 1 := by
  have h0 : s.gen c i = 0 := by simp [State.gen, h, Tab.get, Tab.find?]
  rw [gen_newGen_same, h0]
  rfl

/-! ### The checks of R11 -/

/-- A word that fails CHK, CLASS or INDEX is HANDLE_BAD, whatever GEN and the slot say: those checks come first (R11). -/
theorem checkHandle_bad (c : HClass) (occ : Nat → Bool) (h : Word) (s : State)
    (hb : handleChk (h.toNat / 256) ≠ h.toNat % 256 ∨ bitsOf h.toNat 28 4 ≠ c.code ∨ c.limit ≤ bitsOf h.toNat 8 12) :
    s.checkHandle c occ h = .error .handleBad := by
  unfold State.checkHandle
  dsimp only
  by_cases hchk : handleChk (h.toNat / 256) ≠ h.toNat % 256
  · rw [if_pos hchk]
  rw [if_neg hchk]
  by_cases hcls : bitsOf h.toNat 28 4 ≠ c.code
  · rw [if_pos hcls]
  rw [if_neg hcls, if_pos ((hb.resolve_left hchk).resolve_left hcls)]

/-- CLASS is the top field of the word, so nothing stands above it. -/
theorem bitsOf_cls (h : Word) : bitsOf h.toNat 28 4 = h.toNat / 2 ^ 28 := by
  have := h.isLt
  unfold bitsOf
  omega

theorem checkHandle_handleOf_live (c : HClass) (i : Nat) (occ : Nat → Bool) (s : State) (hi : i < c.limit) (ho : occ i = true)
    (hg : s.gen c i < 256) : s.checkHandle c occ (s.handleOf c i) = .ok i := by
  rw [checkHandle_handleOf c occ s s hi hg, if_pos ⟨ho, rfl⟩]

theorem checkHandle_handleOf_empty (c : HClass) (i : Nat) (occ : Nat → Bool) (s : State) (hi : i < c.limit) (ho : occ i = false)
    (hg : s.gen c i < 256) : s.checkHandle c occ (s.handleOf c i) = .error .handleStale := by
  rw [checkHandle_handleOf c occ s s hi hg, if_neg (by simp [ho])]

theorem checkHandle_handleOf_newGen (c : HClass) (i : Nat) (occ : Nat → Bool) (s : State) (hi : i < c.limit)
    (hg : s.gen c i < 256) : (s.newGen c i).checkHandle c occ (s.handleOf c i) = .error .handleStale := by
  rw [checkHandle_handleOf c occ _ s hi hg, if_neg fun h => gen_newGen_changed s c i h.2]

/-! ### What keeps the generations

`gens_ite` and `gens_foldl` follow the shape of an operation; the lemmas below use them once for each operation that a DESTROY or a reset is made
of, and the operations themselves follow from these. -/

theorem gens_ite {s t u : State} (c : Prop) [Decidable c] (ht : t.gens = s.gens) (hu : u.gens = s.gens) :
    (if c then t else u).gens = s.gens := by
  split
  · exact ht
  · exact hu

theorem gens_ite_fst {α : Type} {s : State} {x y : State × α} (c : Prop) [Decidable c] (hx : x.1.gens = s.gens)
    (hy : y.1.gens = s.gens) : (if c then x else y).1.gens = s.gens := by
  split
  · exact hx
  · exact hy

theorem gens_foldl {α : Type} {f : State → α → State} (h : ∀ s x, (f s x).gens = s.gens) (l : List α) :
    ∀ s : State, (l.foldl f s).gens = s.gens := by
  induction l with
  | nil => exact fun s => rfl
  | cons x r ih => exact fun s => (ih (f s x)).trans (h s x)

namespace State

/-! ### The bus and the Causeway -/

@[simp] theorem violate_gens (s : State) (m : Mid) (a : Nat) (w f : Bool) (z : Nat) (im : Bool) (i : Nat) :
    (s.violate m a w f z im i).gens = s.gens :=
  (only_violate s m a w f z im i).1 .gens (by decide)

theorem bus_gens (s : State) (m : Mid) (a : Nat) (w : Bool) {eff : State → State} (h : (eff s).gens = s.gens) :
    (s.bus m a w eff).gens = s.gens := by
  rcases bus_cases s m a w eff with k | k | k | ⟨-, k⟩ <;> rw [k]
  · exact violate_gens ..
  · exact h

@[simp] theorem cswSend_gens (s : State) (c t : Nat) (ps : List (List Nat)) (n : Bool) : (s.cswSend c t ps n).gens = s.gens :=
  (only_cswSend s c t ps n).1 .gens (by decide)

/-! ### What DESTROY does besides -/

@[simp] theorem setCan_gens (s : State) (l : Nat) (c : Can) : (s.setCan l c).gens = s.gens := gens_ite _ rfl rfl

@[simp] theorem laPush_gens (s : State) (i o : Nat) : (s.laPush i o).gens = s.gens := gens_ite _ rfl rfl

@[simp] theorem tsPush_gens (s : State) (p : Nat) (tx : Bool) (f : List Nat) : (s.tsPush p tx f).gens = s.gens :=
  gens_ite _ (event_gens ..) (event_gens ..)

@[simp] theorem ethSend_gens (s : State) (p : Nat) (f : List Nat) (r l : Bool) : (s.ethSend p f r l).gens = s.gens := by
  unfold ethSend
  extract_lets s1 t u e s2
  have h2 : s2.gens = s.gens := gens_ite _ rfl rfl
  exact gens_ite _ ((tsPush_gens ..).trans h2) h2

@[simp] theorem launchStart_gens (s : State) (i : Nat) (e : LaunchEnt) : (s.launchStart i e).gens = s.gens := by
  unfold launchStart
  extract_lets ports up late e s1 s2 s3 s4
  have h2 : s2.gens = s.gens := gens_foldl (fun _ _ => ethSend_gens ..) _ _
  have h3 : s3.gens = s.gens := gens_ite _ ((laPush_gens ..).trans h2) h2
  have h4 : s4.gens = s.gens := gens_ite _ h3 ((laPush_gens ..).trans h3)
  exact gens_ite _ rfl (by rw [eventIf_gens, event_gens, h4])

@[simp] theorem sendNodeState_gens (s : State) : s.sendNodeState.gens = s.gens := gens_ite _ (cswSend_gens ..) rfl

@[simp] theorem queueRejoin_gens (s : State) (n : Nat) : (s.queueRejoin n).gens = s.gens := gens_ite _ rfl rfl

@[simp] theorem queueRelease_gens (s : State) (n b : Nat) : (s.queueRelease n b).gens = s.gens := gens_ite _ rfl rfl

@[simp] theorem abandonCap_gens (s : State) (id n b : Nat) : (s.abandonCap id n b).gens = s.gens := by
  rw [abandonCap, queueRelease_gens, event_gens]
  rfl

@[simp] theorem abandonNode_gens (s : State) (n : Nat) : (s.abandonNode n).gens = s.gens := by
  refine gens_foldl (fun s c => ?_) _ _
  split
  · exact gens_ite _ (abandonCap_gens ..) rfl
  · rfl

@[simp] theorem destroyNode_gens (s : State) (n : Nat) : (s.destroyNode n).gens = s.gens := by
  unfold destroyNode
  extract_lets s1 l s2 s3 s4
  have h1 : s1.gens = s.gens := abandonNode_gens s n
  have h3 : s3.gens = s.gens := gens_ite _ h1 h1
  have h4 : s4.gens = s3.gens := rfl
  exact h4.trans h3

@[simp] theorem wmMarkLate_gens (s : State) : s.wmMarkLate.gens = s.gens := rfl

@[simp] theorem gpioFire_gens (s : State) : s.gpioFire.gens = s.gens := gens_ite _ rfl (gens_ite _ (event_gens ..) rfl)

@[simp] theorem wmLog_gens (s : State) (f : WmFiring) : (s.wmLog f).gens = s.gens := gens_ite _ (event_gens ..) (event_gens ..)

@[simp] theorem fireEntry_gens (s : State) (i : Nat) (w : Waymark) : (s.fireEntry i w).1.gens = s.gens := by
  unfold fireEntry
  extract_lets late h next skip g s1 g' s2 s3 g'' s4 s5
  have h1 : s1.gens = s.gens := eventIf_gens ..
  have h2 : s2.gens = s.gens := gens_ite _ h1 h1
  have h3 : s3.gens = s.gens := gens_ite _ ((wmLog_gens ..).trans h2) h2
  have h4 : s4.gens = s.gens := gens_ite _ h3 h3
  exact gens_ite _ ((gpioFire_gens ..).trans h4) h4

@[simp] theorem rptAdvance_gens (s : State) : s.rptAdvance.gens = s.gens := gens_ite _ rfl rfl

@[simp] theorem setEthQ_gens (s : State) (p : Nat) (q : List (Nat × EthFrame)) : (s.setEthQ p q).gens = s.gens :=
  gens_ite _ rfl (gens_ite _ rfl rfl)

@[simp] theorem ethPut_gens (s : State) (p q : Nat) (f : EthFrame) : (s.ethPut p q f).gens = s.gens :=
  gens_ite _ (event_gens ..) (setEthQ_gens ..)

@[simp] theorem sendReport_gens (s : State) : s.sendReport.gens = s.gens := by
  unfold sendReport
  dsimp only
  split
  · rfl
  refine gens_ite _ rfl ?_
  have hput (u : State) (p : Nat) (f : EthFrame) :
      (if u.bit Reg.DSP_DSP_CFG (1 + p) && u.ethPortOn p then u.ethPut p 3 f else u).gens = u.gens := gens_ite _ (ethPut_gens ..) rfl
  rw [event_gens, bump_gens, rptAdvance_gens]
  exact (hput ..).trans (hput ..)

@[simp] theorem wmFire_gens (s : State) : s.wmFire.gens = s.gens := by
  unfold wmFire
  dsimp only
  split
  · rfl
  · exact gens_ite _ ((sendReport_gens _).trans (fireEntry_gens ..)) (fireEntry_gens ..)

@[simp] theorem fireDue_gens (n : Nat) : ∀ s : State, (s.fireDue n).gens = s.gens := by
  induction n with
  | zero => exact fun s => rfl
  | succ n ih => exact fun s => gens_ite _ ((ih _).trans (wmFire_gens s)) rfl

/-! ### The DESTROY operations -/

theorem wmDestroyWrite_gens (s : State) (m : Mid) : (wmDestroyWrite s m).gens = s.gens := by
  unfold wmDestroyWrite wmCmdDestroy
  split
  · rw [err_gens, fireDue_gens]
  · exact fireDue_gens 15 s

theorem tapDestroyOp_gens (s : State) (m : Mid) : (s.tapDestroyOp m).gens = s.gens := by
  unfold tapDestroyOp
  split
  · exact err_gens ..
  · rw [wr_gens, wr_gens]

theorem chemDestroyOp_gens (s : State) (m : Mid) : (s.chemDestroyOp m).gens = s.gens := by
  unfold chemDestroyOp
  split
  · exact err_gens ..
  · exact gens_ite _ (err_gens ..) (setBit_gens ..)

theorem frmDestroyOp_gens (s : State) (m : Mid) : (s.frmDestroyOp m).gens = s.gens := by
  unfold frmDestroyOp
  split
  · exact err_gens ..
  · exact gens_ite _ (err_gens ..) rfl

theorem fsDestroy_gens (s : State) (l : Nat) (m : Mid) : (fsDestroy s l m).gens = s.gens := by
  unfold fsDestroy fsOp
  split
  · exact err_gens ..
  · exact setCan_gens ..

theorem launchDestroy_gens (s : State) (m : Mid) : (launchDestroy s m).gens = s.gens := by
  unfold launchDestroy
  extract_lets s1
  have h1 : s1.gens = s.gens := by
    dsimp only [s1]
    split
    · exact gens_ite _ (launchStart_gens ..) rfl
    · rfl
  split
  · exact (err_gens ..).trans h1
  · exact (laPush_gens ..).trans h1

theorem planRemoveOp_gens (s : State) (m : Mid) : (s.planRemoveOp m).gens = s.gens := by
  unfold planRemoveOp
  split
  · exact err_gens ..
  · rw [sendNodeState_gens, destroyNode_gens, queueRejoin_gens]

/-! ### Resets of masters -/

@[simp] theorem setEnd_gens (s : State) (ch : Nat) (e : Bool) (x : MbxEnd) : (s.setEnd ch e x).gens = s.gens := rfl

@[simp] theorem mbxSend_gens (s : State) (f : MbxFrame) : (s.mbxSend f).gens = s.gens := by
  unfold mbxSend
  exact cswSend_gens ..

@[simp] theorem peerReset_gens (s : State) (ch : Nat) (e : Bool) : (s.peerReset ch e).gens = s.gens := by
  rw [peerReset, event_gens, setEnd_gens]

@[simp] theorem mbxEndReset_gens (s : State) (ch : Nat) (e : Bool) : (s.mbxEndReset ch e).gens = s.gens := by
  unfold mbxEndReset
  extract_lets other mine s1 s2 s3 o s4
  have h1 : s1.gens = s.gens := gens_ite _ (by rw [bump_gens, event_gens, setEnd_gens]) rfl
  have h2 : s2.gens = s.gens := gens_ite _ ((bump_gens ..).trans h1) h1
  have h3 : s3.gens = s.gens := gens_ite _ ((peerReset_gens ..).trans h2) h2
  rw [setEnd_gens, setEnd_gens, h3]

@[simp] theorem mbxMasterReset_gens (s : State) (m : Nat) : (s.mbxMasterReset m).gens = s.gens := by
  unfold mbxMasterReset
  extract_lets hit remote s1
  have h1 : s1.gens = s.gens := by
    refine gens_foldl (fun u ch => ?_) _ _
    split
    · exact mbxEndReset_gens ..
    · rfl
  exact gens_ite _ ((mbxSend_gens ..).trans h1) h1

@[simp] theorem dmaClear_gens (s : State) (k : Nat) : (s.dmaClear k).gens = s.gens := gens_ite _ rfl rfl

@[simp] theorem masterReset_gens (s : State) (k : Nat) (ms : List Nat) : (s.masterReset k ms).gens = s.gens := by
  rw [masterReset, gens_foldl mbxMasterReset_gens, dmaClear_gens, setBit_gens]

@[simp] theorem wdtOff_gens (s : State) (n : Nat) : (s.wdtOff n).gens = s.gens := setBit_gens ..

@[simp] theorem releaseCores_gens (s : State) : s.releaseCores.gens = s.gens := gens_ite _ (wr_gens ..) rfl

@[simp] theorem countReset_gens (s : State) (c : Nat) : (s.countReset c).gens = s.gens := by
  rw [countReset, bump_gens, setReg_gens]

@[simp] theorem coreReset_gens (s : State) (n : Nat) : (s.coreReset n).gens = s.gens := by
  simp [coreReset]

@[simp] theorem dmaReset_gens (s : State) : s.dmaReset.gens = s.gens := gens_foldl (fun _ _ => masterReset_gens ..) _ s

@[simp] theorem appReset_gens (s : State) : s.appReset.gens = s.gens := by
  have hcores := gens_foldl (f := fun s n => (s.masterReset n [n + 1]).wdtOff n) (fun _ _ => by simp) (List.range 4) s
  simp [appReset, hcores]

@[simp] theorem linkReset_gens (s : State) : s.linkReset.gens = s.gens := by
  simp [linkReset, linkCoreReset, dropPage]

/-! ### Resets of blocks -/

@[simp] theorem dropPage_gens (s : State) (p : Nat) (k : List Nat) : (s.dropPage p k).gens = s.gens := rfl

@[simp] theorem keepWdtEn_gens (old s : State) : (keepWdtEn old s).gens = s.gens := gens_foldl (fun _ _ => setBit_gens ..) _ s

@[simp] theorem putMilestone_gens (s : State) (r : LogRec) : (s.putMilestone r).1.gens = s.gens :=
  gens_ite_fst _ (wr_gens ..) (gens_ite _ rfl (event_gens ..))

@[simp] theorem writeRec_gens (s : State) (r : LogRec) : (s.writeRec r).gens = s.gens := by
  unfold writeRec
  dsimp only
  rw [event_gens, wr_gens]
  exact gens_ite_fst _ (putMilestone_gens ..) rfl

@[simp] theorem milestonesFirst_gens (s : State) : s.milestonesFirst.gens = s.gens := by
  unfold milestonesFirst
  extract_lets step
  have hstep (a : State × List LogRec) (r : LogRec) : (step a r).1.gens = a.1.gens :=
    gens_ite_fst _ (putMilestone_gens ..) rfl
  have hfold (l : List LogRec) : ∀ a : State × List LogRec, (l.foldl step a).1.gens = a.1.gens := by
    induction l with
    | nil => exact fun a => rfl
    | cons r l ih => exact fun a => (ih (step a r)).trans (hstep a r)
  exact hfold _ (s, [])

@[simp] theorem writeAll_gens (s : State) : s.writeAll.gens = s.gens :=
  (gens_foldl writeRec_gens _ _).trans (milestonesFirst_gens s)

@[simp] theorem blockSystem_gens (s : State) (p : Nat) : (s.blockSystem p).gens = s.gens := by
  unfold blockSystem
  split
  · rfl
  · rfl
  · exact gens_ite _ (quiet_gens ..) rfl
  · rfl
  · rfl
  · rfl

@[simp] theorem blockTime_gens (s : State) (p : Nat) : (s.blockTime p).gens = s.gens := gens_ite _ rfl (gens_ite _ rfl rfl)

@[simp] theorem blockSweep_gens (s : State) (p : Nat) : (s.blockSweep p).gens = s.gens := by
  unfold blockSweep
  split <;> rfl

@[simp] theorem sendCvl_gens (s : State) (st rep : Bool) (ref : Int) : (s.sendCvl st rep ref).gens = s.gens := by
  unfold sendCvl
  extract_lets old f gap w w' c s1 s2 s3 s4 s5 s6
  have h2 : s2.gens = s.gens := (bump_gens ..).trans ((wr_gens ..).trans ((wr_gens ..).trans (wr_gens ..)))
  have h3 : s3.gens = s.gens := gens_ite _ ((bump_gens ..).trans h2) h2
  have h4 : s4.gens = s.gens := gens_ite _ ((bump_gens ..).trans h3) h3
  refine gens_ite _ rfl ?_
  rw [eventIf_gens, eventIf_gens, eventIf_gens, h4]

@[simp] theorem stopFrames_gens (s : State) : s.stopFrames.gens = s.gens := by
  unfold stopFrames
  extract_lets was st al c s1 s2
  have h2 : s2.gens = s.gens := eventIf_gens ..
  exact gens_ite _ h2 ((sendCvl_gens ..).trans h2)

@[simp] theorem runCheck_gens (s : State) : s.runCheck.gens = s.gens :=
  gens_ite _ (stopFrames_gens s) (gens_ite _ (stopFrames_gens s) rfl)

@[simp] theorem sendBeat_gens (s : State) : s.sendBeat.gens = s.gens := gens_ite _ rfl (cswSend_gens ..)

@[simp] theorem setCh_gens (s : State) (k : Nat) (c : ChSt) : (s.setCh k c).gens = s.gens := rfl

@[simp] theorem noteCoils_gens (s : State) (w : Nat) : (s.noteCoils w).gens = s.gens := by
  refine gens_foldl (fun u k => ?_) _ s
  exact gens_ite _ rfl (setCh_gens ..)

@[simp] theorem openCh_gens (s : State) (k : Nat) : (s.openCh k).gens = s.gens := by
  refine gens_ite _ ?_ rfl
  rw [sendBeat_gens, runCheck_gens, noteCoils_gens, setCh_gens]

@[simp] theorem openAll_gens (s : State) : s.openAll.gens = s.gens := gens_foldl openCh_gens _ s

@[simp] theorem blockControl_gens (s : State) (p : Nat) : (s.blockControl p).gens = s.gens := by
  unfold blockControl
  dsimp only
  split
  · rfl
  · rfl
  · rfl
  · rw [runCheck_gens, openAll_gens]
  · rfl

@[simp] theorem rptErase_gens (s : State) : s.rptErase.gens = s.gens := by
  unfold rptErase
  dsimp only
  split <;> rfl

@[simp] theorem blockComm_gens (s : State) (p : Nat) : (s.blockComm p).gens = s.gens := by
  unfold blockComm
  split
  · rfl
  · rfl
  · rfl
  · exact rptErase_gens s
  · rfl

@[simp] theorem mbxRemoteLost_gens (s : State) : s.mbxRemoteLost.gens = s.gens := by
  refine gens_ite _ ((event_gens ..).trans (gens_foldl (fun _ _ => ?_) _ _)) rfl
  exact gens_ite _ rfl (gens_ite _ (mbxEndReset_gens ..) (gens_ite _ (mbxEndReset_gens ..) rfl))

@[simp] theorem blockRest_gens (s : State) (p : Nat) : (s.blockRest p).gens = s.gens := by
  unfold blockRest
  dsimp only
  split
  · rfl
  · exact gens_ite _ (mbxRemoteLost_gens _) rfl
  · rfl
  · rfl
  · rfl
  · rfl
  · rfl

@[simp] theorem blockReset_gens (s : State) (p : Nat) : (s.blockReset p).gens = s.gens := by
  unfold blockReset
  extract_lets s1 t s2
  have h1 : s1.gens = s.gens := gens_ite _ (writeAll_gens s) rfl
  have h2 : s2.gens = s.gens := gens_ite _ ((keepWdtEn_gens ..).trans h1) h1
  simp [h2]

/-! ### RST_CMD (R342) -/

theorem rstErr_gens (s : State) (m : Mid) (e : ErrCode) : (s.rstErr m e).gens = s.gens := err_gens ..

theorem cmdApp_gens (s : State) (m : Mid) : (s.cmdApp m).gens = s.gens :=
  gens_ite _ (rstErr_gens ..) (gens_ite _ (rstErr_gens ..) (by simp))

theorem cmdCore_gens (s : State) (m : Mid) (n : Nat) : (s.cmdCore m n).gens = s.gens := gens_ite _ (rstErr_gens ..) (by simp)

theorem cmdLink_gens (s : State) (m : Mid) : (s.cmdLink m).gens = s.gens := gens_ite _ (rstErr_gens ..) (by simp)

theorem cmdBlock_gens (s : State) (m : Mid) (p : Nat) : (s.cmdBlock m p).gens = s.gens :=
  gens_ite _ (rstErr_gens ..) (gens_ite _ (rstErr_gens ..) (by simp))

/-! ### The boot, and the resets of the die, which restart the generations (R341) -/

@[simp] theorem trialBoot_gens (n : Nat) : ∀ s : State, (trialBoot n s).gens = s.gens := by
  induction n with
  | zero => exact fun s => rfl
  | succ n ih => exact fun s => gens_ite _ rfl (gens_ite _ (setBit_gens ..) (ih _))

@[simp] theorem startImage_gens (s : State) : s.startImage.gens = s.gens := setBit_gens ..

@[simp] theorem bootFails_gens (s : State) : s.bootFails.gens = s.gens := setBit_gens ..

@[simp] theorem plainBoot_gens (s : State) : s.plainBoot.gens = s.gens :=
  gens_ite _ (gens_ite _ (startImage_gens s) ((bootFails_gens _).trans (startImage_gens s)))
    (gens_ite _ rfl (gens_ite _ rfl (bootFails_gens _)))

@[simp] theorem loader_gens (s : State) : s.loader.gens = s.gens := by
  unfold loader
  split
  · rfl
  · exact trialBoot_gens 3 s
  · exact plainBoot_gens s

@[simp] theorem bootRom_gens (s : State) (pass : Bool) : (s.bootRom pass).gens = s.gens := gens_ite _ (loader_gens _) rfl

theorem dieReset_gens (s : State) (f : Nat) : (s.dieReset f).gens = [] := by
  unfold dieReset
  extract_lets s1 nv nv' faults saf saf' u u1 p g u2
  have h1 : u1.gens = u.gens := (wr_gens ..).trans ((setFld_gens ..).trans (wr_gens ..))
  have h2 : u2.gens = [] := h1
  split
  · exact h2
  · exact (event_gens ..).trans h2

theorem moduleReset_gens (s : State) (c : Nat) (rom : Bool) (f : Nat) : (s.moduleReset c rom f).gens = [] := by
  rw [moduleReset, bootRom_gens, countReset_gens, dieReset_gens]

theorem powerReset_gens (s : State) (b rom : Bool) (f : Nat) : (s.powerReset b rom f).gens = [] := by
  unfold powerReset
  dsimp only
  rw [bootRom_gens, wr_gens, wr_gens, dieReset_gens]

end State

/-! ### The objects that a reset of scope BLOCK destroys (R10) -/

/-- The block of page `p` holds no objects: waymarks, nodes, chemistry tables, taps, programs, filter sets of its controller, launches. -/
def BlockEmptied (p : Nat) (t : State) : Prop :=
  (p = 0x07 → t.gau.wms = []) ∧ (p = 0x0A → t.link.nodes = []) ∧ (p = 0x0D → t.est.chems = []) ∧ (p = 0x0E → t.est.taps = []) ∧
  (p = 0x12 → t.frm.progs = []) ∧ (p = 0x15 → ∀ f ∈ t.filters, f.2.ctl ≠ 0) ∧ (p = 0x16 → ∀ f ∈ t.filters, f.2.ctl ≠ 1) ∧
  (p = 0x17 → t.eth.launches = [])

theorem blockReset_empties (p : Nat) (s : State) : BlockEmptied p (s.blockReset p) := by
  refine ⟨?_, ?_, ?_, ?_, ?_, ?_, ?_, ?_⟩ <;> rintro rfl
  · rfl
  · rfl
  · rfl
  · rfl
  · rfl
  · intro f hf
    simpa using (List.mem_filter.mp hf).2
  · intro f hf
    simpa using (List.mem_filter.mp hf).2
  · rfl

theorem cmdBlock_safety (p : Nat) (s : State) (hp : p ≤ 0x20) :
    s.cmdBlock (.own .safety) p = ((s.blockReset p).countReset 16).event 0x02 2 := by
  simp [State.cmdBlock, State.mayReset, pageImplemented, hp]

theorem cmdBlock_safety_empties (p : Nat) (s : State) (hp : p ≤ 0x20) : BlockEmptied p (s.cmdBlock (.own .safety) p) := by
  have h := blockReset_empties p s
  rw [cmdBlock_safety p s hp]
  simpa [BlockEmptied, State.countReset] using h

/-! ### The commands -/

/-- A command that is a write to a command register keeps what its effect keeps. -/
theorem ok_busW_gens {s t : State} {m : Mid} {a : Nat} {eff : State → State}
    (h : (ok (s.busW m a eff) : Out) = .next t) (heff : (eff s).gens = s.gens) : t.gens = s.gens := by
  cases h
  exact State.bus_gens s m a true heff

/-- Destroying an object leaves every generation as it was (R10). -/
theorem exec_destroy_gens {m : Mid} {l : Fin 2} {s t : State}
    (h : exec (.wmDestroy m) s = .next t ∨ exec (.tapDestroy m) s = .next t ∨ exec (.chemDestroy m) s = .next t ∨
      exec (.frmDestroy m) s = .next t ∨ exec (.fsDestroy l m) s = .next t ∨ exec (.launchDestroy m) s = .next t ∨
      exec (.planRemove m) s = .next t) : t.gens = s.gens := by
  rcases h with h | h | h | h | h | h | h
  · exact ok_busW_gens h (State.wmDestroyWrite_gens s m)
  · exact ok_busW_gens h (State.tapDestroyOp_gens s m)
  · exact ok_busW_gens h (State.chemDestroyOp_gens s m)
  · exact ok_busW_gens h (State.frmDestroyOp_gens s m)
  · exact ok_busW_gens h (State.fsDestroy_gens s l.val m)
  · exact ok_busW_gens h (State.launchDestroy_gens s m)
  · exact ok_busW_gens h (State.planRemoveOp_gens s m)

/-- The resets that keep the generations (R10). -/
theorem exec_reset_gens {m : Mid} {n : Fin 4} {p : Fin 64} {s t : State}
    (h : exec (.blockReset m p) s = .next t ∨ exec (.coreReset m n) s = .next t ∨ exec (.appReset m) s = .next t ∨
      exec (.linkReset m) s = .next t) : t.gens = s.gens := by
  rcases h with h | h | h | h
  · exact ok_busW_gens h (State.cmdBlock_gens s m p.val)
  · exact ok_busW_gens h (State.cmdCore_gens s m n.val)
  · exact ok_busW_gens h (State.cmdApp_gens s m)
  · exact ok_busW_gens h (State.cmdLink_gens s m)

theorem exec_blockReset_safety {p : Fin 64} {s : State} (h : Passes s (.own .safety) Reg.RST_RST_CMD true) :
    exec (.blockReset (.own .safety) p) s = .next (s.cmdBlock (.own .safety) p.val) :=
  congrArg _ (busW_passes h _)

theorem exec_moduleReset_debug {rom : Bool} {sw : Nat} {s : State} (h : s.pair.unpowered = false) :
    exec (.moduleReset .debug rom sw) s = .next (s.moduleReset 4 rom sw) := by
  show (ok (if s.pair.unpowered then s else s.moduleReset 4 rom sw) : Out) = _
  rw [h]
  rfl

/-- Settles O59: for a handle that a slot gave out, GEN and the slot alone decide; the DESTROY commands and the resets of scope BLOCK, CORE_n, APP and
LINK keep every GEN, and POWER and MODULE restart them. -/
theorem handlesNameOneObject : Obligations.HandlesNameOneObject := by
  unfold Obligations.HandlesNameOneObject
  refine ⟨checkHandle_handleOf_live, checkHandle_handleOf_empty, checkHandle_handleOf_newGen, ?_, ?_, ?_, ?_, ?_, ?_, ?_, ?_, ?_, ?_⟩
  · exact fun c occ h s hchk => checkHandle_bad c occ h s (.inl hchk)
  · exact fun c occ h s hcls => checkHandle_bad c occ h s (.inr (.inl (bitsOf_cls h ▸ hcls)))
  · exact fun c occ h s hidx => checkHandle_bad c occ h s (.inr (.inr hidx))
  · exact fun c i s hg => ⟨gen_newGen_next hg, fun j _ hj _ => gen_newGen_ne s c hj⟩
  · exact fun m l s t => exec_destroy_gens
  · exact fun m n p s t => exec_reset_gens
  · exact fun p s hpass hp => ⟨_, exec_blockReset_safety hpass, cmdBlock_safety_empties p.val s hp⟩
  · exact fun b rom sw s => ⟨_, rfl, State.powerReset_gens s b rom sw⟩
  · exact fun rom sw s hpow => ⟨_, exec_moduleReset_debug hpow, State.moduleReset_gens s 4 rom sw⟩
  · exact fun c i s h => gen_newGen_first c i h

end Sys2Proof.Machine
end

section
/-! PROOFS. The channels of a superframe (R55, R56): where in the list of enabled channels the four channels of a cycle lie, why they are distinct, and
the join channel. -/

namespace Sys2Proof.Machine

open Sys2Proof

namespace State

/-! ### The list of enabled channels -/

theorem mem_channels {s : State} {k : Nat} : k ∈ s.channels ↔ k < 40 ∧ s.link.chMask.testBit k = true := by
  simp [channels]

theorem channels_nodup (s : State) : s.channels.Nodup := List.nodup_range.filter _

/-- The channel at a position of the list of enabled channels, and 0 beyond its end. -/
def channelAt (s : State) (i : Nat) : Nat := (s.channels[i]?).getD 0

theorem getElem?_channels {s : State} {i : Nat} (h : i < s.channels.length) : s.channels[i]? = some (s.channelAt i) := by
  simp [channelAt, h]

theorem channelAt_mem {s : State} {i : Nat} (h : i < s.channels.length) : s.channelAt i ∈ s.channels :=
  List.mem_of_getElem? (getElem?_channels h)

theorem channelAt_lt (s : State) (i : Nat) : s.channelAt i < 2 ^ 8 := by
  by_cases h : i < s.channels.length
  · have := (mem_channels.mp (channelAt_mem h)).1
    omega
  · simp [channelAt, h]

theorem channelAt_inj {s : State} {i j : Nat} (hi : i < s.channels.length) (hj : j < s.channels.length) (h : s.channelAt i = s.channelAt j) :
    i = j :=
  (List.getElem?_inj hi s.channels_nodup).mp (by rw [getElem?_channels hi, getElem?_channels hj, h])

/-! ### The positions of channel A and channel B (R55) -/

/-- The pseudocode's blk. -/
def hopBlk (s : State) (cycle : Nat) : Nat := Config.aes128 (kHop s.kNet) (cycle % 2 ^ 32)

/-- The pseudocode's u. -/
def hopU (s : State) (cycle : Nat) : Nat := s.hopBlk cycle % 2 ^ 32

/-- The pseudocode's d, from channel A of a radio to its channel B. -/
def hopStep (s : State) (cycle : Nat) : Nat := 1 + s.hopBlk cycle / 2 ^ 32 % 2 ^ 32 % (s.channels.length / 2 - 1)

/-- The position of channel A of a radio: LNK1 half the list on from LNK0. -/
def hopA (s : State) (l cycle : Nat) : Nat :=
  if l = 0 then s.hopU cycle % s.channels.length else (s.hopU cycle % s.channels.length + s.channels.length / 2) % s.channels.length

/-- The position of channel B of a radio. -/
def hopB (s : State) (l cycle : Nat) : Nat := (s.hopA l cycle + s.hopStep cycle) % s.channels.length

theorem hopStep_pos (s : State) (cycle : Nat) : 0 < s.hopStep cycle := by
  unfold hopStep
  omega

theorem hopStep_lt_half {s : State} (cycle : Nat) (h : 15 ≤ s.channels.length) : s.hopStep cycle < s.channels.length / 2 := by
  have := Nat.mod_lt (s.hopBlk cycle / 2 ^ 32 % 2 ^ 32) (y := s.channels.length / 2 - 1) (by omega)
  unfold hopStep
  omega

/-- How far on from u the channel A of a radio lies. -/
theorem hopA_eq_offset (s : State) (l cycle : Nat) :
    s.hopA l cycle = (s.hopU cycle + if l = 0 then 0 else s.channels.length / 2) % s.channels.length := by
  unfold hopA
  split
  · rfl
  · exact Nat.mod_add_mod ..

/-- How far on from u the channel B of a radio lies. -/
theorem hopB_eq_offset (s : State) (l cycle : Nat) :
    s.hopB l cycle = (s.hopU cycle + ((if l = 0 then 0 else s.channels.length / 2) + s.hopStep cycle)) % s.channels.length := by
  rw [hopB, hopA_eq_offset, Nat.mod_add_mod, Nat.add_assoc]

theorem hopA_lt {s : State} (l cycle : Nat) (h : 15 ≤ s.channels.length) : s.hopA l cycle < s.channels.length := by
  rw [hopA_eq_offset]
  exact Nat.mod_lt _ (by omega)

theorem hopB_lt {s : State} (l cycle : Nat) (h : 15 ≤ s.channels.length) : s.hopB l cycle < s.channels.length :=
  Nat.mod_lt _ (by omega)

/-- Within one turn, a position on the circle of n determines the offset from u. -/
theorem offset_eq_of_add_mod_eq {u n p q : Nat} (hp : p < n) (hq : q < n) (h : (u + p) % n = (u + q) % n) : p = q := by
  have hu : u % n < n := Nat.mod_lt _ (by omega)
  have hturn {x : Nat} (hx : x < n) : (u + x) % n = if u % n + x < n then u % n + x else u % n + x - n := by
    rw [← Nat.mod_add_mod]
    split
    · exact Nat.mod_eq_of_lt ‹_›
    · rw [Nat.mod_eq_sub_mod (by omega), Nat.mod_eq_of_lt (by omega)]
  rw [hturn hp, hturn hq] at h
  split at h <;> split at h <;> omega

/-- Two offsets less than a whole turn apart give two channels. -/
theorem channelAt_offset_ne {s : State} {p q : Nat} (u : Nat) (hp : p < s.channels.length) (hq : q < s.channels.length) (hpq : p ≠ q) :
    s.channelAt ((u + p) % s.channels.length) ≠ s.channelAt ((u + q) % s.channels.length) := by
  intro h
  have hn : 0 < s.channels.length := Nat.zero_lt_of_lt hp
  have hmod : (u + p) % s.channels.length = (u + q) % s.channels.length := channelAt_inj (Nat.mod_lt _ hn) (Nat.mod_lt _ hn) h
  exact hpq (offset_eq_of_add_mod_eq hp hq hmod)

/-! ### CH_CUR -/

/-- The join channel of a radio in a cycle (R56). -/
def joinChannel (l cycle : Nat) : Nat := (([1, 19, 38] : List Nat)[joinPos l cycle]?).getD 0

theorem chCur_eq (s : State) (l cycle : Nat) :
    s.chCur l cycle = s.channelAt (s.hopA l cycle) + 2 ^ 8 * s.channelAt (s.hopB l cycle) + 2 ^ 16 * joinChannel l cycle := rfl

/-- The low byte of CH_CUR is channel A. -/
theorem chCur_a (s : State) (l cycle : Nat) : s.chCur l cycle % 2 ^ 8 = s.channelAt (s.hopA l cycle) := by
  have := s.channelAt_lt (s.hopA l cycle)
  rw [chCur_eq]
  omega

/-- The second byte of CH_CUR is channel B. -/
theorem chCur_b (s : State) (l cycle : Nat) : s.chCur l cycle / 2 ^ 8 % 2 ^ 8 = s.channelAt (s.hopB l cycle) := by
  have := s.channelAt_lt (s.hopA l cycle)
  have := s.channelAt_lt (s.hopB l cycle)
  rw [chCur_eq]
  omega

/-- The rest of CH_CUR is the join channel. -/
theorem chCur_join (s : State) (l cycle : Nat) : s.chCur l cycle / 2 ^ 16 = joinChannel l cycle := by
  have := s.channelAt_lt (s.hopA l cycle)
  have := s.channelAt_lt (s.hopB l cycle)
  rw [chCur_eq]
  omega

theorem joinChannel_lnk0 (cycle : Nat) :
    joinChannel 0 cycle = if cycle % 2 ^ 32 % 3 = 0 then 1 else if cycle % 2 ^ 32 % 3 = 1 then 19 else 38 := by
  unfold joinChannel joinPos
  obtain h | h | h : cycle % 2 ^ 32 % 3 = 0 ∨ cycle % 2 ^ 32 % 3 = 1 ∨ cycle % 2 ^ 32 % 3 = 2 := by omega
  all_goals rw [Nat.add_zero, h]; rfl

/-- LNK1 stands where LNK0 will stand one place on. -/
theorem joinChannel_lnk1 (cycle : Nat) :
    joinChannel 1 cycle = if cycle % 2 ^ 32 % 3 = 0 then 19 else if cycle % 2 ^ 32 % 3 = 1 then 38 else 1 := by
  unfold joinChannel joinPos
  obtain h | h | h : cycle % 2 ^ 32 % 3 = 0 ∨ cycle % 2 ^ 32 % 3 = 1 ∨ cycle % 2 ^ 32 % 3 = 2 := by omega
  all_goals rw [Nat.add_mod, h]; rfl

/-- The four channels of a cycle lie 0, n / 2, d and n / 2 + d on from u, four offsets of less than a whole turn. -/
theorem hop_channels_distinct {s : State} (cycle : Nat) (h : 15 ≤ s.channels.length) :
    s.channelAt (s.hopA 0 cycle) ≠ s.channelAt (s.hopA 1 cycle) ∧ s.channelAt (s.hopA 0 cycle) ≠ s.channelAt (s.hopB 0 cycle) ∧
    s.channelAt (s.hopA 0 cycle) ≠ s.channelAt (s.hopB 1 cycle) ∧ s.channelAt (s.hopA 1 cycle) ≠ s.channelAt (s.hopB 0 cycle) ∧
    s.channelAt (s.hopA 1 cycle) ≠ s.channelAt (s.hopB 1 cycle) ∧ s.channelAt (s.hopB 0 cycle) ≠ s.channelAt (s.hopB 1 cycle) := by
  have hpos := s.hopStep_pos cycle
  have hhalf := hopStep_lt_half cycle h
  simp only [hopA_eq_offset, hopB_eq_offset, if_pos, if_neg Nat.one_ne_zero]
  refine ⟨?_, ?_, ?_, ?_, ?_, ?_⟩ <;> apply channelAt_offset_ne <;> omega

end State

/-- Settles O60: the low two bytes of CH_CUR are the enabled channels at the positions of R55, whose offsets from u differ by less than a whole turn. -/
theorem channelsOfASuperframe : Obligations.ChannelsOfASuperframe := by
  unfold Obligations.ChannelsOfASuperframe
  refine ⟨fun cycle s h => ?_, fun cycle s h => ?_, fun k s => State.mem_channels, fun cycle s => ?_⟩
  · have hmemA (l : Nat) := State.channelAt_mem (State.hopA_lt l cycle h)
    have hmemB (l : Nat) := State.channelAt_mem (State.hopB_lt l cycle h)
    exact ⟨_, _, _, _, s.chCur_a 0 cycle, s.chCur_a 1 cycle, s.chCur_b 0 cycle, s.chCur_b 1 cycle, hmemA 0, hmemA 1, hmemB 0, hmemB 1,
      State.hop_channels_distinct cycle h⟩
  · rw [s.chCur_a, s.chCur_a, s.chCur_b, s.chCur_b]
    exact ⟨State.getElem?_channels (State.hopA_lt 0 cycle h), State.getElem?_channels (State.hopA_lt 1 cycle h),
      State.getElem?_channels (State.hopB_lt 0 cycle h), State.getElem?_channels (State.hopB_lt 1 cycle h)⟩
  · rw [s.chCur_join, s.chCur_join]
    exact ⟨State.joinChannel_lnk0 cycle, State.joinChannel_lnk1 cycle⟩

end Sys2Proof.Machine
end

section
/-! PROOFS. Binding a channel (R247, R248, R259): a class 3 frame and what it leaves, the state behind a good binding word, which of the two ends
announces itself to the partner, and the refusals. -/

namespace Sys2Proof.Machine

open Sys2Proof

/-! ### Where the binding words stand -/

theorem page_bind (ch : Fin 64) : Reg.MBX_BIND ch.val / 0x1000 = 5 := by
  show (0x5100 + 4 * ch.val) / 0x1000 = 5
  omega

theorem bind_ne {c ch : Nat} (h : c ≠ ch) : Reg.MBX_BIND c ≠ Reg.MBX_BIND ch := fun k => h (by simp only [Reg.MBX_BIND] at k; omega)

/-- A register of another page is no binding word. -/
theorem ne_bind_of_page {a : Nat} (ch : Fin 64) (h : a / 0x1000 ≠ 5) : a ≠ Reg.MBX_BIND ch.val := fun k => h (k ▸ page_bind ch)

namespace State

/-! ### The ends of a channel (R247) -/

/-- The ends of a channel are what its own binding word says. -/
theorem endOf_congr {s t : State} {c : Nat} (h : t.reg (Reg.MBX_BIND c) = s.reg (Reg.MBX_BIND c)) (m : Nat) :
    t.endOf c m = s.endOf c m := by
  simp only [endOf, bound, endMid, bit, fld, rd, h]

theorem farRemote_congr {s t : State} {c : Nat} (h : t.reg (Reg.MBX_BIND c) = s.reg (Reg.MBX_BIND c)) (e : Bool) :
    t.farRemote c e = s.farRemote c e := by
  simp only [farRemote, endMid, fld, rd, h]

/-! ### Sending a class 3 frame (R261) -/

theorem mbxSend_eq (s : State) (f : MbxFrame) :
    s.mbxSend f = { s with mbx := { s.mbx with sent := f :: s.mbx.sent } }.cswSend 3 (mbxPayload f).1 [(mbxPayload f).2] := rfl

theorem cswSend_mbx (s : State) (c t : Nat) (ps : List (List Nat)) (n : Bool) : (s.cswSend c t ps n).mbx = s.mbx :=
  (only_cswSend s c t ps n).1 .mbx (by decide)

theorem mbxSend_mbx (s : State) (f : MbxFrame) : (s.mbxSend f).mbx = { s.mbx with sent := f :: s.mbx.sent } := by
  rw [mbxSend_eq, cswSend_mbx]

theorem mbxCh_mbxSend (s : State) (f : MbxFrame) (ch : Nat) : (s.mbxSend f).mbxCh ch = s.mbxCh ch := by
  rw [mbxCh, mbxSend_mbx]
  rfl

/-- One payload goes out as one frame with the SEQ that was next. -/
theorem cswOut_cswSend_one {s : State} (c t : Nat) (p : List Nat) (h : s.cswUp = true) :
    (s.cswSend c t [p]).pair.cswOut.find? (cswKey c t) = some [cswBytes c t (s.pair.cswSeq.get 0 (cswKey c t) % 2 ^ 16) 0 p] := by
  unfold cswSend
  rw [if_neg (by simp [h])]
  exact Tab.find_set_same ..

theorem sends_mbxSend (s : State) (f : MbxFrame) : Sends s (s.mbxSend f) f :=
  ⟨by rw [mbxSend_mbx], fun h => cswOut_cswSend_one 3 _ _ h⟩

theorem only_mbxSend (s : State) (f : MbxFrame) : Only [.mbx, .pair] [Reg.CSW_TX_FRAMES] s (s.mbxSend f) := by
  rw [mbxSend_eq]
  exact Only.trans ((only_mbx s _).mono (by simp) (by simp)) ((only_cswSend ..).mono (by simp) (by simp))

theorem reg_bind_mbxSend (s : State) (f : MbxFrame) (ch : Fin 64) :
    (s.mbxSend f).reg (Reg.MBX_BIND ch.val) = s.reg (Reg.MBX_BIND ch.val) :=
  (only_mbxSend s f).2 _ fun h => ne_bind_of_page ch (by decide) (List.mem_singleton.mp h).symm

theorem endMid_mbxSend (s : State) (f : MbxFrame) (ch : Fin 64) (e : Bool) : (s.mbxSend f).endMid ch.val e = s.endMid ch.val e := by
  simp only [endMid, fld, rd, reg_bind_mbxSend]

/-! ### A good binding word is stored and the channel cleared (R248) -/

/-- The state in which a good binding word stands and its channel is clear, before any frame. -/
def rebind (s : State) (ch : Nat) (v : Word) : State :=
  { s.setReg (Reg.MBX_BIND ch) (v &&& 0x0001FFFF) with mbx := { s.mbx with chs := s.mbx.chs.erase ch } }

variable (s : State) (ch : Nat) (v : Word)

theorem reg_rebind_same : (s.rebind ch v).reg (Reg.MBX_BIND ch) = v &&& 0x0001FFFF := reg_setReg_same ..

theorem reg_rebind_ne {a : Nat} (h : a ≠ Reg.MBX_BIND ch) : (s.rebind ch v).reg a = s.reg a := reg_setReg_ne s _ h

theorem rd_rebind_same : (s.rebind ch v).rd (Reg.MBX_BIND ch) = v.toNat % 2 ^ 17 := by
  rw [rd, reg_rebind_same, BitVec.toNat_and]
  exact Nat.and_two_pow_sub_one_eq_mod v.toNat 17

theorem bound_rebind : (s.rebind ch v).bound ch = v.toNat.testBit 16 := by
  rw [bound, bit, rd_rebind_same, Nat.testBit_mod_two_pow]
  rfl

theorem endMid_rebind_false : (s.rebind ch v).endMid ch false = v.toNat % 256 := by
  rw [endMid, fld, rd_rebind_same]
  simp only [bitsOf, Bool.false_eq_true, if_false]
  omega

theorem endMid_rebind_true : (s.rebind ch v).endMid ch true = v.toNat / 256 % 256 := by
  rw [endMid, fld, rd_rebind_same]
  simp only [bitsOf, if_true]
  omega

theorem mbxCh_rebind_same : (s.rebind ch v).mbxCh ch = {} := congrArg (Option.getD · ({} : MbxCh)) (Tab.find_erase_same s.mbx.chs ch)

theorem mbxCh_rebind_ne {c : Nat} (h : c ≠ ch) : (s.rebind ch v).mbxCh c = s.mbxCh c :=
  congrArg (Option.getD · ({} : MbxCh)) (Tab.find_erase_ne s.mbx.chs h)

theorem only_rebind : Only [.mbx] [Reg.MBX_BIND ch] s (s.rebind ch v) :=
  Only.trans ((only_setReg s _ _).mono (by simp) (by simp)) ((only_mbx (s.setReg _ _) _).mono (by simp) (by simp))

end State

open State

/-- Whether a master has announced itself through another channel does not depend on this one's binding word. -/
theorem announced_rebind (s : State) (ch : Nat) (v : Word) (m : Nat) : announced (s.rebind ch v) ch m = announced s ch m := by
  refine List.any_congr rfl fun c => ?_
  by_cases hc : c = ch
  · simp [hc]
  · have hreg : (s.rebind ch v).reg (Reg.MBX_BIND c) = s.reg (Reg.MBX_BIND c) := reg_rebind_ne s ch v (bind_ne hc)
    simp only [endOf_congr hreg, farRemote_congr hreg]

/-- A Causeway that is up stays up, since its enable is no binding word. -/
theorem cswUp_rebind (s : State) (ch : Fin 64) (v : Word) : (s.rebind ch.val v).cswUp = s.cswUp := by
  have hreg : (s.rebind ch.val v).reg Reg.CSW_CSW_CFG = s.reg Reg.CSW_CSW_CFG := reg_rebind_ne s _ v (ne_bind_of_page ch (by decide))
  simp only [cswUp, bit, rd, hreg]
  rfl

/-! ### Which end announces itself (R259) -/

/-- An end announces itself only where the far end is the partner's. -/
theorem announceEnd_of_far_local {s : State} {ch : Nat} {e : Bool} (h : isPartner (s.endMid ch (!e)) = false) :
    announceEnd s ch e = s := by
  simp [announceEnd, farRemote, h]

/-- The partner's end announces nothing here. -/
theorem announceEnd_of_near_partner {s : State} {ch : Nat} {e : Bool} (h : isPartner (s.endMid ch e) = true) :
    announceEnd s ch e = s := by
  simp [announceEnd, h]

/-- The local end of a channel to the partner announces itself where the channel is bound and no other channel did. -/
theorem announceEnd_of_remote {s : State} {ch : Nat} {e : Bool} (hn : isPartner (s.endMid ch e) = false)
    (hf : isPartner (s.endMid ch (!e)) = true) :
    announceEnd s ch e =
      if s.bound ch && !announced s ch (s.endMid ch e) then s.mbxSend (.endReset (s.endMid ch e)) else s := by
  simp [announceEnd, farRemote, hn, hf]

theorem bindOk_one_partner {v : Nat} (h : bindOk v = true) : isPartner (v % 256) = false ∨ isPartner (v / 256 % 256) = false := by
  simp only [bindOk, Bool.and_eq_true, Bool.not_eq_true', Bool.and_eq_false_iff] at h
  exact h.2

/-- Of the two ends only the local one of a channel to the partner sends its END_RESET. -/
theorem announceEnds_eq (s : State) (ch : Fin 64)
    (h : isPartner (s.endMid ch.val false) = false ∨ isPartner (s.endMid ch.val true) = false) :
    let a := s.endMid ch.val false
    let b := s.endMid ch.val true
    let m := if isPartner b then a else b
    announceEnd (announceEnd s ch.val false) ch.val true =
      if (s.bound ch.val && (isPartner a || isPartner b)) && !announced s ch.val m then s.mbxSend (.endReset m) else s := by
  intro a b m
  cases hb : isPartner b with
  | true =>
    have ha : isPartner a = false := h.resolve_right ((Bool.not_eq_false _).mpr hb)
    have h1 := announceEnd_of_remote (e := false) ha hb
    have h2 : isPartner ((announceEnd s ch.val false).endMid ch.val true) = true := by
      rw [h1]
      split
      · rw [endMid_mbxSend]; exact hb
      · exact hb
    rw [announceEnd_of_near_partner h2, h1]
    simp [m, ha, hb, a]
  | false =>
    rw [announceEnd_of_far_local (e := false) hb]
    cases ha : isPartner a with
    | true =>
      rw [announceEnd_of_remote (e := true) hb ha]
      simp [m, hb, b]
    | false =>
      rw [announceEnd_of_far_local (e := true) ha]
      simp

/-! ### BIND_WRITE -/

theorem bindWrite_foreign {mid : Mid} (ch : Nat) (v : Word) (s : State) (h : mid ≠ .own .safety) :
    bindWrite s mid ch v = s.err mid (Reg.MBX_BIND ch) .midDeny := if_pos h

theorem bindWrite_safety (s : State) (ch : Nat) (v : Word) :
    bindWrite s (.own .safety) ch v =
      if s.pageLocked 5 then s.err (.own .safety) (Reg.MBX_BIND ch) .locked
      else if !bindOk v.toNat then s.err (.own .safety) (Reg.MBX_BIND ch) .bindBad
      else announceEnd (announceEnd (s.rebind ch v) ch false) ch true := rfl

/-- A good binding word from the safety core, before LOCK: the channel is cleared, and the END_RESET of its local end goes out where it is due. -/
theorem bindWrite_good (s : State) (ch : Fin 64) (v : Word) (hl : s.pageLocked 5 = false) (hv : bindOk v.toNat = true) :
    let a := v.toNat % 256
    let b := v.toNat / 256 % 256
    let remote := v.toNat.testBit 16 && (isPartner a || isPartner b)
    let m := if isPartner b then a else b
    bindWrite s (.own .safety) ch.val v =
      if remote && !announced s ch.val m then (s.rebind ch.val v).mbxSend (.endReset m) else s.rebind ch.val v := by
  have hone := bindOk_one_partner hv
  rw [← endMid_rebind_false s ch.val v, ← endMid_rebind_true s ch.val v] at hone
  have h := announceEnds_eq (s.rebind ch.val v) ch hone
  simp only [endMid_rebind_false, endMid_rebind_true, bound_rebind, announced_rebind] at h
  rw [bindWrite_safety, hl, hv]
  exact h

theorem exec_bindWrite {mid : Mid} {ch : Fin 64} {s : State} (v : Word) (h : Passes s mid (Reg.MBX_BIND ch.val) true) :
    exec (.bindWrite mid ch v) s = .next (bindWrite s mid ch.val v) := congrArg _ (busW_passes h _)

/-- A refused binding word leaves its code in ERR_CODE of page 0x05 and changes nothing else. -/
theorem exec_bindWrite_refused {mid : Mid} {ch : Fin 64} {v : Word} {s : State} {e : ErrCode}
    (h : Passes s mid (Reg.MBX_BIND ch.val) true) (he : bindWrite s mid ch.val v = s.err mid (Reg.MBX_BIND ch.val) e) :
    ∃ t, exec (.bindWrite mid ch v) s = .next t ∧ t.rd (errAddr 5) % 2 ^ 8 = e.code ∧ Only [] [errAddr 5] s t := by
  refine ⟨_, exec_bindWrite v h, ?_⟩
  rw [he, ← page_bind ch]
  exact ⟨err_code .., only_err ..⟩

/-- What the cleared channel and its binding word look like, with the END_RESET of `m` sent or not. -/
theorem rebind_effect (s : State) (ch : Fin 64) (v : Word) (goes : Bool) (m : Nat) :
    let t := if goes then (s.rebind ch.val v).mbxSend (.endReset m) else s.rebind ch.val v
    t.reg (Reg.MBX_BIND ch.val) = v &&& 0x0001FFFF ∧ t.mbxCh ch.val = {} ∧ (∀ c, c ≠ ch.val → t.mbxCh c = s.mbxCh c) ∧
      SendsIf goes s t (.endReset m) ∧ OnlyChannel goes [] [Reg.MBX_BIND ch.val] [] s t := by
  cases goes with
  | false =>
    exact ⟨reg_rebind_same .., mbxCh_rebind_same .., fun c hc => mbxCh_rebind_ne _ _ _ hc, rfl, .of_only (only_rebind ..)⟩
  | true =>
    refine ⟨?_, ?_, fun c hc => ?_, ?_, ?_⟩
    · exact (reg_bind_mbxSend ..).trans (reg_rebind_same ..)
    · exact (mbxCh_mbxSend ..).trans (mbxCh_rebind_same ..)
    · exact (mbxCh_mbxSend ..).trans (mbxCh_rebind_ne _ _ _ hc)
    · have hsends := sends_mbxSend (s.rebind ch.val v) (.endReset m)
      exact ⟨hsends.1, fun h => hsends.2 ((cswUp_rebind s ch v).trans h)⟩
    · exact OnlyEvents.of_only (Only.trans ((only_rebind ..).mono (by simp) (by simp)) ((only_mbxSend ..).mono (by simp) (by simp)))

/-- Settles O16: a good binding word of the safety core clears its channel and announces the local end of a channel to the partner; every other one is
refused in ERR_CODE. -/
theorem bindingByTheSafetyCore : Obligations.BindingByTheSafetyCore := by
  unfold Obligations.BindingByTheSafetyCore
  refine ⟨fun ch v s hpass hl hv => ?_, fun mid ch v s hpass hmid => ?_, fun ch v s hpass hl => ?_, fun ch v s hpass hl hv => ?_⟩
  · refine ⟨_, exec_bindWrite v hpass, ?_⟩
    rw [bindWrite_good s ch v hl hv]
    exact rebind_effect s ch v _ _
  · exact exec_bindWrite_refused hpass (bindWrite_foreign ch.val v s hmid)
  · exact exec_bindWrite_refused hpass (by rw [bindWrite_safety, hl]; rfl)
  · exact exec_bindWrite_refused hpass (by rw [bindWrite_safety, hl, hv]; rfl)

end Sys2Proof.Machine
end

section
/-! PROOFS. Who may reset what (R342): what the operations that a reset is made of leave alone, above all RST_COUNT and the locks of FWL and MBX, what
each scope leaves in RST, and which commands are refused. -/

namespace Sys2Proof.Tab

variable {α : Type}

/-- A filter that takes every entry of a key keeps what stands there. -/
theorem find_filter (t : Tab α) {p : Nat × α → Bool} {i : Nat} (h : ∀ v, p (i, v) = true) : Tab.find? (List.filter p t) i = t.find? i := by
  induction t with
  | nil => rfl
  | cons e r ih =>
    obtain ⟨k, u⟩ := e
    by_cases hk : k = i
    · subst hk
      simp [List.filter, h, find?]
    · cases hp : p (k, u) <;> simp [List.filter, hp, find?, hk, ih]

theorem find_map (t : Tab α) (f : α → α) (i : Nat) : Tab.find? (List.map (fun e => (e.1, f e.2)) t) i = (t.find? i).map f := by
  induction t with
  | nil => rfl
  | cons e r ih =>
    simp only [List.map_cons, find?, ih]
    split <;> rfl

end Sys2Proof.Tab

namespace Sys2Proof.Machine

open Sys2Proof

/-! ### Steps of an operation within a frame with events -/

section Steps

variable {ps : List Part} {rs pg : List Nat}

theorem OnlyEvents.ite {s t u : State} (c : Prop) [Decidable c] (h : OnlyEvents ps rs pg s t) (k : OnlyEvents ps rs pg s u) :
    OnlyEvents ps rs pg s (if c then t else u) := Only.ite c (fun _ => h) fun _ => k

theorem OnlyEvents.foldl {α : Type} {f : State → α → State} (l : List α) (h : ∀ s, ∀ x ∈ l, OnlyEvents ps rs pg s (f s x)) :
    ∀ s, OnlyEvents ps rs pg s (l.foldl f s) := by
  induction l with
  | nil => exact .refl ps rs pg
  | cons x r ih => exact fun s => (h s x (by simp)).trans (ih (fun s y hy => h s y (by simp [hy])) _)

/-- A register of the frame is written. -/
theorem onlyEvents_setReg (s : State) {a : Nat} (v : Word) (h : a ∈ rs) : OnlyEvents ps rs pg s (s.setReg a v) :=
  .of_only ((only_setReg s a v).mono (by simp) (by simpa using h))

theorem onlyEvents_event (s : State) {p : Nat} (b : Nat) (h : p ∈ pg) : OnlyEvents ps rs pg s (s.event p b) :=
  (only_event s p b).mono (by simp) (by simp) (by simpa using h)

theorem onlyEvents_eventIf (s : State) (c : Bool) {p : Nat} (b : Nat) (h : p ∈ pg) : OnlyEvents ps rs pg s (s.eventIf c p b) :=
  .ite _ (onlyEvents_event s b h) (.refl _ _ _ s)

/-- Parts of the frame change, and no register. -/
theorem onlyEvents_part {qs : List Part} {s t : State} (h : Only qs [] s t) (hq : qs ⊆ ps) : OnlyEvents ps rs pg s t :=
  .of_only (h.mono hq (by simp))

end Steps

namespace State

/-! ### The recorder (R315, R317) -/

/-- The registers that say what the log and the milestone area hold. -/
def logRegs : List Nat := [Reg.REC_MS_COUNT, Reg.REC_NEWEST_SEQ]

/-- What writing records may change. -/
abbrev OnlyLog (s t : State) : Prop := OnlyEvents [.nv] logRegs [0x1A] s t

theorem onlyLog_recd (s : State) (x : Recorder) : OnlyLog s { s with recd := x } := (only_recd s x).mono (by simp) (by simp)

theorem onlyLog_nv (s : State) (x : Nv) : OnlyLog s { s with nv := x } := onlyEvents_part (only_nv s x) (by simp)

theorem onlyLog_putMilestone (s : State) (r : LogRec) : OnlyLog s (s.putMilestone r).1 := by
  unfold putMilestone
  split
  · exact (onlyLog_nv s _).trans (onlyEvents_setReg _ _ (by decide))
  · exact .ite _ (.refl _ _ _ s) ((onlyLog_recd s _).trans (onlyEvents_event _ _ (by decide)))

theorem onlyLog_writeRec (s : State) (r : LogRec) : OnlyLog s (s.writeRec r) := by
  unfold writeRec
  extract_lets r1 d s1
  have h1 : OnlyLog s s1 := onlyLog_recd s _
  have h2 : OnlyLog s (if r1.milestone then s1.putMilestone r1 else (s1, r1)).1 := by
    split
    · exact h1.trans (onlyLog_putMilestone s1 r1)
    · exact h1
  exact ((h2.trans (onlyLog_nv _ _)).trans (onlyEvents_setReg _ _ (by decide))).trans (onlyEvents_event _ _ (by decide))

theorem onlyLog_milestonesFirst (s : State) : OnlyLog s s.milestonesFirst := by
  unfold milestonesFirst
  extract_lets step
  have hstep (a : State × List LogRec) (r : LogRec) : OnlyLog a.1 (step a r).1 := by
    dsimp only [step]
    split
    · exact (onlyLog_putMilestone _ _).trans (onlyLog_recd _ _)
    · exact .refl _ _ _ _
  have hfold (l : List LogRec) : ∀ a : State × List LogRec, OnlyLog a.1 (l.foldl step a).1 := by
    induction l with
    | nil => exact fun a => .refl _ _ _ _
    | cons r l ih => exact fun a => (hstep a r).trans (ih (step a r))
  exact (hfold _ (s, [])).trans (onlyLog_recd _ _)

theorem onlyLog_writeAll (s : State) : OnlyLog s s.writeAll :=
  ((onlyLog_milestonesFirst s).trans (onlyLog_recd _ _)).trans (.foldl _ (fun u r _ => onlyLog_writeRec u r) _)

/-! ### Opening the paths (R184, R185, R206) -/

/-- The registers that the frames of the converter reference link and of the Causeway write. -/
def pathRegs : List Nat :=
  [Reg.CVL_CVL_LAST_LO, Reg.CVL_CVL_LAST_HI, Reg.CTL_U_OUT, Reg.CVL_CVL_FRAMES, Reg.CVL_CVL_REPEATS, Reg.CVL_CVL_STOPS, Reg.CSW_TX_FRAMES]

/-- What opening a path may change: the frames that go out stop the converter and tell the partner. -/
abbrev OnlyPaths (s t : State) : Prop := OnlyEvents [.ctl, .pair, .saf] pathRegs [0x10, 0x11] s t

theorem onlyPaths_ctl (s : State) (x : Ctl) : OnlyPaths s { s with ctl := x } := onlyEvents_part (only_ctl s x) (by simp)

theorem onlyPaths_sendCvl (s : State) (st rep : Bool) (ref : Int) : OnlyPaths s (s.sendCvl st rep ref) := by
  unfold sendCvl
  extract_lets old f gap w w' c s1 s2 s3 s4 s5 s6
  have h1 : OnlyPaths s s1 := onlyPaths_ctl s _
  have h2 : OnlyPaths s s2 :=
    (((h1.trans (onlyEvents_setReg _ _ (by decide))).trans (onlyEvents_setReg _ _ (by decide))).trans
      (onlyEvents_setReg _ _ (by decide))).trans (onlyEvents_setReg _ _ (by decide))
  have h3 : OnlyPaths s s3 := .ite _ (h2.trans (onlyEvents_setReg _ _ (by decide))) h2
  have h4 : OnlyPaths s s4 := .ite _ (h3.trans (onlyEvents_setReg _ _ (by decide))) h3
  exact .ite _ (.refl _ _ _ s) (((h4.trans (onlyEvents_eventIf _ _ _ (by decide))).trans (onlyEvents_eventIf _ _ _ (by decide))).trans
    (onlyEvents_eventIf _ _ _ (by decide)))

theorem onlyPaths_stopFrames (s : State) : OnlyPaths s s.stopFrames := by
  unfold stopFrames
  extract_lets was st al c s1 s2
  have h2 : OnlyPaths s s2 := (onlyPaths_ctl s _).trans (onlyEvents_eventIf _ _ _ (by decide))
  exact .ite _ h2 (h2.trans (onlyPaths_sendCvl ..))

theorem onlyPaths_runCheck (s : State) : OnlyPaths s s.runCheck :=
  .ite _ (onlyPaths_stopFrames s) (.ite _ (onlyPaths_stopFrames s) (.refl _ _ _ s))

theorem onlyPaths_sendBeat (s : State) : OnlyPaths s s.sendBeat :=
  .ite _ (.refl _ _ _ s) ((onlyEvents_part (only_pair s _) (by simp)).trans (.of_only ((only_cswSend ..).mono (by simp) (by simp [pathRegs]))))

theorem onlyPaths_setCh (s : State) (k : Nat) (c : ChSt) : OnlyPaths s (s.setCh k c) := onlyEvents_part (only_saf s _) (by simp)

theorem onlyPaths_noteCoils (s : State) (w : Nat) : OnlyPaths s (s.noteCoils w) :=
  .foldl _ (fun u _ _ => .ite _ (.refl _ _ _ u) (onlyPaths_setCh u _ _)) s

theorem onlyPaths_openCh (s : State) (k : Nat) : OnlyPaths s (s.openCh k) :=
  .ite _ ((((onlyPaths_setCh s k _).trans (onlyPaths_noteCoils ..)).trans (onlyPaths_runCheck _)).trans (onlyPaths_sendBeat _)) (.refl _ _ _ s)

theorem onlyPaths_openAll (s : State) : OnlyPaths s s.openAll := .foldl _ (fun u k _ => onlyPaths_openCh u k) s

/-! ### Masters (R258, R259, R265, R267) -/

/-- The registers that the reset of a master writes, besides EVT of page 0x04. -/
def masterRegs : List Nat := [Reg.FWL_FROZEN, Reg.MBX_ABORTS, Reg.CSW_TX_FRAMES]

/-- What the reset of a master may change. -/
abbrev OnlyMaster (s t : State) : Prop := OnlyEvents [.mbx, .pair, .dmaErr] masterRegs [0x04] s t

theorem onlyMaster_setEnd (s : State) (ch : Nat) (e : Bool) (x : MbxEnd) : OnlyMaster s (s.setEnd ch e x) :=
  onlyEvents_part (only_mbx s _) (by simp)

theorem onlyMaster_peerReset (s : State) (ch : Nat) (e : Bool) : OnlyMaster s (s.peerReset ch e) :=
  (onlyMaster_setEnd ..).trans (onlyEvents_event _ _ (by decide))

theorem onlyMaster_mbxEndReset (s : State) (ch : Nat) (e : Bool) : OnlyMaster s (s.mbxEndReset ch e) := by
  unfold mbxEndReset
  extract_lets other mine s1 s2 s3 o s4
  have h1 : OnlyMaster s s1 := .ite _ (((onlyMaster_setEnd s _ _ _).trans (onlyEvents_event _ _ (by decide))).trans
    (onlyEvents_setReg _ _ (by decide))) (.refl _ _ _ s)
  have h2 : OnlyMaster s s2 := .ite _ (h1.trans (onlyEvents_setReg _ _ (by decide))) h1
  have h3 : OnlyMaster s s3 := .ite _ (h2.trans (onlyMaster_peerReset ..)) h2
  exact (h3.trans (onlyMaster_setEnd ..)).trans (onlyMaster_setEnd ..)

theorem onlyMaster_mbxMasterReset (s : State) (m : Nat) : OnlyMaster s (s.mbxMasterReset m) := by
  unfold mbxMasterReset
  extract_lets hit remote s1
  have h1 : OnlyMaster s s1 := by
    refine .foldl _ (fun u ch _ => ?_) s
    split
    · exact onlyMaster_mbxEndReset ..
    · exact .refl _ _ _ u
  exact .ite _ (h1.trans (.of_only ((only_mbxSend ..).mono (by simp) (by simp [masterRegs])))) h1

theorem onlyMaster_mbxRemoteLost (s : State) : OnlyMaster s s.mbxRemoteLost := by
  refine .ite _ (OnlyEvents.trans (.foldl _ (fun u _ _ => ?_) s) (onlyEvents_event _ _ (by decide))) (.refl _ _ _ s)
  exact .ite _ (.refl _ _ _ u) (.ite _ (onlyMaster_mbxEndReset ..) (.ite _ (onlyMaster_mbxEndReset ..) (.refl _ _ _ u)))

theorem onlyMaster_dmaClear (s : State) (k : Nat) : OnlyMaster s (s.dmaClear k) :=
  .ite _ (onlyEvents_part (only_dmaErr s _) (by simp)) (.refl _ _ _ s)

theorem onlyMaster_masterReset (s : State) (k : Nat) (ms : List Nat) : OnlyMaster s (s.masterReset k ms) :=
  (OnlyEvents.trans (onlyEvents_setReg s _ (by decide)) (onlyMaster_dmaClear _ k)).trans (.foldl _ (fun u m _ => onlyMaster_mbxMasterReset u m) _)

/-! ### Cores (R249, R343) -/

/-- The registers of RST and FWL that the reset of a core writes, with those that its reset as a master does. -/
def coreRegs : List Nat := Reg.RST_RST_HOLD :: (List.range 5).map Reg.RST_WDT_CFG ++ masterRegs

theorem wdtCfg_mem_coreRegs {n : Nat} (h : n < 5) : Reg.RST_WDT_CFG n ∈ coreRegs :=
  List.mem_append_left _ (List.mem_cons_of_mem _ (List.mem_map_of_mem (List.mem_range.mpr h)))

/-- What the reset of a core may change. -/
abbrev OnlyCore (s t : State) : Prop := OnlyEvents [.mbx, .pair, .dmaErr, .rst] coreRegs [0x02, 0x04] s t

theorem onlyCore_masterReset (s : State) (k : Nat) (ms : List Nat) : OnlyCore s (s.masterReset k ms) :=
  (onlyMaster_masterReset s k ms).mono (by simp) (fun _ h => List.mem_append_right _ h) (by simp)

theorem onlyCore_wdtOff (s : State) {n : Nat} (h : n < 5) : OnlyCore s (s.wdtOff n) :=
  (onlyEvents_part (only_rst s _) (by simp)).trans (onlyEvents_setReg _ _ (wdtCfg_mem_coreRegs h))

theorem onlyCore_masterOff (s : State) {n : Nat} (ms : List Nat) (k : Nat) (h : n < 5) : OnlyCore s ((s.masterReset k ms).wdtOff n) :=
  (onlyCore_masterReset s k ms).trans (onlyCore_wdtOff _ h)

theorem onlyCore_releaseCores (s : State) : OnlyCore s s.releaseCores := .ite _ (onlyEvents_setReg s _ (by decide)) (.refl _ _ _ s)

theorem onlyCore_coreReset (s : State) {n : Nat} (h : n < 5) : OnlyCore s (s.coreReset n) :=
  (((onlyCore_masterOff s _ n h).trans (onlyEvents_setReg _ _ (by decide))).trans (onlyCore_releaseCores _)).trans
    (onlyEvents_event _ _ (by decide))

theorem onlyCore_dmaReset (s : State) : OnlyCore s s.dmaReset := .foldl _ (fun u _ _ => onlyCore_masterReset u _ _) s

theorem onlyCore_appReset (s : State) : OnlyCore s s.appReset := by
  have hcores : OnlyCore s ((List.range 4).foldl (fun s n => (s.masterReset n [n + 1]).wdtOff n) s) :=
    .foldl _ (fun u n hn => onlyCore_masterOff u _ n (Nat.lt_succ_of_lt (List.mem_range.mp hn))) s
  exact (((hcores.trans (onlyCore_dmaReset _)).trans (onlyEvents_setReg _ _ (by decide))).trans (onlyCore_releaseCores _)).trans
    (onlyEvents_event _ _ (by decide))

/-- RST_COUNT, and BLK_LOCK of FWL and MBX: what the count and the release of the cores rest on, and no reset of a master writes. -/
def countAndLocks : List Nat := [Reg.RST_RST_COUNT, 0x03 * 0x1000 + 0x00c, 0x05 * 0x1000 + 0x00c]

theorem countAndLocks_kept {s t : State} (h : OnlyCore s t) {a : Nat} (ha : a ∈ countAndLocks) : t.reg a = s.reg a :=
  h.2 a ((show ∀ b ∈ countAndLocks, b ∉ coreRegs ++ [0x02, 0x04].map evtAddr by decide) a ha)

theorem locked_kept {s t : State} (h : OnlyCore s t) :
    (t.pageLocked 0x03 && t.pageLocked 0x05) = (s.pageLocked 0x03 && s.pageLocked 0x05) := by
  simp only [pageLocked, bit, rd]
  rw [countAndLocks_kept h (a := 0x03 * 0x1000 + 0x00c) (by decide), countAndLocks_kept h (a := 0x05 * 0x1000 + 0x00c) (by decide)]

/-- A core is held after the release exactly where it was held before and a table is not locked (R249). -/
theorem hold_releaseCores (s : State) (n : Nat) :
    s.releaseCores.bit Reg.RST_RST_HOLD n = (s.bit Reg.RST_RST_HOLD n && !(s.pageLocked 0x03 && s.pageLocked 0x05)) := by
  unfold releaseCores
  cases hl : s.pageLocked 0x03 && s.pageLocked 0x05
  · simp
  · simp [bit]

theorem hold_coreReset (s : State) {n : Nat} (h : n < 5) :
    (s.coreReset n).bit Reg.RST_RST_HOLD n = !(s.pageLocked 0x03 && s.pageLocked 0x05) := by
  let t := ((s.masterReset n [n + 1]).wdtOff n).setBit Reg.RST_RST_HOLD n true
  have ht : OnlyCore s t := (onlyCore_masterOff s _ n h).trans (onlyEvents_setReg _ _ (by decide))
  have hev : (s.coreReset n).reg Reg.RST_RST_HOLD = t.releaseCores.reg Reg.RST_RST_HOLD := reg_event_ne _ _ _ (by decide)
  calc (s.coreReset n).bit Reg.RST_RST_HOLD n
      = t.releaseCores.bit Reg.RST_RST_HOLD n := by simp only [bit, rd, hev]
    _ = (t.bit Reg.RST_RST_HOLD n && !(t.pageLocked 0x03 && t.pageLocked 0x05)) := hold_releaseCores t n
    _ = !(s.pageLocked 0x03 && s.pageLocked 0x05) := by
      rw [locked_kept ht, bit_setBit_same _ _ _ _ (by omega), Bool.true_and]

/-! ### Pages (R6, R341) -/

theorem reg_dropPage (s : State) {p a : Nat} {keep : List Nat} (h : a / 0x1000 ≠ p ∨ a ∈ keep) : (s.dropPage p keep).reg a = s.reg a :=
  congrArg (Option.getD · (regReset a)) (Tab.find_filter s.regs fun _ => by simpa using h)

theorem reg_keepWdtEn (old s : State) {a : Nat} (h : a ∉ coreRegs) : (keepWdtEn old s).reg a = s.reg a := by
  have hset : OnlyEvents [] coreRegs [] s (keepWdtEn old s) :=
    .foldl _ (fun u n hn => onlyEvents_setReg u _ (wdtCfg_mem_coreRegs (List.mem_range.mp hn))) s
  exact hset.2 a (by simpa using h)

theorem reg_blockSystem (s : State) (p a : Nat) : (s.blockSystem p).reg a = s.reg a := by
  unfold blockSystem
  split
  case h_3 =>
    split
    · exact (only_quiet s 6 5).2 a (by simp)
    · rfl
  all_goals rfl

theorem reg_blockTime (s : State) (p a : Nat) : (s.blockTime p).reg a = s.reg a := by
  unfold blockTime
  dsimp only
  split
  · exact upd_tim_reg ..
  · split
    · exact upd_gau_reg ..
    · rfl

theorem reg_blockSweep (s : State) (p a : Nat) : (s.blockSweep p).reg a = s.reg a := by
  unfold blockSweep
  split <;> rfl

theorem reg_rptErase (s : State) (a : Nat) : s.rptErase.reg a = s.reg a := by
  unfold rptErase
  dsimp only
  split <;> rfl

theorem reg_blockComm (s : State) (p a : Nat) : (s.blockComm p).reg a = s.reg a := by
  unfold blockComm
  split
  case h_4 => exact reg_rptErase s a
  all_goals rfl

/-- A reset of SAF opens the paths. -/
theorem count_blockControl (s : State) (p : Nat) : (s.blockControl p).reg Reg.RST_RST_COUNT = s.reg Reg.RST_RST_COUNT := by
  unfold blockControl
  dsimp only
  split
  case h_4 => exact ((onlyPaths_openAll _).trans (onlyPaths_runCheck _)).2 _ (by decide)
  all_goals rfl

/-- A reset of CSW takes the lanes down. -/
theorem count_blockRest (s : State) (p : Nat) : (s.blockRest p).reg Reg.RST_RST_COUNT = s.reg Reg.RST_RST_COUNT := by
  unfold blockRest
  dsimp only
  split
  case h_2 =>
    split
    · exact (onlyMaster_mbxRemoteLost _).2 _ (by decide)
    · rfl
  all_goals rfl

theorem count_blockReset (s : State) (p : Nat) : (s.blockReset p).reg Reg.RST_RST_COUNT = s.reg Reg.RST_RST_COUNT := by
  unfold blockReset
  extract_lets s1 t s2
  have h1 : s1.reg Reg.RST_RST_COUNT = s.reg Reg.RST_RST_COUNT := by
    dsimp only [s1]
    split
    · exact (onlyLog_writeAll s).2 _ (by decide)
    · rfl
  have ht : t.reg Reg.RST_RST_COUNT = s1.reg Reg.RST_RST_COUNT := by
    refine reg_dropPage s1 ?_
    by_cases hp : p = 0x02
    · subst hp; exact .inr (by decide)
    · exact .inl (Ne.symm hp)
  have h2 : s2.reg Reg.RST_RST_COUNT = t.reg Reg.RST_RST_COUNT := by
    dsimp only [s2]
    split
    · exact reg_keepWdtEn _ _ (by decide)
    · rfl
  rw [count_blockRest, reg_blockComm, count_blockControl, reg_blockSweep, reg_blockTime, reg_blockSystem, h2, ht, h1]

theorem count_linkReset (s : State) : s.linkReset.reg Reg.RST_RST_COUNT = s.reg Reg.RST_RST_COUNT := by
  have hoff := countAndLocks_kept (onlyCore_masterOff s [(Mid.own .link).code] 5 (n := 4) (by decide)) (a := Reg.RST_RST_COUNT) (by decide)
  exact (reg_event_ne _ _ _ (by decide)).trans ((reg_dropPage _ (.inl (by decide))).trans hoff)

/-! ### The die (R341) -/

theorem count_dieReset (s : State) (f : Nat) : (s.dieReset f).reg Reg.RST_RST_COUNT = s.reg Reg.RST_RST_COUNT := by
  unfold dieReset
  extract_lets s1 nv nv' faults saf saf' u u1 p g u2
  have h1 : s1.reg Reg.RST_RST_COUNT = s.reg Reg.RST_RST_COUNT := by
    dsimp only [s1]
    split
    · rfl
    · exact (onlyLog_writeAll s).2 _ (by decide)
  have hu : u.reg Reg.RST_RST_COUNT = s1.reg Reg.RST_RST_COUNT :=
    congrArg (Option.getD · (regReset Reg.RST_RST_COUNT)) (Tab.find_filter s1.regs fun _ => by simp)
  have h2 : u1.reg Reg.RST_RST_COUNT = u.reg Reg.RST_RST_COUNT :=
    ((reg_wr_ne _ _ (by decide)).trans (reg_setFld_ne _ _ _ _ (by decide))).trans (reg_wr_ne _ _ (by decide))
  have h3 : u2.reg Reg.RST_RST_COUNT = s.reg Reg.RST_RST_COUNT := (upd_gau_reg u1 _ _).trans (h2.trans (hu.trans h1))
  rw [← h3]
  split
  · rfl
  · exact reg_event_ne _ _ _ (by decide)

/-- The die comes up in BOOT with the switches of every channel off. -/
theorem dieReset_boots (s : State) (f : Nat) : (s.dieReset f).pair.mode = .boot ∧ ∀ k, ((s.dieReset f).ch k).kh = false := by
  unfold dieReset
  extract_lets s1 nv nv' faults saf saf' u u1 p g u2
  have hch (k : Nat) : (u2.ch k).kh = false := by
    have hfind : u2.saf.ch.find? k = (s1.saf.ch.find? k).map (keptCh s1.tim.odo) := Tab.find_map s1.saf.ch _ k
    rw [ch, Tab.get, hfind]
    cases s1.saf.ch.find? k <;> rfl
  split
  · exact ⟨rfl, hch⟩
  · exact ⟨by rw [event_pair]; rfl, fun k => by rw [ch, event_saf]; exact hch k⟩

/-- What the boot ROM and the loader may change. -/
abbrev OnlyBoot (s t : State) : Prop := Only [.upd, .nv] [Reg.HPM_HPM_STAT] s t

theorem onlyBoot_upd (s : State) (x : Upd) : OnlyBoot s { s with upd := x } := (only_upd s x).mono (by simp) (by simp)

theorem onlyBoot_nv (s : State) (x : Nv) : OnlyBoot s { s with nv := x } := (only_nv s x).mono (by simp) (by simp)

theorem onlyBoot_setHpm (s : State) (b : Nat) (v : Bool) : OnlyBoot s (s.setHpm b v) := (only_setBit s _ b v).mono (by simp) (by simp)

theorem onlyBoot_startImage (s : State) : OnlyBoot s s.startImage := (onlyBoot_upd s _).trans (onlyBoot_setHpm ..)

theorem onlyBoot_startOverwrite (s : State) : OnlyBoot s s.startOverwrite :=
  Only.trans (t := { s with nv := s.startOverwrite.nv }) (onlyBoot_nv s _) (onlyBoot_upd _ _)

theorem onlyBoot_trialBoot (n : Nat) : ∀ s : State, OnlyBoot s (trialBoot n s) := by
  induction n with
  | zero => exact fun s => onlyBoot_upd s _
  | succ n ih =>
    exact fun s => (onlyBoot_nv s _).trans
      (.ite _ (fun _ => onlyBoot_upd _ _) fun _ => .ite _ (fun _ => onlyBoot_startImage _) fun _ => ih _)

theorem onlyBoot_plainBoot (s : State) : OnlyBoot s s.plainBoot := by
  refine .ite _ (fun _ => .ite _ (fun _ => onlyBoot_startImage s) fun _ => (onlyBoot_startImage s).trans (onlyBoot_setHpm ..)) fun _ => ?_
  exact .ite _ (fun _ => onlyBoot_startOverwrite s) fun _ =>
    .ite _ (fun _ => onlyBoot_upd s _) fun _ => (onlyBoot_upd s _).trans (onlyBoot_setHpm ..)

theorem onlyBoot_loader (s : State) : OnlyBoot s s.loader := by
  unfold loader
  split
  · exact onlyBoot_upd s _
  · exact onlyBoot_trialBoot 3 s
  · exact onlyBoot_plainBoot s

theorem onlyBoot_bootRom (s : State) (pass : Bool) : OnlyBoot s (s.bootRom pass) :=
  .ite _ (fun _ => (onlyBoot_upd s _).trans (onlyBoot_loader _)) fun _ => (onlyBoot_upd s _).trans (onlyBoot_upd _ _)

end State

open State

/-! ### RST_COUNT and RST_CAUSE (R344) -/

/-- A reset has been counted, and its bit of RST_CAUSE is set. -/
def Counted (cause : Nat) (s t : State) : Prop :=
  t.reg Reg.RST_RST_COUNT = s.reg Reg.RST_RST_COUNT + 1 ∧ t.bit Reg.RST_RST_CAUSE cause = true

theorem only_countReset (s : State) (c : Nat) : Only [] [Reg.RST_RST_CAUSE, Reg.RST_RST_COUNT] s (s.countReset c) :=
  Only.trans ((only_setReg s _ _).mono (by simp) (by simp)) ((only_bump _ _ _).mono (by simp) (by simp))

/-- A reset is counted once, provided nothing else moved the count. -/
theorem counted_countReset {s t : State} {c : Nat} (hc : c < 32) (h : t.reg Reg.RST_RST_COUNT = s.reg Reg.RST_RST_COUNT) :
    Counted c s (t.countReset c) := by
  have hcause : (t.countReset c).reg Reg.RST_RST_CAUSE = t.reg Reg.RST_RST_CAUSE ||| causeBit c :=
    (reg_setReg_ne _ _ (by decide)).trans (reg_setReg_same ..)
  constructor
  · show (State.setReg _ Reg.RST_RST_COUNT _).reg Reg.RST_RST_COUNT = _
    rw [reg_setReg_same, reg_setReg_ne _ _ (by decide), h]
    rfl
  · have hbit : (causeBit c).getLsbD c = true := by
      show (BitVec.ofNat 32 (2 ^ c)).getLsbD c = true
      rw [BitVec.getLsbD_ofNat, Nat.testBit_two_pow_self, Bool.and_true, decide_eq_true hc]
    rw [bit, rd, hcause, ← BitVec.getLsbD, BitVec.getLsbD_or, hbit, Bool.or_true]

/-- Events and whatever else leaves the two registers alone keep a reset counted. -/
theorem Counted.of_reg {c : Nat} {s t u : State} (h : Counted c s t)
    (hu : ∀ a ∈ [Reg.RST_RST_CAUSE, Reg.RST_RST_COUNT], u.reg a = t.reg a) : Counted c s u := by
  have hbit : u.bit Reg.RST_RST_CAUSE c = t.bit Reg.RST_RST_CAUSE c := by simp only [bit, rd, hu Reg.RST_RST_CAUSE (by decide)]
  exact ⟨(hu _ (by decide)).trans h.1, hbit.trans h.2⟩

/-- An EVT bit of RST that a reset has set stays set when the reset is counted. -/
theorem evt_countReset {s : State} {b : Nat} (c : Nat) (h : evt s 0x02 b = true) : evt (s.countReset c) 0x02 b = true := by
  have hreg := (only_countReset s c).2 (evtAddr 0x02) (by decide)
  simpa only [evt, bit, rd, hreg] using h

/-! ### What each scope leaves in RST -/

theorem moduleReset_effect (s : State) (c : Nat) (rom : Bool) (f : Nat) (hc : c < 32) :
    Counted c s (s.moduleReset c rom f) ∧ (s.moduleReset c rom f).pair.mode = .boot ∧ ∀ k, ((s.moduleReset c rom f).ch k).kh = false := by
  obtain ⟨hmode, hkh⟩ := dieReset_boots s f
  have hcount := only_countReset (s.dieReset f) c
  have hboot := onlyBoot_bootRom ((s.dieReset f).countReset c) rom
  have hpair : (s.moduleReset c rom f).pair = (s.dieReset f).pair := (hboot.1 .pair (by decide)).trans (hcount.1 .pair (by decide))
  have hsaf : (s.moduleReset c rom f).saf = (s.dieReset f).saf := (hboot.1 .saf (by decide)).trans (hcount.1 .saf (by decide))
  refine ⟨(counted_countReset hc (count_dieReset s f)).of_reg fun a ha => hboot.2 a ?_, hpair ▸ hmode, fun k => ?_⟩
  · exact (show ∀ b ∈ [Reg.RST_RST_CAUSE, Reg.RST_RST_COUNT], b ∉ [Reg.HPM_HPM_STAT] by decide) a ha
  · rw [ch, hsaf]
    exact hkh k

theorem appReset_effect (s : State) : Counted 5 s (s.appReset.countReset 5) ∧ evt (s.appReset.countReset 5) 0x02 0 = true :=
  ⟨counted_countReset (by decide) (countAndLocks_kept (onlyCore_appReset s) (by decide)),
    evt_countReset 5 (event_sets _ _ _ (by decide))⟩

theorem coreReset_effect (s : State) (n : Fin 4) :
    let t := (s.coreReset n.val).countReset (6 + n.val)
    Counted (6 + n.val) s t ∧ evt t 0x02 0 = true ∧ t.bit Reg.RST_RST_HOLD n.val = !(s.pageLocked 0x03 && s.pageLocked 0x05) := by
  have hn : n.val < 5 := Nat.lt_succ_of_lt n.isLt
  have hhold := (only_countReset (s.coreReset n.val) (6 + n.val)).2 Reg.RST_RST_HOLD (by decide)
  refine ⟨counted_countReset (by omega) (countAndLocks_kept (onlyCore_coreReset s hn) (by decide)),
    evt_countReset _ (event_sets _ _ _ (by decide)), ?_⟩
  rw [← hold_coreReset s hn]
  simp only [bit, rd, hhold]

theorem linkReset_effect (s : State) : Counted 14 s (s.linkReset.countReset 14) ∧ evt (s.linkReset.countReset 14) 0x02 1 = true :=
  ⟨counted_countReset (by decide) (count_linkReset s), evt_countReset 14 (event_sets _ _ _ (by decide))⟩

theorem blockReset_effect (s : State) (p : Nat) :
    let t := ((s.blockReset p).countReset 16).event 0x02 2
    Counted 16 s t ∧ evt t 0x02 2 = true :=
  ⟨(counted_countReset (by decide) (count_blockReset s p)).of_reg fun a ha => reg_event_ne _ _ _
      ((show ∀ b ∈ [Reg.RST_RST_CAUSE, Reg.RST_RST_COUNT], b ≠ evtAddr 0x02 by decide) a ha),
    event_sets _ _ _ (by decide)⟩

/-! ### RST_KEY and RST_CMD (R342) -/

theorem mayReset_iff (mid : Mid) : mayReset mid = true ↔ ResetMaster mid := by
  constructor
  · intro h
    unfold mayReset at h
    split at h
    · exact .inl ⟨_, rfl⟩
    · exact .inr rfl
    · cases h
  · rintro (⟨i, rfl⟩ | rfl) <;> rfl

theorem mayReset_of_not {mid : Mid} (h : ¬ ResetMaster mid) : mayReset mid = false :=
  Bool.eq_false_iff.mpr fun hm => h ((mayReset_iff mid).mp hm)

theorem keyArmed_iff (s : State) (mid : Mid) : s.keyArmed mid = true ↔ KeyFresh s mid := by
  simp [keyArmed, KeyFresh, Option.any_eq_true]

theorem cmdModule_denied {s : State} {mid : Mid} (rom : Bool) (f : Nat) (h : ¬ ResetMaster mid) :
    s.cmdModule mid rom f = s.rstErr mid .midDeny := by
  rw [cmdModule, mayReset_of_not h]
  rfl

theorem cmdModule_allowed {s : State} {mid : Mid} (rom : Bool) (f : Nat) (h : ResetMaster mid) :
    s.cmdModule mid rom f = if s.keyArmed mid then s.moduleReset 2 rom f else s.rstErr mid .key := by
  rw [cmdModule, (mayReset_iff mid).mpr h]
  cases s.keyArmed mid <;> rfl

theorem cmdApp_safety (s : State) :
    s.cmdApp (.own .safety) = if s.keyArmed (.own .safety) then s.appReset.countReset 5 else s.rstErr (.own .safety) .key := by
  rw [cmdApp, if_neg (by simp)]
  cases s.keyArmed (.own .safety) <;> rfl

theorem cmdCore_denied {s : State} {mid : Mid} (n : Nat) (h : ¬ ResetMaster mid) : s.cmdCore mid n = s.rstErr mid .midDeny := by
  rw [cmdCore, mayReset_of_not h]
  rfl

theorem cmdCore_allowed {s : State} {mid : Mid} (n : Nat) (h : ResetMaster mid) :
    s.cmdCore mid n = (s.coreReset n).countReset (6 + n) := by
  rw [cmdCore, (mayReset_iff mid).mpr h]
  rfl

theorem mem_safetyPages (p : Nat) : p ∈ safetyPages ↔ p = 0x03 ∨ p = 0x05 ∨ p = 0x13 ∨ p = 0x14 := by simp [safetyPages]

theorem cmdBlock_denied {s : State} {mid : Mid} {p : Nat} (h : ¬ ResetMaster mid ∨ (p ∈ safetyPages ∧ mid ≠ .own .safety)) :
    s.cmdBlock mid p = s.rstErr mid .midDeny := by
  rw [← mayReset_iff, mem_safetyPages] at h
  exact if_pos (by simpa using h)

theorem cmdBlock_allowed {s : State} {mid : Mid} {p : Nat} (hm : ResetMaster mid) (hp : p ≤ 0x20)
    (hs : p ∈ safetyPages → mid = .own .safety) : s.cmdBlock mid p = ((s.blockReset p).countReset 16).event 0x02 2 := by
  rw [mem_safetyPages] at hs
  have hmay := (mayReset_iff mid).mpr hm
  unfold cmdBlock
  dsimp only
  have hmaster : ¬ ((!mayReset mid) = true ∨ (p = 0x03 ∨ p = 0x05 ∨ p = 0x13 ∨ p = 0x14) ∧ mid ≠ .own .safety) := by
    rintro (h | ⟨h, hne⟩)
    · rw [hmay] at h
      cases h
    · exact hne (hs h)
  have hpage : ¬ (!pageImplemented p) = true := by rw [pageImplemented, decide_eq_true hp]; decide
  rw [if_neg hmaster, if_neg hpage]

theorem rstCmdWrite_bad {s : State} {mid : Mid} {v : Word} (h : v.toNat % 16 = 0 ∨ 5 < v.toNat % 16) :
    s.rstCmdWrite mid v = s.rstErr mid .cmdBad := by
  unfold rstCmdWrite
  dsimp only
  split
  case h_6 => rfl
  all_goals omega

/-- A plain write of RST_CMD reaches the same operation as the commands. -/
theorem exec_registerWrite_rstCmd (mid : Mid) (v : Nat) (s : State) :
    exec (.registerWrite mid (registerBase + Reg.RST_RST_CMD) ⟨4, .write⟩ v) s =
      ok (s.busW mid Reg.RST_RST_CMD fun s => s.rstCmdWrite mid (w32 v)) := rfl

/-- A write of RST_CMD that passes the bus has the effect of its operation. -/
theorem ok_rstCmd {mid : Mid} {s t : State} {eff : State → State} (hpass : Passes s mid Reg.RST_RST_CMD true) (h : eff s = t) :
    (ok (s.busW mid Reg.RST_RST_CMD eff) : Out) = .next t := congrArg _ ((busW_passes hpass eff).trans h)

/-- A write of RST_CMD that passes the bus and whose effect is a refusal. -/
theorem resetDenied_of {mid : Mid} {s : State} {eff : State → State} {e : ErrCode} (hpass : Passes s mid Reg.RST_RST_CMD true)
    (h : eff s = s.rstErr mid e) : ResetDenied mid s (ok (s.busW mid Reg.RST_RST_CMD eff)) e :=
  ⟨s.rstErr mid e, ok_rstCmd hpass h, reg_err s mid Reg.RST_RST_CMD e, only_err s mid Reg.RST_RST_CMD e⟩

theorem exec_rstKey {mid : Mid} {s : State} (v : Word) (hpass : Passes s mid Reg.RST_RST_CMD true) :
    exec (.rstKey mid v) s = .next (rstKeyWrite s mid v) := congrArg _ (busW_passes (a := Reg.RST_RST_KEY) hpass _)

theorem rstKeyWrite_arms (s : State) (mid : Mid) :
    let t := rstKeyWrite s mid 0x0000A5C3#32
    t.rst.key.find? mid.code = some s.tim.odo ∧ (∀ m, m ≠ mid.code → t.rst.key.find? m = s.rst.key.find? m) ∧ Only [.rst] [] s t :=
  ⟨Tab.find_set_same .., fun _ hm => Tab.find_set_ne _ _ hm, only_rst s _⟩

theorem rstKeyWrite_other {v : Word} (s : State) (mid : Mid) (h : v ≠ 0x0000A5C3#32) : rstKeyWrite s mid v = s := by
  unfold rstKeyWrite
  rw [if_neg (show v ≠ rstKeyValue from h)]

/-- Settles O54: RST_CMD refuses a foreign master, a scope without its key and an unlisted value, with the code in ERR_CODE and nothing else changed;
every other write makes its reset, which joins RST_CAUSE and advances RST_COUNT. -/
theorem resetsAreGuarded : Obligations.ResetsAreGuarded := by
  unfold Obligations.ResetsAreGuarded
  intro mid s hpass
  refine ⟨?_, ?_, ?_, ?_, ?_, ?_, ?_, ?_, ?_, ?_, ?_, ?_, ?_, ?_, ?_⟩
  · exact fun hm rom sw => resetDenied_of hpass (cmdModule_denied rom sw hm)
  · exact fun hm => resetDenied_of hpass (if_pos hm)
  · exact fun hm n => resetDenied_of hpass (cmdCore_denied n.val hm)
  · exact fun hm => resetDenied_of hpass (if_pos hm)
  · exact fun p hm => resetDenied_of hpass (cmdBlock_denied hm)
  · intro hm hk rom sw
    exact resetDenied_of hpass ((cmdModule_allowed rom sw hm).trans (if_neg (by rwa [keyArmed_iff])))
  · rintro rfl hk
    exact resetDenied_of hpass ((cmdApp_safety s).trans (if_neg (by rwa [keyArmed_iff])))
  · exact ⟨_, exec_rstKey _ hpass, rstKeyWrite_arms s mid⟩
  · exact fun v hv => (exec_rstKey v hpass).trans (congrArg _ (rstKeyWrite_other s mid hv))
  · intro v hv hbad
    have hw : (w32 v).toNat = v := BitVec.toNat_ofNat .. |>.trans (Nat.mod_eq_of_lt hv)
    rw [exec_registerWrite_rstCmd]
    exact resetDenied_of hpass (rstCmdWrite_bad (by rwa [hw]))
  · intro hm hk rom sw
    obtain ⟨⟨hcount, hcause⟩, hboot⟩ := moduleReset_effect s 2 rom sw (by decide)
    exact ⟨_, ok_rstCmd hpass ((cmdModule_allowed rom sw hm).trans (if_pos ((keyArmed_iff s mid).mpr hk))), hcount, hcause, hboot⟩
  · rintro rfl hk
    obtain ⟨⟨hcount, hcause⟩, hevt⟩ := appReset_effect s
    exact ⟨_, ok_rstCmd hpass ((cmdApp_safety s).trans (if_pos ((keyArmed_iff s _).mpr hk))), hcount, hcause, hevt⟩
  · intro hm n
    obtain ⟨⟨hcount, hcause⟩, hrest⟩ := coreReset_effect s n
    exact ⟨_, ok_rstCmd hpass (cmdCore_allowed n.val hm), hcount, hcause, hrest⟩
  · intro hm
    obtain ⟨⟨hcount, hcause⟩, hevt⟩ := linkReset_effect s
    exact ⟨_, ok_rstCmd hpass (if_neg (not_not_intro hm)), hcount, hcause, hevt⟩
  · intro hm p hp hs
    obtain ⟨⟨hcount, hcause⟩, hevt⟩ := blockReset_effect s p.val
    exact ⟨_, ok_rstCmd hpass (cmdBlock_allowed hm hp hs), hcount, hcause, hevt⟩

end Sys2Proof.Machine
end
